-- ==== Sys2Proof/Word.lean ====
section
/-! DEFINITION. The word types of the model: a byte, a string of bytes, and sparse tables keyed by a number. -/

namespace Sys2Proof

/-- One byte (R2, R4). -/
abbrev Byte := BitVec 8

/-- A byte string, lowest offset first (R2, R3). -/
abbrev Bytes := List Byte

/-- A sparse table: entries by key, keys rising strictly. What an unlisted key holds is named at each reading. -/
abbrev Tab (α : Type) := List (Nat × α)

end Sys2Proof
end

