-- ==== Sys2Proof/Syntax.lean ====
section
/-! DEFINITION. The commands and events of the module: one constructor for each row of spec/opcode_table.json, with its operands.

Three shapes of operand recur.
* What arrives from outside (a register write, a fetched submission entry, a frame, a sample) is carried as data.
* A command of a ring group runs by the reference `CmdRef` of an accepted command: its partition and its journal index (R61, R83).
* A unit, a domain, a channel or a function is named by its number, bounded by its type (R1, R20, R38). -/

namespace Sys2Proof

/-- One descriptor of a descriptor list (R51). -/
structure Desc where
  addr  : BitVec 64
  len   : BitVec 32
  flags : BitVec 16
  rsvd  : BitVec 16
  deriving DecidableEq, Repr

/-- What the module fetches for one submission entry: the 64-byte header (R49), the bytes of the descriptor list (R51), the
bytes of the input fragments in list order, and whether any part of the payload read returned an error or poison (R175). -/
structure Submission where
  header    : Bytes
  list      : Bytes
  payload   : Bytes
  readError : Bool
  deriving DecidableEq, Repr

/-- An accepted command, by its partition and its index in that partition's journal (R61). `lap` counts the journal's passes
(MODEL): an index is given again after 65,536 further commands (R63), so the pass tells two commands of one index apart. -/
structure CmdRef where
  part : Nat
  idx  : Nat
  lap  : Nat := 0
  deriving DecidableEq, Repr

/-- A unit that serves work items (R70, R83). -/
inductive UnitId where
  | core   (n : Fin 8)
  | facet  (n : Fin 48)
  | engine (n : Fin 16)
  deriving DecidableEq, Repr

/-- The detectors of R160. -/
inductive Detector where
  | clockGlitch | voltageGlitch | telemetry | timer | parity
  deriving DecidableEq, Repr

/-- How a work item ends at its unit (R70, R160, R198, R200): with its result, with a detector of R160 fired, with a
repeat-and-compare mismatch (R198), or with a parity or operation-timer event in an engine. -/
inductive ItemOutcome where
  | ok
  | checkFailed (d : Detector)
  | mismatch
  | engineParity
  | poisoned (line : BitVec 32)
  deriving DecidableEq, Repr

/-- Causes of a warm reset that come from the module's own fault detectors or from the firmware (R293, R425). -/
inductive WarmCause where
  | lockstep | parity | other
  deriving DecidableEq, Repr

/-- A line of module memory found by the patrol or by a read, with the region it lies in (R430, R431). -/
inductive MemRegion where
  | session (index : Nat)
  | keyCache (part : Nat) (key : BitVec 32)
  | journal (part idx : Nat)
  | replyCache (ring seq : Nat)
  | vault (part : Nat) (tag : Bytes)
  | staging
  | internal
  deriving DecidableEq, Repr

/-- The outcome of one line read (R429). -/
structure LineRead where
  line        : BitVec 32
  region      : MemRegion
  corrected   : Bool      -- true: one burst corrected; false: uncorrectable, the line is poisoned
  deriving DecidableEq, Repr

/-- A transient or permanent channel, as DEVICE_REQUALIFY names it (R285). -/
structure Channel where
  kind  : Nat
  index : Nat
  deriving DecidableEq, Repr

/-- Who sends an SPDM message: an endpoint ID and the port it arrived on (R344). `session` is the session the message
is secured under, when it is secured. -/
structure SpdmSource where
  port    : Fin 3
  eid     : BitVec 8
  session : Option (BitVec 32)
  deriving DecidableEq, Repr

/-- A flash transaction of a platform master (R327 to R330). -/
structure LensTxn where
  master : Bool                -- false: host chipset; true: BMC
  port   : Fin 4
  opcode : BitVec 8
  second : BitVec 8            -- second command byte in octal mode
  addr   : BitVec 32
  count  : Nat                 -- bytes read or programmed
  deriving DecidableEq, Repr

/-- An Iluon frame as received: its header fields (R399), its payload in the clear and as it travels, with its TAG, and whether the tag
verified (R402). -/
structure Frame where
  port    : Bool               -- false: west; true: east
  flags   : BitVec 8
  src     : Nat
  dst     : Nat
  linkSeq : BitVec 16
  claim   : BitVec 64
  payload : Bytes
  body    : Bytes
  tagOk   : Bool
  deriving DecidableEq, Repr

/-- A change carried by an EVENT frame (R399, R410). -/
inductive PairEvent where
  | ringGeneration (ring : Nat)
  | partGeneration (part : Nat)
  | abortVerdict (ring seq verdict item : Nat)
  | boundary (claim : BitVec 64)
  deriving DecidableEq, Repr

/-- The region a debug fabric access touches (R373). -/
inductive DapRegion where
  | locked | other
  deriving DecidableEq, Repr

/-- One channel's bounds of a calibration point (R392). -/
structure CalPoint where
  load  : Nat                  -- u in thousandths
  temp  : Int                  -- case temperature, 1/8 degree
  bounds : List (Nat × Nat × Nat)   -- (unit or channel, minimum, maximum)
  crcOk : Bool
  deriving DecidableEq, Repr

/-- A read of a BAR: which one, the offset, and how many bytes (R40, R41). -/
structure BarRead where
  bar  : Nat
  off  : Nat
  size : Nat
  deriving DecidableEq, Repr

/-- The commands and events of spec/opcode_table.json, in its order. -/
inductive Instr where
  -- start-up, clocks and phases (R18 to R28, R292 to R311, R364, R389)
  | powerOn (feedA feedB : Nat)
  | pllLock
  | pllLockTimeout
  | islandClockSwitch
  | clockCheck (count : Nat) (lockLost : Bool)
  | lcRollForward
  | tamperCompletion
  | romBoot (readableA readableB : Bool)
  | dawnEntry (badRecords : List (Nat × Nat × Nat))
  | rankTrained (ok : Bool)
  | retainedAppRecheck
  | appStartReport
  | appStartTimeout
  | enterClear
  | clearTimeout
  | warmReset (cause : WarmCause)
  | powerFail
  | feedChange (feedA feedB : Nat)
  | perstNAssert
  | perstNDeassert
  | functionLevelReset (fn : Fin 256)
  | vfEnableClear
  -- register and doorbell accesses (R41 to R48, R65, R81, R82, R99, R434, R456)
  | halfReadLatch (fn : Fin 256) (word : BarRead)
  | registerWrite (fn : Fin 256) (bar : Nat) (off : Nat) (size : Nat) (val : BitVec 64)
  | fnIrqMaskWrite (fn : Fin 256) (val : BitVec 32)
  | fltMaskWrite (val : BitVec 32)
  | sqTailWrite (fn : Fin 256) (ring : Fin 64) (size : Nat) (val : BitVec 32)
  | cqHeadWrite (fn : Fin 256) (ring : Fin 64) (size : Nat) (val : BitVec 32)
  | ringEnable (fn : Fin 256) (ring : Fin 64) (val : BitVec 32)
  | ringDisable (fn : Fin 256) (ring : Fin 64) (val : BitVec 32)
  | jnlIndexWrite (fn : Fin 256) (val : BitVec 32)
  | trcEnableWrite (val : BitVec 32)
  | trcReadWrite (val : BitVec 32)
  | pmWinWrite (limit : Bool) (off size : Nat) (val : BitVec 64)
  -- the command path and Prism (R31, R52, R70 to R79, R101, R108, R133, R138, R142, R218)
  | fetchEntry (fn : Fin 256) (ring : Fin 64) (sub : Submission)
  | drawSeedGenerate (part : Fin 256)
  | unitFreeDispatch (unit : UnitId)
  | itemHoldLapse (cmd : CmdRef) (item : Nat)
  | itemReady2us (cmd : CmdRef) (item : Nat)
  | creditTick
  | keyLoadDone (cmd : CmdRef) (item : Nat) (load : Nat) (codeOk : Bool)
  | keyUnwrapDone (cmd : CmdRef) (item : Nat) (load : Nat) (tagOk : Bool)
  | itemEnd (cmd : CmdRef) (item : Nat) (outcome : ItemOutcome)
  | versionZeroise (part : Fin 256) (key : BitVec 32) (version : BitVec 16)
  | backingDurable (cmd : CmdRef)
  | completionDue (cmd : CmdRef)
  | coalTimer (ring : Fin 1024)
  | traceTimeMark
  | sessionIdleTimeout (index : Nat)
  | domainDrainDone (domain : Fin 32)
  | domainDrainTimeout (domain : Fin 32)
  | domainKatDone (domain : Fin 32) (failed : List Nat)
  -- the random number generator (R131, R213 to R221)
  | rngStartupVerdict (lower upper : List (List Bool))
  | rngHealthFail (source : Fin 4) (samples : List (List Bool))
  | seedReady (samples : List (List Bool))
  | moduleInstanceReseed
  | maskReseed
  | rngReadTimeout (part : Fin 256)
  -- background work (R129, R149, R429 to R433)
  | slotScrub (failed : List Nat)
  | mwkRewrapEnd
  | patrolScrub (lines : List LineRead)
  | rankRetrain (rank : Fin 16) (ok : Bool)
  | vaultRebuildEnd (unreadable : List (Nat × Bytes))
  -- Horizon, tamper and calibration (R381 to R394, R447)
  | horizonCheckpoint
  | crystalCheck (deviationPpm : Nat) (stopped : Bool)
  | meshSample (loop : Fin 4) (ohms : Nat) (crossed : Bool)
  | channelSample (ch : Fin 16) (value : BitVec 12)
  | tamperCauseFire (cause : Fin 9) (loop : Fin 4)
  | tamperResponseEnd
  | envelopeRecompute (loads : List (Nat × Nat))
  | calibrationDone (point : CalPoint) (meanTemp : Int)
  -- platform root of trust and the Lens (R316 to R340)
  | platformBoot
  | pgInRise (n : Fin 8)
  | pgWaitTimeout
  | seqDelayEnd
  | manifestReadDone (alternate : Bool) (bytes : Bytes)
  | regionHashDone (bmc : Bool) (digests : List (Nat × Bytes)) (sources : List (Nat × Bytes)) (rereads : List (Nat × Bytes))
  | bootRecordDurable
  | hostRelease
  | platformResetAssert
  | remeasureRegionDone (region : Fin 64) (digest : Bytes)
  | lensTransaction (txn : LensTxn)
  | lensTransactionEnd (master : Bool) (port : Fin 4)
  -- the recovery loader (R305, R306)
  | loaderHelloTimer
  | loaderBegin (length : BitVec 32) (crcOk : Bool)
  | loaderData (offset : BitVec 32) (data : Bytes) (crcOk : Bool)
  | loaderEnd (crcOk : Bool)
  | loaderFrameTimeout
  -- the management bus, MCTP and SPDM (R343 to R353)
  | mctpPacket (port : Fin 3) (src dst : BitVec 8) (som eom : Bool) (seq : BitVec 2) (tag : BitVec 4) (body : Bytes)
  | mctpReassemblyTimeout (buffer : Fin 8)
  | setEndpointId (port : Fin 3) (eid : BitVec 8)
  | getEndpointId (port : Fin 3)
  | getEndpointUuid (port : Fin 3)
  | getMctpVersionSupport (port : Fin 3)
  | getMessageTypeSupport (port : Fin 3)
  | getVersion (src : SpdmSource)
  | getCapabilities (src : SpdmSource) (flags : BitVec 32)
  | negotiateAlgorithms (src : SpdmSource) (baseAsym baseHash measHash dhe aead reqAsym keySched : BitVec 32)
  | getDigests (src : SpdmSource)
  | getCertificate (src : SpdmSource) (slot offset length : Nat)
  | challenge (src : SpdmSource) (slot : Nat) (nonce : Bytes)
  | getMeasurements (src : SpdmSource) (index : BitVec 8) (nonce : Bytes)
  | keyExchange (src : SpdmSource) (reqSession : BitVec 16) (exchange : Bytes)
  | finish (src : SpdmSource) (chain : Bytes) (signature verify : Bytes)
  | spdmHeartbeat (src : SpdmSource)
  | keyUpdate (src : SpdmSource) (op : BitVec 8) (tag : BitVec 8)
  | endSession (src : SpdmSource)
  | vendorDefinedRequest (src : SpdmSource) (standard vendor : BitVec 16) (header payload : Bytes)
  | busArbLost (port : Fin 3) (used : Nat)
  | busBackoffEnd (port : Fin 3)
  | busPecError (port : Fin 3)
  | busNoAck (port : Fin 3)
  | busSclStuck (port : Fin 3)
  | busSdaStuck (port : Fin 3) (freed : Bool)
  | i3cSdaStuck (port : Fin 3)
  | i3cTargetReset (port : Fin 3)
  | entdaa (port : Fin 3) (addr : BitVec 7)
  -- the debug port (R370 to R374, R450)
  | tapReset
  | idcode
  | bypass
  | samplePreload (contacts : Bytes)
  | extest (scan : Bytes)
  | clamp
  | highz
  | dbgStatus
  | dbgChallenge
  | dbgResponse (header keyBlock signature : Bytes)
  | debugChallengeExpiry
  | dapAccess (write : Bool) (region : DapRegion) (addr : BitVec 40) (data : BitVec 64)
  | coreDebug (core : Fin 8) (op : BitVec 8) (data : BitVec 64)
  | islandDebug (op : BitVec 8) (data : BitVec 64)
  | memTest (op : BitVec 8) (data : BitVec 64)
  | otpProg (addr : Nat) (bits : Byte)
  -- the Iluon link, mirror pairs, rings and leases (R398 to R421)
  | iluonLinkUp (port : Bool) (lanes : Nat)
  | iluonLinkDown (port : Bool)
  | heartbeatSend (port : Bool)
  | heartbeat (f : Frame) (roles load : Nat)
  | timeMarkSend
  | timeMark (f : Frame) (measuredNs : Nat)
  | forward (f : Frame) (header payload : Bytes) (idx : Nat) (draw : BitVec 2) (reseed : Bytes) (check : Bytes)
  | forwardAck (f : Frame) (cmd : CmdRef)
  | event (f : Frame) (e : PairEvent)
  | replyCheck (f : Frame) (cmd : CmdRef) (status : BitVec 16) (replyLen : Nat) (digest : Bytes)
  | leave (f : Frame) (cause : Nat)
  | partnerLost
  | lease (f : Frame) (role : Bool) (term : BitVec 64) (holder : Nat) (lengthNs : Nat) (votes : List (Nat × Bool × Nat))
  | leaseRenewal (role : Bool)
  | leaseWindowEnd (role : Bool)
  | leaseRecordExpiry (role : Bool)
  | leaseTakeover (role : Bool)
  | replicate (f : Frame) (role : Bool) (seq : Nat) (change : Bytes)
  | replicateAck (f : Frame) (cmd : CmdRef) (refusal : BitVec 16)
  | spill (f : Frame) (header payload : Bytes) (versions : List (Nat × Nat)) (seed : Bytes)
  | spillReply (f : Frame) (cmd : CmdRef) (executed : Bool) (status : BitVec 16) (reply : Bytes)
  | spillTimeout (cmd : CmdRef)
  | resync (f : Frame) (phase : Nat) (percent : Nat) (state : Bytes)
  | resyncFinalPass (dirtyBytes : Nat)
  | linkAck (port : Bool) (seq : BitVec 16)
  | linkNak (port : Bool) (seq : BitVec 16)
  | ringFormed (live position : Nat) (rk : Bytes)
  -- expiries (R113, R115, R119, R265, R279, R280)
  | ceremonyExpiry (part : Fin 256)
  | offerExpiry (part : Fin 256) (restore : Bool)
  | tr34NonceExpiry (part : Fin 256) (nonceId : BitVec 32)
  | backupSnapshotExpiry (part : Fin 256)
  | freezeDrained (part : Fin 256)
  | freezeTimeout (part : Fin 256)
  | importIdleTimeout (part : Fin 256)
  -- group 0x01 (R283 to R287, R385)
  | deviceStatus (cmd : CmdRef)
  | deviceAbort (cmd : CmdRef)
  | deviceDomain (cmd : CmdRef)
  | deviceRequalify (cmd : CmdRef) (pass : Bool)
  | deviceCalibrate (cmd : CmdRef)
  | deviceProvision (cmd : CmdRef)
  | deviceTamperArm (cmd : CmdRef)
  -- group 0x02 (R89)
  | sessionOpen (cmd : CmdRef)
  | sessionClose (cmd : CmdRef)
  | sessionQuery (cmd : CmdRef)
  -- group 0x03 (R272 to R280)
  | keyGenerate (cmd : CmdRef)
  | keyImport (cmd : CmdRef)
  | keyExport (cmd : CmdRef)
  | keyTranslate (cmd : CmdRef)
  | keyDestroy (cmd : CmdRef)
  | keyQuery (cmd : CmdRef)
  | keyTokenLoad (cmd : CmdRef)
  | keyTokenReissue (cmd : CmdRef)
  | keyTokenRevoke (cmd : CmdRef)
  | keyProve (cmd : CmdRef)
  | keyMwkChange (cmd : CmdRef)
  | keyMwkClearPrevious (cmd : CmdRef)
  | keyTr34Nonce (cmd : CmdRef)
  | keyTr34Export (cmd : CmdRef)
  | keyTr34Import (cmd : CmdRef)
  | keyBackup (cmd : CmdRef)
  | keyBackupChunk (cmd : CmdRef)
  | keyRestoreOffer (cmd : CmdRef)
  | keyRestore (cmd : CmdRef)
  | keyRestoreChunk (cmd : CmdRef)
  | keyRestoreEnd (cmd : CmdRef)
  -- groups 0x04 to 0x0B (R172, R204, R225, R239, R244, R249, R288)
  | symEncrypt (cmd : CmdRef)
  | symDecrypt (cmd : CmdRef)
  | digest (cmd : CmdRef)
  | digestVerify (cmd : CmdRef)
  | macGenerate (cmd : CmdRef)
  | macVerify (cmd : CmdRef)
  | pkSign (cmd : CmdRef)
  | pkVerify (cmd : CmdRef)
  | pkAgree (cmd : CmdRef)
  | pkEncapsulate (cmd : CmdRef)
  | pkDecapsulate (cmd : CmdRef)
  | pkRsaEncrypt (cmd : CmdRef)
  | pkRsaDecrypt (cmd : CmdRef)
  | pkPublic (cmd : CmdRef)
  | rngGenerate (cmd : CmdRef)
  | rngKat (cmd : CmdRef) (conditioner expander : Bool)
  | rngRestart (cmd : CmdRef)
  | rngRaw (cmd : CmdRef) (samples : Bytes)
  | pinTranslate (cmd : CmdRef)
  | pinVerifyOffset (cmd : CmdRef)
  | pinVerifyPvv (cmd : CmdRef)
  | pinOffsetGenerate (cmd : CmdRef)
  | pinPvvGenerate (cmd : CmdRef)
  | cvvGenerate (cmd : CmdRef)
  | cvvVerify (cmd : CmdRef)
  | arqcVerify (cmd : CmdRef)
  | scriptMacGenerate (cmd : CmdRef)
  | dukptDeriveInitial (cmd : CmdRef)
  | dukptMacGenerate (cmd : CmdRef)
  | dukptMacVerify (cmd : CmdRef)
  | dukptDecrypt (cmd : CmdRef)
  | journalRead (cmd : CmdRef)
  | journalFind (cmd : CmdRef)
  -- group 0x0C (R118, R270, R281)
  | partitionCreate (cmd : CmdRef)
  | partitionEnable (cmd : CmdRef)
  | partitionDisable (cmd : CmdRef)
  | partitionDestroy (cmd : CmdRef)
  | functionMap (cmd : CmdRef)
  | policySet (cmd : CmdRef)
  | policyGet (cmd : CmdRef)
  | officerEnrol (cmd : CmdRef)
  | officerRemove (cmd : CmdRef)
  | officerList (cmd : CmdRef)
  | ceremonyOpen (cmd : CmdRef)
  | ceremonySign (cmd : CmdRef)
  | ceremonyCancel (cmd : CmdRef)
  | ceremonyQuery (cmd : CmdRef)
  | migrateFreeze (cmd : CmdRef)
  | migrateThaw (cmd : CmdRef)
  | migrateOffer (cmd : CmdRef)
  | migrateExport (cmd : CmdRef)
  | migrateExportChunk (cmd : CmdRef)
  | migrateImport (cmd : CmdRef)
  | migrateImportChunk (cmd : CmdRef)
  | migrateImportEnd (cmd : CmdRef)
  | migrateCommit (cmd : CmdRef)
  -- groups 0x0D to 0x11 (R255, R289, R290, R307, R340, R354, R368)
  | fwAppBegin (cmd : CmdRef)
  | fwAppChunk (cmd : CmdRef)
  | fwAppVerify (cmd : CmdRef)
  | fwAppRelease (cmd : CmdRef) (katPass : Bool)
  | fwRotBegin (cmd : CmdRef)
  | fwRotChunk (cmd : CmdRef)
  | fwRotCommit (cmd : CmdRef) (readBackOk : Bool)
  | fwWarmReset (cmd : CmdRef)
  | attestQuote (cmd : CmdRef)
  | attestChain (cmd : CmdRef)
  | lcInfo (cmd : CmdRef)
  | lcRequest (cmd : CmdRef)
  | idCertStore (cmd : CmdRef)
  | idCertRead (cmd : CmdRef)
  | ringStatus (cmd : CmdRef)
  | ringConfig (cmd : CmdRef) (sameP : Bool)
  | mirrorPair (cmd : CmdRef) (fits : Bool) (agreed : Option Bytes)
  | mirrorUnpair (cmd : CmdRef)
  | mirrorSwitchover (cmd : CmdRef)
  | ringSpill (cmd : CmdRef)
  | platformStatus (cmd : CmdRef)
  | platformConfigSet (cmd : CmdRef)
  | platformConfigGet (cmd : CmdRef)
  | platformReboot (cmd : CmdRef)
  | lensLock (cmd : CmdRef)
  | lensStage (cmd : CmdRef)
  | lensSwap (cmd : CmdRef)
  | lensRead (cmd : CmdRef)
  | bootRecordRead (cmd : CmdRef)
  | bootRecordAck (cmd : CmdRef)
  | mbusConfigSet (cmd : CmdRef)
  | mbusConfigGet (cmd : CmdRef)
  | vaultTokenise (cmd : CmdRef)
  | vaultDetokenise (cmd : CmdRef)
  | vaultDelete (cmd : CmdRef)
  | vaultReload (cmd : CmdRef)
  -- further events of the table
  | msixTableWrite (fn : Fin 256) (off size : Nat) (val : BitVec 64)
  | memoryPortsTrained
  | pmbusWriteDone (ok : Bool)
  | flashStatusPollTimeout (port : Fin 4)
  | tamperCauseClear (cause : Fin 9)
  | syncHeaderError (port : Bool) (lane : Fin 4)
  | iluonFrameCrcError (port : Bool) (arrived : Option (BitVec 16))
  | cutThroughFrame (f : Frame) (typ : BitVec 8)
  | trainFrameArrival (f : Frame) (typ : BitVec 8)
  | chunkSend (src : SpdmSource) (handle : BitVec 8) (seqNo : BitVec 16) (last : Bool) (size : Nat) (data : Bytes)
  | chunkGet (src : SpdmSource) (handle : BitVec 8) (seqNo : BitVec 16)
  | spdmHeartbeatTimeout (session : BitVec 32)
  | rngStartupKatEnd (pass : Bool)
  | rankEvacuationEnd (unreadable : List MemRegion)
  deriving DecidableEq, Repr

end Sys2Proof
end

