-- ==== Sys2Proof/Decode.lean ====
section
/-! DEFINITION. The words of spec/opcode_table.json. Every row there has an empty list of fields and no bits, so no word spells a
command. The 16-bit opcodes of R53 to R455 name commands of the rings, which arrive inside FETCH_ENTRY and are decoded by `opSpec`. -/

namespace Sys2Proof

/-- The command a word spells by the table's bits: none has any. -/
def decodeTableWord (_nbits _w : Nat) : Option Instr := none

end Sys2Proof
end

