-- ==== Sys2Proof/Config.lean ====
section
/-! DEFINITION. What an implementation fixes and the spec leaves open: free values, and the primitives of external standards
that the spec names and does not restate. Each is an opaque constant without a body, so nothing can be proved of its value. -/

namespace Sys2Proof.Config

/-- The `k`-th free value, as `n` bytes. -/
opaque freeBytes (k n : Nat) : Bytes

/-- The root-of-trust image both slots leave the factory with (R453): the spec does not give its bytes. -/
opaque shippedImage : Bytes
/-- The factory's own bytes of the OTP: the root digest and the key digests the spec gives no value for (R365). -/
opaque factoryByte (a : Nat) : Byte
/-- The unit certificate and its CA chain as stored before shipment (R453): the spec does not give their bytes. -/
opaque shippedCert : Bytes × Bytes

/-- The load at which the light-load calibration point was taken, and its bounds by unit or channel (R392). -/
opaque lightLoad : Nat
opaque lightBounds : List (Nat × Nat × Nat)
/-- The default light-load bounds held in the ROM (R393). -/
opaque defaultBounds : List (Nat × Nat × Nat)
/-- The channel 11 reading that stands for the LIGHT limit of R382: the channel is relative, and the spec gives no scale. -/
opaque lightLimit : Nat

/-! ## Block ciphers and digests (R158, R166, R169) -/

/-- AES of a key of 16, 24 or 32 bytes on one 16-byte block. -/
opaque aesEnc (key blk : Bytes) : Bytes
opaque aesDec (key blk : Bytes) : Bytes
/-- TDES of a key of 16 or 24 bytes on one 8-byte block. -/
opaque tdesEnc (key blk : Bytes) : Bytes
opaque tdesDec (key blk : Bytes) : Bytes
/-- Single DES under an 8-byte key, as the retail MAC and the DUKPT derivations use it (R229, R231). -/
opaque desEnc (key blk : Bytes) : Bytes
opaque desDec (key blk : Bytes) : Bytes
/-- The digest of a whole message, by the unkeyed code of R169. -/
opaque hash (code : Nat) (msg : Bytes) : Bytes
/-- GHASH of NIST SP 800-38D under H. -/
opaque ghash (h aad text : Bytes) : Bytes
/-- FF1 of NIST SP 800-38G on a string of symbols. -/
opaque ff1 (enc : Bool) (key : Bytes) (radix : Nat) (tweak : Bytes) (syms : List Nat) : List Nat
/-- RFC 5649 key wrap and its inverse (R275). -/
opaque aesWrap (key data : Bytes) : Bytes
opaque aesUnwrap (key data : Bytes) : Option Bytes

/-! ## The key store and the units: scrambling, integrity codes, mask streams, pre-computed states (R129, R131, R164, R170, R194,
R196) -/

/-- The cells of a slot: its data under the scramble key and its physical number. -/
opaque scrambled (key : Bytes) (phys : Nat) (data : Bytes) : Bytes
/-- The keyed 64-bit integrity code over a slot's number, its scrambled cells and its attribute record. -/
opaque integrityCode (key : Bytes) (phys : Nat) (cells attr : Bytes) : Bytes
/-- `n` bytes of the mask stream of a seed, from position `off`. -/
opaque maskStream (seed : Bytes) (off n : Nat) : Bytes
/-- The HMAC inner and outer states after the padded key block, and the table of the powers of GHASH's H. -/
opaque hmacStates (code : Nat) (key : Bytes) : Bytes
opaque ghashPowers (h : Bytes) : Bytes
/-- The chaining state of a stream as the microcode lays it out in a save area (R181): group, MODE or ALG, ALG of the key, the key, IV,
additional data and what has been absorbed. -/
opaque chainState (group modeAlg : Nat) (alg : Byte) (key iv aad absorbed : Bytes) : Bytes
/-- The intermediate values an engine's microcode writes from its inputs, `n` words of 64 bytes. -/
opaque engineWords (inputs : Bytes) (n : Nat) : List Bytes
/-- The secret polynomials of a lattice key as coefficients modulo q. -/
opaque latticeSecret (alg : Nat) (seed : Bytes) : List Nat
/-- The first 12 bytes, not all zero, of a draw stream beyond the part the model searches, less 1. -/
opaque laterIv (seed : Bytes) : Nat
/-- The `k`-th byte that a rejection search takes of a draw stream beyond the part the model searches. -/
opaque laterByte (seed : Bytes) (k : Nat) : Byte

/-! ## Key blocks, certificates and key tokens (R143 to R145, R279, R367) -/

/-- The key block binding method of ANSI X9.143 for a version character: the MAC over header and key data, and the encryption of
the key data. -/
opaque x9Mac (version : Byte) (kbpk header plain : Bytes) : Bytes
opaque x9Encrypt (version : Byte) (kbpk mac plain : Bytes) : Bytes
opaque x9Decrypt (version : Byte) (kbpk mac data : Bytes) : Bytes
/-- The algorithm character of X9.143 for an asymmetric ALG. -/
opaque x9Char (alg : Nat) : Byte
/-- The printable character a drawn byte stands for in a PB block. -/
opaque printable (b : Byte) : Byte
/-- A DER PrivateKeyInfo: its ALG, its BITS, whether it is in the form the module holds (seed form), and the material. -/
opaque derPrivate (der : Bytes) : Option (Nat × Nat × Bool × Bytes)
opaque derEncode (alg bits : Nat) (material : Bytes) : Bytes
/-- Whether a CA certificate verifies another certificate, and the public keys a certificate carries. -/
opaque certIssued (ca cert : Bytes) : Bool
opaque certKey (cert : Bytes) : Bytes
/-- Whether a chain of DER certificates verifies up to a root with this digest, and the key block of its last certificate. -/
opaque chainVerifies (root chain : Bytes) : Bool
opaque chainKey (chain : Bytes) : Bytes
/-- The security version of the application firmware that the alias certificate at the end of a chain carries (R114, R367). -/
opaque chainSvn (chain : Bytes) : Nat
/-- A hybrid certificate the unit identity key issues (R367): subject key block, layer, measurements, partition. -/
opaque issueCert (unitKey subject : Bytes) (layer : Nat) (measurements : Bytes) (part : Nat) : Bytes
/-- TR-34 key tokens (R279). -/
opaque tr34Build (kdh cert header material nonce timestamp rnd : Bytes) : Bytes
opaque tr34Signed (cert token : Bytes) : Bool
opaque tr34Nonce (token : Bytes) : Bytes
opaque tr34Open (krd token : Bytes) : Option (Bytes × Bytes)
/-- The GCM nonce under which an officer's share is encrypted (R151), which the spec does not give. -/
opaque shareNonce : Bytes
/-- SHA3-512 of the ROM (R289). -/
opaque romMeasurement : Bytes

/-- The endpoint's UUID and the version entries it reports (R344), whose values the spec does not give. -/
opaque endpointUuid : Bytes
opaque mctpVersions : Bytes

/-! ## SPDM 1.3 (R349 to R351): over a log of messages, the signatures and verify data as the standard lays them down -/

opaque spdmSign (key log msg rnd : Bytes) : Bytes
opaque spdmVerify (pub log sig : Bytes) : Bool
opaque spdmMac (log msg : Bytes) : Bytes

/-! ## Payment derivations (R238, R247) -/

/-- The DUKPT initial key of ANSI X9.24 from a BDK and a key serial number. -/
opaque dukptInitial (aes : Bool) (bdk ksn : Bytes) : Bytes
/-- The DUKPT working key of ANSI X9.24 from an initial key: working ALG, purpose (0 PIN, 1 MAC, 2 data) and direction. -/
opaque dukptWork (aes : Bool) (initial ksn : Bytes) (workAlg purpose direction : Nat) : Bytes
/-- EMV card master key derivation, option 0 A, 1 B, 2 C. -/
opaque emvMaster (option : Nat) (imk panDigits : Bytes) (psn : Byte) : Bytes
/-- EMV common session key derivation with the ATC. -/
opaque emvSession (aes : Bool) (master atc : Bytes) : Bytes

/-! ## The expander (R216) -/

/-- CTR-DRBG of NIST SP 800-90A with AES-256, without a derivation function: states, and `n` bytes generated. -/
opaque drbgInit (seed : Bytes) : Bytes
opaque drbgReseed (st seed : Bytes) : Bytes
opaque drbgOut (st addin : Bytes) (n : Nat) : Bytes
opaque drbgNext (st addin : Bytes) (n : Nat) : Bytes

/-! ## Public-key primitives (R192, R200, R206 to R208) -/

opaque fieldPrime (alg : Nat) : Nat
opaque groupOrder (alg : Nat) : Nat
opaque onCurve (alg : Nat) (x y : Bytes) : Bool
/-- An Edwards encoding: none when it fails to decode, else whether it is the neutral point. -/
opaque edDecode (alg : Nat) (enc : Bytes) : Option Bool
/-- The modulus check of FIPS 203 on an encapsulation key. -/
opaque kemReduced (alg : Nat) (ek : Bytes) : Bool
opaque publicOf (alg : Nat) (priv : Bytes) : Bytes
/-- A private key from a stream of random bytes, for algorithms whose key is not the bytes themselves. -/
opaque genPrivate (alg bits : Nat) (stream : Nat → Byte) : Bytes
/-- How many bytes of the stream that search takes (R218: rejection sampling takes further bytes as needed). -/
opaque genTaken (alg bits : Nat) (stream : Nat → Byte) : Nat
opaque sign (scheme hashCode alg : Nat) (priv msg ctx rnd : Bytes) : Bytes
opaque verify (scheme hashCode alg : Nat) (pub msg ctx sig : Bytes) : Bool
opaque ecdh (alg : Nat) (priv pub : Bytes) : Bytes
opaque kemCipher (alg : Nat) (ek m : Bytes) : Bytes
opaque kemShared (alg : Nat) (ek m : Bytes) : Bytes
opaque kemDecaps (alg : Nat) (priv ct : Bytes) : Bytes
opaque oaepEncrypt (hashCode : Nat) (pub label msg seed : Bytes) : Bytes
opaque oaepDecrypt (hashCode : Nat) (priv label ct : Bytes) : Option Bytes

end Sys2Proof.Config
end

