-- ==== Sys2Proof/Machine/Flags.lean ====
section
/-! DEFINITION. The fixed codes of the module: statuses (R454), opcodes (R455), usage bits (R127) and BAR0 offsets of the
saturating counters. -/

namespace Sys2Proof.Machine

/-- A status code (R10). -/
abbrev Status := BitVec 16

/-! ## R454 -/
def stOk : Status := 0x0000
def stBadHeader : Status := 0x0101
def stLength : Status := 0x0102
def stSpoofed : Status := 0x0103
def stStaleGen : Status := 0x0104
def stQueueFull : Status := 0x0201
def stFlowLimit : Status := 0x0202
def stKeyIntegrity : Status := 0x0301
def stKeyUsage : Status := 0x0302
def stKeyNotFound : Status := 0x0303
def stAborted : Status := 0x0401
def stInputZero : Status := 0x0501
def stInputNotReduced : Status := 0x0502
def stPointNotOnCurve : Status := 0x0503
def stFault : Status := 0x0504
def stRngNotReady : Status := 0x0601
def stRngFailed : Status := 0x0602
def stSessionLost : Status := 0x0701
def stQuorum : Status := 0x0801
def stLockBroken : Status := 0x0802
def stNotActive : Status := 0x0901
def stClaimSuperseded : Status := 0x0902
def stLeaseExpired : Status := 0x0903
def stServiceReduced : Status := 0x0A01
def stCapped : Status := 0x0A02
def stVerifyFailed : Status := 0x0B01
def stPolicyDenied : Status := 0x0B02

/-- The first check that fails decides the status (R49, R460): `need c st` is the verdict of one check. -/
def need (c : Bool) (st : Status) : Option Status := if c then none else some st

/-- Verdict of a list of checks in order. -/
def firstFail : List (Option Status) → Option Status
  | [] => none
  | some st :: _ => some st
  | none :: r => firstFail r

/-! ## Usage bits (R127) -/
def uEncrypt : BitVec 32 := 1#32 <<< 0
def uDecrypt : BitVec 32 := 1#32 <<< 1
def uWrap : BitVec 32 := 1#32 <<< 2
def uUnwrap : BitVec 32 := 1#32 <<< 3
def uMacGen : BitVec 32 := 1#32 <<< 4
def uMacVerify : BitVec 32 := 1#32 <<< 5
def uSign : BitVec 32 := 1#32 <<< 6
def uVerify : BitVec 32 := 1#32 <<< 7
def uDerive : BitVec 32 := 1#32 <<< 8
def uKeyAgree : BitVec 32 := 1#32 <<< 9
def uPinEncrypt : BitVec 32 := 1#32 <<< 10
def uPinDecrypt : BitVec 32 := 1#32 <<< 11
def uPinVerify : BitVec 32 := 1#32 <<< 12
def uCvv : BitVec 32 := 1#32 <<< 13
def uArqc : BitVec 32 := 1#32 <<< 14
def uIssuerScript : BitVec 32 := 1#32 <<< 15
def uBdk : BitVec 32 := 1#32 <<< 16
def uDukptInitial : BitVec 32 := 1#32 <<< 17
def uFpe : BitVec 32 := 1#32 <<< 18
def uVault : BitVec 32 := 1#32 <<< 19
def uEncapsulate : BitVec 32 := 1#32 <<< 20
def uDecapsulate : BitVec 32 := 1#32 <<< 21
def uProve : BitVec 32 := 1#32 <<< 22

/-- The usage groups of R127, the Proof group apart. -/
def usageGroups : List (BitVec 32) :=
  [ uEncrypt ||| uDecrypt ||| uMacGen ||| uMacVerify,
    uWrap ||| uUnwrap,
    uPinEncrypt ||| uPinDecrypt ||| uPinVerify,
    uCvv ||| uArqc ||| uIssuerScript,
    uBdk ||| uDukptInitial,
    uFpe ||| uVault,
    uSign ||| uVerify ||| uDerive ||| uKeyAgree ||| uEncapsulate ||| uDecapsulate ]

/-- R127: bits of exactly one group, PROVE counting with any one group or standing alone; no reserved bit. -/
def usageOk (u : BitVec 32) : Bool :=
  u &&& 0xFF80_0000 == 0 && u != 0 &&
  (u == uProve || (usageGroups.filter (fun g => u &&& g != 0)).length == 1)

/-! ## BAR0 offsets of the counters -/
def cBadHeader : Nat := 0x100
def cLength : Nat := 0x104
def cSpoof : Nat := 0x108
def cStaleGenRefused : Nat := 0x10C
def cStaleGenDiscarded : Nat := 0x110
def cQueueFull : Nat := 0x114
def cServiceReduced : Nat := 0x118
def cCapped : Nat := 0x11C
def cSeqStale : Nat := 0x120
def cDigestConflict : Nat := 0x124
def cSessionLost : Nat := 0x2040
def cFlowLimit : Nat := 0x2044
def cKeyIntegrity : Nat := 0x220C
def cRngFailed : Nat := 0x2508
def cRngNotReady : Nat := 0x250C
def cVaultBlockFull : Nat := 0x2608
def cPayVerifyFailed : Nat := 0x260C
def cQuorumIncomplete : Nat := 0x2708

/-- A saturating counter of `w` bits (R66). -/
def satAdd (w n k : Nat) : Nat := min (n + k) (2 ^ w - 1)

end Sys2Proof.Machine
end

