-- ==== Sys2Proof/Machine/Bytes.lean ====
section
/-! DEFINITION. Byte strings: their integers, fields and pieces, and the checksum the spec names. -/

namespace Sys2Proof

/-! ## Byte strings (R2, R3) -/

/-- Little-endian value of a byte string. -/
def leNat : Bytes → Nat
  | [] => 0
  | b :: r => b.toNat + 256 * leNat r

/-- Big-endian value of a byte string. -/
def beNat (b : Bytes) : Nat := leNat b.reverse

/-- The low `n` bytes of a number, little-endian. -/
def toLe : Nat → Nat → Bytes
  | 0, _ => []
  | n + 1, v => BitVec.ofNat 8 v :: toLe n (v / 256)

/-- The low `n` bytes of a number, big-endian. -/
def toBe (n v : Nat) : Bytes := (toLe n v).reverse

/-- Bytes `off` to `off + len - 1`. -/
def bsub (b : Bytes) (off len : Nat) : Bytes := (b.drop off).take len

/-- The little-endian field of `len` bytes at `off`. -/
def fld (b : Bytes) (off len : Nat) : Nat := leNat (bsub b off len)

def zeros (n : Nat) : Bytes := List.replicate n 0

/-- Whether every byte is zero. -/
def allZero (b : Bytes) : Bool := b.all (· == 0)

/-- `b` cut or padded with zeros to `n` bytes. -/
def padTo (n : Nat) (b : Bytes) : Bytes := (b ++ zeros (n - b.length)).take n

/-- `b` with the bytes from `off` replaced by `v`. -/
def bput (b : Bytes) (off : Nat) (v : Bytes) : Bytes := b.take off ++ v ++ b.drop (off + v.length)

/-- XOR of two byte strings, of the length of the shorter. -/
def bxor (a b : Bytes) : Bytes := List.zipWith (· ^^^ ·) a b

/-- ASCII text as bytes. -/
def ascii (s : String) : Bytes := s.toList.map (fun c => BitVec.ofNat 8 c.toNat)

/-- Bits [hi:lo] of a number. -/
def bits (v hi lo : Nat) : Nat := v / 2 ^ lo % 2 ^ (hi + 1 - lo)

/-- Whether bit `k` is set. -/
def bit (v k : Nat) : Bool := v / 2 ^ k % 2 == 1

def b2n (b : Bool) : Nat := if b then 1 else 0

/-- `n` cut into pieces of at most `k` bytes. -/
def chunksAux (k : Nat) : Nat → Bytes → List Bytes
  | 0, _ => []
  | f + 1, b => if b.isEmpty then [] else b.take k :: chunksAux k f (b.drop k)

/-- A byte string cut into pieces of `k` bytes, the last one the rest. -/
def chunks (k : Nat) (b : Bytes) : List Bytes := chunksAux k b.length b

/-! ## CRC-32 of IEEE 802.3 (R300, R306, R396, R400) -/

/-- One bit of the division, least significant first. -/
def crcBit (c : BitVec 32) : BitVec 32 := if c.getLsbD 0 then (c >>> 1) ^^^ 0xEDB88320 else c >>> 1

/-- One byte of the division. -/
def crcByte (c : BitVec 32) (b : Byte) : BitVec 32 :=
  crcBit (crcBit (crcBit (crcBit (crcBit (crcBit (crcBit (crcBit (c ^^^ b.setWidth 32))))))))

/-- CRC-32 of IEEE 802.3 over a byte string: reflected, started at all ones and inverted at the end. -/
def crc32 (b : Bytes) : BitVec 32 := ~~~(b.foldl crcByte 0xFFFFFFFF)

/-! ## The flag record of a slot (R300) -/

/-- CRC of a flag record: over bytes 0x00 to 0x3B with ACTIVE taken as 0x00. -/
def flagCrc (r : Bytes) : Bytes := toLe 4 (crc32 (bput (r.take 0x3C) 5 [0])).toNat

/-- The flag record that marks a slot active: MAGIC, SLOT, ACTIVE, FLAG_SEQ, IMAGE_DIGEST and CRC. -/
def flagRecord (slot : Bool) (seq : Nat) (digest : Bytes) : Bytes :=
  let r := toLe 4 0x5547464C ++ toLe 1 (b2n slot) ++ [0xA5] ++ zeros 2 ++ toLe 4 seq ++ zeros 4 ++ padTo 32 digest ++ zeros 12
  r ++ flagCrc r

/-- A record with its ACTIVE byte programmed to 0x00. -/
def flagCleared (r : Bytes) : Bytes := bput r 5 [0]

/-- An erased record: NOR flash erases to ones. PRESUMED, log entry 132. -/
def flagErased : Bytes := List.replicate 64 0xFF

end Sys2Proof
end

