-- ==== Sys2Proof/Machine/State.lean ====
section
/-! DEFINITION. The state of the module, subsystem by subsystem (R13), as plain data; and the module as it stands after
reset. Fields marked MODEL are the model's own bookkeeping, not registers of the spec. -/

namespace Sys2Proof.Machine

/-! ## Enumerations the spec names -/

/-- The service phases (R25). -/
inductive Phase where
  | dark | dawn | overcast | clear
  deriving DecidableEq, Repr

/-- The partition states (R113). -/
inductive PartState where
  | empty | active | disabled | freezing | frozen | exported | importing
  deriving DecidableEq, Repr

/-- The ceremony lock states (R265). -/
inductive LockState where
  | free | collecting | authorised | broken
  deriving DecidableEq, Repr

/-- The life-cycle states (R356). -/
inductive LifeCycle where
  | raw | test | personalised | deployed | returned | scrap
  deriving DecidableEq, Repr

/-- The mirror states (R408). -/
inductive MirrorState where
  | none | active | standby | held | solo | syncSource | syncTarget | detached
  deriving DecidableEq, Repr

/-- The generator states (R219, R228). -/
inductive RngState where
  | testing | healthy | failed
  deriving DecidableEq, Repr

/-- FACET_STAT.STATE and PKE_STAT.STATE (R187, R211). -/
inductive UnitState where
  | serving | gated | retired | testing
  deriving DecidableEq, Repr

/-- The Lens bank states (R331). -/
inductive BankState where
  | active | draining | inactive
  deriving DecidableEq, Repr

/-- Why a domain is off (R463). -/
inductive OffReason where
  | host | retired | selfTest
  deriving DecidableEq, Repr

/-- Target kinds of work items (R70). -/
inductive UnitKind where
  | core | facet | engine
  deriving DecidableEq, Repr

/-- A flow (R73): a session's, a command's own, or one of the module's own flows (R285, R307, R360, R461). -/
inductive Flow where
  | session (index : Nat)
  | own (cmd : CmdRef)
  | admin | firmware | lifeCycle | domain | mwk
  deriving DecidableEq, Repr

/-- The platform states of PLAT_STATUS (R342). -/
inductive PlatState where
  | heldBefore | verifying | recovering | released | heldFailed | heldRecords
  deriving DecidableEq, Repr

/-! ## Stops -/

/-- Faults. -/
inductive Fault where
  /-- An access names an offset outside the BAR it addresses (R40). Raised by the register accesses. Safe. -/
  | outsideBar
  deriving DecidableEq, Repr

/-- Refusals. -/
inductive Refusal where
  /-- The arm of `exec` for this mnemonic has no meaning yet. Safe. -/
  | notModelled (mnemonic : String)
  deriving DecidableEq, Repr

/-! ## Outputs of the module (MODEL: what an observer outside sees, oldest first) -/

/-- One completion as written (R54). -/
structure Completion where
  ring       : Nat
  index      : Nat            -- entry of the completion ring
  seq        : BitVec 64
  status     : BitVec 16
  gen        : BitVec 16
  replyLen   : Nat
  duplicate  : Bool
  notWritten : Bool
  fromStandby : Bool
  phase      : Bool
  claim      : BitVec 64
  horizon    : BitVec 64
  deriving DecidableEq, Repr

/-- One write the module makes on the link: its address, its bytes, and its relaxed-ordering attribute (R39). -/
structure LinkWrite where
  addr    : Nat
  data    : Bytes
  relaxed : Bool
  deriving DecidableEq, Repr

/-- What the module puts out. What it writes on the link stands beside what it means. -/
inductive Out where
  | completion (c : Completion) (w : LinkWrite)
  | reply (ring : Nat) (seq : BitVec 64) (data : Bytes) (ws : List LinkWrite)
  | msix (fn vector : Nat) (w : LinkWrite)
  | readData (fn bar off size : Nat) (val : BitVec 64)
  | trace (index : Nat) (rec : Bytes) (w : LinkWrite)
  | uart (frame : Bytes)
  | mctp (port : Nat) (typ : Nat) (payload : Bytes)
  | spdm (port : Nat) (eid : BitVec 8) (code : Nat) (payload : Bytes)
  | sessionReply (port : Nat) (session : BitVec 32) (completion reply : Bytes)
  | iluon (port : Bool) (frame : Bytes)
  | tap (bits : Nat) (data : Nat)
  | tapError
  | pmbus (addr cmd : BitVec 8) (word : BitVec 16)
  | flash (port : Nat) (opcode : BitVec 8) (addr : BitVec 32) (forwarded : Bool) (filled : Nat) (dummies driven : Nat)
  | bus (port : Nat) (event : String)
  | draw (cmd : CmdRef)
  deriving DecidableEq, Repr

/-! ## Clock, supplies, link -/

/-- Clock tree, supplies and timers (R16 to R19, R440, R447). -/
structure Clock where
  ns          : Nat             -- MODEL: elapsed time in nanoseconds, the base of every timer below
  feedA       : Nat             -- FEED_A in mV (R439)
  feedB       : Nat             -- FEED_B in mV
  powered     : Bool            -- the island's power-on reset is released (R441)
  porNs       : Nat             -- when it was released
  pllEnabled  : Bool            -- the ROM has enabled the root PLL (R292)
  pllLocked   : Bool            -- the root PLL reports lock (R18)
  pllLockNs   : Nat             -- when it did
  islandClock : Bool            -- the island cores run from the island clock (R18)
  faults      : List Nat        -- times of the clock-fault resets of the last second (R19)
  holdDark    : Bool            -- held in Dark until power is removed (R19)
  deriving DecidableEq, Repr

/-- Service phase and what decides it (R25 to R30). -/
structure Service where
  phase       : Phase
  capped      : Bool            -- SVC_STATUS.CAPPED
  calFull     : Bool            -- SVC_STATUS.CAL_FULL
  memTrained  : Bool            -- SVC_STATUS.MEM_TRAINED
  calLoaded   : Bool            -- calibration points loaded (R309)
  rank0       : Bool            -- the rank of R27 is trained
  linkUp      : Bool            -- the PCIe link is up (R292, R457)
  perst       : Bool            -- PERST_N is asserted (R452)
  perstNs     : Nat             -- when PERST_N was last deasserted
  romStarted  : Bool            -- MODEL: the ROM has run boot_rot in this start
  romFound    : Bool            -- boot_rot found a valid slot (R301)
  recovery    : Bool            -- the recovery loader runs (R305)
  dawnDone    : Bool            -- MODEL: the root-of-trust firmware has done its Dawn entry (R299) in this start
  jnlLost     : Bool            -- MODEL: JNL_LOST is to be set on every function at the next Dawn (R64)
  warmCount   : Nat             -- warm resets so far (R87)
  warmAtNs    : Option Nat      -- a warm reset is due at this time (R305, R307, R364)
  discardApp  : Bool            -- FW_WARM_RESET set DISCARD_APP (R311)
  releaseNs   : Nat             -- when the application image was released (R28, R310)
  deriving DecidableEq, Repr

/-! ## Functions and rings -/

/-- One PCIe function (R38, R41, R65, R98). -/
structure Fn where
  partition : Nat               -- FN_ID.PARTITION
  ringBase  : Nat
  ringCount : Nat               -- FN_ID.RING_COUNT
  mapped    : Bool
  irqCause  : BitVec 5          -- FN_IRQ_CAUSE
  irqMask   : BitVec 5          -- FN_IRQ_MASK
  jnlIndex  : BitVec 16         -- JNL_INDEX
  jnlWindow : Bytes             -- JNL_WINDOW, 64 bytes, or empty for all zero
  counters  : Tab Nat           -- the function's saturating counters, by BAR0 offset (R66, R87, R228)
  stray     : List Nat          -- local indices without a ring whose block shows BAD_DOORBELL (R97)
  latch     : Tab (BitVec 32)   -- high halves latched by 32-bit reads, by offset of the high half (R41)
  msixTable : Tab (BitVec 32)   -- MSI-X table words in BAR4 (R40)
  msixPend  : List Nat          -- pending-bit array
  deriving DecidableEq, Repr

/-- One ring, by its global number (R43, R46, R48). -/
structure Ring where
  sqBase      : BitVec 52
  cqBase      : BitVec 52
  enable      : Bool
  logSize     : BitVec 5
  vector      : BitVec 8
  coalCount   : BitVec 8
  coalTime    : BitVec 8
  gen         : BitVec 48       -- full count (R107)
  sqHead      : BitVec 16
  sqTail      : BitVec 16       -- last SQ_TAIL taken (R45)
  cqHead      : BitVec 16       -- last CQ_HEAD taken (R456)
  cqTail      : BitVec 16
  cqPhase     : Bool
  lastSeq     : BitVec 64
  dbOverrun   : Bool
  badDoorbell : Bool
  owed        : Nat             -- completions owed on this ring (R46)
  unsignalled : Nat             -- completions written but not signalled (R48)
  coalNs      : Option Nat      -- when the COAL_TIME timer started
  accepts     : Nat             -- commands accepted on the ring (R60)
  deriving DecidableEq, Repr

/-- A cached reply (R60): the ring, the sequence, the command's number on the ring, the reply. -/
structure CachedReply where
  ring  : Nat
  seq   : BitVec 64
  nth   : Nat
  reply : Bytes
  deriving DecidableEq, Repr

/-! ## The journal -/

/-- One journal entry (R61, R62). `lost` marks a final entry in a poisoned line (R430). -/
structure JEntry where
  seq       : BitVec 64
  horizon   : BitVec 64
  opcode    : BitVec 16
  status    : BitVec 16
  partition : BitVec 16
  ring      : BitVec 16
  session   : BitVec 32
  done      : Bool
  cached    : Bool
  fromMirror : Bool
  discarded : Bool
  gen       : BitVec 16
  digest    : Bytes
  replyLen  : Nat
  claim     : BitVec 64
  lost      : Bool
  deriving DecidableEq, Repr

/-! ## Keys -/

/-- The attribute record of a key (R126). -/
structure Attr where
  alg        : BitVec 8
  cls        : BitVec 8
  bits       : BitVec 16
  usage      : BitVec 32
  x9Usage    : Bytes            -- two characters
  mode       : BitVec 8
  export_    : BitVec 8
  span       : BitVec 8
  algPub     : BitVec 8
  keyVersion : Bytes            -- two characters
  deriving DecidableEq, Repr

/-- One version of a key: its attributes, its material and, for a cached key, its token fields (R126, R135). -/
structure KeyVal where
  attr     : Attr
  material : Bytes
  random   : Bytes              -- RANDOM (R135)
  epoch    : BitVec 32          -- TOKEN_EPOCH at wrapping
  mwkGen   : BitVec 8
  deriving DecidableEq, Repr

/-- What a key reference of a partition holds (R140, R141). -/
structure KeyEntry where
  cur     : Option KeyVal       -- the version in force; none: empty
  version : BitVec 16
  failed  : Bool                -- FAILED (R130)
  codes   : List Bytes          -- integrity code of each slot of the span of an on-die key (R129)
  pending : List CmdRef         -- accepted rewrites that have not ended, oldest first (R141)
  deriving DecidableEq, Repr

/-- A counted version of a key: its holders, and its contents once a rewrite or destroy has moved them to a shadow
entry, with the FAILED mark they carried there (R130, R140 to R142). -/
structure KeyHold where
  part    : Nat
  key     : BitVec 32
  version : BitVec 16
  count   : Nat
  shadow  : Option KeyVal
  bad     : Bool
  deriving DecidableEq, Repr

/-- A hot-set entry: its number in the partition's share, the record and version it holds, and whether its unwrap has ended (R138); or
the key a payment command derives for its next item, which no record holds (R231). -/
structure HotEntry where
  part    : Nat
  entry   : Nat
  key     : BitVec 32
  record  : Nat                 -- physical cache record (R123)
  version : BitVec 16
  ready   : Bool
  used    : Nat                 -- time of last use
  derived : Option CmdRef       -- the command whose derived key it holds, or is to hold (R231)
  alg     : BitVec 8            -- that key's ALG and bytes, once derived
  data    : Bytes
  deriving DecidableEq, Repr

/-- The backing records of an on-die key's span in one NOR device (R132). -/
structure Backing where
  part    : Nat
  key     : BitVec 32
  version : BitVec 16
  span    : Nat                 -- slots of the span
  val     : Option KeyVal       -- none: STATE 1, marked empty
  records : List Bytes          -- the record of each slot, 128 bytes, as it lies in the device
  deriving DecidableEq, Repr

/-- The key store (R122 to R156). -/
structure KeyStore where
  keys        : Tab KeyEntry    -- by partition × 2^32 + reference
  holds       : List KeyHold
  reserved    : Tab Nat         -- shadow entries reserved by unended rewrites, by partition (R142)
  hot         : List HotEntry
  nor0        : List Backing    -- backing records in NOR device 0
  nor1        : List Backing
  mwk         : Bytes           -- MWK, current generation (R148)
  mwkPrev     : Bytes
  mwkGen      : BitVec 8
  prevPresent : Bool
  rewrap      : Bool            -- REWRAP_ACTIVE
  sealed      : Bool            -- SEALED (R155)
  epochs      : Tab (BitVec 32) -- token epochs (R139)
  busStopped  : Bool            -- the private key bus is stopped (R154)
  scramble    : Bytes           -- scramble key, 32 bytes (R129)
  integrity   : Bytes           -- integrity key, in the island's internal slots (R124, R129)
  maskSeed    : Bytes           -- mask-stream state of the key store (R131)
  maskUsed    : Nat             -- mask words taken since it was reseeded
  memKey      : Bytes           -- memory encryption key (R150)
  ctxKey      : Bytes           -- CTXK (R182)
  poisonedRecs : List Nat       -- cached records that lie in a poisoned line, by key (R430)
  scrubNs     : Nat             -- when the last background scrub of the slots ended (R129)
  regCrcOk    : Bool            -- the register's CRC (R396) agrees with its contents
  deriving DecidableEq, Repr

/-! ## Partitions -/

/-- One registered window of host memory (R99). -/
structure Window where
  valid : Bool
  base  : BitVec 52
  limit : BitVec 52
  deriving DecidableEq, Repr

/-- One enrolled officer (R262). -/
structure Officer where
  slot   : Nat
  sigAlg : BitVec 8
  name   : Bytes
  sigPub : Bytes
  kemPub : Bytes
  deriving DecidableEq, Repr

/-- The ceremony lock of a partition (R265 to R270). -/
structure Lock where
  state     : LockState
  id        : BitVec 32         -- CEREMONY_ID, current or last
  ownerFn   : Nat
  ownerGen  : BitVec 48
  digest    : Bytes             -- CMD_DIGEST
  challenge : Bytes
  threshold : Nat               -- M in force at the opening
  officers  : List Officer      -- the set in force at the opening (R266)
  signed    : List Nat          -- slots with a valid signature
  bad       : Nat               -- invalid signatures
  expiry    : BitVec 64
  deriving DecidableEq, Repr

/-- A live TR-34 nonce (R279). -/
structure Nonce where
  id     : BitVec 32
  value  : Bytes
  issued : BitVec 64
  deriving DecidableEq, Repr

/-- An offer of a migration or of a restore (R115, R280). -/
structure Offer where
  id     : BitVec 32
  body   : Bytes                -- the offer as replied
  secret : Bytes                -- the decapsulation and agreement keys behind it
  expiry : BitVec 64
  deriving DecidableEq, Repr

/-- A held export or backup: the chunks as they will be read (R116, R280). -/
structure Blob where
  id     : BitVec 32
  header : Bytes
  chunks : List Bytes
  nextRead : Nat                -- chunks read so far in order
  issued : BitVec 64
  deriving DecidableEq, Repr

/-- An import or restore in progress (R117, R280). -/
structure Staging where
  id      : BitVec 32
  key     : Bytes
  chunks  : Nat                 -- chunks expected
  total   : Nat
  have_   : List Bytes          -- plaintext of the chunks verified, in order
  tags    : Bytes               -- their tags, in order
  ringMap : List (Nat × Nat)
  header  : Bytes
  last    : BitVec 64           -- Horizon time of the last chunk
  deriving DecidableEq, Repr

/-- One vault record (R253), with the block and bucket position that hold it. -/
structure VaultRec where
  block   : Nat
  slot    : Nat                 -- record position in the block, 0 to 511
  tag     : Bytes
  key     : BitVec 32
  version : BitVec 16
  domain  : BitVec 8
  keepFirst : BitVec 8
  keepLast  : BitVec 8
  context : Bytes
  time    : BitVec 64
  poisoned : Bool
  deriving DecidableEq, Repr

/-- The vault of a partition (R251 to R258). -/
structure Vault where
  capacity : Nat
  blocks   : Nat
  records  : List VaultRec
  overflow : Tab Nat            -- overflow count by block
  reserved : Nat                -- records reserved by accepted commands (R256)
  deriving DecidableEq, Repr

/-- One partition (R96, R99, R106, R113, R136, R262, R282). -/
structure Part where
  state     : PartState
  gen       : BitVec 48
  policy    : Bytes             -- the 432-byte policy record
  threshold : Nat               -- M
  officers  : List Officer
  salt      : Bytes
  windows   : Tab Window
  lock      : Lock
  lastCer   : BitVec 32         -- the last CEREMONY_ID issued (R265)
  nonces    : List Nonce
  nextNonce : BitVec 32
  nextBackup : BitVec 32
  moveOffer : Option Offer      -- MIGRATE_OFFER
  keyOffer  : Option Offer      -- KEY_RESTORE_OFFER
  blob      : Option Blob       -- the export of an EXPORTED partition
  backup    : Option Blob
  staging   : Option Staging    -- the import of an IMPORTING partition
  restore   : Option Staging
  drained   : Nat               -- commands completed since the freeze (R119)
  freezeNs  : Nat               -- when FREEZING times out
  freezeCmd : Option CmdRef
  vault     : Vault
  jnext     : BitVec 16         -- NEXT_INDEX
  jwrapped  : Bool
  jlap      : Nat               -- MODEL: passes the journal has made
  journal   : Tab JEntry
  counters  : Tab Nat           -- the partition's saturating counters, by BAR0 offset (R156, R258, R271)
  drbg      : Bytes             -- partition instance (R216)
  drbgCount : Nat               -- draw seeds since the last reseed (R217)
  drbgTime  : BitVec 64         -- Horizon time of the last reseed
  drbgDue   : Bool              -- reseed due whatever R217 says (R222)
  bucketOver : Nat              -- admission credit of the Overcast limit, in ns of metered time (R26)
  bucketCap  : Nat              -- admission credit of CAPPED, in the same unit (R29)
  bucketNs   : Nat              -- when the buckets were last filled
  deriving DecidableEq, Repr

/-! ## Sessions and streams -/

/-- A session's or transient context's save area (R181). -/
structure SaveArea where
  wrapped   : Option Bool       -- none: FORMAT 0x0000; some false: clear; some true: wrapped
  group     : BitVec 8
  modeAlg   : BitVec 8
  key       : BitVec 32
  keyVersion : BitVec 16
  tagLen    : BitVec 8
  partLen   : Nat               -- PART_LEN
  offset    : Nat               -- STREAM_OFFSET
  saveCount : Nat               -- SAVE_COUNT
  state     : Bytes             -- STATE as it lies in memory: in the clear, or encrypted under CTXK (R182)
  tag       : Bytes             -- TAG
  absorbed  : Bytes             -- MODEL: the stream so far, what the chaining state is computed from
  aad       : Bytes             -- MODEL: its additional data
  iv        : Bytes             -- MODEL: its IV
  deriving DecidableEq, Repr

/-- One session context (R84 to R89). -/
structure Session where
  tag       : BitVec 10
  allocated : Bool
  transient : Bool              -- a transient context of R80
  part      : Nat
  partGen   : BitVec 48
  warmCount : Nat
  idle      : Nat               -- IDLE_S
  closing   : Bool              -- a SESSION_CLOSE naming it has been accepted
  lastUse   : BitVec 64
  outstanding : Nat
  saveCount : Nat               -- SAVE_COUNT in the control state (R182)
  save      : SaveArea
  deriving DecidableEq, Repr

/-- The session region (R85, R86). -/
structure Sessions where
  ctxs  : Tab Session           -- by context index
  fresh : Tab Nat               -- contexts of a partition not yet allocated start here, counted in its own share
  freed : Tab (List Nat)        -- released contexts of a partition, oldest first
  deriving DecidableEq, Repr

/-! ## Prism -/

/-- Where the private key bus takes a key from (R123, R133, R138, R142): an on-die slot by its physical number, a hot-set entry, or
the shadow entry that a version of a slot or record has moved to. -/
inductive KeySource where
  | slot (phys : Nat) | hot (part entry : Nat) | shadow (phys : Nat)
  deriving DecidableEq, Repr

/-- One key load an item waits for (R70, R133, R141). -/
structure KeyLoad where
  key     : BitVec 32
  version : BitVec 16
  usage   : BitVec 32           -- usage bits the item declares, any of which suffices
  reg     : Nat                 -- the key register of its destination
  done    : Bool
  source  : Option KeySource    -- where the load that is done took the key from
  share   : Bytes               -- the two shares it delivered: the key XOR the mask word, and the mask word (R131)
  mask    : Bytes
  alg     : BitVec 8            -- the ALG and USAGE fields it delivered
  keyUsage : BitVec 32
  deriving DecidableEq, Repr

/-- A loaded key register (R134): the item that loaded it, its number, where the key came from, and the key as recombined there. -/
structure KeyReg where
  cmd      : CmdRef
  item     : Nat
  reg      : Nat
  source   : Option KeySource
  version  : BitVec 16
  alg      : BitVec 8
  usage    : BitVec 32
  material : Bytes
  deriving DecidableEq, Repr

/-- An entry of a facet's key-state cache (R170): the physical slot or record it is keyed by, and the pre-computed states. -/
structure KeyState where
  part    : Nat
  key     : BitVec 32
  phys    : Nat
  version : BitVec 16
  states  : Bytes
  deriving DecidableEq, Repr

/-- A word of an engine's operand memory, with its secret tag (R189, R194). -/
structure OpWord where
  data   : Bytes                -- 64 bytes
  secret : Bool
  deriving DecidableEq, Repr

/-- How one computation of a private operation holds its secrets (R196). -/
inductive Blind where
  | rsa (r1 r2 : BitVec 64) (u : Bytes) (t : BitVec 32)
  | curve (r : BitVec 64) (z : Bytes) (t : BitVec 32)
  | lattice (share : Bytes) (order : Bytes)
  deriving DecidableEq, Repr

/-- An item in service on an engine: its lanes (R190), and the randomisations of its two computations when it is private (R196). -/
structure EngineItem where
  cmd    : CmdRef
  item   : Nat
  lanes  : BitVec 16
  first  : Option Blind
  second : Option Blind
  deriving DecidableEq, Repr

/-- Where a work item stands (R70 to R77). -/
inductive ItemState where
  | waiting | inService (unit : UnitId) | ended | cancelled
  deriving DecidableEq, Repr

/-- One work item (R70). -/
structure Item where
  kind     : UnitKind
  preds    : Nat                -- predecessor items not yet ended
  succ     : List Nat
  loads    : List KeyLoad
  bytes    : Nat                -- data processed; above 4 KiB it is a long item (R76)
  state    : ItemState
  readyNs  : Option Nat         -- when its count reached zero
  unheld   : Bool               -- its 400 ns hold has lapsed
  aged     : Bool               -- it has been ready for 2 µs
  failedOn : List UnitId        -- units on which it failed, oldest first
  startNs  : Nat
  redispatch : Bool
  marked   : Bool               -- a rail warning has failed its check while in service (R387)
  fail     : Option (BitVec 16) -- the failure status it ended with (R72)
  deriving DecidableEq, Repr

/-- Where a command's draw stands (R218). -/
inductive Draw where
  | none | waiting | seed (s : Bytes) | failed (status : BitVec 16)
  deriving DecidableEq, Repr

/-- How a command ended: its status, its reply and whether the reply is written (R459). -/
structure Result where
  status : BitVec 16
  reply  : Bytes
  deriving DecidableEq, Repr

/-- One replicated change (R420). -/
inductive Change where
  | key (part : Nat) (ref : BitVec 32) (version : BitVec 16) (val : Option KeyVal)
  | partition (part : Nat) (state : PartState) (policy : Bytes) (threshold : Nat) (officers : List Officer)
  | vault (part : Nat) (rec : VaultRec)
  | vaultDelete (part : Nat) (tag : Bytes)
  deriving DecidableEq, Repr

/-- An accepted command that has not completed (R31, R70, R140). -/
structure Cmd where
  ref      : CmdRef
  ring     : Nat                -- global ring, or 0x0400 for the management bus (R352)
  fn       : Nat
  session  : Option (BitVec 32) -- SPDM session it arrived on
  seq      : BitVec 64
  opcode   : BitVec 16
  flags    : BitVec 16
  handle   : BitVec 32          -- session handle
  header   : Bytes
  payload  : Bytes
  outs     : List (Nat × Nat)   -- output fragments in list order: address, length (R51)
  frags    : List Nat           -- input fragment lengths
  ringGen  : BitVec 48          -- generation at acceptance
  partGen  : BitVec 48
  flow     : Flow
  order    : Nat                -- MODEL: acceptance number, rising over the module
  items    : List Item
  keys     : List (BitVec 32 × BitVec 16)  -- references taken, with the version fixed (R140)
  released : List (BitVec 32)   -- those of them whose last item has ended or was cancelled (R140)
  loaded   : List (BitVec 32 × KeyVal)     -- MODEL: what the loads delivered, which its items computed with
  base     : Option SaveArea    -- MODEL: the save area its first item started from (R177, R181)
  backing  : List Backing       -- backing records it has still to write in both devices (R132)
  out      : Option (BitVec 32)            -- reference this command rewrites or destroys (R141, R142)
  outAttr  : Option Attr        -- attributes the rewriting command carries (R128)
  shadow   : Bool               -- it reserved a shadow entry
  draw     : Draw
  transient : Option Nat        -- transient context (R80)
  reserved : Nat                -- vault records reserved (R256)
  nth      : Nat                -- its number among the commands accepted on its ring (R60)
  started  : Bool               -- its own effect has begun and has not ended (R285, R119)
  cut      : Option (BitVec 16) -- the status it will end with, its waiting items being cancelled (R110, R185)
  abort    : Option Nat         -- END_CAUSE of an abort (R176, R284)
  result   : Option Result
  wrote    : List (BitVec 32 × BitVec 16)  -- key versions it wrote or destroyed by ending OK (R112)
  durable  : Bool               -- its persistent writes are durable, or it has none (R132)
  acked    : Bool               -- FORWARD_ACK has arrived, or none is needed (R411)
  verdict  : Option (Nat × Bytes)          -- its FORWARD's draw verdict and reseed material, once known (R223, R410)
  replicated : Nat              -- members whose acknowledgement is still wanted (R420)
  replicas : List (Bool × Bytes)   -- its changes as REPLICATE frames carry them, each with its role
  ackedBy  : List Nat           -- who has acknowledged, once for each change
  fromMirror : Bool
  fence    : Bool
  acceptNs : Nat
  policy   : Bytes              -- the partition policy in force at acceptance (R282)
  spilled  : Option Nat         -- when it was spilled (R421)
  spillFrom : Option Nat        -- ring position it was spilled from, when it runs here for another member (R421)
  told     : Option Nat         -- a DEVICE_ABORT on a standby: the verdict its active sent (R184, R202)
  undo     : Option KeyEntry    -- its target before it ran, to withdraw a refused replication (R420)
  undoRest : List Change        -- the changes that withdraw the rest of what it did
  deriving DecidableEq, Repr

/-- A held duplicate (R58). -/
structure HeldDup where
  ref   : CmdRef
  ring  : Nat
  seq   : BitVec 64
  gen   : BitVec 48
  outs  : List (Nat × Nat)
  suppress : Bool
  deriving DecidableEq, Repr

/-- Prism (R70 to R83, R101). -/
structure Prism where
  cmds     : List Cmd           -- accepted commands not yet complete, in acceptance order
  held     : List HeldDup
  cutOff   : List Cmd           -- commands a warm reset cut off, to be finalised in the restart (R112)
  order    : Nat                -- acceptances so far
  credit   : Tab Int            -- by kind × 256 + partition, in 1/256 ns of unit time (R101)
  chosen   : Tab Nat            -- partition last chosen, by kind
  affinity : List (Flow × UnitId)
  trcBase  : BitVec 52          -- TRC_BASE
  trcOn    : Bool
  trcLog   : BitVec 5
  trcPart  : BitVec 8
  trcFilter : Bool
  trcMask  : BitVec 8
  trcWrite : BitVec 24
  trcRead  : BitVec 24
  trcFull  : Bool               -- the buffer holds 2^LOG2_RECORDS records: WRITE equals READ (R81)
  trcLost  : Nat
  trcMark  : Nat                -- time marks of R83 due so far that have been written
  deriving DecidableEq, Repr

/-- One facet (R158, R187). -/
structure Facet where
  glitch   : Nat
  timer    : Nat
  retried  : Nat
  resident : Option Flow        -- resident context (R79)
  cache    : List KeyState      -- key-state cache, newest first (R170)
  keyRegs  : List KeyReg        -- loaded key registers, of four (R134)
  mask     : Bytes              -- mask-stream state (R164)
  deriving DecidableEq, Repr

/-- One public-key engine (R189, R211). -/
structure Engine where
  nttBusy  : Bool
  reserved : Option (CmdRef × Nat)     -- RESERVED_WHOLE (R191)
  mismatch : Nat
  parity   : Nat
  retried  : Nat
  busy     : List EngineItem    -- items in service (R190)
  keyRegs  : List KeyReg        -- loaded key registers, of two (R134)
  mask     : Bytes              -- mask-stream state (R197)
  maskUsed : Nat                -- bytes taken from the mask stream since it was reseeded
  mem      : Tab OpWord         -- operand memory, 4,096 words (R189, R194)
  deriving DecidableEq, Repr

/-- A power domain (R20 to R22, R463). -/
structure Domain where
  on       : Bool
  off      : Option OffReason
  draining : Option Nat         -- when the drain started
  testing  : Bool               -- known-answer tests run
  katPass  : Bool               -- they have passed since the domain came on
  deriving DecidableEq, Repr

/-! ## The random number generator -/

/-- The continuous tests of one noise source (R213): the last sample and how often it has come in a row, and of the window of 1,024
samples its first sample, how many samples it has seen and how often the first occurred. -/
structure SourceTest where
  last  : Bool
  run   : Nat
  first : Bool
  pos   : Nat
  count : Nat
  deriving DecidableEq, Repr

/-- The generator (R212 to R228). -/
structure Rng where
  state     : RngState
  running   : Bool              -- started at the switch to the island clock (R221)
  startNs   : Nat
  katPassed : Bool
  katKnown  : Bool              -- its known-answer tests have ended
  verdict   : Bool              -- the start-up verdict has been given (R221)
  instDone  : Bool              -- the partition instances' moment of the sequence has passed (R221, R222)
  tests     : List SourceTest   -- of sources 0 to 3 (R213)
  cond      : List Bool         -- samples in the conditioner, oldest first (R215)
  srcOk     : BitVec 4
  shared    : Bool
  restarts  : Nat
  rctFail   : BitVec 4
  aptFail   : BitVec 4
  startFail : BitVec 4
  katFail   : Bool
  drawCheckFail : Bool
  pool      : List Bytes        -- up to 64 seeds, oldest first
  module    : Bytes             -- module instance
  moduleNs  : Nat               -- when it was last seeded (R216)
  maskNs    : Nat               -- when the mask streams were last reseeded (R131)
  queue     : List CmdRef       -- draw-seed requests waiting, in port order (R218)
  waits     : List (CmdRef × Nat) -- when each waiting request entered the port's queue (R219)
  restartCmds : List CmdRef     -- RNG_RESTARTs in progress, oldest first
  deriving DecidableEq, Repr

/-! ## Firmware images -/

/-- A root-of-trust slot and its flag record (R300). -/
structure Slot where
  image   : Bytes
  flag    : Bytes               -- its flag record, 64 bytes
  result  : BitVec 4            -- result code of R297
  deriving DecidableEq, Repr

/-- Firmware state (R292 to R314). -/
structure Firmware where
  slotA     : Slot
  slotB     : Slot
  running   : Bool              -- FW_BOOT.SLOT
  fallback  : Bool
  flags     : BitVec 2          -- FLAGS_STATE
  keysLive  : BitVec 4
  svnFloor  : BitVec 8
  rotSvn    : BitVec 8
  appSvn    : BitVec 8
  runKey    : BitVec 2
  load      : BitVec 3          -- FW_LOAD.STATE
  retained  : Bool
  lastResult : BitVec 4
  stage     : Bytes             -- the application image staged, or released
  stageLen  : Nat               -- LENGTH of the staging
  stageBad  : Bool              -- a line of the staging area is poisoned (R430)
  appMeas   : Bytes             -- MEASUREMENT of the released image
  rotStage  : Bytes
  rotLen    : Nat
  loaderLen : Option Nat        -- BEGIN has opened a reception of this length (R305)
  loaderBuf : Bytes
  loaderNs  : Nat               -- time of the last frame
  deriving DecidableEq, Repr

/-! ## Platform root of trust -/

/-- One Lens rule (R323). -/
structure LensRule where
  master : Bool
  port   : Nat
  access : BitVec 3
  first  : BitVec 32
  last   : BitVec 32
  deriving DecidableEq, Repr

/-- One Lens bank (R331). -/
structure Bank where
  state     : BankState
  ruleset   : BitVec 8          -- 0xFF empty, 0xFE open bank
  portMap   : BitVec 8
  allowHost : Bytes             -- 32 bytes
  allowBmc  : Bytes
  rules     : List LensRule
  deriving DecidableEq, Repr

/-- One region of the accepted manifest (R322), with its last result (R337). -/
structure Region where
  port      : Nat
  bmc       : Bool
  recovery  : Nat
  recPort   : Nat
  first     : BitVec 32
  last      : BitVec 32
  recStart  : BitVec 32
  digest    : Bytes
  result    : BitVec 8
  measured  : Bytes
  excluded  : Bool              -- excluded from re-measurement (R335)
  deriving DecidableEq, Repr

/-- A Lens event of the log (R342). -/
structure LensEvent where
  master : Bool
  port   : Nat
  kind   : BitVec 3
  opcode : BitVec 8
  filled : BitVec 16
  addr   : BitVec 32
  time   : BitVec 64
  deriving DecidableEq, Repr

/-- A transaction in flight at the interposer: its master, its port, and the bank it started under (R329, R331). -/
structure InFlight where
  master : Bool
  port   : Nat
  bank   : Bool
  deriving DecidableEq, Repr

/-- A transaction of the island's own on a flash port: its first byte, its bytes and when it ends (R328). -/
structure IsleTxn where
  addr  : Nat
  len   : Nat
  endNs : Nat
  deriving DecidableEq, Repr

/-- What the island reads on a flash port (R325, R335): a region by its index, or a copy of the manifest (64, 65), how many of its bytes
have been read, and when the next transaction may start. -/
structure IsleRead where
  job    : Nat
  done   : Nat
  nextNs : Nat
  deriving DecidableEq, Repr

/-- The Lens lock's owner (R334). -/
inductive LensOwner where
  | pf (gen : BitVec 48)
  | session (id : BitVec 32)
  deriving DecidableEq, Repr

/-- What the island's power sequence is doing (R318). -/
inductive SeqWait where
  | idle | pg (n : Nat) (deadline : Nat) | delay (until_ : Nat) | pmbus
  | down (until_ : Nat) (rest : List Bytes)    -- a delay of the power-down, and the steps after it
  deriving DecidableEq, Repr

/-- Platform state (R316 to R342). -/
structure Platform where
  driven     : Bool             -- the island drives the platform outputs (R316)
  hostReset  : Bool             -- HOST_RESET_N low
  bmcReset   : Bool             -- BMC_RESET_N low
  pwrgd      : Bool             -- PLT_PWRGD_OUT high
  seqOut     : BitVec 16
  pgIn       : BitVec 8
  pcfg       : Option Bytes     -- the platform configuration record (R319)
  used       : Option Bytes     -- the record as the last platform boot read it (R325, R340)
  bootWanted : BitVec 2         -- masters a platform boot is to start for: bit 0 host, bit 1 BMC
  bootFull   : Bool             -- that boot starts at step 1 (R340)
  manFailed  : Bool             -- the first copy of the manifest has failed R324 in this boot
  host       : PlatState
  bmc        : PlatState
  hostOutcome : BitVec 8
  bmcOutcome : BitVec 8
  manifest   : Option Bytes     -- the accepted manifest
  manifestOk : Bool
  manVersion : BitVec 16
  regions    : List Region
  hostHashed : Option Bool      -- regions of the host read: some passed
  bmcHashed  : Option Bool
  manifestDone : Bool
  failedRegs : Nat
  bank0      : Bank
  bank1      : Bank
  refusedSwap : Bool            -- LAST_SWAP_REFUSED
  lock       : BitVec 2         -- LOCK_STATE: 0 FREE, 1 HELD, 3 BROKEN
  lockOwner  : LensOwner
  inflight   : List InFlight
  cntLens    : Nat
  log        : Tab LensEvent
  logNext    : BitVec 4
  passes     : Nat
  passDone   : List Nat         -- regions re-measured in this pass
  mismatch   : Bool
  booting    : BitVec 2         -- bit 0: the host's platform boot runs; bit 1: the BMC's
  stage      : Nat              -- stage of the sequence running
  step       : Nat              -- next step of SEQUENCE
  wait       : SeqWait
  pwrgdNs    : Nat               -- the later of PLT_PWRGD_OUT and its durable record (R325)
  recordDue  : List Bytes       -- boot records written but not yet durable
  kind1Durable : Bool           -- step 6 of R325 has been passed
  hold       : Bool             -- FULL_HOLD (R339)
  rebootAt   : Option (Nat × BitVec 2 × Bool)   -- PLATFORM_REBOOT: time, targets, power cycle
  records    : Tab Bytes        -- boot records by slot
  brecSeq    : Nat              -- newest RECORD_SEQ
  ackSeq     : Nat              -- highest acknowledged
  brecLost   : Nat
  lostLast   : Nat
  prevHash   : Bytes
  polls      : Nat              -- MODEL: flash accesses retried after a poll timeout
  isle       : Tab IsleTxn      -- the island's transaction in flight, by port (R328)
  reads      : Tab IsleRead     -- what the island reads, by port
  readDone   : List Nat         -- regions and manifest copies read to their end and not yet judged
  deriving DecidableEq, Repr

/-! ## Management bus -/

/-- A management port (R343, R355). -/
structure BusPort where
  retired  : Bool
  arbLost  : Nat
  pecErr   : Nat
  stuck    : Nat
  losses   : Nat                -- consecutive arbitration losses (R346)
  backoff  : Option Nat         -- end of the backoff
  retries  : Nat
  dynAddr  : Option (BitVec 7)  -- dynamic address (R343)
  deriving DecidableEq, Repr

/-- A reassembly buffer (R345). -/
structure Reasm where
  port  : Nat
  src   : BitVec 8
  tag   : BitVec 4
  next  : BitVec 2
  data  : Bytes
  lastNs : Nat
  deriving DecidableEq, Repr

/-- A tracked stranger (R348): its request bucket in 10^-9 of a request, the time it was last heard and last told Busy. -/
structure Stranger where
  eid    : BitVec 8
  bucket : Nat
  heard  : Nat
  busyNs : Option Nat
  deriving DecidableEq, Repr

/-- An SPDM session or handshake (R348 to R353). -/
structure SpdmSession where
  id       : BitVec 32
  eid      : BitVec 8
  port     : Nat                -- port its last message arrived on (R345)
  handshake : Bool              -- KEY_EXCHANGE answered, FINISH awaited
  known    : Bool               -- opened with mutual authentication
  chain    : Bytes              -- requester chain
  reqKey   : Nat                -- key generation of the requester direction
  rspKey   : Nat
  lastNs   : Nat
  lastSeq  : BitVec 64
  ended    : Bool               -- ends after its response is sent (R354)
  deriving DecidableEq, Repr

/-- A large SPDM transfer in progress (R349). -/
structure Chunking where
  eid    : BitVec 8
  handle : BitVec 8
  data   : Bytes
  next   : Nat
  size   : Nat
  deriving DecidableEq, Repr

/-- The SPDM messages an endpoint and the module have exchanged since its GET_VERSION, which signatures cover, and whether it has
negotiated algorithms (R349). -/
structure Dialog where
  eid    : BitVec 8
  log    : Bytes
  agreed : Bool
  deriving DecidableEq, Repr

/-- The management bus (R343 to R355). -/
structure Mbus where
  ports     : List BusPort      -- ports 0, 1, 2
  eid       : BitVec 8
  config    : Bytes             -- MBUS configuration record (R354), 144 bytes
  buffers   : Tab Reasm         -- by buffer number
  strangers : List Stranger
  sessions  : List SpdmSession
  nextSession : BitVec 16
  dialogs   : List Dialog
  nextChunk : BitVec 8          -- handle of the next large response (R349)
  chunksIn  : List Chunking
  chunksOut : List Chunking
  dropped   : Nat               -- CNT_RATE_DROPPED
  authFail  : Nat               -- CNT_AUTH_FAIL
  deriving DecidableEq, Repr

/-! ## Life cycle, identity and debug -/

/-- A debug event (R376). -/
structure DebugEvent where
  kind : BitVec 3
  ir   : BitVec 8
  addr : BitVec 40
  time : BitVec 64
  deriving DecidableEq, Repr

/-- Life cycle and debug state (R356 to R376). -/
structure LifeDebug where
  otp        : List Host.Cell   -- the 8 KiB OTP, unlisted bytes as they left the factory (R365)
  certs      : Option (Bytes × Bytes)   -- unit certificate and its CA chain (R368)
  inspection : Bool
  scope      : BitVec 3
  challenge  : Option (Bytes × BitVec 64)  -- live challenge nonce and its Horizon time (R374)
  rolling    : Bool             -- ROLL_FORWARD
  cntDebug   : Nat
  log        : Tab DebugEvent
  logNext    : BitVec 4
  logDue     : List DebugEvent  -- events in Dark, to be written at the next Dawn (R376)
  ir         : BitVec 8         -- TAP instruction register
  scanOut    : Bytes            -- boundary-scan preload and driven values (R371)
  driving    : Bool
  highz      : Bool             -- HIGHZ has taken the outputs off (R371)
  halted     : List Nat         -- control cores halted by CORE_DEBUG (R371)
  cdi1       : Bytes            -- layer secrets held by the island (R366)
  cdi2       : Bytes
  unitKey    : Bytes            -- unit identity secret derived at boot
  rotKey     : Bytes            -- layer 1 (boot alias) key
  appKey     : Bytes            -- layer 2 key
  fenced     : Bool             -- an intent is complete and no further command is accepted (R360)
  deriving DecidableEq, Repr

/-! ## Horizon and tamper -/

/-- A tamper log record (R397). -/
structure TamperRec where
  cause   : BitVec 4
  channel : BitVec 4
  battery : Bool
  sample  : BitVec 12
  time    : BitVec 64
  deriving DecidableEq, Repr

/-- A Horizon checkpoint (R381). -/
structure Checkpoint where
  time      : BitVec 64
  epoch     : BitVec 16
  armExt    : Bool
  armEncl   : Bool
  baselines : List Nat
  mwkGen    : BitVec 8
  claim     : BitVec 64
  deriving DecidableEq, Repr

/-- A measurement channel (R386, R397). -/
structure MeasCh where
  value : BitVec 12
  warn  : Bool
  warns : Nat
  crossed : Bool                -- the last sample crossed a tamper limit
  fired : Bool                  -- the crossing that lasts has fired (R384)
  deriving DecidableEq, Repr

/-- The Horizon domain and the island's tamper channels (R377 to R397). -/
structure Horizon where
  powered   : Bool              -- the domain has a supply
  lost      : Bool              -- its contents are lost and not yet restored: a Horizon cold start (R381)
  time      : BitVec 64
  frac      : Nat               -- MODEL: part of the next tick, in 1/64 ns
  skyTicks  : Bool              -- ticks come from the sky clock (R447)
  goodSecs  : Nat               -- seconds the crystal has stayed within 500 ppm
  restored  : Bool              -- TIME_RESTORED
  coldStart : Bool              -- COLD_START
  calDefault : Bool
  armExt    : Bool
  armEncl   : Bool
  baselines : List Nat          -- loops 0 to 3, ohms
  tampers   : Nat
  latched   : BitVec 12
  active    : BitVec 9
  meshTrue  : List (Nat × Nat)  -- mesh causes true now, each with the armed loop it is true of (R384)
  enclOpen  : Bool              -- the enclosure-switch input reads open (R382, R385)
  latch     : Bool              -- tamper latch
  responding : Bool             -- a response runs with mains present (R388)
  epoch     : BitVec 16         -- JNL_EPOCH
  vbatA     : Nat               -- mV
  vbatB     : Nat
  vbatShown : BitVec 2          -- MODEL: VBAT_A and VBAT_B sampled since their register was last at reset (R8)
  vbatNext  : Bool              -- the battery channel 5 samples next: false VBAT_A, true VBAT_B (R386)
  log       : Tab TamperRec
  logNext   : BitVec 3
  channels  : Tab MeasCh
  meshBad   : List Nat          -- loops whose last battery sample failed (R382)
  check     : Checkpoint        -- newest checkpoint in NOR
  checkNs   : Nat
  calLight  : Option CalPoint
  calFull   : Option CalPoint
  envelopes : List (Nat × Nat × Nat)
  calCmd    : Option CmdRef     -- DEVICE_CALIBRATE in progress
  calNs     : Nat
  deriving DecidableEq, Repr

/-! ## Iluon -/

/-- An Iluon port (R398, R401, R422). -/
structure IluonPort where
  up       : Bool
  lanes    : Nat
  replays  : Nat
  tagErr   : Nat
  retiredLanes : BitVec 4
  sendSeq  : BitVec 16
  recvSeq  : BitVec 16
  unacked  : List (BitVec 16 × Bytes)   -- replay buffer, by LINK_SEQ (R401)
  nakSeq   : BitVec 16          -- the frame replayed last
  naks     : Nat                -- how often it has been replayed
  train    : List (Nat × Bytes) -- partial message by TYPE (R400)
  laneErrs : Tab (List Nat)     -- times of sync-header errors by lane
  idleNs   : Nat
  deriving DecidableEq, Repr

/-- A lease record (R419). -/
structure LeaseRec where
  term   : BitVec 64
  holder : Nat
  expiry : Nat                  -- ns
  sent   : Nat                  -- when the holder sent the frame whose majority stands
  votes  : Nat
  acts   : Bool                 -- the holder's window is open
  asked  : Nat                  -- when it sent the frame now on its way
  due    : Nat                  -- ways that frame has still to come back
  back   : List (Nat × Bool × Nat)   -- the other members' votes that have come back with it: position, ACK, applied
  deriving DecidableEq, Repr

/-- One side of a lockstep comparison (R412): the partner's REPLY_CHECK or the module's own completion. -/
structure Compare where
  ref      : CmdRef
  theirs   : Bool
  status   : BitVec 16
  replyLen : Nat
  digest   : Bytes
  deriving DecidableEq, Repr

/-- Iluon, mirror pair and ring (R398 to R422). -/
structure Iluon where
  west       : IluonPort
  east       : IluonPort
  mirror     : MirrorState
  partnerSeen : Bool
  partnerLost : Bool            -- PARTNER_LOST
  resyncPct  : Nat
  claim      : BitVec 64
  topClaim   : BitVec 64        -- highest claim known
  partner    : BitVec 64        -- PARTNER_SERIAL
  pairPort   : Bool
  paired     : Bool             -- a pairing is stored (R316)
  pairKey    : Bytes            -- PK
  ringKey    : Bytes            -- RK
  counter    : BitVec 64        -- frame counter (R402)
  ringId     : BitVec 64
  members    : Nat
  leaseMode  : Bool
  leaseMult  : Nat
  formed     : Bool
  line       : Bool             -- the ring is known to be broken into a line (R403)
  live       : List Nat         -- positions of the live members
  position   : Nat
  rtts       : List Nat         -- last 64 round-trip measurements
  keyLease   : LeaseRec
  vaultLease : LeaseRec
  keyMaster  : Bool
  vaultOwner : Bool
  applied    : Nat              -- last applied replication sequence
  fetch      : Option (Bool × Nat)   -- a role won, with the sequence it must fetch up to before it acts (R418)
  imageOwed  : Bool             -- it rejoins the live set and has not had the holder's key image (R420)
  spill      : BitVec 8         -- RING_SPILL threshold, 0 off
  loadPct    : Nat              -- control-core load over the last 100 µs
  busy       : List Nat         -- MODEL: control cores in service in each of the last 100 µs, newest first
  peerLoad   : Tab Nat          -- neighbour loads, by port
  peerRoles  : Tab Nat          -- neighbours' roles, by port (R399)
  heardNs    : Nat              -- when the partner was last heard (R413)
  markNs     : Nat              -- when the last TIME_MARK was sent (R404)
  markDue    : Nat              -- ways it has still to come back
  markSum    : Nat              -- what has been measured of it
  compares   : List Compare     -- REPLY_CHECKs and own completions that wait for each other (R412)
  cntRefused : Nat
  cntDiverge : Nat
  dirty      : Nat
  deriving DecidableEq, Repr

/-! ## Faults and memory -/

/-- A fault log record (R434). -/
structure FaultRec where
  kind  : BitVec 4
  event : BitVec 4
  index : BitVec 8
  line  : BitVec 32
  time  : BitVec 64
  deriving DecidableEq, Repr

/-- Fault reporting and memory ranks (R424 to R434). -/
structure Faults where
  cause     : BitVec 9          -- FLT_CAUSE
  mask      : BitVec 9          -- FLT_MASK
  retired   : Tab (BitVec 64)   -- persistent fault map: channel to Horizon time of retirement (R427)
  causes    : Tab Nat           -- its causes: 1 three transient faults, 2 a failed self-test (R425, R427)
  bursts    : Tab (Nat × Nat)   -- corrected bursts of a rank in the present second, and when it began (R424)
  strikes   : Tab (List (BitVec 64))   -- Horizon times of transient faults by channel (R425)
  corrected : Nat
  poisoned  : Nat
  poisonedLines : List (BitVec 32)
  vaultLost : Nat
  log       : Tab FaultRec
  logNext   : BitVec 3
  rebuilding : Option Nat       -- rank whose retirement rebuilds the vault (R432)
  evacuating : Bool
  queuedRanks : List Nat        -- rank retirements that wait
  offRanks  : List Nat          -- ranks switched off
  rejoin    : List Nat          -- requalified ranks that wait for a warm reset (R428)
  deriving DecidableEq, Repr

/-! ## The partition manager's own registers -/

/-- A spoof log record (R105). -/
structure SpoofRec where
  fn    : BitVec 8
  cause : BitVec 8
  partField : BitVec 16
  ringField : BitVec 16
  localRing : BitVec 6
  time  : BitVec 64
  deriving DecidableEq, Repr

/-- The partition manager (R96 to R105). -/
structure PartMgr where
  logP       : Option Nat       -- log2 of P; none while P is 0
  selPart    : BitVec 8         -- PM_WIN_SEL.PARTITION
  selWin     : BitVec 4
  refused    : Bool             -- WRITE_REFUSED
  spoofNext  : BitVec 4
  spoof      : Tab SpoofRec
  stored     : Tab Fn           -- the stored mapping configuration (R98)
  nextOffer  : BitVec 32
  nextExport : BitVec 32
  deriving DecidableEq, Repr

/-! ## The whole -/

/-- The state of the module. -/
structure State where
  clk      : Clock
  svc      : Service
  fns      : Tab Fn
  rings    : Tab Ring
  replies  : List CachedReply
  pm       : PartMgr
  parts    : Tab Part
  ks       : KeyStore
  sess     : Sessions
  prism    : Prism
  facets   : Tab Facet
  engines  : Tab Engine
  domains  : Tab Domain
  fabClass : Tab (BitVec 32)    -- FAB_CLASS0 to 4 (R90)
  rng      : Rng
  fw       : Firmware
  plat     : Platform
  mbus     : Mbus
  life     : LifeDebug
  hzn      : Horizon
  ilu      : Iluon
  flt      : Faults
  free     : Nat                -- MODEL: index of the next free value (Config)
  out      : List Out           -- MODEL: outputs so far, oldest first
  pending  : List Instr         -- commands that wait, first in first out
  deriving DecidableEq, Repr

/-! ## Reset

The module as it leaves the factory (R453), without supply: in Dark (R25), every register at its reset value. Values the spec
does not give are named in the log (entries 5 to 10). -/

def State.resetClock : Clock :=
  { ns := 0, feedA := 0, feedB := 0, powered := false, porNs := 0, pllEnabled := false, pllLocked := false, pllLockNs := 0,
    islandClock := false, faults := [], holdDark := false }

def State.resetService : Service :=
  { phase := .dark, capped := false, calFull := false, memTrained := false, calLoaded := false, rank0 := false, linkUp := false,
    perst := false, perstNs := 0, romStarted := false, romFound := false, recovery := false, dawnDone := false, jnlLost := false, warmCount := 0, warmAtNs := none,
    discardApp := false, releaseNs := 0 }

/-- The PF's own ring block in the stored mapping configuration (R96, R98): partition 0, rings 0 to 3. The spec gives no figures;
the choice is log entry 10. -/
def State.shippedPf : Fn :=
  { partition := 0, ringBase := 0, ringCount := 4, mapped := true, irqCause := 0, irqMask := 0, jnlIndex := 0, jnlWindow := [],
    counters := [], stray := [], latch := [], msixTable := [], msixPend := [] }

/-- The mapping registers of every function are zero until root-of-trust firmware loads them from the stored configuration (R98). -/
def State.resetPartMgr : PartMgr :=
  { logP := none, selPart := 0, selWin := 0, refused := false, spoofNext := 0, spoof := [], stored := [(0, State.shippedPf)], nextOffer := 1,
    nextExport := 1 }

def State.resetKeyStore : KeyStore :=
  { keys := [], holds := [], reserved := [], hot := [], nor0 := [], nor1 := [], mwk := List.replicate 32 0,
    mwkPrev := List.replicate 32 0, mwkGen := 0, prevPresent := false, rewrap := false, sealed := false, epochs := [],
    busStopped := false, scramble := [], integrity := [], maskSeed := [], maskUsed := 0, memKey := [], ctxKey := [], poisonedRecs := [], scrubNs := 0, regCrcOk := true }

def State.resetPrism : Prism :=
  { cmds := [], held := [], cutOff := [], order := 0, credit := [], chosen := [], affinity := [], trcBase := 0, trcOn := false, trcLog := 16,
    trcPart := 0, trcFilter := false, trcMask := 0xFF, trcWrite := 0, trcRead := 0, trcFull := false, trcLost := 0, trcMark := 0 }

/-- Without mains only domain 0 is powered (R24). -/
def State.domainsDark : Tab Domain :=
  (List.range 31).map (fun d => (d + 1, { on := false, off := none, draining := none, testing := false, katPass := false }))

def State.resetTest : SourceTest := { last := false, run := 0, first := false, pos := 0, count := 0 }
def State.resetTests : List SourceTest := List.replicate 4 State.resetTest

def State.resetRng : Rng :=
  { state := .testing, running := false, startNs := 0, katPassed := false, katKnown := false, verdict := false, instDone := false,
    tests := State.resetTests, cond := [], srcOk := 0, shared := false, restarts := 0, rctFail := 0, aptFail := 0, startFail := 0,
    katFail := false, drawCheckFail := false, pool := [], module := [],
    moduleNs := 0, maskNs := 0, queue := [], waits := [], restartCmds := [] }

def State.resetSlot (b : Bool) : Slot :=
  let r := flagRecord b 0 (Config.hash 0x11 (Config.shippedImage.take 256))
  { image := Config.shippedImage, flag := if b then flagCleared r else r, result := 0 }

def State.resetFirmware : Firmware :=
  { slotA := State.resetSlot false, slotB := State.resetSlot true, running := false, fallback := false, flags := 0, keysLive := 0,
    svnFloor := 0, rotSvn := 0, appSvn := 0, runKey := 0, load := 0, retained := false, lastResult := 0, stage := [],
    stageLen := 0, stageBad := false, appMeas := [], rotStage := [], rotLen := 0, loaderLen := none, loaderBuf := [], loaderNs := 0 }

def State.resetBank (st : BankState) : Bank :=
  { state := st, ruleset := 0xFF, portMap := 0, allowHost := [], allowBmc := [], rules := [] }

def State.resetPlatform : Platform :=
  { driven := false, hostReset := true, bmcReset := true, pwrgd := false, seqOut := 0, pgIn := 0, pcfg := none, used := none, bootWanted := 0, bootFull := false, manFailed := false,
    host := .heldBefore, bmc := .heldBefore, hostOutcome := 0, bmcOutcome := 0, manifest := none, manifestOk := false,
    manVersion := 0, regions := [], hostHashed := none, bmcHashed := none, manifestDone := false, failedRegs := 0,
    bank0 := State.resetBank .active, bank1 := State.resetBank .inactive, refusedSwap := false, lock := 0,
    lockOwner := .pf 0, inflight := [], cntLens := 0, log := [], logNext := 0, passes := 0, passDone := [], mismatch := false,
    booting := 0, stage := 0, step := 0, wait := .idle, pwrgdNs := 0, recordDue := [], kind1Durable := false, hold := false,
    rebootAt := none, records := [], brecSeq := 0, ackSeq := 0, brecLost := 0, lostLast := 0, prevHash := [], polls := 0,
    isle := [], reads := [], readDone := [] }

def State.resetPort : BusPort :=
  { retired := false, arbLost := 0, pecErr := 0, stuck := 0, losses := 0, backoff := none, retries := 0, dynAddr := none }

def State.resetMbus : Mbus :=
  { ports := [State.resetPort, State.resetPort, State.resetPort], eid := 0, config := 7 :: List.replicate 143 0, buffers := [],
    strangers := [], sessions := [], nextSession := 1, dialogs := [], nextChunk := 0, chunksIn := [], chunksOut := [], dropped := 0,
    authFail := 0 }

/-- The OTP as shipped (R365, R453): one seed in slot 0, and the transitions to Test and to Personalised complete. What the
factory fields read as is otpDefault's; the seed is a named value: log entry 5. -/
def State.resetOtp : List Host.Cell :=
  [(0x200, 1),
   (0x400, 0x01), (0x401, 0xC3), (0x402, 0x3C), (0x403, 0x5A), (0x404, 0xFE), (0x405, 0x3C), (0x406, 0xC3), (0x407, 0xA5),
   (0x408, 0x01), (0x409, 0xC3), (0x40A, 0x3C), (0x40B, 0x5A), (0x40C, 0x3C), (0x40D, 0x5A), (0x40E, 0xA5), (0x40F, 0xC3),
   (0x410, 0x02), (0x411, 0x3C), (0x412, 0xC3), (0x413, 0x5A), (0x414, 0xFD), (0x415, 0xC3), (0x416, 0x3C), (0x417, 0xA5),
   (0x418, 0x02), (0x419, 0x3C), (0x41A, 0xC3), (0x41B, 0x5A), (0x41C, 0x3C), (0x41D, 0x5A), (0x41E, 0xA5), (0x41F, 0xC3)]

def State.resetLife : LifeDebug :=
  { otp := State.resetOtp, certs := some Config.shippedCert, inspection := false, scope := 0, challenge := none, rolling := false,
    cntDebug := 0, log := [], logNext := 0, logDue := [], ir := 0x01, scanOut := [], driving := false, highz := false, halted := [], cdi1 := [], cdi2 := [], unitKey := [],
    rotKey := [], appKey := [], fenced := false }

/-- The light-load point taken at Torvonfy's test: 25 °C case (R392). The spec gives no bounds. -/
def State.shippedLight : CalPoint := { load := Config.lightLoad, temp := 200, bounds := Config.lightBounds, crcOk := true }

def State.resetHorizon : Horizon :=
  { powered := false, lost := true, time := 0, frac := 0, skyTicks := false, goodSecs := 0, restored := false, coldStart := false,
    calDefault := false, armExt := false, armEncl := false, baselines := [1200, 1200, 1200, 0], tampers := 0, latched := 0,
    active := 0, meshTrue := [], enclOpen := false, latch := false, responding := false, epoch := 0, vbatA := 0, vbatB := 0, vbatShown := 0, vbatNext := false, log := [], logNext := 0, channels := [],
    meshBad := [], check := { time := 0, epoch := 0, armExt := false, armEncl := false, baselines := [1200, 1200, 1200, 0],
                              mwkGen := 0, claim := 0 },
    checkNs := 0, calLight := some State.shippedLight, calFull := none, envelopes := [], calCmd := none, calNs := 0 }

def State.resetIluonPort : IluonPort :=
  { up := false, lanes := 0, replays := 0, tagErr := 0, retiredLanes := 0, sendSeq := 0, recvSeq := 0, unacked := [], nakSeq := 0, naks := 0,
    train := [], laneErrs := [], idleNs := 0 }

def State.resetLease : LeaseRec := { term := 0, holder := 0, expiry := 0, sent := 0, votes := 0, acts := false, asked := 0, due := 0, back := [] }

def State.resetIluon : Iluon :=
  { west := State.resetIluonPort, east := State.resetIluonPort, mirror := .none, partnerSeen := false, partnerLost := false,
    resyncPct := 0, claim := 0, topClaim := 0, partner := 0, pairPort := false, paired := false, pairKey := [], ringKey := [],
    counter := 0, ringId := 0, members := 0, leaseMode := false, leaseMult := 0, formed := false, line := false, live := [], position := 0,
    rtts := [], keyLease := State.resetLease, vaultLease := State.resetLease, keyMaster := false, vaultOwner := false, applied := 0, fetch := none, imageOwed := false,
    spill := 0, loadPct := 0, busy := [], peerLoad := [], peerRoles := [], heardNs := 0, markNs := 0, markDue := 0, markSum := 0, compares := [], cntRefused := 0, cntDiverge := 0, dirty := 0 }

def State.resetFaults : Faults :=
  { cause := 0, mask := 0, retired := [], causes := [], bursts := [], strikes := [], corrected := 0, poisoned := 0, poisonedLines := [], vaultLost := 0,
    log := [], logNext := 0, rebuilding := none, evacuating := false, queuedRanks := [], offRanks := [], rejoin := [] }

/-- The module right after reset. -/
def State.reset : State :=
  { clk := State.resetClock, svc := State.resetService, fns := [], rings := [], replies := [],
    pm := State.resetPartMgr, parts := [], ks := State.resetKeyStore, sess := { ctxs := [], fresh := [], freed := [] },
    prism := State.resetPrism, facets := [], engines := [], domains := State.domainsDark, fabClass := [], rng := State.resetRng,
    fw := State.resetFirmware, plat := State.resetPlatform, mbus := State.resetMbus, life := State.resetLife,
    hzn := State.resetHorizon, ilu := State.resetIluon, flt := State.resetFaults, free := 0, out := [], pending := [] }

end Sys2Proof.Machine
end

