-- ==== Sys2Proof/Machine/Ops.lean ====
section
/-! DEFINITION. The named operations over the state: sparse tables, the OTP memory, counters, causes and
vectors, serving units and shares, rings and generations. -/

namespace Sys2Proof

/-! ## Sparse tables -/

/-- The entry of key `k`, when one is listed. -/
def Tab.look {α : Type} : Tab α → Nat → Option α
  | [], _ => none
  | (j, v) :: r, k => if j = k then some v else Tab.look r k

/-- The entry of key `k`, or the default `d`. -/
def Tab.at {α : Type} (t : Tab α) (k : Nat) (d : α) : α := (Tab.look t k).getD d

/-- Store `v` under key `k`; keys stay strictly rising. -/
def Tab.put {α : Type} : Tab α → Nat → α → Tab α
  | [], k, v => [(k, v)]
  | (j, w) :: r, k, v =>
    if k < j then (k, v) :: (j, w) :: r
    else if k = j then (k, v) :: r
    else (j, w) :: Tab.put r k v

/-- Remove key `k`. -/
def Tab.del {α : Type} (t : Tab α) (k : Nat) : Tab α := t.filter (fun e => e.1 ≠ k)

/-- Keys strictly rising. -/
def Tab.ordered {α : Type} : Tab α → Bool
  | [] => true
  | [_] => true
  | (a, _) :: (b, w) :: r => decide (a < b) && Tab.ordered ((b, w) :: r)

end Sys2Proof

namespace Sys2Proof.Machine

/-! ## The OTP memory (R365)
The one addressed memory of the module: 8 KiB of one-time-programmable bytes. An unlisted address reads as it left the factory;
programming sets bits and never clears one. -/

/-- Size of the OTP in bytes. -/
def otpSize : Nat := 8192

/-- The digest of the key block in the image both slots are shipped with (R294, R296). -/
def shippedKeyDigest : Bytes :=
  padTo 32 (Config.hash 0x11 (bsub Config.shippedImage (256 + fld Config.shippedImage 0x0C 4) 2692))

/-- What an unlisted byte of the OTP reads as. Vendor key 0 is the one that signed the shipped image (R453); the other digests are
the factory's own values, which the spec does not give; the rest is blank: log entry 5. -/
def otpDefault (a : Nat) : Byte :=
  if 0x30 ≤ a ∧ a < 0x50 then shippedKeyDigest.getD (a - 0x30) 0
  else if 0x10 ≤ a ∧ a < 0xF0 then Config.factoryByte a
  else 0

/-- Byte `a` of the OTP. -/
def otpRead : List Host.Cell → Nat → Byte
  | [], a => otpDefault a
  | (b, v) :: r, a => if b = a then v else otpRead r a

/-- Store byte `v` at `a`, keeping the canonical form: addresses rising, no entry equal to what an unlisted address reads as. -/
def otpPut : List Host.Cell → Nat → Byte → List Host.Cell
  | [], a, v => if v = otpDefault a then [] else [(a, v)]
  | (b, w) :: r, a, v =>
    if a = b then (if v = otpDefault a then otpPut r a v else (a, v) :: r)
    else if a < b ∧ v ≠ otpDefault a then (a, v) :: (b, w) :: r
    else (b, w) :: otpPut r a v

/-- Program bits into byte `a`: bits are set and never cleared (R365). -/
def otpProgram (m : List Host.Cell) (a : Nat) (v : Byte) : List Host.Cell := otpPut m a (otpRead m a ||| v)

/-- Program a byte string from address `a` on. -/
def otpProgramBytes (m : List Host.Cell) (a : Nat) : Bytes → List Host.Cell
  | [] => m
  | b :: r => otpProgramBytes (otpProgram m a b) (a + 1) r

/-- Bytes `a` to `a + n - 1` of the OTP. -/
def otpBytes (m : List Host.Cell) (a n : Nat) : Bytes := (List.range n).map (fun i => otpRead m (a + i))

/-- The canonical form of the OTP memory. -/
def Memory.wf : List Host.Cell → Bool
  | [] => true
  | [(a, v)] => v != otpDefault a
  | (a, v) :: (b, w) :: r => v != otpDefault a && decide (a < b) && Memory.wf ((b, w) :: r)

/-! ## The outcome of a meaning -/

abbrev Res := Host.Outcome State Fault Refusal

/-- The meaning of an event whose guard is not met: nothing changes. -/
def stay (s : State) : Res := .next s

/-- Take `f s` when the guard holds; otherwise nothing changes. -/
def guarded (g : Bool) (f : State → State) (s : State) : Res := .next (if g then f s else s)

/-! ## Outputs and free values -/

def emit (o : Out) (s : State) : State := { s with out := s.out ++ [o] }

/-- A free value of `n` bytes, and the state with the next one pending (Config.freeBytes). -/
def takeFree (n : Nat) (s : State) : Bytes × State := (padTo n (Config.freeBytes s.free n), { s with free := s.free + 1 })

/-! ## Functions -/

/-- The function's own number and the value of a function nothing has touched. -/
def fnReset : Fn :=
  { partition := 0, ringBase := 0, ringCount := 0, mapped := false, irqCause := 0, irqMask := 0, jnlIndex := 0, jnlWindow := [],
    counters := [], stray := [], latch := [], msixTable := [], msixPend := [] }

def getFn (s : State) (f : Nat) : Fn := s.fns.at f fnReset
def setFn (s : State) (f : Nat) (x : Fn) : State := { s with fns := s.fns.put f x }
def modFn (f : Nat) (g : Fn → Fn) (s : State) : State := setFn s f (g (getFn s f))

/-- Functions are numbered 0 (PF) to 255 (R38). -/
def allFns : List Nat := List.range 256

/-- The functions, their numbers beside them. -/
def fnList (s : State) : List (Nat × Fn) := allFns.map (fun f => (f, getFn s f))

/-- Add one to a function's counter (R66). -/
def bumpFn (f off : Nat) (s : State) : State :=
  modFn f (fun x => { x with counters := x.counters.put off (satAdd 32 (x.counters.at off 0) 1) }) s

/-! ## MSI-X and vector 0 (R40, R41) -/

/-- The per-vector mask bit of the MSI-X table; its reset value is 1, as PCIe defines it. PRESUMED, log entry 8. -/
def msixMasked (x : Fn) (v : Nat) : Bool := bit (x.msixTable.at (16 * v + 12) 1).toNat 0

/-- The MSI-X message of vector `v`: its data written to its address, the words of its table entry, in order with what was written
before it (R39, R40). The words' places are PCIe's own. PRESUMED, log entry 8. -/
def msixWrite (x : Fn) (v : Nat) : LinkWrite :=
  { addr := (x.msixTable.at (16 * v) 0).toNat + 2 ^ 32 * (x.msixTable.at (16 * v + 4) 0).toNat,
    data := toLe 4 (x.msixTable.at (16 * v + 8) 0).toNat, relaxed := false }

/-- Raise vector `v` of function `f`: the message is sent, or held in the pending-bit array while the vector is masked. -/
def raiseVector (f v : Nat) (s : State) : State :=
  let x := getFn s f
  if msixMasked x v then (if x.msixPend.contains v then s else setFn s f { x with msixPend := x.msixPend ++ [v] })
  else emit (.msix f v (msixWrite x v)) s

/-- An event sets cause bits of FN_IRQ_CAUSE; vector 0 is raised for a bit that was 0 while its mask is 0 (R41). -/
def setCause (f : Nat) (c : BitVec 5) (s : State) : State :=
  let x := getFn s f
  let fresh := c &&& ~~~x.irqCause &&& ~~~x.irqMask
  let s1 := setFn s f { x with irqCause := x.irqCause ||| c }
  if fresh = 0 then s1 else raiseVector f 0 s1

def causePhase : BitVec 5 := 1
def causeDb : BitVec 5 := 2
def causeGen : BitVec 5 := 4
def causeJnl : BitVec 5 := 8
def causeSpoof : BitVec 5 := 16

/-- Set a cause on every function. -/
def setCauseAll (c : BitVec 5) (s : State) : State := allFns.foldl (fun s f => setCause f c s) s

/-- Set a cause on the functions that serve partition `p`. -/
def setCausePart (p : Nat) (c : BitVec 5) (s : State) : State :=
  (allFns.filter (fun f => (getFn s f).mapped && (getFn s f).partition == p)).foldl (fun s f => setCause f c s) s

/-- Set bits of FLT_CAUSE; vector 0 of the PF is raised for an unmasked bit that was 0 (R434). -/
def setFltCause (c : BitVec 9) (s : State) : State :=
  let fresh := c &&& ~~~s.flt.cause &&& ~~~s.flt.mask
  let s1 := { s with flt := { s.flt with cause := s.flt.cause ||| c } }
  if fresh = 0 then s1 else raiseVector 0 0 s1

/-! ## Partitions and shares (R96, R100) -/

/-- P, 0 before provisioning. -/
def partCount (s : State) : Nat := match s.pm.logP with | none => 0 | some k => 2 ^ k

/-- The divisor of every share. Before provisioning, when P is 0, partition 0 has the whole. DESIGN CHOICE, log entry 9. -/
def pDiv (s : State) : Nat := max 1 (partCount s)

def lockReset : Lock :=
  { state := .free, id := 0, ownerFn := 0, ownerGen := 0, digest := [], challenge := [], threshold := 0, officers := [],
    signed := [], bad := 0, expiry := 0 }

def vaultReset : Vault := { capacity := 0, blocks := 0, records := [], overflow := [], reserved := 0 }

/-- A partition nothing has touched: EMPTY (R113). -/
def partReset : Part :=
  { state := .empty, gen := 0, policy := [], threshold := 0, officers := [], salt := [], windows := [], lock := lockReset,
    lastCer := 0, nonces := [], nextNonce := 0, nextBackup := 0, moveOffer := none, keyOffer := none, blob := none, backup := none,
    staging := none, restore := none, drained := 0, freezeNs := 0, freezeCmd := none, vault := vaultReset, jnext := 0,
    jwrapped := false, jlap := 0, journal := [], counters := [], drbg := [], drbgCount := 0, drbgTime := 0, drbgDue := true,
    bucketOver := 0, bucketCap := 0, bucketNs := 0 }

def getPart (s : State) (p : Nat) : Part := s.parts.at p partReset
def setPart (s : State) (p : Nat) (x : Part) : State := { s with parts := s.parts.put p x }
def modPart (p : Nat) (g : Part → Part) (s : State) : State := setPart s p (g (getPart s p))

/-- Add one to a partition's counter. -/
def bumpPart (p off : Nat) (s : State) : State :=
  modPart p (fun x => { x with counters := x.counters.put off (satAdd 32 (x.counters.at off 0) 1) }) s

/-- The numbers of the partitions below P, partition 0 always among them. -/
def partNums (s : State) : List Nat := List.range (pDiv s)

/-! ## Rings (R42 to R48) -/

/-- A ring nothing has touched (R43). -/
def ringReset : Ring :=
  { sqBase := 0, cqBase := 0, enable := false, logSize := 6, vector := 1, coalCount := 0, coalTime := 0, gen := 0, sqHead := 0,
    sqTail := 0, cqHead := 0, cqTail := 0, cqPhase := true, lastSeq := 0, dbOverrun := false, badDoorbell := false, owed := 0,
    unsignalled := 0, coalNs := none, accepts := 0 }

def getRing (s : State) (g : Nat) : Ring := s.rings.at g ringReset
def setRing (s : State) (g : Nat) (x : Ring) : State := { s with rings := s.rings.put g x }
def modRing (g : Nat) (h : Ring → Ring) (s : State) : State := setRing s g (h (getRing s g))

/-- The number of the ring that carries management-bus commands (R352). -/
def busRing : Nat := 0x400

/-- The global numbers of a function's rings (R97). -/
def fnRings (x : Fn) : List Nat := (List.range x.ringCount).map (x.ringBase + ·)

/-- The functions that serve partition `p`. -/
def fnsOf (s : State) (p : Nat) : List Nat := allFns.filter (fun f => (getFn s f).mapped && (getFn s f).partition == p)

/-- Every ring of a partition. -/
def partRings (s : State) (p : Nat) : List Nat := ((fnsOf s p).map (fun f => fnRings (getFn s f))).flatten

/-- The function a global ring belongs to. -/
def ringFn (s : State) (g : Nat) : Option Nat :=
  allFns.find? (fun f => let x := getFn s f; x.mapped && decide (x.ringBase ≤ g) && decide (g < x.ringBase + x.ringCount))

/-- Ring size. -/
def ringSize (r : Ring) : Nat := 2 ^ r.logSize.toNat

/-- (a - b) modulo the ring size. -/
def ringDiff (n : Nat) (a b : BitVec 16) : Nat := (a.toNat + n - b.toNat % n) % n

/-- Completion entries the module may still write (R45, R46): a ring holds at most size - 1 entries. -/
def cqFree (r : Ring) : Nat := ringSize r - 1 - ringDiff (ringSize r) r.cqTail r.cqHead

/-! ## Units and domains (R20, R23, R77) -/

def domainReset : Domain := { on := true, off := none, draining := none, testing := false, katPass := false }
def getDomain (s : State) (d : Nat) : Domain := s.domains.at d domainReset
def setDomain (s : State) (d : Nat) (x : Domain) : State := { s with domains := s.domains.put d x }
def modDomain (d : Nat) (g : Domain → Domain) (s : State) : State := setDomain s d (g (getDomain s d))

def facetReset : Facet := { glitch := 0, timer := 0, retried := 0, resident := none, cache := [], keyRegs := [], mask := [] }
def getFacet (s : State) (n : Nat) : Facet := s.facets.at n facetReset
def modFacet (n : Nat) (g : Facet → Facet) (s : State) : State := { s with facets := s.facets.put n (g (getFacet s n)) }

def engineReset : Engine :=
  { nttBusy := false, reserved := none, mismatch := 0, parity := 0, retried := 0, busy := [], keyRegs := [], mask := [], maskUsed := 0, mem := [] }
def getEngine (s : State) (n : Nat) : Engine := s.engines.at n engineReset
def modEngine (n : Nat) (g : Engine → Engine) (s : State) : State := { s with engines := s.engines.put n (g (getEngine s n)) }

/-- The domain of a unit (R20). -/
def unitDomain : UnitId → Nat
  | .core n => if n.val < 2 then 2 else 2 + n.val / 2
  | .facet n => 6 + n.val / 4
  | .engine n => 18 + n.val / 4

/-- The channel a unit is, kinds numbered as DEVICE_REQUALIFY names them (R285). A control core is no channel: kind 0. -/
def unitChannel : UnitId → Channel
  | .core n => { kind := 0, index := n.val }
  | .facet n => { kind := 1, index := n.val }
  | .engine n => { kind := 2, index := n.val }

def chanKey (c : Channel) : Nat := c.kind * 256 + c.index

/-- Whether a channel is retired in the fault map (R427). -/
def chanRetired (s : State) (c : Channel) : Bool := (s.flt.retired.look (chanKey c)).isSome

/-- Whether a unit serves: its domain is on, not draining and has passed its known-answer tests, and it is not retired
(R22, R23). In Dawn the island alone serves commands; core 0 stands for it. DEDUCED, log entry 11. -/
def unitServes (s : State) (u : UnitId) : Bool :=
  let d := getDomain s (unitDomain u)
  match u with
  | .core n => if s.life.halted.contains n.val then false else if s.svc.phase == .dawn then n.val == 0 else d.on && d.draining.isNone && d.katPass
  | .facet _ => d.on && d.draining.isNone && d.katPass && !chanRetired s (unitChannel u)
  | .engine _ => d.on && d.draining.isNone && d.katPass && !chanRetired s (unitChannel u)

/-- FACET_STAT.STATE and PKE_STAT.STATE (R187, R211). -/
def unitState (s : State) (u : UnitId) : UnitState :=
  let d := getDomain s (unitDomain u)
  if chanRetired s (unitChannel u) then .retired
  else if !d.on then .gated
  else if !d.katPass then .testing
  else .serving

def allUnits : UnitKind → List UnitId
  | .core => (List.finRange 8).map .core
  | .facet => (List.finRange 48).map .facet
  | .engine => (List.finRange 16).map .engine

/-- N_k of R101: units of a kind now serving. -/
def servingCount (s : State) (k : UnitKind) : Nat := ((allUnits k).filter (unitServes s)).length

def unitKind : UnitId → UnitKind
  | .core _ => .core | .facet _ => .facet | .engine _ => .engine

def kindNum : UnitKind → Nat
  | .core => 0 | .facet => 1 | .engine => 2

def unitIndex : UnitId → Nat
  | .core n => n.val | .facet n => n.val | .engine n => n.val

/-! ## Phases (R25, R30) -/

def phaseNum : Phase → Nat
  | .dark => 0 | .dawn => 1 | .overcast => 2 | .clear => 3

/-- The domains that have known-answer tests: the groups of the table of R22. DEDUCED, log entry 99. -/
def testedDomains : List Nat := (List.range 20).map (· + 2) ++ [27, 28]

/-- Every switched-on domain has passed its known-answer tests (R22, R30). -/
def katDone (s : State) : Bool :=
  s.svc.phase != .dark && testedDomains.all (fun d => !(getDomain s d).on || (getDomain s d).katPass)

/-! ## Trace (R81 to R83) -/

/-- The flow field of a trace record. -/
def flowField (f : Flow) (c : CmdRef) : Nat :=
  match f with
  | .session i => i % 2 ^ 22
  | _ => 2 ^ 31 + c.idx % 2 ^ 16

/-- Fabric cycles: 1.2 GHz (R16). -/
def fabricCycles (s : State) : Nat := s.clk.ns * 6 / 5

/-- Whether `n` bytes at `a` lie wholly within one valid window of a partition (R99, R104). -/
def inWindow (s : State) (p a n : Nat) : Bool :=
  (getPart s p).windows.any (fun w => w.2.valid && decide (w.2.base.toNat * 4096 ≤ a) && decide (a + n ≤ (w.2.limit.toNat + 1) * 4096))

/-- Write one trace record when tracing, filter and mask allow; a full buffer drops it and counts it in TRC_LOST (R81). A record
that would not lie within the windows of the PF's partition is not written and counts as lost: DESIGN CHOICE, log entry 100. -/
def traceRec (event unit part flags : Nat) (tail : Bytes) (s : State) : State :=
  let t := s.prism
  if !t.trcOn || !(bit t.trcMask.toNat (event - 1)) then s
  else if t.trcFilter && event != 7 && t.trcPart.toNat != part then s
  else
    let size := 2 ^ t.trcLog.toNat
    let next := (t.trcWrite.toNat + 1) % size
    let w : LinkWrite :=
      { addr := t.trcBase.toNat * 4096 + 16 * (t.trcWrite.toNat % size),
        data := toLe 4 (fabricCycles s) ++ toLe 1 event ++ toLe 1 unit ++ toLe 1 part ++ toLe 1 flags ++ padTo 8 tail, relaxed := false }
    if t.trcFull || !inWindow s 0 w.addr 16 then { s with prism := { t with trcLost := satAdd 32 t.trcLost 1 } }
    else emit (.trace t.trcWrite.toNat w.data w)
           { s with prism := { t with trcWrite := BitVec.ofNat 24 next, trcFull := next == t.trcRead.toNat % size } }

/-- The UNIT byte of a trace record (R83). -/
def unitByte : Option UnitId → Nat
  | none => 3 * 64
  | some u => kindNum (unitKind u) * 64 + unitIndex u

/-! ## Commands in flight -/

def findCmd (s : State) (r : CmdRef) : Option Cmd := s.prism.cmds.find? (fun c => c.ref == r)

def setCmds (s : State) (l : List Cmd) : State := { s with prism := { s.prism with cmds := l } }

/-- Change one command in flight. -/
def modCmd (r : CmdRef) (g : Cmd → Cmd) (s : State) : State :=
  setCmds s (s.prism.cmds.map (fun c => if c.ref == r then g c else c))

def dropCmd (r : CmdRef) (s : State) : State := setCmds s (s.prism.cmds.filter (fun c => !(c.ref == r)))

/-- Give a command its result, unless it has one. -/
def setResult (r : CmdRef) (st : Status) (reply : Bytes) (s : State) : State :=
  modCmd r (fun c => if c.result.isSome then c else { c with result := some { status := st, reply := reply } }) s

/-! ## Time (R380, R447) -/

/-- Horizon ticks of 1/32,768 s in `n` seconds. -/
def secTicks (n : Nat) : Nat := 32768 * n

/-- Horizon time that lies `n` seconds ahead. -/
def hznPlus (s : State) (n : Nat) : BitVec 64 := s.hzn.time + BitVec.ofNat 64 (secTicks n)

end Sys2Proof.Machine
end

