-- ==== Sys2Proof/Machine/Crypto.lean ====
section
/-! DEFINITION. Digests, MACs, block modes, GCM and the key wrapping built on the primitives of Config
(R136, R145 to R147, R166 to R169, R182, R208). -/

namespace Sys2Proof.Machine

/-! ## Digests and HMAC (R169) -/

def digestLen (code : Nat) : Nat :=
  match code with
  | 0x01 => 28 | 0x02 => 32 | 0x03 => 48 | 0x04 => 64 | 0x05 => 32 | 0x11 => 32 | 0x12 => 48 | 0x13 => 64
  | _ => 0

/-- Input block of a digest in bytes, as HMAC pads its key to. -/
def digestBlock (code : Nat) : Nat :=
  match code with
  | 0x01 => 64 | 0x02 => 64 | 0x03 => 128 | 0x04 => 128 | 0x05 => 128 | 0x11 => 136 | 0x12 => 104 | 0x13 => 72
  | _ => 64

def digestCode (code : Nat) : Bool := digestLen code != 0

def hashOf (code : Nat) (m : Bytes) : Bytes := padTo (digestLen code) (Config.hash code m)

def sha256 (m : Bytes) : Bytes := hashOf 0x02 m
def sha3_256 (m : Bytes) : Bytes := hashOf 0x11 m
def sha3_384 (m : Bytes) : Bytes := hashOf 0x12 m
def sha3_512 (m : Bytes) : Bytes := hashOf 0x13 m

/-- HMAC; a key longer than the block is hashed first (R169). -/
def hmac (code : Nat) (key m : Bytes) : Bytes :=
  let k := padTo (digestBlock code) (if digestBlock code < key.length then hashOf code key else key)
  hashOf code (k.map (· ^^^ 0x5C) ++ hashOf code (k.map (· ^^^ 0x36) ++ m))

/-! ## Block ciphers -/

/-- Block size of a key ALG: 8 for TDES, 16 for AES (R166). -/
def blkSize (alg : BitVec 8) : Nat := if alg == 0x01 || alg == 0x02 then 8 else 16

def blkEnc (alg : BitVec 8) (key b : Bytes) : Bytes :=
  if alg == 0x01 || alg == 0x02 then padTo 8 (Config.tdesEnc key b) else padTo 16 (Config.aesEnc key b)

def blkDec (alg : BitVec 8) (key b : Bytes) : Bytes :=
  if alg == 0x01 || alg == 0x02 then padTo 8 (Config.tdesDec key b) else padTo 16 (Config.aesDec key b)

/-! ## Modes (R166, R167): each over a whole message -/

def ecb (enc : Bool) (alg : BitVec 8) (key : Bytes) : List Bytes → Bytes
  | [] => []
  | b :: r => (if enc then blkEnc alg key b else blkDec alg key b) ++ ecb enc alg key r

def cbcEnc (alg : BitVec 8) (key : Bytes) : Bytes → List Bytes → Bytes
  | _, [] => []
  | iv, b :: r => let c := blkEnc alg key (bxor iv b); c ++ cbcEnc alg key c r

def cbcDec (alg : BitVec 8) (key : Bytes) : Bytes → List Bytes → Bytes
  | _, [] => []
  | iv, c :: r => bxor iv (blkDec alg key c) ++ cbcDec alg key c r

/-- CFB with full blocks; a last partial block uses the leading keystream bytes. -/
def cfbFull (enc : Bool) (alg : BitVec 8) (key : Bytes) : Bytes → List Bytes → Bytes
  | _, [] => []
  | iv, b :: r => let o := bxor b (blkEnc alg key iv); o ++ cfbFull enc alg key (if enc then o else b) r

/-- CFB-8: one byte a step, the shift register dropping its first byte. -/
def cfb8 (enc : Bool) (alg : BitVec 8) (key : Bytes) : Bytes → Bytes → Bytes
  | _, [] => []
  | iv, b :: r =>
    let o := b ^^^ (blkEnc alg key iv).headD 0
    o :: cfb8 enc alg key (iv.drop 1 ++ [if enc then o else b]) r

def ofb (alg : BitVec 8) (key : Bytes) : Bytes → List Bytes → Bytes
  | _, [] => []
  | iv, b :: r => let k := blkEnc alg key iv; bxor b k ++ ofb alg key k r

/-- The counter block increments as one big-endian integer over the whole block (R167). -/
def ctrNext (c : Bytes) : Bytes := toBe c.length (beNat c + 1)

def ctr (alg : BitVec 8) (key : Bytes) : Bytes → List Bytes → Bytes
  | _, [] => []
  | c, b :: r => bxor b (blkEnc alg key c) ++ ctr alg key (ctrNext c) r

/-- GCM's counter: the low 32 bits alone increment. -/
def gcmNext (c : Bytes) : Bytes := c.take 12 ++ toBe 4 (beNat (c.drop 12) + 1)

def gctr (key : Bytes) : Bytes → List Bytes → Bytes
  | _, [] => []
  | c, b :: r => bxor b (blkEnc 0x12 key c) ++ gctr key (gcmNext c) r

def gcmJ0 (iv : Bytes) : Bytes := padTo 12 iv ++ [0, 0, 0, 1]

/-- GCM over a whole text, in either direction: the text under the counter that follows J0. -/
def gcmText (key iv text : Bytes) : Bytes := gctr key (gcmNext (gcmJ0 iv)) (chunks 16 text)

def gcmTag (key iv aad ct : Bytes) : Bytes :=
  let h := blkEnc 0x12 key (zeros 16)
  bxor (blkEnc 0x12 key (gcmJ0 iv)) (padTo 16 (Config.ghash h aad ct))

def gcmSeal (key iv aad pt : Bytes) : Bytes × Bytes :=
  let ct := gcmText key iv pt
  (ct, gcmTag key iv aad ct)

/-- The plaintext, when the tag (cut to its own length) agrees. -/
def gcmOpen (key iv aad ct tag : Bytes) : Option Bytes :=
  if (gcmTag key iv aad ct).take tag.length = tag then some (gcmText key iv ct) else none

/-- A mode of R166 over a whole stream, by its code; GCM text only and FF1 apart. -/
def modeRun (mode : Nat) (enc : Bool) (alg : BitVec 8) (key iv data : Bytes) : Bytes :=
  let n := blkSize alg
  let v := padTo n iv
  match mode with
  | 1 => ecb enc alg key (chunks n data)
  | 2 => if enc then cbcEnc alg key v (chunks n data) else cbcDec alg key v (chunks n data)
  | 3 => cfb8 enc alg key v data
  | 4 => cfbFull enc alg key v (chunks n data)
  | 5 => ofb alg key v (chunks n data)
  | 6 => ctr alg key v (chunks n data)
  | 7 => gcmText key (padTo 12 iv) data
  | _ => []

/-! ## CMAC (R168, R169) -/

/-- Doubling in GF(2^64) or GF(2^128), as NIST SP 800-38B defines it. -/
def gfDouble (b : Bytes) : Bytes :=
  let n := b.length
  let v := beNat b * 2
  let p := if n = 8 then 0x1B else 0x87
  if v < 2 ^ (8 * n) then toBe n v else toBe n ((v % 2 ^ (8 * n)) ^^^ p)

/-- CBC-MAC from a zero chaining value. -/
def cbcMac (alg : BitVec 8) (key : Bytes) : Bytes → List Bytes → Bytes
  | c, [] => c
  | c, b :: r => cbcMac alg key (blkEnc alg key (bxor c b)) r

def cmac (alg : BitVec 8) (key m : Bytes) : Bytes :=
  let n := blkSize alg
  let k1 := gfDouble (blkEnc alg key (zeros n))
  let bl := chunks n m
  let last := bl.getLast?.getD []
  let fin := if last.length = n then bxor last k1 else bxor (padTo n (last ++ [0x80])) (gfDouble k1)
  cbcMac alg key (zeros n) (bl.dropLast ++ [fin])

/-! ## FF1 (R167) -/

/-- FF1 on one value; the result has as many symbols, each below the radix. -/
def ff1Value (enc : Bool) (key : Bytes) (radix : Nat) (tweak : Bytes) (v : List Nat) : List Nat :=
  let o := Config.ff1 enc key radix tweak v
  (List.range v.length).map (fun i => o.getD i 0 % radix)

/-- The symbols of a value: two bytes each, little-endian. -/
def symsOf (b : Bytes) : List Nat := (chunks 2 b).map leNat
def symBytes (l : List Nat) : Bytes := (l.map (toLe 2)).flatten

/-! ## Check values and derivations (R136, R146, R182, R208) -/

/-- Check value: 3 bytes for TDES and AES keys; other keys have none (R146). -/
def kcv (alg : BitVec 8) (key : Bytes) : Option Bytes :=
  if alg == 0x01 || alg == 0x02 then some ((blkEnc alg key (zeros 8)).take 3)
  else if alg == 0x10 || alg == 0x11 || alg == 0x12 then some ((cmac alg key (zeros 16)).take 3)
  else none

/-- KEK of a partition under MWK generation `g` (R136). -/
def kekOf (mwk : Bytes) (g : BitVec 8) (salt : Bytes) : Bytes := hmac 0x11 mwk (ascii "ULGUS-KEK" ++ [g] ++ salt)

/-- CTXK of a partition (R182). -/
def ctxkOf (ctxk : Bytes) (p : Nat) : Bytes := hmac 0x11 ctxk (ascii "ULGUS-CTX" ++ toLe 1 p)

/-- The one-step derivation of an output key (R208). -/
def deriveOut (z info : Bytes) (n : Nat) : Bytes :=
  (sha3_256 (toBe 4 1 ++ z ++ info) ++ sha3_256 (toBe 4 2 ++ z ++ info)).take n

/-! ## The expander (R216, R218) -/

def drbgGen (st : Bytes) (n : Nat) : Bytes × Bytes := (padTo n (Config.drbgOut st [] n), Config.drbgNext st [] n)

/-- A command's draw stream from its draw seed: Generate calls of 65,536 B, of which the first `off` bytes are used (R218). -/
def drawCalls : Nat → Bytes → Bytes
  | 0, _ => []
  | k + 1, st => padTo 65536 (Config.drbgOut st [] 65536) ++ drawCalls k (Config.drbgNext st [] 65536)

/-- Bytes `off` to `off + n - 1` of the draw stream. -/
def drawBytes (seed : Bytes) (off n : Nat) : Bytes :=
  bsub (drawCalls ((off + n + 65535) / 65536) (Config.drbgInit seed)) off n

end Sys2Proof.Machine
end

