-- ==== Sys2Proof/Machine/Faults.lean ====
section
/-! DEFINITION. Fault classes, strikes, retirement and poisoned lines (R77, R424 to R432). -/

namespace Sys2Proof.Machine

/-! ## Items in service -/

/-- Change item `i` of a command. -/
def modItem (r : CmdRef) (i : Nat) (g : Item → Item) (s : State) : State :=
  modCmd r (fun c => { c with items := c.items.modify i g }) s

/-- The items a unit serves, by command and index: one, or on an engine as many as its lanes hold (R159, R190). -/
def itemsOn (s : State) (u : UnitId) : List (CmdRef × Nat) :=
  (s.prism.cmds.map (fun c => (c.items.zipIdx.filter (fun e => e.1.state == .inService u)).map (fun e => (c.ref, e.2)))).flatten

/-- The first item a unit serves. -/
def itemOn (s : State) (u : UnitId) : Option (CmdRef × Nat) := (itemsOn s u).head?

/-- An item goes back to wait for another unit: the keys it had loaded went with the key registers it left, so every load of it is made
again, and it is ready when they are done (R134, R161, R199). -/
def putBack (now : Nat) (it : Item) : Item :=
  { it with state := .waiting, readyNs := if it.loads.isEmpty then some now else none, unheld := true, aged := false, marked := false,
            loads := it.loads.map (fun l => { l with done := false, source := none, share := [], mask := [] }) }

/-- R77: a removed unit is cleared from every affinity, its key registers and resident context are cleared, and an item in
service there is dispatched again from saved state on another unit, which counts as no retry. The
trace record concerns no partition, flow or item and carries 0 for each, so a filter on another partition drops it: DESIGN CHOICE, log
entry 106. -/
def removeUnit (u : UnitId) (s : State) : State :=
  let s := { s with prism := { s.prism with affinity := s.prism.affinity.filter (fun a => !(a.2 == u)) } }
  let s := (itemsOn s u).foldl (fun s e => modItem e.1 e.2 (fun it => { putBack s.clk.ns it with redispatch := true }) s) s
  let s := match u with
    | .core _ => s
    | .facet n => modFacet n.val (fun f => { f with resident := none, cache := [], keyRegs := [] }) s
    | .engine n => modEngine n.val (fun e => { e with nttBusy := false, reserved := none, busy := [], keyRegs := [] }) s
  traceRec 6 (unitByte (some u)) 0 0 [] s

/-! ## The fault log and strikes -/

/-- Write a record of the fault log (R434). -/
def faultLog (kind event index line : Nat) (s : State) : State :=
  let r : FaultRec := { kind := BitVec.ofNat 4 kind, event := BitVec.ofNat 4 event, index := BitVec.ofNat 8 index,
                        line := BitVec.ofNat 32 line, time := s.hzn.time }
  { s with flt := { s.flt with log := s.flt.log.put s.flt.logNext.toNat r, logNext := s.flt.logNext + 1 } }

/-- A retirement or a domain change during DEVICE_CALIBRATE ends it with ABORTED, and nothing is stored (R286). -/
def abortCalibration (s : State) : State :=
  match s.hzn.calCmd with
  | none => s
  | some r => setResult r stAborted [] { s with hzn := { s.hzn with calCmd := none } }

/-- The units of a domain (R20). -/
def domainUnits (d : Nat) : List UnitId :=
  (allUnits .core ++ allUnits .facet ++ allUnits .engine).filter (fun u => unitDomain u == d)

/-- Whether every channel of a domain is retired; a domain without channels never is. Iluon domains hold four lanes
(R398), and the memory-port domains eight ranks each, which a retirement switches off once they are evacuated (R431, R432). -/
def domainRetired (s : State) (d : Nat) : Bool :=
  let ranks (l : List Nat) : Bool := l.all (fun r => chanRetired s { kind := 6, index := r } && s.flt.offRanks.contains r)
  if d == 24 then ranks [0, 1, 2, 3, 4, 5, 6, 7]
  else if d == 25 then ranks [8, 9, 10, 11, 12, 13, 14, 15]
  else if d == 27 then (List.range 4).all (fun l => chanRetired s { kind := 3, index := l })
  else if d == 28 then (List.range 4).all (fun l => chanRetired s { kind := 3, index := 4 + l })
  else decide (6 ≤ d) && decide (d ≤ 21) && (domainUnits d).all (fun u => chanRetired s (unitChannel u))

/-- The island gates a domain whose every channel is retired (R20, R463). -/
def gateIfRetired (d : Nat) (s : State) : State :=
  if domainRetired s d && (getDomain s d).on then
    modDomain d (fun x => { x with on := false, off := some .retired, draining := none, testing := false, katPass := false }) s
  else s

/-- Start the retirement of a memory rank, or queue it behind one that runs (R432). -/
def startRankRetire (r : Nat) (s : State) : State :=
  if s.flt.rebuilding.isSome || s.flt.evacuating then { s with flt := { s.flt with queuedRanks := s.flt.queuedRanks ++ [r] } }
  else { s with flt := { s.flt with rebuilding := some r, evacuating := r == 0 } }

/-- What retirement takes away (R426): an Iluon port retrains on its remaining lanes, and ILUON_LINK_UP ends that; a flash port is asked for its
retirement wherever the island would read it. -/
def retireEffect (c : Channel) (s : State) : State :=
  match c.kind with
  | 1 =>
    if h : c.index < 48 then
      let u := UnitId.facet ⟨c.index, h⟩
      gateIfRetired (unitDomain u) (removeUnit u s)
    else s
  | 2 =>
    if h : c.index < 16 then
      let u := UnitId.engine ⟨c.index, h⟩
      gateIfRetired (unitDomain u) (removeUnit u s)
    else s
  | 3 =>
    let m : BitVec 4 := 1#4 <<< (c.index % 4)
    let drop (p : IluonPort) : IluonPort :=
      { p with retiredLanes := p.retiredLanes ||| m, up := false, lanes := 0, train := [], unacked := [], naks := 0 }
    let s := if c.index < 4 then { s with ilu := { s.ilu with west := drop s.ilu.west } }
             else { s with ilu := { s.ilu with east := drop s.ilu.east } }
    gateIfRetired (27 + c.index / 4) s
  | 5 =>
    { s with mbus := { s.mbus with ports := s.mbus.ports.modify c.index (fun p => { p with retired := true, backoff := none }) } }
  | 6 => startRankRetire c.index s
  | _ => s

/-- Retire a channel for a cause, 1 for three transient faults and 2 for a failed self-test: the fault map is written in both NOR devices first, then the effect of R426 follows (R425 to R427). -/
def retire (cause : Nat) (c : Channel) (s : State) : State :=
  if chanRetired s c then s
  else
    let s := { s with flt := { s.flt with retired := s.flt.retired.put (chanKey c) s.hzn.time, causes := s.flt.causes.put (chanKey c) cause } }
    let s := retireEffect c s
    let s := faultLog c.kind 2 c.index 0 s
    setFltCause 2 (abortCalibration s)

/-- A failed built-in self-test makes the fault permanent (R425). -/
def selfTestFail (c : Channel) (s : State) : State := retire 2 c (faultLog c.kind 5 c.index 0 s)

/-- Count one transient fault; the third within 1 s of Horizon time retires the channel (R424, R425). -/
def transient (c : Channel) (s : State) : State :=
  if chanRetired s c then s
  else
    let old := (s.flt.strikes.at (chanKey c) []).filter (fun t => decide (s.hzn.time.toNat - t.toNat < 32768))
    let l := old ++ [s.hzn.time]
    let s := { s with flt := { s.flt with strikes := s.flt.strikes.put (chanKey c) l } }
    let s := setFltCause 1 (faultLog c.kind 1 c.index 0 s)
    if 3 ≤ l.length then retire 1 c s else s

/-! ## Poisoned lines (R430) -/

/-- Count a newly poisoned line and log it with its line number. -/
def countPoison (line : BitVec 32) (s : State) : State :=
  if s.flt.poisonedLines.contains line then s
  else
    let s := { s with flt := { s.flt with poisonedLines := s.flt.poisonedLines ++ [line], poisoned := satAdd 32 s.flt.poisoned 1 } }
    setFltCause 4 (faultLog 0 4 0 line.toNat s)

end Sys2Proof.Machine
end

