-- ==== Sys2Proof/Machine/Link.lean ====
section
/-! DEFINITION. Iluon ports, the frames they carry, and the sending and passing on of messages (R398 to R404, R407). -/

namespace Sys2Proof.Machine

/-! ## Ports (R398, R401) -/

def iluPort (s : State) (east : Bool) : IluonPort := if east then s.ilu.east else s.ilu.west
def setIlu (i : Iluon) (s : State) : State := { s with ilu := i }
def modIlu (g : Iluon → Iluon) (s : State) : State := { s with ilu := g s.ilu }
def modPort (east : Bool) (g : IluonPort → IluonPort) (s : State) : State :=
  modIlu (fun i => if east then { i with east := g i.east } else { i with west := g i.west }) s

/-- The port's domain (R398). -/
def portDomain (east : Bool) : Nat := if east then 28 else 27

/-- ILN_PORT.STATE: 0 down, 1 up, 2 retired, 3 gated (R422). -/
def portStateNum (s : State) (east : Bool) : Nat :=
  let p := iluPort s east
  if p.retiredLanes = 0xF then 2 else if !(getDomain s (portDomain east)).on then 3 else if p.up then 1 else 0

/-- Lanes a port may train: 4, 2 or 1 of those not retired (R398). -/
def lanesLeft (p : IluonPort) : Nat :=
  let n := 4 - ((List.range 4).filter (fun k => bit p.retiredLanes.toNat k)).length
  if n = 3 then 2 else n

/-- A transient fault of the port, which is no channel of its own: it is logged and reported (R401, R402). -/
def portFault (east : Bool) (s : State) : State := setFltCause 1 (faultLog 3 1 (4 * b2n east) 0 s)

/-- The ring position of the neighbour on a port; the two modules of a pair outside a formed ring are 0 and 1 (R403). -/
def nextTo (s : State) (east : Bool) : Nat :=
  if s.ilu.formed then (s.ilu.position + (if east then 1 else s.ilu.members - 1)) % max 1 s.ilu.members else 1 - s.ilu.position

/-! ## Frames (R399, R402) -/

/-- The 16 bytes that begin a frame: TYPE, FLAGS, SRC, DST, LEN, LINK_SEQ and CLAIM. -/
def frameHead (typ flags src dst len seq : Nat) (claim : BitVec 64) : Bytes :=
  toLe 1 typ ++ toLe 1 flags ++ toLe 1 src ++ toLe 1 dst ++ toLe 2 len ++ toLe 2 seq ++ toLe 8 claim.toNat

/-- A whole frame: `body` is the encrypted payload with its TAG, and CRC covers every byte before it. -/
def linkFrame (typ flags src dst len : Nat) (seq : BitVec 16) (claim : BitVec 64) (body : Bytes) : Bytes :=
  let b := frameHead typ flags src dst len seq.toNat claim ++ body
  b ++ toLe 4 (crc32 b).toNat

/-- FLAGS: BROADCAST, WESTWARD, REFLECTED and MORE. -/
def frameFlags (dst : Nat) (east more : Bool) : Nat := b2n (dst == 0xFF) + 2 * b2n (!east) + 8 * b2n more

/-- A frame between the modules of a pair. LEAVE and RESYNC travel in pairs and in rings: to the partner, under the pair's key. -/
def pairFrame (s : State) (typ dst : Nat) : Bool :=
  (decide (0x10 ≤ typ) && decide (typ ≤ 0x13)) || ((typ == 0x14 || typ == 0x50) && s.ilu.paired && dst == nextTo s s.ilu.pairPort)

/-- PK for pair frames, RK for every other. -/
def frameKey (s : State) (typ dst : Nat) : Bytes := if pairFrame s typ dst then s.ilu.pairKey else s.ilu.ringKey

/-- SRC, the frame counter, TYPE and two zero bytes. -/
def frameNonce (s : State) (typ : Nat) : Bytes := toLe 1 s.ilu.position ++ toLe 8 s.ilu.counter.toNat ++ toLe 1 typ ++ zeros 2

/-- A payload as it travels, with its TAG: one value of the frame counter is used, and LINK_SEQ is zero in the additional data. An empty payload has
no TAG. -/
def sealPayload (typ flags src dst : Nat) (claim : BitVec 64) (payload : Bytes) (s : State) : Bytes × State :=
  if payload.isEmpty then ([], s)
  else
    let (ct, tag) := gcmSeal (frameKey s typ dst) (frameNonce s typ) (frameHead typ flags src dst payload.length 0 claim) payload
    (ct ++ tag, modIlu (fun i => { i with counter := i.counter + 1 }) s)

/-! ## Sending (R399 to R401) -/

/-- Put one frame on a port: it takes the port's next LINK_SEQ and stays in the replay buffer. -/
def putFrame (east : Bool) (typ flags src dst len : Nat) (claim : BitVec 64) (body : Bytes) (s : State) : State :=
  let q := (iluPort s east).sendSeq
  let b := linkFrame typ flags src dst len q claim body
  modPort east (fun p => { p with sendSeq := p.sendSeq + 1, unacked := p.unacked ++ [(q, b)], idleNs := s.clk.ns }) (emit (.iluon east b) s)

/-- Send one frame of this module's own. -/
def sendPiece (east : Bool) (typ dst : Nat) (claim : BitVec 64) (more : Bool) (payload : Bytes) (s : State) : State :=
  let flags := frameFlags dst east more
  let (body, s) := sealPayload typ flags s.ilu.position dst claim payload s
  putFrame east typ flags s.ilu.position dst payload.length claim body s

/-- Send a train: every frame but the last has MORE set. -/
def sendTrain (east : Bool) (typ dst : Nat) (claim : BitVec 64) : List Bytes → State → State
  | [], s => s
  | [b], s => sendPiece east typ dst claim false b s
  | b :: r, s => sendTrain east typ dst claim r (sendPiece east typ dst claim true b s)

/-- A message as its frames carry it: pieces of at most 4,096 bytes. -/
def framePieces (payload : Bytes) : List Bytes := if payload.isEmpty then [[]] else chunks 4096 payload

/-- Send a message on a port. Nothing leaves on a port whose link is down. -/
def sendFrame (east : Bool) (typ dst : Nat) (claim : BitVec 64) (payload : Bytes) (s : State) : State :=
  if (iluPort s east).up then sendTrain east typ dst claim (framePieces payload) s else s

/-- LINK_ACK and LINK_NAK, which name a LINK_SEQ and carry nothing: they take none of their own and enter no replay buffer (R399, R401). -/
def sendHop (east : Bool) (typ : Nat) (seq : BitVec 16) (s : State) : State :=
  emit (.iluon east (linkFrame typ (frameFlags 0 east false) s.ilu.position (nextTo s east) 0 seq s.ilu.claim [])) s

/-- How many ways a broadcast leaves: one in a ring, and on a line every port that is up. -/
def ways (s : State) : Nat :=
  if s.ilu.west.up && s.ilu.east.up then (if s.ilu.line then 2 else 1) else b2n s.ilu.west.up + b2n s.ilu.east.up

/-- Broadcast: eastwards in a ring, in both directions on a line (R403). -/
def broadcast (typ : Nat) (claim : BitVec 64) (payload : Bytes) (s : State) : State :=
  let s' := sendFrame true typ 0xFF claim payload s
  if s.ilu.west.up && s.ilu.east.up && !s.ilu.line then s' else sendFrame false typ 0xFF claim payload s'

/-- Send to one member: eastwards in a ring, in both directions on a line. -/
def sendTo (n typ : Nat) (claim : BitVec 64) (payload : Bytes) (s : State) : State :=
  let s' := sendFrame true typ n claim payload s
  if s.ilu.west.up && s.ilu.east.up && !s.ilu.line then s' else sendFrame false typ n claim payload s'

/-- Send to the partner, on the port the pair was made on or the other (R407). -/
def sendPartner (typ : Nat) (payload : Bytes) (s : State) : State :=
  let e := s.ilu.pairPort
  sendFrame (if (iluPort s e).up then e else !e) typ (nextTo s e) s.ilu.claim payload s

/-! ## Frames of others (R399, R403) -/

def isBroadcast (f : Frame) : Bool := bit f.flags.toNat 0
def isReflected (f : Frame) : Bool := bit f.flags.toNat 2

/-- A frame this module sent. -/
def ownFrame (s : State) (f : Frame) : Bool := f.src == s.ilu.position && (s.ilu.formed || (s.ilu.members == 0 && s.ilu.paired))

/-- A frame of this module comes back from the end of a line, and the line's other side has not had it. -/
def uncovered (s : State) (f : Frame) : Bool := ownFrame s f && isReflected f && !s.ilu.line && (iluPort s (!f.port)).up

/-- Whether a frame comes from the partner of a pair that stands: on the pair's port, and on either where the pair stands alone (R403,
R413). -/
def fromPartner (s : State) (f : Frame) : Bool := s.ilu.paired && (f.port == s.ilu.pairPort || s.ilu.members == 0)

/-- A frame is addressed to this module: HEARTBEAT to the neighbour, a broadcast to all, and any other to its DST; before a ring is formed its
partner's frames are. -/
def addressedHere (s : State) (f : Frame) (typ : Nat) : Bool :=
  typ == 1 || isBroadcast f || f.dst == s.ilu.position || (!s.ilu.formed && pairFrame s typ f.dst && fromPartner s f)

/-- A frame is acted on: it is addressed here, and it is neither a broadcast that has been acted on before its reflection nor one of the module's own
but a TIME_MARK or LEASE that has been round. -/
def acts (s : State) (f : Frame) (typ : Nat) : Bool :=
  addressedHere s f typ &&
  (typ == 1 || (if ownFrame s f then (typ == 0x02 || typ == 0x20) && !uncovered s f else !(isBroadcast f && isReflected f)))

/-- Put a frame of another member on a port again: only LINK_SEQ, CRC and REFLECTED change. -/
def reframe (east : Bool) (flags : Nat) (f : Frame) (typ : Nat) (body : Bytes) (len : Nat) (s : State) : State :=
  putFrame east typ flags f.src f.dst len f.claim body s

/-- Pass a frame on with this body: out of the other port, or back from the end of a line with REFLECTED set if it is a broadcast that has not been
reflected. -/
def onwards (f : Frame) (typ : Nat) (body : Bytes) (len : Nat) (s : State) : State :=
  if (iluPort s (!f.port)).up then reframe (!f.port) f.flags.toNat f typ body len s
  else if isBroadcast f && !isReflected f then reframe f.port (f.flags.toNat + 4) f typ body len s
  else s

/-- What becomes of a frame that does not end here. The module's own is taken off, and shows by REFLECTED whether the ring is a line; one that has not
covered the line goes on to its other side. -/
def passOn (f : Frame) (typ : Nat) (s : State) : State :=
  if uncovered s f then
    reframe (!f.port) (f.flags.toNat - 4) f typ f.body f.payload.length (modIlu (fun i => { i with line := true }) s)
  else if ownFrame s f then modIlu (fun i => { i with line := isReflected f && i.line }) s
  else onwards f typ f.body f.payload.length s

end Sys2Proof.Machine
end

