-- ==== Sys2Proof/Machine/KeyOps.lean ====
section
/-! DEFINITION. Key references, versions, rewrites and destruction (R122 to R142, R154, R157). -/

namespace Sys2Proof.Machine

/-! ## References (R122, R123) -/

def refKind (r : BitVec 32) : Nat := bits r.toNat 31 30
def refIndex (r : BitVec 32) : Nat := bits r.toNat 25 0
def isOnDie (r : BitVec 32) : Bool := refKind r == 1
def isCached (r : BitVec 32) : Bool := refKind r == 2

/-- A partition's share of the tier a reference names (R124). -/
def refShare (s : State) (r : BitVec 32) : Nat := if isOnDie r then 65536 / pDiv s else 67108864 / pDiv s

/-- Form and share of a reference (R122). -/
def refForm (s : State) (r : BitVec 32) : Bool :=
  (isOnDie r || isCached r) && bits r.toNat 29 26 == 0 && decide (refIndex r < refShare s r)

/-- The physical slot or record of a reference (R123). -/
def physical (s : State) (p : Nat) (r : BitVec 32) : Nat := refIndex r * pDiv s + p

/-! ## Attribute records (R126) -/

def attrOf (b : Bytes) : Attr :=
  { alg := BitVec.ofNat 8 (fld b 0 1), cls := BitVec.ofNat 8 (fld b 1 1), bits := BitVec.ofNat 16 (fld b 2 2),
    usage := BitVec.ofNat 32 (fld b 4 4), x9Usage := padTo 2 (bsub b 8 2), mode := BitVec.ofNat 8 (fld b 10 1),
    export_ := BitVec.ofNat 8 (fld b 11 1), span := BitVec.ofNat 8 (fld b 12 1), algPub := BitVec.ofNat 8 (fld b 13 1),
    keyVersion := padTo 2 (bsub b 14 2) }

def attrBytes (a : Attr) : Bytes :=
  [a.alg, a.cls] ++ toLe 2 a.bits.toNat ++ toLe 4 a.usage.toNat ++ padTo 2 a.x9Usage ++ [a.mode, a.export_, a.span, a.algPub] ++
  padTo 2 a.keyVersion

/-! ## Entries -/

def keyIndex (p : Nat) (r : BitVec 32) : Nat := p * 2 ^ 32 + r.toNat

def keyEmpty : KeyEntry := { cur := none, version := 0, failed := false, codes := [], pending := [] }
def getKey (s : State) (p : Nat) (r : BitVec 32) : KeyEntry := s.ks.keys.at (keyIndex p r) keyEmpty
def setKey (p : Nat) (r : BitVec 32) (e : KeyEntry) (s : State) : State :=
  { s with ks := { s.ks with keys := s.ks.keys.put (keyIndex p r) e } }

/-- The integrity codes of a key's slots: over each slot's physical number, its scrambled cells and the attribute record (R123, R129). -/
def slotCodes (s : State) (p : Nat) (r : BitVec 32) (v : Option KeyVal) : List Bytes :=
  match v with
  | none => []
  | some v => if isOnDie r then (List.range v.attr.span.toNat).map (fun i =>
      let n := (refIndex r + i) * pDiv s + p
      padTo 8 (Config.integrityCode s.ks.integrity n (padTo 64 (Config.scrambled s.ks.scramble n (padTo 64 (bsub v.material (64 * i) 64))))
        (attrBytes v.attr))) else []

/-- Write an entry whose contents are new: its slots get their integrity codes, and a record written afresh lies in no poisoned line (R129,
R430). -/
def storeKey (p : Nat) (r : BitVec 32) (e : KeyEntry) (s : State) : State :=
  let t := setKey p r { e with codes := slotCodes s p r e.cur } s
  { t with ks := { t.ks with poisonedRecs := t.ks.poisonedRecs.filter (· != keyIndex p r) } }

/-- Keys of one partition, with their references. -/
def partKeys (s : State) (p : Nat) : List (BitVec 32 × KeyEntry) :=
  (s.ks.keys.filter (fun e => e.1 / 2 ^ 32 == p)).map (fun e => (BitVec.ofNat 32 e.1, e.2))

/-- SLOTS_USED: on-die slots holding keys, spans counted in full (R156). -/
def slotsUsed (s : State) (p : Nat) : Nat :=
  ((partKeys s p).filter (fun e => isOnDie e.1)).foldl
    (fun n e => n + (match e.2.cur with | none => 0 | some v => v.attr.span.toNat)) 0

/-- CACHED_USED (R156). -/
def cachedUsed (s : State) (p : Nat) : Nat := ((partKeys s p).filter (fun e => isCached e.1 && e.2.cur.isSome)).length

/-! ## Algorithms (R125) -/

/-- Bytes of material an ALG holds for a strength in bits; none for an ALG that is not held. -/
def algBytes (alg bitsN : Nat) : Option Nat :=
  match alg with
  | 0x01 => some 16 | 0x02 => some 24
  | 0x10 => some 16 | 0x11 => some 24 | 0x12 => some 32
  | 0x20 => if bitsN % 8 == 0 && decide (128 ≤ bitsN) && decide (bitsN ≤ 1024) then some (bitsN / 8) else none
  | 0x30 => if bitsN % 256 == 0 && decide (1024 ≤ bitsN) && decide (bitsN ≤ 8192) then some (5 * (bitsN / 16) + 4) else none
  | 0x40 => some 32 | 0x41 => some 48 | 0x42 => some 66
  | 0x48 => some 32 | 0x49 => some 57
  | 0x50 => some 32 | 0x51 => some 32 | 0x52 => some 32
  | 0x58 => some 64 | 0x59 => some 64 | 0x5A => some 64
  | _ => none

/-- Slots an on-die key spans (R125). -/
def algSpan (alg bitsN : Nat) : Nat := match algBytes alg bitsN with | none => 0 | some n => (n + 63) / 64

/-- Whether a key may be cached (R125). -/
def algCacheable (alg bitsN : Nat) : Bool :=
  alg != 0x30 && alg != 0x80 && (match algBytes alg bitsN with | none => false | some n => decide (n ≤ 72))

def isTdes (a : BitVec 8) : Bool := a == 0x01 || a == 0x02
def isAes (a : BitVec 8) : Bool := a == 0x10 || a == 0x11 || a == 0x12
def isHmac (a : BitVec 8) : Bool := a == 0x20

/-- BITS as keys are compared: an HMAC key counts with at most 256 (R126). -/
def cmpBits (a : Attr) : Nat := if isHmac a.alg then min a.bits.toNat 256 else a.bits.toNat

/-- The BITS an ALG implies, when it fixes them (R126). -/
def algBits (alg : Nat) : Option Nat :=
  match alg with
  | 0x01 => some 80 | 0x02 => some 112 | 0x10 => some 128 | 0x11 => some 192 | 0x12 => some 256
  | 0x40 => some 256 | 0x41 => some 384 | 0x42 => some 521
  | _ => none

/-- The values of BITS that an asymmetric ALG allows: the size of its curve or modulus (R126). Ed25519's curve is counted as 255 or as
256 bits; the modulus of the lattice algorithms is q, of 23 and of 12 bits. DEDUCED, log entry 107. -/
def algSizes (alg : Nat) : List Nat :=
  match alg with
  | 0x40 => [256] | 0x41 => [384] | 0x42 => [521] | 0x48 => [255, 256] | 0x49 => [448]
  | 0x50 => [23] | 0x51 => [23] | 0x52 => [23] | 0x58 => [12] | 0x59 => [12] | 0x5A => [12]
  | _ => []

/-! ## Wrapping (R136, R139, R148) -/

/-- The MWK generation after `g`: 1 to 255 and back to 1 (R148). -/
def nextGen (g : BitVec 8) : BitVec 8 := if g = 255 then 1 else g + 1

/-- KEK of a partition under an MWK generation in force (R136). -/
def kekFor (s : State) (p : Nat) (g : BitVec 8) : Option Bytes :=
  if g == s.ks.mwkGen && s.ks.mwkGen != 0 then some (kekOf s.ks.mwk g (getPart s p).salt)
  else if s.ks.prevPresent && g != 0 && nextGen g == s.ks.mwkGen then some (kekOf s.ks.mwkPrev g (getPart s p).salt)
  else none

def epochOf (s : State) (p : Nat) : BitVec 32 := s.ks.epochs.at p 0

/-! ## Checks of a reference (R155, R157, R460) -/

/-- Whether the last pending change of a reference is a destroy (R142). -/
def pendingDestroy (s : State) (e : KeyEntry) : Bool :=
  match e.pending.getLast? with
  | none => false
  | some r => match findCmd s r with | none => false | some c => c.opcode == 0x0305

/-- Order 4 of R460 for one reference that must exist: form and share, seal, phase, existence, integrity. -/
def refCheck (s : State) (p : Nat) (r : BitVec 32) : Option Status :=
  let e := getKey s p r
  firstFail
    [ need (refForm s r) stKeyNotFound,
      need (!s.ks.sealed) stPolicyDenied,
      need (!(isCached r && s.svc.phase != .clear)) stServiceReduced,
      need (!(e.failed && e.pending.isEmpty)) stKeyIntegrity,
      need (if e.pending.isEmpty then e.cur.isSome else !pendingDestroy s e) stKeyNotFound ]

/-- Order 4 of R460 for a target reference, which may be empty. -/
def targetCheck (s : State) (r : BitVec 32) : Option Status :=
  firstFail
    [ need (refForm s r) stKeyNotFound,
      need (!s.ks.sealed) stPolicyDenied,
      need (!(isCached r && s.svc.phase != .clear)) stServiceReduced ]

/-- The attributes order 5 of R460 is judged against; none where they are judged at load only (R128). -/
def attrFor (s : State) (p : Nat) (r : BitVec 32) : Option Attr :=
  let e := getKey s p r
  match e.cur with
  | some v => some v.attr
  | none =>
    match e.pending.getLast? with
    | none => none
    | some c => (findCmd s c).bind (fun c => c.outAttr)

/-- A verdict on attributes, passed where it is judged at load only. -/
def attrCheck (s : State) (p : Nat) (r : BitVec 32) (f : Attr → Option Status) : Option Status :=
  match attrFor s p r with | none => none | some a => f a

/-- The declared usage of a key: any of the bits suffices (R128). -/
def usageCheck (u : BitVec 32) (a : Attr) : Option Status := need (a.usage &&& u != 0) stKeyUsage

/-! ## References in use (R140) -/

/-- The version a command accepted now takes of a reference (R140, R141). -/
def takeVersion (s : State) (p : Nat) (r : BitVec 32) : BitVec 16 :=
  let e := getKey s p r
  e.version + BitVec.ofNat 16 e.pending.length

def holdMatch (p : Nat) (r : BitVec 32) (v : BitVec 16) (h : KeyHold) : Bool := h.part == p && h.key == r && h.version == v

def holdCount (s : State) (p : Nat) (r : BitVec 32) (v : BitVec 16) : Nat :=
  (s.ks.holds.filter (holdMatch p r v)).foldl (fun n h => n + h.count) 0

/-- Version `v` is not after version `w`, counted on the ring of 16 bits: versions in use lie within half of it (R140). -/
def verLe (v w : BitVec 16) : Bool := decide ((w - v).toNat < 32768)

/-- Take one reference on a version. -/
def takeRef (p : Nat) (r : BitVec 32) (v : BitVec 16) (s : State) : State :=
  if s.ks.holds.any (holdMatch p r v) then
    { s with ks := { s.ks with holds := s.ks.holds.map (fun h => if holdMatch p r v h then { h with count := h.count + 1 } else h) } }
  else { s with ks := { s.ks with holds := s.ks.holds ++ [{ part := p, key := r, version := v, count := 1, shadow := none, bad := false }] } }

/-- Release one reference; a current version with no holder left needs no entry. A shadow stays until it is zeroised (R142). -/
def dropRef (p : Nat) (r : BitVec 32) (v : BitVec 16) (s : State) : State :=
  let l := s.ks.holds.map (fun h => if holdMatch p r v h then { h with count := h.count - 1 } else h)
  { s with ks := { s.ks with holds := l.filter (fun h => h.count != 0 || h.shadow.isSome) } }

/-- Release every reference of a command that it still holds. -/
def dropRefs (c : Cmd) (s : State) : State :=
  (c.keys.filter (fun k => !c.released.contains k.1)).foldl (fun s k => dropRef c.ref.part k.1 k.2 s) s

/-- Whether the last item of a command that uses key `r` has ended or was cancelled. A key that none of its items loads is in use until
the command's end: DEDUCED, log entry 125. -/
def keyDone (c : Cmd) (r : BitVec 32) : Bool :=
  let uses (it : Item) : Bool := it.loads.any (fun l => l.key == r)
  c.items.any uses && (c.items.filter uses).all (fun it => it.state == .ended || it.state == .cancelled)

/-- Release the references of a command whose last item has ended or was cancelled (R140). -/
def releaseKeys (r : CmdRef) (s : State) : State :=
  match findCmd s r with
  | none => s
  | some c =>
    let l := c.keys.filter (fun k => keyDone c k.1 && !c.released.contains k.1)
    l.foldl (fun s k => dropRef r.part k.1 k.2 s) (modCmd r (fun c => { c with released := c.released ++ l.map (fun k => k.1) }) s)

/-- The contents of a version: in force, or in a shadow entry (R141). -/
def versionVal (s : State) (p : Nat) (r : BitVec 32) (v : BitVec 16) : Option KeyVal :=
  let e := getKey s p r
  if e.version == v then e.cur
  else (s.ks.holds.find? (holdMatch p r v)).bind (fun h => h.shadow)

/-- Shadow entries of a partition that hold a version: SHADOW_USED counts these alone and no reserved entry, on which R156 is silent.
DESIGN CHOICE, log entry 108. -/
def shadowUsed (s : State) (p : Nat) : Nat := (s.ks.holds.filter (fun h => h.part == p && h.shadow.isSome)).length
/-- Shadow entries reserved (R142). -/
def shadowReserved (s : State) (p : Nat) : Nat := s.ks.reserved.at p 0

/-- Whether a shadow entry of the partition is free (R142). -/
def shadowFree (s : State) (p : Nat) : Bool := decide (shadowUsed s p + shadowReserved s p < 4096 / pDiv s)

/-- A rewrite or destroy of this reference needs a shadow entry (R142). -/
def needsShadow (s : State) (p : Nat) (r : BitVec 32) : Bool :=
  let e := getKey s p r
  e.cur.isSome || !e.pending.isEmpty

def addReserved (p n : Nat) (s : State) : State :=
  { s with ks := { s.ks with reserved := s.ks.reserved.put p (shadowReserved s p + n) } }
def subReserved (p : Nat) (s : State) : State :=
  { s with ks := { s.ks with reserved := s.ks.reserved.put p (shadowReserved s p - 1) } }

/-- Move the version in force to a shadow entry when it has holders; the reservation ends either way (R142). -/
def retireVersion (p : Nat) (r : BitVec 32) (reserved : Bool) (s : State) : State :=
  let e := getKey s p r
  let s := if reserved then subReserved p s else s
  { s with ks := { s.ks with holds := s.ks.holds.map (fun h => if holdMatch p r e.version h then { h with shadow := e.cur, bad := e.failed } else h) } }

/-- A rewrite or destroy ends with OK: version v + 1 stands (R141). `val` none is a destroy. -/
def rewriteOk (p : Nat) (r : BitVec 32) (reserved : Bool) (val : Option KeyVal) (s : State) : State :=
  let s := retireVersion p r reserved s
  let e := getKey s p r
  storeKey p r { cur := val, version := e.version + 1, failed := false, codes := [], pending := e.pending.tail } s

/-- Commands and holders of a withdrawn version fall back by one (R141). -/
def fallBack (p : Nat) (r : BitVec 32) (v : BitVec 16) (s : State) : State :=
  let lower (w : BitVec 16) : BitVec 16 := if verLe v w then w - 1 else w
  let s := setCmds s (s.prism.cmds.map (fun c =>
    if c.ref.part == p then
      { c with keys := c.keys.map (fun k => if k.1 == r then (k.1, lower k.2) else k),
               items := c.items.map (fun it => { it with loads := it.loads.map (fun l =>
                 if l.key == r then { l with version := lower l.version } else l) }) }
    else c))
  let moved := s.ks.holds.filter (fun h => h.part == p && h.key == r && verLe v h.version)
  let kept := s.ks.holds.filter (fun h => !(h.part == p && h.key == r && verLe v h.version))
  let s := { s with ks := { s.ks with holds := kept } }
  moved.foldl (fun s h => (List.range h.count).foldl (fun s _ => takeRef p r (h.version - 1) s) s) s

/-- A rewrite ends with any other status: its pending version is withdrawn (R141). -/
def rewriteWithdraw (p : Nat) (r : BitVec 32) (c : CmdRef) (reserved : Bool) (s : State) : State :=
  let e := getKey s p r
  match e.pending.findIdx? (· == c) with
  | none => s
  | some i =>
    let s := if reserved then subReserved p s else s
    let s := setKey p r { e with pending := e.pending.erase c } s
    fallBack p r (e.version + 1 + BitVec.ofNat 16 i) s

/-! ## Backing records (R132) -/

def backMatch (p : Nat) (r : BitVec 32) (b : Backing) : Bool := b.part == p && b.key == r

/-- Write the backing records of a key in one device. -/
def putBacking (l : List Backing) (b : Backing) : List Backing := l.filter (fun x => !(backMatch b.part b.key x)) ++ [b]

/-- The backing record of the slot at position `i` of a span: the token format with FORMAT 0x0002, wrapped under MWK generation `g`
(R132, R135). -/
def backRecord (s : State) (p : Nat) (g : BitVec 8) (epoch random : Bytes) (r : BitVec 32) (version : BitVec 16) (i : Nat) (v : Option KeyVal) : Bytes :=
  let h := toLe 2 2 ++ [g, 0] ++ padTo 4 epoch ++ padTo 8 random ++ (match v with | none => zeros 16 | some v => attrBytes v.attr)
  let pt := toLe 4 r.toNat ++ toLe 1 i ++ toLe 1 (b2n v.isNone) ++ toLe 2 version.toNat ++
    padTo 64 (match v with | none => [] | some v => bsub v.material (64 * i) 64) ++ zeros 8
  let (ct, tag) := gcmSeal ((kekFor s p g).getD []) (bsub h 4 12) h pt
  h ++ ct ++ tag

/-- The backing records of a key as it stands, with `random` for its slots: a destroyed one is marked empty over the span it had (R132). -/
def backingOf (s : State) (p : Nat) (r : BitVec 32) (span : Nat) (random : Bytes) : Backing :=
  let e := getKey s p r
  { part := p, key := r, version := e.version, span := span, val := e.cur,
    records := (List.range span).map (fun i =>
      backRecord s p s.ks.mwkGen (toLe 4 (epochOf s p).toNat) (bsub random (8 * i) 8) r e.version i e.cur) }

/-- A record as the rewrap leaves it: under the present generation, with its epoch and its RANDOM (R135, R149). -/
def rewrapBacking (s : State) (b : Backing) : Backing :=
  { b with val := b.val.map (fun v => { v with mwkGen := s.ks.mwkGen }),
           records := b.records.zipIdx.map (fun e =>
             backRecord s b.part s.ks.mwkGen (bsub e.1 4 4) (bsub e.1 8 8) b.key b.version e.2 b.val) }

/-- Write records to device 0, or to both devices, device 0 first (R132). -/
def writeDevice0 (b : Backing) (s : State) : State := { s with ks := { s.ks with nor0 := putBacking s.ks.nor0 b } }
def writeBoth (b : Backing) (s : State) : State := { s with ks := { s.ks with nor0 := putBacking s.ks.nor0 b, nor1 := putBacking s.ks.nor1 b } }

/-- Slots the records of a reference cover: the span of its key, or of the key its records still hold. -/
def backSpan (s : State) (p : Nat) (r : BitVec 32) : Nat :=
  match (getKey s p r).cur with
  | some v => v.attr.span.toNat
  | none => ((s.ks.nor0.find? (backMatch p r)).map (fun b => b.span)).getD 1

/-- The records of a reference as it stands, when it is on die. R132 and R135 name no source for the RANDOM of a backing record: a free
value, log entry 119. -/
def backingNow (s : State) (p : Nat) (r : BitVec 32) : List Backing × State :=
  if isOnDie r then
    let n := backSpan s p r
    let (rnd, s) := takeFree (8 * n) s
    ([backingOf s p r n rnd], s)
  else ([], s)

/-- Write the records of a reference as it stands. -/
def writeBacking (p : Nat) (r : BitVec 32) (s : State) : State :=
  let (l, s) := backingNow s p r
  l.foldl (fun s b => writeBoth b s) s

/-- A command's completion waits for the records of a reference as it stands now (R132). -/
def noteBacking (c : CmdRef) (r : BitVec 32) (s : State) : State :=
  let (l, s) := backingNow s c.part r
  modCmd c (fun c => { c with backing := c.backing ++ l, durable := c.durable && l.isEmpty }) s

/-- The records that a start reads with bad tags: device, key by `keyIndex`, position in the span. -/
abbrev BadRecords := List (Nat × Nat × Nat)

/-- Whether version `v` of a key can be loaded: every slot of the span has a record of it with a good tag in at least one device
(R132). -/
def spanGood (bad : BadRecords) (a b : Option Backing) (k : Nat) (v : Backing) : Bool :=
  let good (dev : Nat) (x : Option Backing) (i : Nat) : Bool :=
    (match x with | none => false | some y => y.version == v.version) && !bad.contains (dev, k, i)
  (List.range v.span).all (fun i => good 0 a i || good 1 b i)

/-- The version a start loads for one key: the highest that can be loaded (R132). -/
def bestBacking (bad : BadRecords) (a b : Option Backing) (k : Nat) : Option Backing :=
  let l := (a.toList ++ b.toList).filter (spanGood bad a b k)
  match l with
  | [] => none
  | [x] => some x
  | x :: y :: _ => if verLe y.version x.version then some x else some y

/-- Reload every on-die key from its backing records and rewrite the other device's to match; a span without a version that can be loaded
is FAILED (R132, R153). -/
def reloadKeys (bad : BadRecords) (s : State) : State :=
  let ids := ((s.ks.nor0 ++ s.ks.nor1).map (fun b => (b.part, b.key))).eraseDups
  let cached := s.ks.keys.filter (fun e => isCached (BitVec.ofNat 32 e.1))
  let s := { s with ks := { s.ks with keys := cached.map (fun e => (e.1, { e.2 with pending := [] })) } }
  ids.foldl (fun s k =>
    let a := s.ks.nor0.find? (backMatch k.1 k.2)
    let b := s.ks.nor1.find? (backMatch k.1 k.2)
    match bestBacking bad a b (keyIndex k.1 k.2), a.or b with
    | some x, _ => writeBoth x (storeKey k.1 k.2 { cur := x.val, version := x.version, failed := false, codes := [], pending := [] } s)
    | none, some x => setKey k.1 k.2 { cur := x.val, version := x.version, failed := true, codes := [], pending := [] } s
    | none, none => s) s

/-- Records of commands that ended OK which are not yet durable in both devices (R112, R132). -/
def undurable (s : State) : List Backing :=
  ((s.prism.cmds.filter (fun c => !c.durable && (match c.result with | some v => v.status == stOk | none => false))).map (fun c => c.backing)).flatten

/-- A reset cuts the writing of such records off: device 0 then holds the whole new span, or still the old one, or neither. Which of the
three is a free value (R132); device 1 is written last and still holds the old span. Log entry 109. -/
def cutBackings (s : State) : State :=
  (undurable s).foldl (fun s b =>
    let (w, s) := takeFree 1 s
    match leNat w % 3 with
    | 0 => s
    | 1 => writeDevice0 b s
    | _ => { s with ks := { s.ks with nor0 := s.ks.nor0.filter (fun x => !(backMatch b.part b.key x)) } }) s

/-! ## The hot set (R138) -/

def hotMatch (p : Nat) (r : BitVec 32) (v : BitVec 16) (h : HotEntry) : Bool :=
  h.derived.isNone && h.part == p && h.key == r && h.version == v

/-- Entries of a partition in use, those claimed for an unwrap among them. -/
def hotUsed (s : State) (p : Nat) : Nat := (s.ks.hot.filter (fun h => h.part == p)).length

/-- A partition's share of the hot set. -/
def hotShare (s : State) : Nat := 8192 / pDiv s

/-- The entry that holds a version, its unwrap ended. -/
def hotFind (s : State) (p : Nat) (r : BitVec 32) (v : BitVec 16) : Option HotEntry :=
  s.ks.hot.find? (fun h => hotMatch p r v h && h.ready)

/-- An entry of a record that no command refers to, which may be evicted (R138). -/
def hotIdle (s : State) (p : Nat) (h : HotEntry) : Bool :=
  h.derived.isNone && h.part == p && h.ready && holdCount s p h.key h.version == 0

/-- The least recently used entry whose version has no reference (R138). -/
def hotVictim (s : State) (p : Nat) : Option HotEntry :=
  (s.ks.hot.filter (hotIdle s p)).foldl
    (fun (b : Option HotEntry) h => match b with | none => some h | some x => if h.used < x.used then some h else some x) none

/-- The lowest entry number of the partition's share that is free. -/
def hotFreeEntry (s : State) (p : Nat) : Nat :=
  let l := (s.ks.hot.filter (fun h => h.part == p)).map (fun h => h.entry)
  ((List.range (l.length + 1)).find? (fun i => !l.contains i)).getD 0

/-- Take an entry of a partition, evicting when its share is full (R138). -/
def hotTake (p : Nat) (e : Nat → HotEntry) (s : State) : State :=
  if hotUsed s p < hotShare s then { s with ks := { s.ks with hot := s.ks.hot ++ [e (hotFreeEntry s p)] } }
  else match hotVictim s p with
    | none => s
    | some x => { s with ks := { s.ks with hot := s.ks.hot.filter (fun h => h != x) ++ [e x.entry] } }

/-- Claim an entry for a version that is to be unwrapped. -/
def hotClaim (p : Nat) (r : BitVec 32) (v : BitVec 16) (s : State) : State :=
  if s.ks.hot.any (hotMatch p r v) then s
  else hotTake p (fun n => { part := p, entry := n, key := r, record := physical s p r, version := v, ready := false, used := s.clk.ns,
                             derived := none, alg := 0, data := [] }) s

/-- The entry that holds, or is to hold, the key a command derives (R231). -/
def hotDerived (s : State) (r : CmdRef) : Option HotEntry := s.ks.hot.find? (fun h => h.derived == some r)

/-- Claim an entry for the key a command derives. -/
def hotClaimDerived (r : CmdRef) (s : State) : State :=
  hotTake r.part (fun n => { part := r.part, entry := n, key := 0, record := 0, version := 0, ready := false, used := s.clk.ns,
                             derived := some r, alg := 0, data := [] }) s

/-- The derived key enters its entry. -/
def hotFillDerived (r : CmdRef) (alg : BitVec 8) (b : Bytes) (s : State) : State :=
  { s with ks := { s.ks with hot := s.ks.hot.map (fun h =>
    if h.derived == some r then { h with ready := true, used := s.clk.ns, alg := alg, data := b } else h) } }

/-- A command's derived key is cleared (R231). -/
def hotDropDerived (r : CmdRef) (s : State) : State :=
  { s with ks := { s.ks with hot := s.ks.hot.filter (fun h => !(h.derived == some r)) } }

/-- The entry of a version holds it from now on, and is used now. -/
def hotReady (p : Nat) (r : BitVec 32) (v : BitVec 16) (s : State) : State :=
  { s with ks := { s.ks with hot := s.ks.hot.map (fun h => if hotMatch p r v h then { h with ready := true, used := s.clk.ns } else h) } }

/-- Release the entry of a version. -/
def hotDrop (p : Nat) (r : BitVec 32) (v : BitVec 16) (s : State) : State :=
  { s with ks := { s.ks with hot := s.ks.hot.filter (fun h => !(hotMatch p r v h)) } }

/-! ## Integrity (R130) -/

/-- A key whose integrity code fails becomes FAILED with its span, and the event is counted on the functions of its partition. -/
def keyFailed (p : Nat) (r : BitVec 32) (s : State) : State :=
  let e := getKey s p r
  if e.failed || e.cur.isNone then s
  else setFltCause 8 (bumpPart p cKeyIntegrity (setKey p r { e with failed := true } s))

/-! ## Destruction (R153, R154) -/

def clearKeyRegs (s : State) : State :=
  { s with facets := s.facets.map (fun f => (f.1, { f.2 with keyRegs := [], cache := [] })),
           engines := s.engines.map (fun e => (e.1, { e.2 with keyRegs := [] })) }

/-- Steps 1 and 2 of R154: the key bus stops, key registers clear, and the Horizon key register is zeroised. -/
def zeroiseRegister (s : State) : State :=
  let s := clearKeyRegs { s with ks := { s.ks with busStopped := true } }
  { s with ks := { s.ks with mwk := zeros 32, mwkPrev := zeros 32, mwkGen := 0, prevPresent := false, rewrap := false, epochs := [],
                             regCrcOk := true },
           ilu := { s.ilu with claim := 0, topClaim := 0, partner := 0, pairKey := [], ringKey := [], paired := false, counter := 0,
                               ringId := 0, formed := false } }

/-- Steps 3 to 5 of R154: slots, shadow and hot-set entries, backing records and the cache region are destroyed. -/
def destroyAllKeys (s : State) : State :=
  { s with ks := { s.ks with keys := [], holds := [], reserved := [], hot := [], nor0 := [], nor1 := [] } }

/-- Every key of one partition is destroyed, with its epoch (R153). -/
def destroyPartKeys (p : Nat) (s : State) : State :=
  { s with ks := { s.ks with
      keys := s.ks.keys.filter (fun e => e.1 / 2 ^ 32 != p),
      holds := s.ks.holds.filter (fun h => h.part != p),
      hot := s.ks.hot.filter (fun h => h.part != p),
      nor0 := s.ks.nor0.filter (fun b => b.part != p),
      nor1 := s.ks.nor1.filter (fun b => b.part != p),
      reserved := s.ks.reserved.del p,
      epochs := s.ks.epochs.del p } }

end Sys2Proof.Machine
end

