-- ==== Sys2Proof/Machine/Sessions.lean ====
section
/-! DEFINITION. Session contexts, their allocation, checks and ends (R80, R84 to R88). -/

namespace Sys2Proof.Machine

def saveReset : SaveArea :=
  { wrapped := none, group := 0, modeAlg := 0, key := 0, keyVersion := 0, tagLen := 0, partLen := 0, offset := 0, saveCount := 0, state := [],
    tag := [], absorbed := [], aad := [], iv := [] }

/-- A context nothing has allocated: its first tag will be 1 (R86). -/
def sessionReset : Session :=
  { tag := 1, allocated := false, transient := false, part := 0, partGen := 0, warmCount := 0, idle := 0, closing := false, lastUse := 0,
    outstanding := 0, saveCount := 0, save := saveReset }

def getSess (s : State) (i : Nat) : Session := s.sess.ctxs.at i sessionReset
def setSess (i : Nat) (x : Session) (s : State) : State := { s with sess := { s.sess with ctxs := s.sess.ctxs.put i x } }
def modSess (i : Nat) (g : Session → Session) (s : State) : State := setSess i (g (getSess s i)) s

def handleIndex (h : BitVec 32) : Nat := bits h.toNat 21 0
def handleTag (h : BitVec 32) : Nat := bits h.toNat 31 22
def mkHandle (i : Nat) (tag : BitVec 10) : BitVec 32 := BitVec.ofNat 32 (tag.toNat * 2 ^ 22 + i)

/-- The tag after release: 1 to 1,023 and back to 1 (R86). -/
def nextTag (t : BitVec 10) : BitVec 10 := if t = 1023 then 1 else t + 1

/-- Contexts of a partition (R85). -/
def sessShare (s : State) : Nat := 4194304 / pDiv s

/-- Index of the partition's context `n`, counted in its own share (R85). -/
def ctxIndex (s : State) (p n : Nat) : Nat := n * pDiv s + p

/-- In Overcast only indices below 65,536 may be allocated (R26, R85). -/
def ctxAllowed (s : State) (i : Nat) : Bool := s.svc.phase == .clear || decide (i < 65536)

def freedOf (s : State) (p : Nat) : List Nat := s.sess.freed.at p []
def freshOf (s : State) (p : Nat) : Nat := s.sess.fresh.at p 0

/-- Free contexts of a partition's share (R89). -/
def ctxFree (s : State) (p : Nat) : Nat := sessShare s - freshOf s p + (freedOf s p).length

/-- The free context that was released longest ago; those never allocated come first, in index order (R86). -/
def nextCtx (s : State) (p : Nat) : Option Nat :=
  if freshOf s p < sessShare s && ctxAllowed s (ctxIndex s p (freshOf s p)) then some (ctxIndex s p (freshOf s p))
  else (freedOf s p).find? (ctxAllowed s)

/-- Take a context out of the free order. -/
def takeCtx (p i : Nat) (s : State) : State :=
  if freshOf s p < sessShare s && i == ctxIndex s p (freshOf s p) then
    { s with sess := { s.sess with fresh := s.sess.fresh.put p (freshOf s p + 1) } }
  else { s with sess := { s.sess with freed := s.sess.freed.put p ((freedOf s p).erase i) } }

/-- Allocate a context for a partition as a session or a transient context (R80, R86). LAST_USE of a session on which no command has
completed is the time of its allocation, and its idle timeout runs from there; R88 names completions alone. DESIGN CHOICE, log entry 110. -/
def allocCtx (p i idle : Nat) (transient : Bool) (s : State) : State :=
  let s := takeCtx p i s
  modSess i (fun x => { x with allocated := true, transient := transient, part := p, partGen := (getPart s p).gen,
                               warmCount := s.svc.warmCount, idle := idle, closing := false, lastUse := s.hzn.time, outstanding := 0,
                               saveCount := 0, save := saveReset }) s

/-- A flow that has ended is affine to no unit, and no facet holds its context (R75, R79). -/
def dropFlow (f : Flow) (s : State) : State :=
  { s with prism := { s.prism with affinity := s.prism.affinity.filter (fun a => !(a.1 == f)) },
           facets := s.facets.map (fun e => (e.1, { e.2 with resident := if e.2.resident == some f then none else e.2.resident })) }

/-- Release a context: its tag advances, it goes to the end of the free order (R86), and the flow of its session has ended. -/
def releaseCtx (i : Nat) (s : State) : State :=
  let x := getSess s i
  if x.allocated then
    let s := setSess i { x with allocated := false, closing := false, tag := nextTag x.tag, save := saveReset } s
    dropFlow (.session i) { s with sess := { s.sess with freed := s.sess.freed.put x.part (freedOf s x.part ++ [i]) } }
  else s

/-- Whether the idle timeout of a session has passed (R88). -/
def idlePassed (s : State) (x : Session) : Bool :=
  x.outstanding == 0 && decide (x.lastUse.toNat + secTicks x.idle < s.hzn.time.toNat)

/-- Checks 1 to 4 of R87 on a non-zero handle. -/
def sessionCheck (s : State) (p : Nat) (h : BitVec 32) : Option Status :=
  let i := handleIndex h
  let x := getSess s i
  firstFail
    [ need (i % pDiv s == p && x.tag.toNat == handleTag h && x.allocated && !x.transient && !x.closing) stSessionLost,
      need (x.partGen == (getPart s p).gen && x.warmCount == s.svc.warmCount) stSessionLost,
      need (!idlePassed s x) stSessionLost,
      need (decide (x.outstanding < 64)) stFlowLimit ]

/-- A command that fails check 2 or 3 releases the context (R87). -/
def sessionRelease (p : Nat) (h : BitVec 32) (s : State) : State :=
  let i := handleIndex h
  let x := getSess s i
  if i % pDiv s == p && x.tag.toNat == handleTag h && x.allocated && !x.transient && !x.closing &&
     (!(x.partGen == (getPart s p).gen && x.warmCount == s.svc.warmCount) || idlePassed s x)
  then releaseCtx i s else s

/-- Every session of a partition ends (R88, R106). -/
def endSessions (p : Nat) (s : State) : State :=
  (s.sess.ctxs.filter (fun e => e.2.allocated && !e.2.transient && e.2.part == p)).foldl (fun s e => releaseCtx e.1 s) s

end Sys2Proof.Machine
end

