-- ==== Sys2Proof/Machine/Commands.lean ====
section
/-! DEFINITION. The ends of commands: cancellation, results, the journal's final update, completions, duplicates and vectors
(R46 to R48, R54, R58, R60, R63, R72, R108, R110, R141). -/

namespace Sys2Proof.Machine

/-! ## Completions (R46, R48, R54) -/

/-- The claim number a completion carries (R54, R405). -/
def claimNow (s : State) : BitVec 64 := s.ilu.claim

/-- Raise the ring's vector for unsignalled completions. -/
def signalRing (g : Nat) (s : State) : State :=
  let r := getRing s g
  let s := setRing s g { r with unsignalled := 0, coalNs := none }
  match ringFn s g with
  | none => s
  | some f => raiseVector f r.vector.toNat s

/-- What a written completion does to the coalescing state (R43, R48). -/
def coalesce (g : Nat) (suppress : Bool) (s : State) : State :=
  let r := getRing s g
  if suppress then s
  else if r.coalCount = 0 || r.coalCount.toNat ≤ r.unsignalled + 1 then signalRing g s
  else
    let t := if r.coalTime = 0 then none else match r.coalNs with | some t => some t | none => some (s.clk.ns + r.coalTime.toNat * 1000)
    setRing s g { r with unsignalled := r.unsignalled + 1, coalNs := t }

/-- A completion and its reply, as they are to be written. -/
structure Post where
  ring     : Nat
  seq      : BitVec 64
  status   : Status
  gen      : BitVec 48
  replyLen : Nat
  reply    : Option Bytes       -- none: no payload is written
  outs     : List (Nat × Nat)   -- the output fragments the reply goes to
  dup      : Bool
  suppress : Bool
  deriving DecidableEq, Repr

/-- The reply payload over the output fragments: from the start of the first one onwards, in list order, each write with the
relaxed-ordering attribute set (R39, R51, R53). -/
def scatter : List (Nat × Nat) → Bytes → List LinkWrite
  | [], _ => []
  | (a, n) :: r, b => if b.isEmpty then [] else { addr := a, data := b.take n, relaxed := true } :: scatter r (b.drop n)

/-- The reply word of a completion (R54). -/
def replyWord (c : Completion) : Nat :=
  c.replyLen % 2 ^ 24 + 2 ^ 24 * b2n c.duplicate + 2 ^ 25 * b2n c.notWritten + 2 ^ 26 * b2n c.fromStandby + 2 ^ 31 * b2n c.phase

/-- The 32 bytes of a completion (R54). -/
def completionBytes (c : Completion) : Bytes :=
  toLe 8 c.seq.toNat ++ toLe 2 c.status.toNat ++ toLe 2 c.gen.toNat ++ toLe 4 (replyWord c) ++ toLe 8 c.claim.toNat ++
  toLe 8 c.horizon.toNat

/-- The write of a completion: one posted write to its entry of the completion ring, with the relaxed-ordering attribute clear
(R39, R43, R54). -/
def completionWrite (r : Ring) (c : Completion) : LinkWrite :=
  { addr := r.cqBase.toNat * 4096 + 32 * c.index, data := completionBytes c, relaxed := false }

/-- Write the reply payload, then the completion, then raise the vector as the coalescing fields allow (R31, R39, R48). Of the
bits R54 gives the reply word, REPLY_NOT_WRITTEN is set for a duplicate that gets no payload, and for a reply of some length that is not
written; a refusal and a completion with an empty reply leave it clear. DESIGN CHOICE, log entry 101. -/
def postCompletion (p : Post) (s : State) : State :=
  let r := getRing s p.ring
  let s := match p.reply with
    | none => s
    | some b => if b.isEmpty then s else emit (.reply p.ring p.seq b (scatter p.outs b)) s
  let c : Completion :=
    { ring := p.ring, index := r.cqTail.toNat, seq := p.seq, status := p.status, gen := p.gen.setWidth 16,
      replyLen := p.replyLen, duplicate := p.dup, notWritten := p.reply.isNone && (p.dup || p.replyLen != 0), fromStandby := s.ilu.mirror == .standby,
      phase := r.cqPhase, claim := claimNow s, horizon := s.hzn.time }
  let s := emit (.completion c (completionWrite r c)) s
  let t := (r.cqTail.toNat + 1) % ringSize r
  let s := setRing s p.ring { r with cqTail := BitVec.ofNat 16 t, cqPhase := if t = 0 then !r.cqPhase else r.cqPhase, owed := r.owed - 1 }
  coalesce p.ring p.suppress s

/-! ## The journal (R61, R63) -/

/-- The command whose entry stands at index `i` of a partition's journal: an index below NEXT_INDEX was written in the present
pass, any other in the pass before it (R61, R63). -/
def refAt (p i : Nat) (x : Part) : CmdRef := { part := p, idx := i, lap := if i < x.jnext.toNat then x.jlap else x.jlap - 1 }

/-- The entry of a command, unless its partition has accepted 65,536 further commands and its index is another's (R63). -/
def jAt (s : State) (r : CmdRef) : Option JEntry :=
  if refAt r.part r.idx (getPart s r.part) = r then (getPart s r.part).journal.look r.idx else none

/-- Change the entry of a command, while it is that command's. -/
def modJ (r : CmdRef) (g : JEntry → JEntry) (s : State) : State :=
  modPart r.part (fun p => if refAt r.part r.idx p = r then
    (match p.journal.look r.idx with
     | none => p
     | some e => { p with journal := p.journal.put r.idx (g e) }) else p) s

/-- The 64 bytes of a journal entry (R61, R62); an entry lost to poison reads as zeros (R430). -/
def jBytes (e : JEntry) : Bytes :=
  if e.lost then zeros 64
  else
    toLe 8 e.seq.toNat ++ toLe 8 e.horizon.toNat ++ toLe 2 e.opcode.toNat ++ toLe 2 (if e.done then e.status.toNat else 0) ++
    toLe 2 e.partition.toNat ++ toLe 2 e.ring.toNat ++ toLe 4 e.session.toNat ++
    toLe 2 (b2n e.done + 2 * b2n e.cached + 4 * b2n e.fromMirror + 8 * b2n e.discarded) ++ toLe 2 e.gen.toNat ++
    padTo 16 e.digest ++ toLe 4 (if e.done then e.replyLen else 0) ++ zeros 4 ++ toLe 8 e.claim.toNat

/-! ## The reply cache (R60) -/

def cachedReply (s : State) (g : Nat) (seq : BitVec 64) : Option Bytes :=
  (s.replies.find? (fun c => c.ring == g && c.seq == seq)).map (fun c => c.reply)

/-- The reply to answer a duplicate with: cached and fitting the output fragments of the resubmitted entry. Check 7 is not made on a
duplicate, so a reply may not fit: nothing of it is written then, and REPLY_NOT_WRITTEN says so. DESIGN CHOICE, log entry 101. -/
def dupReply (s : State) (g : Nat) (seq : BitVec 64) (outs : List (Nat × Nat)) : Option Bytes :=
  match cachedReply s g seq with
  | none => none
  | some b => if b.length ≤ (outs.map (fun o => o.2)).sum then some b else none

/-! ## Cancelling and ending commands -/

/-- Cancel the items of a command that wait (R72, R110). -/
def cancelItems (c : Cmd) : List Item :=
  c.items.map (fun it => if it.state == .waiting then { it with state := .cancelled } else it)

/-- Trace a cancellation for each item that waits (R83). -/
def traceCancels (c : Cmd) (s : State) : State :=
  (List.range c.items.length).foldl (fun s i =>
    match c.items[i]? with
    | some it => if it.state == .waiting then
        traceRec 8 (unitByte none) c.ref.part 0 (toLe 4 (flowField c.flow c.ref) ++ toLe 2 i ++ zeros 2) s else s
    | none => s) s

/-- A waiting draw-seed request of a command leaves the queue. -/
def dropDraw (r : CmdRef) (s : State) : State := { s with rng := { s.rng with queue := s.rng.queue.filter (fun q => !(q == r)) } }

/-- End a command with a status and a reply: a rewrite that did not end OK is withdrawn, references and reservations are
released, a derived key is cleared, and the result stands for the final journal update (R140 to R142, R231, R256). -/
def endCmd (r : CmdRef) (st : Status) (reply : Bytes) (s : State) : State :=
  match findCmd s r with
  | none => s
  | some c =>
    if c.result.isSome then s
    else
      let s := traceCancels c s
      let s := hotDropDerived r (dropRefs c s)
      let s := match c.out with
        | none => s
        | some k => if st = stOk then s else rewriteWithdraw r.part k r c.shadow s
      let s := if c.reserved = 0 then s else
        modPart r.part (fun p => { p with vault := { p.vault with reserved := p.vault.reserved - c.reserved } }) s
      let s := dropDraw r s
      let w := match c.out with
        | none => []
        | some k => if st = stOk then [(k, (getKey s r.part k).version)] else []
      modCmd r (fun c => { c with items := cancelItems c, started := false, draw := .none, keys := [], reserved := 0,
                                  wrote := c.wrote ++ w, durable := c.durable || st != stOk,
                                  result := some { status := st, reply := reply } })
        (match c.out with | some k => if st = stOk && !c.durable then noteBacking r k s else s | none => s)

/-- Whether an item of the command is in service. -/
def inService (c : Cmd) : Bool := c.items.any (fun it => match it.state with | .inService _ => true | _ => false)

/-- Cancel a command's waiting items: it will end with `st` when its items in service have ended (R72, R110, R185). A command none of
whose items waits is left to its end, unless `force`. -/
def cutCmd (r : CmdRef) (st : Status) (cause : Nat) (force : Bool) (s : State) : State :=
  match findCmd s r with
  | none => s
  | some c =>
    if c.result.isSome || c.cut.isSome then s
    else if force || c.items.any (fun it => it.state == .waiting) then
      releaseKeys r (modCmd r (fun c => { c with items := cancelItems c, cut := some st, abort := some cause }) (traceCancels c s))
    else s

/-- A command of a partition that changes generation ends with SESSION_LOST if it names a session and ABORTED if not (R110). -/
def cancelStatus (c : Cmd) : Status := if c.handle = 0 then stAborted else stSessionLost

/-- Cancel the undispatched work of a command (R110). One of group 0x06 ends with ABORTED even if its last item is in service, which
then releases nothing (R202). -/
def cancelCmd (c : Cmd) (s : State) : State :=
  if c.opcode.toNat / 256 == 6 then cutCmd c.ref stAborted 6 (inService c) s else cutCmd c.ref (cancelStatus c) 6 false s

/-- Cancel the undispatched work of a partition (R110). -/
def cancelPart (p : Nat) (s : State) : State := (s.prism.cmds.filter (fun c => c.ref.part == p)).foldl (fun s c => cancelCmd c s) s

/-- A session ends before commands accepted on it have run: those with an item not yet dispatched complete with SESSION_LOST (R88). -/
def loseSession (i : Nat) (s : State) : State :=
  let x := getSess s i
  let mine (c : Cmd) : Bool := c.handle == mkHandle i x.tag && x.allocated && !x.transient
  releaseCtx i ((s.prism.cmds.filter mine).foldl (fun s c => cutCmd c.ref stSessionLost 0 false s) s)

/-! ## Generations (R106, R107) -/

/-- Duplicates held for a ring under its old generation are discarded and counted (R108, R110). -/
def discardHeld (g : Nat) (s : State) : State :=
  let l := s.prism.held.filter (fun h => h.ring == g)
  let s := { s with prism := { s.prism with held := s.prism.held.filter (fun h => !(h.ring == g)) } }
  match ringFn s g with
  | none => s
  | some f => l.foldl (fun s _ => bumpFn f cStaleGenDiscarded s) s

/-- One ring's generation rises by one, fetching on it stops and what is held for it goes; GEN_CHANGE is set on its function
(R41, R106, R110). ENABLE falls at every rise, at a thaw, a commit and an end of import as well, where the spec names the
generation alone. DESIGN CHOICE, log entry 105. -/
def bumpRingGen (g : Nat) (s : State) : State :=
  let s := discardHeld g (modRing g (fun r => { r with gen := r.gen + 1, enable := false }) s)
  match ringFn s g with
  | none => s
  | some f => setCause f causeGen s

/-- The owner of a ceremony is lost: a collecting or authorised lock breaks, and its signatures are discarded (R265). -/
def breakLock (l : Lock) : Lock :=
  if l.state == .collecting || l.state == .authorised then { l with state := .broken, signed := [], bad := 0 } else l

/-- The generation of a partition rises by one with every ring of it, its sessions end, and work in flight is cancelled
(R106, R110). A collecting or authorised ceremony lock breaks, since its owner's generation has gone (R265). -/
def bumpPartGen (p : Nat) (s : State) : State :=
  let s := (partRings s p).foldl (fun s g => bumpRingGen g s) s
  let s := modPart p (fun x => { x with gen := x.gen + 1, lock := breakLock x.lock }) s
  let s := setCausePart p causeGen s
  endSessions p (cancelPart p s)

/-! ## Running an accepted command -/

/-- The effect of a command's own row: the state, and the status and reply when the command ends there. -/
abbrev Effect := Cmd → State → State × Option (Status × Bytes)

/-- An effect that ends at once. -/
def ends (s : State) (st : Status) (reply : Bytes := []) : State × Option (Status × Bytes) := (s, some (st, reply))

/-- The status of the failed item with the lowest index (R72). -/
def itemFail (c : Cmd) : Option Status := (c.items.find? (fun it => it.fail.isSome)).bind (fun it => it.fail)

/-- Every item of the command has ended or was cancelled. -/
def itemsEnded (c : Cmd) : Bool := c.items.all (fun it => it.state == .ended || it.state == .cancelled)

/-- Its draw-seed request has failed, so none of its items runs (R218). -/
def drawFailed (c : Cmd) : Bool := match c.draw with | .failed _ => true | _ => false

/-- Every command accepted earlier in the same flow has its result (R74). -/
def flowTurn (s : State) (c : Cmd) : Bool :=
  s.prism.cmds.all (fun d => !(d.flow == c.flow && decide (d.order < c.order)) || d.result.isSome)

/-- The rewrite of this command is the oldest pending one of its reference (R141). -/
def rewriteTurn (s : State) (c : Cmd) : Bool :=
  match c.out with
  | none => true
  | some k => let e := getKey s c.ref.part k; !e.pending.contains c.ref || e.pending.head? == some c.ref

/-- The command may run: accepted, without a result, its items ended, its turn come, and, unless it is cut short, its draw
settled and its effect not begun. -/
def ready (op : Nat) (s : State) (c : Cmd) : Bool :=
  c.opcode.toNat == op && c.result.isNone && c.spilled.isNone && (itemsEnded c || drawFailed c) && flowTurn s c &&
  (c.cut.isSome || (c.draw != .waiting && !c.started && rewriteTurn s c))

/-- What a command does that ends without its own effect: the state it leaves and the reply it writes. -/
abbrev OnFail := Cmd → Status → State → State × Bytes

/-- The usual end without an effect: no reply and nothing changed (R459). -/
def noReply : OnFail := fun _ _ s => (s, [])

/-- The status a command ends with without its own effect: cut short, an item failed (R72), or its draw failed (R220). -/
def failStatus (c : Cmd) : Option Status :=
  match c.cut, itemFail c, c.draw with
  | some st, _, _ => some st
  | none, some st, _ => some st
  | none, none, .failed st => some st
  | none, none, _ => none

/-- Note what the command's target holds before it runs (R420). -/
def noteUndo (c : Cmd) (s : State) : State :=
  match c.out with
  | none => s
  | some k => modCmd c.ref (fun d => { d with undo := some (getKey s c.ref.part k) }) s

/-! ## Replication (R420) -/

/-- The vendor's own format of a change, as a REPLICATE frame carries it. -/
opaque encodeChange : Change → Bytes

/-- Keys whose contents or version differ between two states, as the second has them. -/
def keyChanges (s t : State) : List Change :=
  let ids := t.ks.keys.map (fun e => e.1) ++ (s.ks.keys.map (fun e => e.1)).filter (fun i => (t.ks.keys.look i).isNone)
  let old (i : Nat) : KeyEntry := s.ks.keys.at i keyEmpty
  let new (i : Nat) : KeyEntry := t.ks.keys.at i keyEmpty
  (ids.filter (fun i => (new i).cur != (old i).cur || (new i).version != (old i).version)).map (fun i =>
    .key (i / 2 ^ 32) (BitVec.ofNat 32 i) (new i).version (new i).cur)

/-- Partitions whose state, policy or officers differ. -/
def partChanges (s t : State) : List Change :=
  ((partNums t).filter (fun p =>
    let x := getPart s p
    let y := getPart t p
    x.state != y.state || x.policy != y.policy || x.threshold != y.threshold || x.officers != y.officers)).map (fun p =>
      let y := getPart t p
      .partition p y.state y.policy y.threshold y.officers)

/-- Vault records of a partition that differ. -/
def vaultChanges (p : Nat) (s t : State) : List Change :=
  let old := (getPart s p).vault.records
  let new := (getPart t p).vault.records
  ((old.filter (fun r => !new.any (fun q => q.tag == r.tag))).map (fun r => Change.vaultDelete p r.tag)) ++
  ((new.filter (fun r => !old.contains r)).map (fun r => Change.vault p r))

/-- What a command has changed of what the roles held here replicate, with the role: keys, partition states, policies and officer sets are the
KEY_MASTER's, vault records the VAULT_OWNER's. -/
def changesOf (c : Cmd) (roles s t : State) : List (Bool × Change) :=
  (if roles.ilu.keyMaster then (keyChanges s t ++ partChanges s t).map (fun x => (false, x)) else []) ++
  (if roles.ilu.vaultOwner then (vaultChanges c.ref.part s t).map (fun x => (true, x)) else [])

/-- Acknowledgements a change waits for: every other member in claim mode, a majority with the holder in lease mode (R420). -/
def acksWanted (s : State) : Nat := if s.ilu.leaseMode then s.ilu.members / 2 else s.ilu.members - 1

/-- What a REPLICATE frame carries as its claim: the term of the role's lease, or the claim (R399). -/
def roleClaim (s : State) (role : Bool) : BitVec 64 :=
  if s.ilu.leaseMode then (if role then s.ilu.vaultLease.term else s.ilu.keyLease.term) else s.ilu.claim

/-- Broadcast one change. -/
def sendReplica (s : State) (m : Bool × Bytes) : State := broadcast 0x30 (roleClaim s m.1) m.2 s

/-- The changes of a command as messages: role, sequence and change, from the sequence `n` on. -/
def replicaMsgs (n : Nat) (l : List (Bool × Change)) : List (Bool × Bytes) :=
  l.zipIdx.map (fun e => (e.1.1, toLe 1 (b2n e.1.1) ++ toLe 8 (n + e.2 + 1) ++ encodeChange e.1.2))

/-- The changes of a command that ended OK, from the state `s` to the state `t`, are sent to the ring before its completion (R420). -/
def replicateOut (c : Cmd) (st : Status) (s t : State) : State :=
  if st = stOk && t.ilu.formed && t.ilu.mirror != .standby && (t.ilu.keyMaster || t.ilu.vaultOwner) then
    let l := changesOf c t s t
    if l.isEmpty then t
    else
      let ms := replicaMsgs t.ilu.applied l
      let u := modIlu (fun i => { i with applied := i.applied + l.length }) (ms.foldl sendReplica t)
      modCmd c.ref (fun d => { d with replicated := acksWanted t, replicas := ms, undoRest := (changesOf c t t s).map (fun x => x.2) }) u
  else t

/-- Run an accepted command that may run. -/
def runCmd (eff : Effect) (fail : OnFail) (c : Cmd) (s : State) : State :=
  match failStatus c with
  | some st => let (t, b) := fail c st s; endCmd c.ref st b t
  | none =>
    match eff c (noteUndo c s) with
    | (t, some (st, reply)) => replicateOut c st s (endCmd c.ref st reply t)
    | (t, none) => modCmd c.ref (fun c => { c with started := true }) t

/-- The row of an opcode: the accepted command it names runs; while it may not run yet, nothing changes. -/
def runAccepted (op : Nat) (eff : Effect) (fail : OnFail) (r : CmdRef) (s : State) : Res :=
  match findCmd s r with
  | none => .next s
  | some c => .next (if ready op s c then runCmd eff fail c s else s)

/-! ## The final update (R32, R58, R63, R108) -/

/-- Counters of a completion's status (R228, R258). -/
def countStatus (c : Cmd) (st : Status) (s : State) : State :=
  let s := if st = stRngFailed then bumpFn c.fn cRngFailed s else s
  let s := if st = stRngNotReady then bumpFn c.fn cRngNotReady s else s
  if st = stVerifyFailed && (decide (0x0800 ≤ c.opcode.toNat) && decide (c.opcode.toNat ≤ 0x0AFF)) then
    bumpPart c.ref.part cPayVerifyFailed s else s

/-- Release a held duplicate: its completion is written under its own generation, or discarded (R58, R108). -/
def releaseHeld (h : HeldDup) (st : Status) (replyLen : Nat) (s : State) : State :=
  if (getRing s h.ring).gen = h.gen then
    postCompletion { ring := h.ring, seq := h.seq, status := st, gen := h.gen, replyLen := replyLen,
                     reply := dupReply s h.ring h.seq h.outs, outs := h.outs, dup := true, suppress := h.suppress } s
  else match ringFn s h.ring with
    | none => s
    | some f => bumpFn f cStaleGenDiscarded s

/-- Release every duplicate held for a journal entry. -/
def releaseHelds (r : CmdRef) (st : Status) (replyLen : Nat) (s : State) : State :=
  let l := s.prism.held.filter (fun h => h.ref == r)
  let s := { s with prism := { s.prism with held := s.prism.held.filter (fun h => !(h.ref == r)) } }
  l.foldl (fun s h => releaseHeld h st replyLen s) s

/-- The session's and the partition's account of a completed command (R80, R88, R119). -/
def afterCompletion (c : Cmd) (s : State) : State :=
  let s := if c.handle = 0 then s else
    modSess (handleIndex c.handle) (fun x =>
      if x.tag.toNat == handleTag c.handle then { x with outstanding := x.outstanding - 1, lastUse := s.hzn.time } else x) s
  let s := match c.transient with | none => s | some i => releaseCtx i s
  let s := dropFlow (.own c.ref) s
  let s := modPart c.ref.part (fun p => if p.state == .freezing then { p with drained := p.drained + 1 } else p) s
  dropCmd c.ref s

end Sys2Proof.Machine
end

