-- ==== Sys2Proof/Machine/Operands.lean ====
section
/-! DEFINITION. Operand forms: the command header (R49, R50), descriptor lists (R51), attribute records (R126), and what each
opcode's chapter settles about its checks (R52, R460). -/

namespace Sys2Proof.Machine

/-- A request under the checks of R52: where it arrived, its header and its payload. -/
structure Req where
  fn      : Nat
  ring    : Nat                 -- global ring, or busRing (R352)
  part    : Nat
  header  : Bytes
  payload : Bytes
  frags   : List Nat            -- input fragment lengths
  outs    : List (Nat × Nat)    -- output fragments in list order: address, length
  readError : Bool
  session : Option (BitVec 32)  -- the SPDM session that carries it
  deriving DecidableEq, Repr

/-! ## The header (R49, R50) -/
namespace Req
def magic (x : Req) : Nat := fld x.header 0x00 4
def version (x : Req) : Nat := fld x.header 0x04 2
def opcode (x : Req) : Nat := fld x.header 0x06 2
def flags (x : Req) : Nat := fld x.header 0x08 2
def partField (x : Req) : Nat := fld x.header 0x0A 2
def ringField (x : Req) : Nat := fld x.header 0x0C 2
def genField (x : Req) : Nat := fld x.header 0x0E 2
def seq (x : Req) : BitVec 64 := BitVec.ofNat 64 (fld x.header 0x10 8)
def handle (x : Req) : BitVec 32 := BitVec.ofNat 32 (fld x.header 0x18 4)
def declLen (x : Req) : Nat := fld x.header 0x1C 4
def descAddr (x : Req) : Nat := fld x.header 0x20 8
def descCount (x : Req) : Nat := fld x.header 0x28 2
def reserved (x : Req) : Bytes := bsub x.header 0x2A 6
def authId (x : Req) : BitVec 32 := BitVec.ofNat 32 (fld x.header 0x30 4)
def irqSuppress (x : Req) : Bool := bit x.flags 0
def fence (x : Req) : Bool := bit x.flags 1
def authRef (x : Req) : Bool := bit x.flags 2
/-- A payload field. -/
def pay (x : Req) (off len : Nat) : Nat := fld x.payload off len
def len (x : Req) : Nat := x.payload.length
/-- Bytes of the reply buffer (R51). -/
def outLen (x : Req) : Nat := (x.outs.map (fun o => o.2)).sum
/-- A key reference of the payload. -/
def key (x : Req) (off : Nat) : BitVec 32 := BitVec.ofNat 32 (fld x.payload off 4)
end Req

/-- The request digest (R59): generation, descriptor address and count zeroed, leftmost 16 bytes of SHA3-256. -/
def requestDigest (header payload : Bytes) : Bytes :=
  (sha3_256 (bput (bput header 0x0E (zeros 2)) 0x20 (zeros 10) ++ payload)).take 16

/-- The command digest of a ceremony (R264): sequence, generation, descriptor address and count, and bytes 0x30 to 0x3F zeroed. -/
def commandDigest (header payload : Bytes) : Bytes :=
  sha3_256 (bput (bput (bput header 0x0E (zeros 10)) 0x20 (zeros 10)) 0x30 (zeros 16) ++ payload)

/-! ## Descriptors (R51) -/

/-- The descriptor in 16 bytes, little-endian (R2, R51). -/
def descOf (b : Bytes) : Desc :=
  { addr := BitVec.ofNat 64 (fld b 0 8), len := BitVec.ofNat 32 (fld b 8 4), flags := BitVec.ofNat 16 (fld b 12 2),
    rsvd := BitVec.ofNat 16 (fld b 14 2) }

/-- The descriptors of a list of `n`. -/
def descsOf (n : Nat) (b : Bytes) : List Desc := (List.range n).map (fun i => descOf (bsub b (16 * i) 16))

def descOk (d : Desc) : Bool :=
  decide (1 ≤ d.len.toNat) && decide (d.len.toNat ≤ 65536) && d.flags &&& 0xFFFE == 0 && d.rsvd == 0

def descOut (d : Desc) : Bool := d.flags &&& 1 == 1

def inFrags (l : List Desc) : List Nat := (l.filter (fun d => !descOut d)).map (fun d => d.len.toNat)
def outFrags (l : List Desc) : List (Nat × Nat) := (l.filter descOut).map (fun d => (d.addr.toNat, d.len.toNat))

/-! ## What a chapter settles for an opcode -/

/-- One planned work item: its kind, its data bytes and the keys it loads, by position in the command's list. -/
structure ItemPlan where
  kind  : UnitKind
  bytes : Nat := 0
  loads : List (Nat × BitVec 32) := []    -- position, declared usage
  deriving DecidableEq, Repr

/-- A control-core item without keys. -/
def coreItem : ItemPlan := { kind := .core }
def facetItem (loads : List (Nat × BitVec 32) := []) (bytes : Nat := 0) : ItemPlan := { kind := .facet, bytes := bytes, loads := loads }
def engineItem (loads : List (Nat × BitVec 32) := []) : ItemPlan := { kind := .engine, loads := loads }

/-- The checks and the plan of one opcode, each as its chapter gives it. Every field has the value of a command that names no
key, draws nothing and is one control-core item. -/
structure OpSpec where
  /-- Earliest phase (R25, R455). -/
  phase    : Phase := .overcast
  /-- The payload lies within the opcode's permitted range (check 7). -/
  length   : State → Req → Bool
  /-- Maximum reply length (check 7). -/
  maxReply : State → Req → Nat := fun _ _ => 0
  /-- The partition whose officers' ceremony the command needs (R263). -/
  quorum   : State → Req → Option Nat := fun _ _ => none
  /-- The partition whose lock an AUTH_REF names (R267, R270). -/
  authLock : State → Req → Nat := fun _ x => x.part
  /-- Order 3 of R460. -/
  own      : State → Req → Option Status := fun _ _ => none
  /-- The keys it names, in parameter-block order (order 4 of R460). -/
  keys     : State → Req → List (BitVec 32) := fun _ _ => []
  /-- The reference it rewrites or destroys. -/
  target   : State → Req → Option (BitVec 32) := fun _ _ => none
  /-- The attributes it gives that reference, when it carries them (R128). -/
  outAttr  : State → Req → Option Attr := fun _ _ => none
  /-- Order 5 of R460. -/
  attrs    : State → Req → Option Status := fun _ _ => none
  /-- Shares it takes: status when exhausted (R100, R142, R256). -/
  shares   : State → Req → Option Status := fun _ _ => none
  /-- Whether it draws (R218). -/
  draws    : State → Req → Bool := fun _ _ => false
  items    : State → Req → List ItemPlan := fun _ _ => [coreItem]
  flow     : Option Flow := none
  /-- Its items run in a flow of their own even when the header names a session (R284). -/
  private_ : Bool := false
  /-- It completes only when its persistent state is durable (R132, R458). -/
  persist  : State → Req → Bool := fun _ _ => false
  /-- It takes a transient context (R80). -/
  transient : State → Req → Bool := fun _ _ => false
  /-- Vault records it reserves (R256). -/
  reserve  : State → Req → Nat := fun _ _ => 0
  /-- What takes effect at the command's acceptance itself (R142, R280). -/
  accept   : Cmd → State → State := fun _ s => s
  /-- What a command of the flow of R461 is presumed to do while it has not run. -/
  presume  : Cmd → State → State := fun _ s => s
  /-- It is refused on the management bus's ring (R352) unless this holds. -/
  onBus    : Bool := false

/-- The payload as a request of an accepted command. -/
def reqOf (c : Cmd) : Req :=
  { fn := c.fn, ring := c.ring, part := c.ref.part, header := c.header, payload := c.payload, frags := c.frags, outs := c.outs,
    readError := false, session := c.session }

/-! ## Loads at the effect (R128, R141) -/

/-- The version a command took of a key it names, with its contents: as the bus delivered it, or as it stands. -/
def loadKey (s : State) (c : Cmd) (r : BitVec 32) : Option KeyVal :=
  match c.loaded.find? (fun x => x.1 == r) with
  | some x => some x.2
  | none => match c.keys.find? (fun k => k.1 == r) with
  | none => none
  | some k => versionVal s c.ref.part r k.2

/-- The version number a command took. -/
def loadVersion (c : Cmd) (r : BitVec 32) : BitVec 16 :=
  match c.keys.find? (fun k => k.1 == r) with | none => 0 | some k => k.2

/-- Run `f` on a loaded key that passes its attribute check; a key that is gone or does not fit ends the command with the
status check 8 would have given and the reply `hdr` of its group (R128, R141). -/
def withKey (s : State) (c : Cmd) (r : BitVec 32) (chk : Attr → Option Status) (hdr : Bytes)
    (f : KeyVal → State × Option (Status × Bytes)) : State × Option (Status × Bytes) :=
  match loadKey s c r with
  | none => ends s stKeyNotFound hdr
  | some v => match chk v.attr with
    | some st => ends s st hdr
    | none => f v

/-- `n` bytes of the command's draw stream from position `off` (R218). -/
def drawn (c : Cmd) (off n : Nat) : Bytes :=
  match c.draw with
  | .seed b => drawBytes b off n
  | _ => zeros n

/-- The command's draw stream from position `off` on, byte by byte, without end (R218). -/
def drawStream (c : Cmd) (off : Nat) : Nat → Byte := fun i => (drawn c (off + i) 1).headD 0

/-! ## Cached records and tokens (R135 to R137) -/

/-- The first 32 bytes of a token: the additional data of its tag (R135). -/
def tokenHead (v : KeyVal) : Bytes :=
  toLe 2 1 ++ [v.mwkGen, 0] ++ toLe 4 v.epoch.toNat ++ padTo 8 v.random ++ attrBytes v.attr

/-- The 128-byte token of a cached key (R135). -/
def tokenBytes (s : State) (p : Nat) (r : BitVec 32) (v : KeyVal) : Bytes :=
  let h := tokenHead v
  let kek := (kekFor s p v.mwkGen).getD []
  let pt := toLe 4 r.toNat ++ toLe 1 v.material.length ++ zeros 3 ++ padTo 72 v.material
  let (ct, tag) := gcmSeal kek (bsub h 4 12) h pt
  h ++ ct ++ tag

/-- Open a token for a reference: the tag, the reference inside, the epoch and the generation (R137). -/
def openToken (s : State) (p : Nat) (r : BitVec 32) (t : Bytes) : Option KeyVal :=
  let h := t.take 32
  match kekFor s p (BitVec.ofNat 8 (fld t 2 1)) with
  | none => none
  | some kek =>
    match gcmOpen kek (bsub h 4 12) h (bsub t 0x20 80) (bsub t 0x70 16) with
    | none => none
    | some pt =>
      if fld h 0 2 == 1 && fld h 3 1 == 0 && fld pt 0 4 == r.toNat && decide ((epochOf s p).toNat ≤ fld h 4 4) then
        some { attr := attrOf (bsub h 16 16), material := bsub pt 8 (fld pt 4 1), random := bsub h 8 8,
               epoch := BitVec.ofNat 32 (fld h 4 4), mwkGen := BitVec.ofNat 8 (fld h 2 1) }
      else none

/-- A key value as it enters a reference: a cached record is wrapped under the current generation and epoch with the RANDOM
given (R135). SPAN is set by the module (R126). -/
def newVal (s : State) (p : Nat) (r : BitVec 32) (a : Attr) (material random : Bytes) : KeyVal :=
  let span := if isCached r then 1 else algSpan a.alg.toNat a.bits.toNat
  { attr := { a with span := BitVec.ofNat 8 span }, material := material, random := if isCached r then random else [],
    epoch := if isCached r then epochOf s p else 0, mwkGen := s.ks.mwkGen }

/-! ## Rewrites -/

/-- The token epoch of a partition rises by one (R139). -/
def bumpEpoch (p : Nat) (s : State) : State := { s with ks := { s.ks with epochs := s.ks.epochs.put p (epochOf s p + 1) } }

/-- The reply of KEY_GENERATE, KEY_IMPORT and KEY_TOKEN_LOAD (R272). -/
def keyReply (version : BitVec 16) (alg : BitVec 8) (m : Bytes) (gen : BitVec 8) (token : Bytes) : Bytes :=
  toLe 2 version.toNat ++ padTo 3 ((kcv alg m).getD []) ++ [gen] ++ toLe 1 (b2n !token.isEmpty) ++ [0] ++ token

/-- Write new key material into a command's target as the rewrite's end, and reply (R141, R272). -/
def writeKey (c : Cmd) (o : BitVec 32) (a : Attr) (m random : Bytes) (s : State) : State × Option (Status × Bytes) :=
  let p := c.ref.part
  let v := newVal s p o a m random
  let t := rewriteOk p o c.shadow (some v) s
  ends t stOk (keyReply (getKey t p o).version a.alg m t.ks.mwkGen (if isCached o then tokenBytes t p o v else []))

/-! ## Targets of rewrites (R100, R125, R142) -/

/-- Local slots a key of the partition occupies. -/
def slotsOf (e : BitVec 32 × KeyEntry) : List Nat :=
  match e.2.cur with
  | none => []
  | some v => if isOnDie e.1 then (List.range v.attr.span.toNat).map (refIndex e.1 + ·) else []

/-- Local slots a reference will occupy once the rewrites pending on it have ended. -/
def slotsPending (s : State) (e : BitVec 32 × KeyEntry) : List Nat :=
  if isOnDie e.1 then
    (e.2.pending.map (fun r => match (findCmd s r).bind (fun c => c.outAttr) with
      | none => []
      | some a => (List.range (algSpan a.alg.toNat a.bits.toNat)).map (refIndex e.1 + ·))).flatten
  else []

/-- Whether a span of `n` slots from reference `r` lies within the share and meets no slot of another key (R273, R274). -/
def spanFree (s : State) (p : Nat) (r : BitVec 32) (n : Nat) : Bool :=
  !isOnDie r ||
  (decide (refIndex r + n ≤ refShare s r) &&
   ((partKeys s p).filter (fun e => isOnDie e.1 && e.1 != r)).all (fun e =>
     (slotsOf e ++ slotsPending s e).all (fun k => decide (k < refIndex r) || decide (refIndex r + n ≤ k))))

/-- Shadow entry and share checks of a rewrite of `r` (R142, R157). -/
def rewriteShares (s : State) (p : Nat) (r : BitVec 32) : Option Status :=
  need (!needsShadow s p r || shadowFree s p) stFlowLimit

end Sys2Proof.Machine
end

