-- ==== Sys2Proof/Machine/Otp.lean ====
section
/-! DEFINITION. What OTP holds, identity keys, image checks and hybrid signatures (R203, R294 to R298, R356, R362 to R366). -/

namespace Sys2Proof.Machine

/-! ## The OTP map (R365) -/

def otp (s : State) (a n : Nat) : Bytes := otpBytes s.life.otp a n

def unitSerial (s : State) : Bytes := otp s 0 8
def rootDigest (s : State) : Bytes := otp s 0x10 32
def imgKeyDigest (s : State) (k : Nat) : Bytes := otp s (0x30 + 32 * k) 32
def dbgKeyDigest (s : State) (k : Nat) : Bytes := otp s (0xB0 + 32 * k) 32
def revokeByte (s : State) : Nat := (otpRead s.life.otp 0xF0).toNat

/-- Bits set in a byte string. -/
def popBytes (b : Bytes) : Nat := (b.map (fun x => ((List.range 8).filter (fun k => bit x.toNat k)).length)).sum

/-- C: the thermometer bits programmed in the SVN counter (R296). -/
def svnCount (s : State) : Nat := popBytes (otp s 0x100 32)
def reopens (s : State) : Nat := popBytes (otp s 0x120 8)

/-- Program OTP bytes. -/
def programOtp (a : Nat) (b : Bytes) (s : State) : State := { s with life := { s.life with otp := otpProgramBytes s.life.otp a b } }

/-- Program the next bit of a thermometer field at `a` that has `n` bits set. -/
def programNextBit (a n : Nat) (s : State) : State := programOtp (a + n / 8) [1#8 <<< (n % 8)] s

/-- Vendor keys that are not revoked, as FW_BOOT.KEYS_LIVE shows them (R314). -/
def keysLive (s : State) : Nat := 15 - revokeByte s % 16
def keyRevoked (s : State) (k : Nat) : Bool := bit (revokeByte s) k
def dbgKeyRevoked (s : State) (k : Nat) : Bool := bit (revokeByte s) (4 + k)
def dbgKeysLive (s : State) : Nat := 3 - revokeByte s / 16 % 4

/-! ## Transition records (R362, R363) -/

/-- Word `w` of transition record `i`. -/
def recWord (s : State) (i w : Nat) : Nat := leNat (otp s (0x400 + 16 * i + 4 * w) 4)

def lcCode : LifeCycle → Nat
  | .raw => 0 | .test => 1 | .personalised => 2 | .deployed => 3 | .returned => 4 | .scrap => 5

def lcOfCode : Nat → Option LifeCycle
  | 0 => some .raw | 1 => some .test | 2 => some .personalised | 3 => some .deployed | 4 => some .returned | 5 => some .scrap
  | _ => none

/-- State words (R363). -/
def lcWord : LifeCycle → Nat
  | .raw => 0 | .test => 0x5A3CC301 | .personalised => 0x5AC33C02 | .deployed => 0xA53C5A03 | .returned => 0xA5C3A504
  | .scrap => 0xC35AA505

def lcOfWord (w : Nat) : Option LifeCycle :=
  [LifeCycle.test, .personalised, .deployed, .returned, .scrap].find? (fun l => lcWord l == w)

def recDoneWord : Nat := 0xC3A55A3C
def recDone (s : State) (i : Nat) : Bool := recWord s i 3 == recDoneWord

/-- An intent is complete when INTENT is a state word and INTENT_CHECK its complement (R362). -/
def recIntent (s : State) (i : Nat) : Option LifeCycle :=
  match lcOfWord (recWord s i 0) with
  | none => none
  | some l => if recWord s i 1 == 2 ^ 32 - 1 - recWord s i 0 then some l else none

def recStarted (s : State) (i : Nat) : Bool := recWord s i 0 != 0 || recWord s i 1 != 0

/-- TRANSITIONS: records whose DONE is complete (R362). -/
def transitions (s : State) : Nat := ((List.range 64).filter (recDone s)).length

/-- The present state: the TARGET of the highest record whose DONE is complete, or Raw (R362). -/
def lifeCycle (s : State) : LifeCycle :=
  match ((List.range 64).filter (recDone s)).getLast? with
  | none => .raw
  | some i => (lcOfWord (recWord s i 0)).getD .raw

/-- The highest record with a word not blank (R364). -/
def lastRecord (s : State) : Option Nat := ((List.range 64).filter (recStarted s)).getLast?

/-- The next record to use: after the highest one begun, COUNTER records of which are done (R362, R364). -/
def nextRecord (s : State) : Nat := match lastRecord s with | none => 0 | some i => i + 1

/-- LIFE_CYCLE as reports carry it: the CODE, with bit 7 in Inspection mode (R356). -/
def lcReport (s : State) : Nat := lcCode (lifeCycle s) + 128 * b2n s.life.inspection

/-- States in which the debug port is open and no owner can exist (R356). -/
def lcOpen (s : State) : Bool := match lifeCycle s with | .raw => true | .test => true | .returned => true | _ => false

/-! ## Identity (R365, R366) -/

def seedSlot (s : State) (i : Nat) : Bytes := otp s (0x200 + 32 * i) 32
def seedBlank (s : State) (i : Nat) : Bool := allZero (seedSlot s i)
def seedVoid (s : State) (i : Nat) : Bool := (seedSlot s i).all (· == 0xFF)
def seedsUsed (s : State) : Nat := ((List.range 8).filter (fun i => !seedBlank s i)).length

/-- The active seed: the one slot that holds a seed. -/
def activeSeed (s : State) : Option Bytes :=
  ((List.range 8).find? (fun i => !seedBlank s i && !seedVoid s i)).map (seedSlot s)

/-- A hybrid key of a secret and a label: 32 bytes of ML-DSA-87 seed, then the P-384 scalar in 48 bytes (R366). -/
def layerKey (secret label : Bytes) : Bytes :=
  let x := beNat ((hmac 0x13 secret (label ++ [0x02])).take 48)
  (hmac 0x13 secret (label ++ [0x01])).take 32 ++ toBe 48 (x % (Config.groupOrder 0x41 - 1) + 1)

/-- The key block of a hybrid key: ML-DSA-87 public key, P-384 point, 3 zero bytes (R294). -/
def keyBlock (k : Bytes) : Bytes :=
  padTo 2592 (Config.publicOf 0x52 (k.take 32)) ++ padTo 97 (Config.publicOf 0x41 (k.drop 32)) ++ zeros 3

/-- IDENTITY_HASH: SHA3-256 of the unit identity key block, zero when no unit identity exists (R368). -/
def identityHash (s : State) : Bytes := if s.life.unitKey.isEmpty then zeros 32 else sha3_256 (keyBlock s.life.unitKey)

/-- The two halves of a hybrid signature by a layer key over M (R203): ML-DSA-87 over SHA3-512(M), and P-384. The hedging
draws are the 32 + 32 bytes `rnd`. -/
def hybridSign (k m rnd : Bytes) : Bytes × Bytes :=
  let d := sha3_512 m
  (padTo 4627 (Config.sign 0x30 0 0x52 (k.take 32) d [] (rnd.take 32)),
   padTo 96 (Config.sign 0x10 0x13 0x41 (k.drop 32) d [] (rnd.drop 32)))

/-- A hybrid signature block as images carry it: 4,627 bytes, one zero byte, 96 bytes (R203). -/
def hybridBlock (k m rnd : Bytes) : Bytes := let (a, b) := hybridSign k m rnd; a ++ [0] ++ b

/-- Both halves of a hybrid signature block verify under a key block (R203). -/
def hybridVerify (kb m sig : Bytes) : Bool :=
  let d := sha3_512 m
  Config.verify 0x30 0 0x52 (kb.take 2592) d [] (sig.take 4627) && Config.verify 0x10 0x13 0x41 (bsub kb 2592 97) d [] (bsub sig 4628 96)

/-! ## Image checks (R294, R295, R297) -/

def imgHeader (i : Bytes) : Bytes := i.take 256
def imgBodyLen (i : Bytes) : Nat := fld i 0x0C 4
def imgBody (i : Bytes) : Bytes := bsub i 256 (imgBodyLen i)
def imgKeyBlock (i : Bytes) : Bytes := bsub i (256 + imgBodyLen i) 2692
def imgSig (i : Bytes) : Bytes := bsub i (256 + imgBodyLen i + 2692) 4724
def imgSvn (i : Bytes) : Nat := fld i 8 1
def imgKeyIndex (i : Bytes) : Nat := fld i 7 1
def imgFloor (i : Bytes) : Nat := fld i 9 1
def imgRevoke (i : Bytes) : Nat := fld i 0xA 1
def imgMinRot (i : Bytes) : Nat := fld i 0xB 1
def imgBuildId (i : Bytes) : Bytes := bsub i 0x10 8

def imgMax (typ : Nat) : Nat := if typ = 1 then 2 ^ 20 else 2 ^ 26

/-- Order 2 of R297. -/
def imgHeaderOk (i : Bytes) (typ : Nat) : Bool :=
  fld i 0 4 == 0x5547494D && fld i 4 2 == 1 && fld i 6 1 == typ && decide (imgKeyIndex i < 4) && allZero (bsub i 0x18 8) &&
  allZero (bsub i 0x60 160) &&
  (if typ = 1 then imgMinRot i == 0 && decide (imgRevoke i < 16) else imgFloor i == 0 && imgRevoke i == 0) &&
  imgBodyLen i % 16 == 0 && decide (i.length ≤ imgMax typ) && decide (i.length = imgBodyLen i + 7672)

/-- Orders 3 to 5 of R297 for a key block, an image key index and a signed message: result code of the first failure. -/
def sigCheck (revoked : Bool) (digest kb m sig : Bytes) : Option Nat :=
  if revoked then some 4
  else if sha3_256 kb ≠ digest then some 7
  else if !hybridVerify kb m sig then some 3
  else none

/-- The result code of R297, checks in their order. -/
def imageCheck (s : State) (i : Bytes) (typ rotSvn : Nat) (readable : Bool) : Nat :=
  if !readable then 6
  else if !imgHeaderOk i typ then 2
  else match sigCheck (keyRevoked s (imgKeyIndex i)) (imgKeyDigest s (imgKeyIndex i)) (imgKeyBlock i) (imgHeader i) (imgSig i) with
    | some k => k
    | none =>
      if sha3_512 (imgBody i) ≠ bsub i 0x20 64 then 8
      else if imgSvn i < svnCount s then 5
      else if typ = 2 && rotSvn < imgMinRot i then 9
      else 1

end Sys2Proof.Machine
end

