-- ==== Sys2Proof/Machine/Formats.lean ====
section
/-! DEFINITION. Contents of partition blobs and backups, whose record formats are the vendor's own (R116, R151): what they carry
is given by the spec, how it is laid out is not. -/

namespace Sys2Proof.Machine

/-- One key of a blob. -/
structure BlobKey where
  key     : BitVec 32
  version : BitVec 16
  val     : KeyVal
  deriving DecidableEq, Repr

/-- One ring of a blob: its number, LAST_SEQ, its commands accepted and its cached replies. -/
structure BlobRing where
  ring    : Nat
  lastSeq : BitVec 64
  accepts : Nat
  replies : List CachedReply
  deriving DecidableEq, Repr

/-- The seven sections of a partition blob (R116). -/
structure PartImage where
  policy    : Bytes
  threshold : Nat
  officers  : List Officer
  salt      : Bytes
  keys      : List BlobKey
  sessions  : List (Nat × Session)
  rings     : List BlobRing
  jnext     : BitVec 16
  jwrapped  : Bool
  journal   : Tab JEntry
  vault     : List VaultRec
  deriving DecidableEq, Repr

/-- The records of one section, in Torvonfy's internal format: of sections 1 to 7, and what the seven hold when read back. -/
opaque sectionRecords (t : Nat) (i : PartImage) : Bytes
opaque readRecords (l : List Bytes) : Option PartImage
/-- The records of a key section, 2 of on-die and 3 of cached keys. -/
opaque keyRecords (l : List BlobKey) : Bytes
opaque readKeyRecords (b : Bytes) : Option (List BlobKey)

/-- A section: a header of 16 bytes with its type, 4 reserved bytes and its length, then its records (R116). -/
def sectionBytes (t : Nat) (b : Bytes) : Bytes := toLe 4 t ++ zeros 4 ++ toLe 8 b.length ++ b

/-- The section of type `t` a plaintext begins with, and the rest. -/
def readSection (t : Nat) (b : Bytes) : Option (Bytes × Bytes) :=
  let n := fld b 8 8
  if fld b 0 4 == t && fld b 4 4 == 0 && decide (16 + n ≤ b.length) then some (bsub b 16 n, b.drop (16 + n)) else none

/-- A plaintext that is the sections of these types in this order and nothing more. -/
def readSections : List Nat → Bytes → Option (List Bytes)
  | [], b => if b.isEmpty then some [] else none
  | t :: r, b => (readSection t b).bind (fun e => (readSections r e.2).map (fun l => e.1 :: l))

def onDieKeys (l : List BlobKey) : List BlobKey := l.filter (fun k => isOnDie k.key)
def cachedKeys (l : List BlobKey) : List BlobKey := l.filter (fun k => isCached k.key)

/-- The records of section `t` of a partition. -/
def partRecords (i : PartImage) (t : Nat) : Bytes :=
  if t = 2 then keyRecords (onDieKeys i.keys) else if t = 3 then keyRecords (cachedKeys i.keys) else sectionRecords t i

/-- The plaintext of a partition's blob: sections 1 to 7 in order (R116). -/
def encodePart (i : PartImage) : Bytes := ([1, 2, 3, 4, 5, 6, 7].map (fun t => sectionBytes t (partRecords i t))).flatten

/-- The keys of sections 2 and 3. -/
def readKeys (a b : Bytes) : Option (List BlobKey) := (readKeyRecords a).bind (fun x => (readKeyRecords b).map (fun y => x ++ y))

/-- What a blob's plaintext holds, its sections being whole and in order. -/
def decodePart (b : Bytes) : Option PartImage :=
  (readSections [1, 2, 3, 4, 5, 6, 7] b).bind (fun l =>
    (readKeys (l.getD 1 []) (l.getD 2 [])).bind (fun k => (readRecords l).map (fun i => { i with keys := k })))

/-- The same for sections 2 and 3 alone, as a backup carries them (R151). -/
def encodeKeys (l : List BlobKey) : Bytes := sectionBytes 2 (keyRecords (onDieKeys l)) ++ sectionBytes 3 (keyRecords (cachedKeys l))
def decodeKeys (b : Bytes) : Option (List BlobKey) :=
  (readSections [2, 3] b).bind (fun l => readKeys (l.getD 0 []) (l.getD 1 []))

/-- Plaintext bytes of one chunk (R116). -/
def chunkSize : Nat := 8388480

/-- Chunk `i` of an export or backup: header, ciphertext and tag (R116, R119). -/
def sealChunk (key : Bytes) (id : BitVec 32) (i : Nat) (plain : Bytes) : Bytes :=
  let h := toLe 4 id.toNat ++ toLe 4 i ++ toLe 4 plain.length ++ zeros 4
  let (ct, tag) := gcmSeal key (toLe 4 id.toNat ++ toLe 4 i ++ zeros 4) h plain
  h ++ ct ++ tag

/-- Every chunk of a plaintext. -/
def sealChunks (key : Bytes) (id : BitVec 32) (plain : Bytes) : List Bytes :=
  let l := chunks chunkSize plain
  (List.range l.length).map (fun i => sealChunk key id i (l.getD i []))

/-- Open a chunk expected at index `i`: its plaintext and its tag (R116). -/
def openChunk (key : Bytes) (id : BitVec 32) (i : Nat) (b : Bytes) : Option (Bytes × Bytes) :=
  let h := b.take 16
  let n := fld h 8 4
  if fld h 0 4 == id.toNat && fld h 4 4 == i && fld h 12 4 == 0 && b.length == n + 32 && decide (n ≤ chunkSize) then
    (gcmOpen key (toLe 4 id.toNat ++ toLe 4 i ++ zeros 4) h (bsub b 16 n) (b.drop (16 + n))).map (fun p => (p, b.drop (16 + n)))
  else none

/-- An offer as MIGRATE_OFFER and KEY_RESTORE_OFFER reply it (R119), and the secrets behind it. It takes of the command's draw stream, one
after the other, the KEM seed, the P-384 scalar and the hedging of both signature halves (R115, R218). -/
def makeOffer (s : State) (id : BitVec 32) (part : Nat) (expiry : BitVec 64) (c : Cmd) : Offer :=
  let dz := drawn c 0 64
  let sc := padTo 48 (Config.genPrivate 0x41 384 (drawStream c 64))
  let n := 64 + Config.genTaken 0x41 384 (drawStream c 64)
  let body := toLe 4 id.toNat ++ toLe 2 part ++ toLe 2 (s.pm.logP.getD 0) ++ unitSerial s ++ toLe 8 expiry.toNat ++
    padTo 1568 (Config.publicOf 0x5A dz) ++ padTo 97 (Config.publicOf 0x41 sc) ++ zeros 3
  { id := id, body := body ++ hybridBlock s.life.appKey body (drawn c n 64), secret := dz ++ sc, expiry := expiry }

end Sys2Proof.Machine
end

