-- ==== Sys2Proof/Machine/Slots.lean ====
section
/-! DEFINITION. The two slots of the root-of-trust firmware, their flag records, and the steps of an update (R300 to R302, R313). -/

namespace Sys2Proof.Machine

/-! ## Slots and flag records (R300) -/

def slotOf (s : State) (b : Bool) : Slot := if b then s.fw.slotB else s.fw.slotA

def setSlot (b : Bool) (x : Slot) (s : State) : State :=
  if b then { s with fw := { s.fw with slotB := x } } else { s with fw := { s.fw with slotA := x } }

/-- The CRC of a flag record is correct. -/
def flagIntact (r : Bytes) : Bool := bsub r 0x3C 4 == flagCrc r

/-- A flag record marks its slot active: its CRC is correct, ACTIVE is 0xA5, and IMAGE_DIGEST is that of the slot's present header. -/
def slotActive (x : Slot) : Bool :=
  flagIntact x.flag && bsub x.flag 5 1 == [0xA5] && bsub x.flag 0x10 32 == sha3_256 (imgHeader x.image)

/-- FLAG_SEQ of a slot's record. A record without a correct CRC has none and counts as 0: DESIGN CHOICE, log entry 132. -/
def flagSeq (x : Slot) : Nat := if flagIntact x.flag then fld x.flag 8 4 else 0

/-- One above the higher FLAG_SEQ of the two records (R302). -/
def nextFlagSeq (s : State) : Nat := max (flagSeq s.fw.slotA) (flagSeq s.fw.slotB) + 1

/-! ## The steps of an update (R302) -/

/-- The slot that is not running. -/
def otherSlot (s : State) : Bool := !s.fw.running

/-- Steps 1 and 2: the target and its flag record are erased and the image programmed. -/
def writeSlot (b : Bool) (i : Bytes) (s : State) : State := setSlot b { slotOf s b with image := i, flag := flagErased } s

/-- Step 3: the target's flag record is programmed active with its FLAG_SEQ. -/
def raiseFlag (b : Bool) (seq : Nat) (s : State) : State :=
  let x := slotOf s b
  setSlot b { x with flag := flagRecord b seq (sha3_256 (imgHeader x.image)) } s

/-- Step 4: the ACTIVE byte of a slot's flag record is cleared. -/
def clearFlag (b : Bool) (s : State) : State :=
  let x := slotOf s b
  setSlot b { x with flag := flagCleared x.flag } s

/-! ## An update cut off (R302, R313) -/

/-- The command of an opcode whose item has begun and that has no result yet. -/
def underway (op : BitVec 16) (s : State) : Option Cmd :=
  s.prism.cmds.find? (fun c => c.opcode == op && c.result.isNone && c.items.any (fun i => i.state != .waiting && i.state != .cancelled))

/-- A warm reset or a loss of power cuts off a FW_ROT_COMMIT: how far it had come is a free value (log entry 133). Of a target cut off
within step 1 or 2 the contents are free too. -/
def cutCommit (s : State) : State :=
  if (underway 0x0D07 s).isSome && imageCheck s s.fw.rotStage 1 0 true == 1 then
    let b := otherSlot s
    let n := nextFlagSeq s
    let i := s.fw.rotStage
    let (w, s) := takeFree 1 s
    match leNat w % 5 with
    | 0 => s
    | 1 => let (j, s) := takeFree i.length s; writeSlot b j s
    | 2 => writeSlot b i s
    | 3 => raiseFlag b n (writeSlot b i s)
    | _ => clearFlag (!b) (raiseFlag b n (writeSlot b i s))
  else s

end Sys2Proof.Machine
end

