-- ==== Sys2Proof/Machine/LifeCycle.lean ====
section
/-! DEFINITION. Requests for a life-cycle transition, and the intent they program (R358 to R360, R362, R364). -/

namespace Sys2Proof.Machine

/-- ROLE of DEVICE_STATUS (R287, R408). -/
def roleNum (s : State) : Nat :=
  match s.ilu.mirror with
  | .active => 1 | .held => 1 | .solo => 1 | .syncSource => 1
  | .standby => 2 | .syncTarget => 2 | .detached => 2
  | .none => if s.ilu.members = 0 then 0 else 3

/-! ## Requests (R358 to R360) -/

def rqFrom (x : Req) : Option LifeCycle := lcOfCode (x.pay 6 1)
def rqTarget (x : Req) : Option LifeCycle := lcOfCode (x.pay 7 1)
def rqKey (x : Req) : Nat := x.pay 0x14 1

/-- The transitions there are: whether the vendor and whether the owner signs (R358). -/
def lcRule (s : State) : LifeCycle → LifeCycle → Option (Bool × Bool)
  | .raw, .test => some (true, false)
  | .test, .personalised => if (List.range 8).any (seedBlank s) then some (true, false) else none
  | .test, .scrap => some (true, false)
  | .personalised, .deployed => if s.life.certs.isSome then some (false, true) else none
  | .personalised, .returned => some (true, s.ks.mwkGen != 0)
  | .deployed, .returned => some (true, true)
  | .deployed, .scrap => some (false, true)
  | .returned, .test => some (true, false)
  | .returned, .scrap => some (true, false)
  | _, _ => none

/-- The signatures a request needs, when its pair is one of R358. -/
def rqRule (s : State) (x : Req) : Option (Bool × Bool) :=
  match rqFrom x, rqTarget x with
  | some f, some t => lcRule s f t
  | _, _ => none

def ownLcRequest (s : State) (x : Req) : Option Status :=
  need (x.fn == 0 && roleNum s == 0 && x.pay 0 4 == 0x55474C52 && x.pay 4 2 == 1 && x.pay 6 1 == lcCode (lifeCycle s) &&
        bsub x.payload 8 8 == unitSerial s && x.pay 0x10 4 == transitions s && decide (nextRecord s < 64) &&
        decide (transitions s < 64) && allZero (bsub x.payload 0x15 3) && bsub x.payload 0x18 32 == identityHash s &&
        allZero (bsub x.payload 0x38 8) &&
        (match rqRule s x with
         | none => false
         | some (v, _) => if v then decide (rqKey x < 4) else rqKey x == 0xFF)) stPolicyDenied

/-- Whether an owner ceremony is needed. -/
def rqOwner (s : State) (x : Req) : Bool := match rqRule s x with | none => false | some (_, o) => o

/-- The vendor's signature, where one is given, verifies with the checks of R297 at orders 3 to 5 (R360). -/
def rqSigned (s : State) (x : Req) : Bool :=
  !(rqKey x < 4 &&
    (sigCheck (keyRevoked s (rqKey x)) (imgKeyDigest s (rqKey x)) (bsub x.payload 64 2692) (x.payload.take 64)
      (x.payload.drop 2756)).isSome)

/-! ## The intent (R362, R364) -/

/-- Where the next intent goes. -/
def intentAt (s : State) : Nat := 0x400 + 16 * nextRecord s

/-- Program a complete intent into the next record; from then on no further command is accepted (R360, R362, R364). -/
def programIntent (t : LifeCycle) (s : State) : State :=
  let a := intentAt s
  let s := programOtp (a + 4) (toLe 4 (2 ^ 32 - 1 - lcWord t)) (programOtp a (toLe 4 (lcWord t)) s)
  { s with life := { s.life with fenced := true } }

/-- A reset or a loss of power cuts off a LC_REQUEST that has verified: how far it had come is a free value, and a word cut off holds a
subset of its bits (R362; log entry 133). -/
def cutIntent (s : State) : State :=
  match underway 0x0E11 s with
  | none => s
  | some c =>
    match rqTarget (reqOf c) with
    | none => s
    | some t =>
      if (ownLcRequest s (reqOf c)).isNone && rqSigned s (reqOf c) then
        let a := intentAt s
        let (w, s) := takeFree 5 s
        let part (v : Nat) : Bytes := List.zipWith (· &&& ·) (toLe 4 v) (w.drop 1)
        match leNat (w.take 1) % 3 with
        | 0 => programOtp a (part (lcWord t)) s
        | 1 => programOtp (a + 4) (part (2 ^ 32 - 1 - lcWord t)) (programOtp a (toLe 4 (lcWord t)) s)
        | _ => programIntent t s
      else s

end Sys2Proof.Machine
end

