-- ==== Sys2Proof/Machine/Frames.lean ====
section
/-! DEFINITION. The FORWARD of an accepted command with its draw verdict, and what a link that goes down or comes up sends again (R223, R224,
R400, R401, R408 to R411, R420). -/

namespace Sys2Proof.Machine

/-! ## Forwarding (R223, R224, R409 to R411) -/

/-- A command every module serves for itself, on local ring 0 of its PF (R409). -/
def localCmd (op : Nat) : Bool :=
  let g := op / 256
  (g == 1 && op != 0x0102) || g == 0x0D || g == 0x0E || g == 0x0F || g == 0x10

/-- DRAW_CHECK (R224). -/
def drawCheck (seed : Bytes) (part : Nat) (seq : BitVec 64) : Bytes := (sha3_256 (seed ++ toLe 2 part ++ toLe 8 seq.toNat)).take 4

/-- Send the FORWARD of a command whose draw verdict is known and which the standby has not acknowledged. -/
def sendForward (s : State) (c : Cmd) : State :=
  match c.verdict with
  | none => s
  | some (v, reseed) =>
    if s.ilu.mirror == .active && !c.acked then
      let chk := match c.draw with | .seed b => drawCheck b c.ref.part c.seq | _ => []
      sendPartner 0x10 (c.header ++ c.payload ++ toLe 2 c.ref.idx ++ toLe 1 v ++ reseed ++ chk) s
    else s

/-- The active of a pair sends the FORWARD of a command once its draw verdict is known: 0 no draw, 1 a draw, with the reseed material
used and DRAW_CHECK, 2 RNG_FAILED, 3 RNG_NOT_READY. -/
def forwardCmd (r : CmdRef) (verdict : Nat) (reseed : Bytes) (s : State) : State :=
  let s := modCmd r (fun c => { c with verdict := if c.acked || localCmd c.opcode.toNat then none else some (verdict, reseed) }) s
  match findCmd s r with
  | none => s
  | some c => sendForward s c

/-- FORWARDs that a lost link took with it, or that were never sent, are sent in the order of acceptance (R400, R408, R411). -/
def resendForwards (s : State) : State := s.prism.cmds.foldl sendForward s

/-- The changes of a command that its ring has not all acknowledged. -/
def owesReplicas (c : Cmd) : List (Bool × Bytes) := if c.replicated = 0 then [] else c.replicas

/-- Every message that a lost link took with it is sent again: FORWARDs, and changes on their way to the ring (R400, R420). -/
def resendAll (s : State) : State :=
  let t := resendForwards s
  (s.prism.cmds.flatMap owesReplicas).foldl sendReplica t

/-- A link goes down: partial messages and the replay buffer go with it, and what was on its way is sent again on the other port (R400,
R401). -/
def dropLink (port : Bool) (s : State) : State :=
  resendAll (modPort port (fun p => { p with up := false, lanes := 0, train := [], unacked := [], naks := 0 }) s)

end Sys2Proof.Machine
end

