-- ==== Sys2Proof/Machine/Rng.lean ====
section
/-! DEFINITION. The random number generator and the commands of group 0x07 (R131, R212 to R228). -/

namespace Sys2Proof.Machine

def rngStateNum : RngState → Nat
  | .testing => 1 | .healthy => 2 | .failed => 3

/-- RNG_STATUS (R228). -/
def rngStatus (s : State) : Nat :=
  rngStateNum s.rng.state + 4 * s.rng.srcOk.toNat + 64 * b2n s.rng.shared + 256 * s.rng.restarts

/-! ## The sources and the conditioner (R212 to R215) -/

/-- One sample of a source passes both continuous tests: 41 identical samples in a row, or 795 occurrences of the first sample in
a window of 1,024, fail (R213). -/
def testSample (t : SourceTest) (b : Bool) : SourceTest × Bool × Bool :=
  let run := if 0 < t.run && t.last == b then t.run + 1 else 1
  let first := if t.pos = 0 then b else t.first
  let count := if t.pos = 0 then 1 else t.count + b2n (b == first)
  let pos := if t.pos + 1 = 1024 then 0 else t.pos + 1
  ({ last := b, run := run, first := first, pos := pos, count := count }, decide (41 ≤ run), decide (795 ≤ count))

/-- A string of samples of a source, and whether either test failed on one of them. -/
def testSamples : List Bool → SourceTest → SourceTest × Bool × Bool
  | [], t => (t, false, false)
  | b :: bs, t =>
    let (t, r, a) := testSample t b
    let (t, r', a') := testSamples bs t
    (t, r || r', a || a')

/-- The tests of source `k` over its string. -/
def testSource (samples : List (List Bool)) (g : Rng) (k : Nat) : SourceTest × Bool × Bool :=
  testSamples (samples.getD k []) (g.tests.getD k State.resetTest)

/-- The sources for which a property holds, as a mask. -/
def sourceMask (f : Nat → Bool) : BitVec 4 :=
  BitVec.ofNat 4 (b2n (f 0) + 2 * b2n (f 1) + 4 * b2n (f 2) + 8 * b2n (f 3))

def testAll (samples : List (List Bool)) (g : Rng) : List SourceTest := (List.range 4).map (fun k => (testSource samples g k).1)
def rctMask (samples : List (List Bool)) (g : Rng) : BitVec 4 := sourceMask (fun k => (testSource samples g k).2.1)
def aptMask (samples : List (List Bool)) (g : Rng) : BitVec 4 := sourceMask (fun k => (testSource samples g k).2.2)
def failMask (samples : List (List Bool)) (g : Rng) : BitVec 4 := rctMask samples g ||| aptMask samples g

/-- Samples of several sources, taken round robin (R215); the first argument bounds the rounds. -/
def roundRobin : Nat → List (List Bool) → List Bool
  | 0, _ => []
  | n + 1, l => l.filterMap List.head? ++ roundRobin n (l.map List.tail)

/-- Eight samples to a byte, the first in bit 0 (R215). -/
def packByte (b : List Bool) : Byte := BitVec.ofNat 8 ((b.zipIdx.map (fun e => if e.1 then 2 ^ e.2 else 0)).sum)

/-- `n` bytes of samples. -/
def packBits : Nat → List Bool → Bytes
  | 0, _ => []
  | n + 1, l => packByte (l.take 8) :: packBits n (l.drop 8)

/-- The samples of the admitted sources enter the conditioner. -/
def absorb (samples : List (List Bool)) (g : Rng) : Rng :=
  let rows := (List.range 4).filterMap (fun k => if bit g.srcOk.toNat k then some (samples.getD k []) else none)
  { g with cond := g.cond ++ roundRobin ((samples.map List.length).foldl max 0) rows }

/-- SHA3-384 over the 1,536 oldest samples gives one seed, which enters the pool while that holds fewer than 64 (R215). -/
def condition (g : Rng) : Rng :=
  if 1536 ≤ g.cond.length then
    let seed := sha3_384 (packBits 192 (g.cond.take 1536))
    { g with cond := g.cond.drop 1536, pool := if g.pool.length < 64 then g.pool ++ [seed] else g.pool }
  else g

/-- The four sources sampled over one span of time. -/
def sampled (samples : List (List Bool)) : Bool :=
  samples.length == 4 && samples.all (fun l => l.length == (samples.headD []).length)

/-- Sources admitted. -/
def admitted (b : BitVec 4) : Nat := ((List.range 4).filter (fun k => bit b.toNat k)).length

/-- Every RNG_RESTART in progress ends with a status, oldest first; its reply is RNG_STATUS as it stands (R226, R228). A restart
under way when another begins has its sequence run again with that one's, and ends with it (R222). -/
def endRestart (st : Status) (s : State) : State :=
  s.rng.restartCmds.foldl (fun s r =>
    let s := { s with rng := { s.rng with restarts := satAdd 8 s.rng.restarts 1 } }
    endCmd r st (toLe 4 (rngStatus s)) s) { s with rng := { s.rng with restartCmds := [] } }

/-- Fail every draw-seed request that waits (R220). -/
def failWaiting (st : Status) (s : State) : State :=
  let v := if st = stRngNotReady then 3 else 2
  let s := s.rng.queue.foldl (fun s r => forwardCmd r v [] (modCmd r (fun c => { c with draw := .failed st }) s)) s
  { s with rng := { s.rng with queue := [], waits := [] } }

/-- The generator enters FAILED: the pool goes, stalled reads are released with RNG_FAILED, and the fault is reported (R220). -/
def enterFailed (s : State) : State :=
  let s := { s with rng := { s.rng with state := .failed, pool := [], cond := [] } }
  endRestart stRngFailed (setFltCause 0x10 (failWaiting stRngFailed s))

/-- Output of the module instance, and the state after it. -/
def moduleOut (n : Nat) (s : State) : Bytes × State :=
  let (b, st) := drbgGen s.rng.module n
  (b, { s with rng := { s.rng with module := st } })

/-- A read of the module instance stalls while the generator is TESTING, for 5 ms at most (R219). -/
def islandStalls (s : State) : Bool := s.rng.running && s.rng.state == .testing && decide (s.clk.ns < s.rng.startNs + 5000000)

/-- Bytes of randomness the island draws for itself: output of the module instance while the generator is HEALTHY; a free value
otherwise, since the spec gives these reads no data then and goes on without saying what stands in their place (R15, R219). -/
def islandDraw (n : Nat) (s : State) : Bytes × State :=
  if s.rng.state != .healthy then takeFree n s
  else
    let (b, t) := moduleOut n s
    (b, t)

/-- Bytes of the island's own mask stream, which never stalls: the key store's (R131, R346, R374). Which stream of R131 it is, is DEDUCED,
log entry 123. -/
def islandMask (n : Nat) (s : State) : Bytes × State :=
  (padTo n (Config.maskStream s.ks.maskSeed s.ks.maskUsed n), { s with ks := { s.ks with maskUsed := s.ks.maskUsed + n } })

/-- Instantiate a partition's instance from 48 bytes of module-instance output (R216). -/
def instantiatePart (s : State) (p : Nat) : State :=
  let (b, s) := moduleOut 48 s
  modPart p (fun x => { x with drbg := Config.drbgInit b, drbgCount := 0, drbgTime := s.hzn.time, drbgDue := false }) s

/-- Queue a draw-seed request at acceptance (R218): it fails at once while the generator is FAILED (R220). -/
def requestDraw (r : CmdRef) (s : State) : State :=
  if s.rng.state = .failed then modCmd r (fun c => { c with draw := .failed stRngFailed }) s
  else
    modCmd r (fun c => { c with draw := .waiting })
      { s with rng := { s.rng with queue := s.rng.queue ++ [r], waits := s.rng.waits.filter (fun e => s.rng.queue.contains e.1) ++ [(r, s.clk.ns)] } }

/-- The front request of a partition's queue. -/
def frontDraw (s : State) (p : Nat) : Option CmdRef := s.rng.queue.find? (fun r => r.part == p)

/-- When a waiting request entered the port's queue (R219). -/
def waitSince (s : State) (r : CmdRef) : Nat := ((s.rng.waits.find? (fun e => e.1 == r)).map (fun e => e.2)).getD 0

/-- The front request leaves the port's queue (R219). -/
def popDraw (r : CmdRef) (s : State) : State :=
  { s with rng := { s.rng with queue := s.rng.queue.erase r, waits := s.rng.waits.filter (fun e => !(e.1 == r)) } }

/-- A reseed is due: after 4,096 draw seeds, after 100 ms of Horizon time, or after a restart (R217, R222). -/
def reseedDue (s : State) (p : Nat) : Bool :=
  let x := getPart s p
  x.drbgDue || decide (4096 ≤ x.drbgCount) || decide (x.drbgTime.toNat + 3277 ≤ s.hzn.time.toNat)

/-- Reseed a partition instance from the pool's oldest seed (R217). -/
def reseedPart (p : Nat) (seed : Bytes) (s : State) : State :=
  let s := { s with rng := { s.rng with pool := s.rng.pool.tail } }
  modPart p (fun x => { x with drbg := Config.drbgReseed x.drbg seed, drbgCount := 0, drbgTime := s.hzn.time, drbgDue := false }) s

/-- Generate a command's draw seed from its partition's instance (R218). -/
def giveSeed (r : CmdRef) (s : State) : State :=
  let (b, st) := drbgGen (getPart s r.part).drbg 48
  let s := modPart r.part (fun x => { x with drbg := st, drbgCount := x.drbgCount + 1 }) s
  popDraw r (modCmd r (fun c => { c with draw := .seed b }) s)

/-- Serve the front request of a partition, after a reseed that is due (R217, R218, R219). -/
def drawSeed (p : Nat) (r : CmdRef) (s : State) : State :=
  if s.rng.state = .healthy then
    if reseedDue s p && !(s.rng.shared && s.ilu.mirror == .standby) then
      match s.rng.pool with
      | [] => s
      | seed :: _ => forwardCmd r 1 seed (giveSeed r (reseedPart p seed s))
    else forwardCmd r 1 [] (giveSeed r s)
  else s

/-- The sequence of R221 from its start: pool, module instance, tests and health state go (R222). -/
def freshRun (g : Rng) : Rng :=
  { g with katKnown := false, katPassed := false, verdict := false, instDone := false, tests := State.resetTests, cond := [], srcOk := 0,
           pool := [], module := [] }

/-- RNG_STARTUP_KAT_END (R221): 15 µs after the start. -/
def execRngStartupKatEnd (pass : Bool) (s : State) : Res :=
  guarded (s.rng.running && s.rng.state == .testing && !s.rng.katKnown && decide (s.rng.startNs + 15000 ≤ s.clk.ns))
    (fun s =>
      let s := { s with rng := { s.rng with katKnown := true, katPassed := pass } }
      if pass then s else enterFailed { s with rng := { s.rng with katFail := true } }) s

/-- The first seed instantiates the module instance (R216, R221). -/
def seedModule (s : State) : State :=
  match s.rng.pool with
  | [] => s
  | seed :: r => { s with rng := { s.rng with pool := r, module := Config.drbgInit seed, moduleNs := s.clk.ns } }

/-- RNG_STARTUP_VERDICT (R213, R214, R221): 1,024 samples of each source, of 0 and 1 and of 2 and 3. Those that pass are admitted, their start-up samples enter
the conditioner, and its first seed instantiates the module instance; time passes in whole microseconds, so the moments 102.4, 102.5
and 103.0 µs of the sequence are one. -/
def execRngStartupVerdict (lower upper : List (List Bool)) (s : State) : Res :=
  let samples := lower ++ upper
  guarded (s.rng.running && s.rng.state == .testing && s.rng.katKnown && !s.rng.verdict && decide (s.rng.startNs + 102400 ≤ s.clk.ns) &&
           sampled samples && (samples.headD []).length == 1024)
    (fun s =>
      let g := { s.rng with tests := List.replicate 4 State.resetTest, cond := [] }
      let bad := failMask samples g
      let g := { g with verdict := true, tests := testAll samples g, srcOk := ~~~bad, startFail := g.startFail ||| bad }
      let s := { s with rng := g }
      if admitted g.srcOk < 2 then enterFailed s else seedModule { s with rng := condition (condition (absorb samples g)) }) s

/-- What the passing of time brings to the start-up sequence (R221, R222): the partition instances at 118 µs, which a restart leaves
alone, and HEALTHY at 120 µs. -/
def rngPass (s : State) : State :=
  if s.rng.running && s.rng.state == .testing && s.rng.verdict then
    let s := if !s.rng.instDone && decide (s.rng.startNs + 118000 ≤ s.clk.ns) then
               ((partNums s).filter (fun p => (getPart s p).drbg.isEmpty)).foldl instantiatePart
                 { s with rng := { s.rng with instDone := true } }
             else s
    if s.rng.startNs + 120000 ≤ s.clk.ns then endRestart stOk { s with rng := { s.rng with state := .healthy } } else s
  else s

/-- RNG_HEALTH_FAIL (R213, R214): a source fails a continuous test on these samples. One that was admitted is excluded, and the pool and
the samples under way are discarded; the generator fails when fewer than two remain. -/
def execRngHealthFail (source : Fin 4) (samples : List (List Bool)) (s : State) : Res :=
  guarded (s.rng.running && s.rng.verdict && sampled samples && bit (failMask samples s.rng).toNat source.val)
    (fun s =>
      let g := s.rng
      let out := failMask samples g &&& g.srcOk
      let g := { g with tests := testAll samples g, rctFail := g.rctFail ||| rctMask samples g, aptFail := g.aptFail ||| aptMask samples g }
      if out = 0 then { s with rng := condition (absorb samples g) }
      else
        let s := { s with rng := { g with srcOk := g.srcOk &&& ~~~out, pool := [], cond := [] } }
        if admitted s.rng.srcOk < 2 && s.rng.state != .failed then enterFailed s else s) s

/-- SEED_READY (R213, R215): samples that pass the tests complete the 1,536 of one seed. -/
def execSeedReady (samples : List (List Bool)) (s : State) : Res :=
  guarded (s.rng.state == .healthy && sampled samples && failMask samples s.rng &&& s.rng.srcOk == 0 &&
           decide (1536 ≤ (absorb samples s.rng).cond.length) && decide ((absorb samples s.rng).cond.length < 3072))
    (fun s =>
      let g := s.rng
      let g := { g with tests := testAll samples g, rctFail := g.rctFail ||| rctMask samples g, aptFail := g.aptFail ||| aptMask samples g }
      { s with rng := condition (absorb samples g) }) s

/-- MODULE_INSTANCE_RESEED (R216): from the pool, 1 ms after the last. -/
def execModuleInstanceReseed (s : State) : Res :=
  match s.rng.pool with
  | [] => .next s
  | seed :: r => guarded (s.rng.state == .healthy && decide (s.rng.moduleNs + 1000000 ≤ s.clk.ns))
      (fun s => { s with rng := { s.rng with pool := r, module := Config.drbgReseed s.rng.module seed, moduleNs := s.clk.ns } }) s

/-- Reseed the mask streams of the key store, the facets and the engines from the module instance (R131, R164, R197). -/
def reseedMasks (s : State) : State :=
  let (b, s) := moduleOut 48 s
  let s := { s with ks := { s.ks with maskSeed := b, maskUsed := 0 }, rng := { s.rng with maskNs := s.clk.ns } }
  let s := (List.range 48).foldl (fun s n => let (b, s) := moduleOut 48 s; modFacet n (fun f => { f with mask := b }) s) s
  (List.range 16).foldl (fun s n => let (b, s) := moduleOut 48 s; modEngine n (fun e => { e with mask := b, maskUsed := 0 }) s) s

/-- MASK_RESEED (R131, R164, R197): every 1 ms while the generator is healthy. -/
def execMaskReseed (s : State) : Res :=
  guarded (s.rng.state == .healthy && decide (s.rng.maskNs + 1000000 ≤ s.clk.ns)) reseedMasks s

/-- RNG_READ_TIMEOUT (R219): a request that has waited 5 ms is released with RNG_NOT_READY. -/
def execRngReadTimeout (p : Fin 256) (s : State) : Res :=
  match frontDraw s p.val with
  | none => .next s
  | some r => guarded (decide (waitSince s r + 5000000 ≤ s.clk.ns))
      (fun s => popDraw r (forwardCmd r 3 [] (modCmd r (fun c => { c with draw := .failed stRngNotReady }) s))) s

/-! ## Commands (R225 to R227) -/

def specRngGenerate : OpSpec :=
  { length := fun _ x => x.len == 16
    maxReply := fun _ x => x.pay 0 4
    own := fun _ x => need (decide (1 ≤ x.pay 0 4) && decide (x.pay 0 4 ≤ 1048576) && allZero (bsub x.payload 4 12)) stPolicyDenied
    draws := fun _ _ => true }

def runRngGenerate : Effect := fun c s => ends s stOk (drawn c 0 ((reqOf c).pay 0 4))

def katReplyLen (x : Req) : Nat := match x.pay 0 1 with | 0 => 4 | 1 => 48 | _ => x.pay 4 4

def specRngKat : OpSpec :=
  { length := fun _ x => if x.pay 0 1 = 1 then decide (153 ≤ x.len) && decide (x.len ≤ 152 + 4096) else x.len == 152
    maxReply := fun _ x => katReplyLen x
    own := fun _ x =>
      let t := x.pay 0 1
      need (decide (t ≤ 2) && x.pay 2 2 == 0 && decide (x.pay 1 1 ≤ (if t = 2 then 1 else 0)) &&
            (if t = 2 then decide (16 ≤ x.pay 4 4) && decide (x.pay 4 4 ≤ 4096) && x.pay 4 4 % 16 == 0 else x.pay 4 4 == 0) &&
            (t == 2 || (allZero (bsub x.payload 8 48) && allZero (bsub x.payload 0x68 48))) &&
            (bit (x.pay 1 1) 0 || allZero (bsub x.payload 0x38 48))) stPolicyDenied }

/-- TARGET 2: Instantiate, Reseed when asked, two Generate calls; the second output is the reply (R226). -/
def katExpander (x : Req) : Bytes :=
  let n := x.pay 4 4
  let a := bsub x.payload 0x68 48
  let s0 := Config.drbgInit (bsub x.payload 8 48)
  let s1 := if bit (x.pay 1 1) 0 then Config.drbgReseed s0 (bsub x.payload 0x38 48) else s0
  padTo n (Config.drbgOut (Config.drbgNext s1 a n) a n)

def runRngKat (cond expd : Bool) : Effect := fun c s =>
  let x := reqOf c
  match x.pay 0 1 with
  | 0 =>
    let s1 := if cond && expd then s else enterFailed { s with rng := { s.rng with katFail := true } }
    ends s1 stOk (toLe 4 (b2n cond + 2 * b2n expd))
  | 1 => ends s stOk (sha3_384 (x.payload.drop 152))
  | _ => ends s stOk (katExpander x)

def specRngRestart : OpSpec :=
  { length := fun _ x => x.len == 0
    maxReply := fun _ _ => 4
    own := fun _ x => need (x.fn == 0) stPolicyDenied }

/-- RNG_RESTART begins: pool, module instance and health state go, and the sequence of R221 runs from its start (R222). -/
def runRngRestart : Effect := fun c s =>
  let s := { s with rng := { freshRun s.rng with state := .testing, running := true, startNs := s.clk.ns, srcOk := 0xF,
                                                 restartCmds := s.rng.restartCmds ++ [c.ref] },
                    parts := s.parts.map (fun e => (e.1, { e.2 with drbgDue := true })) }
  (s, none)

/-- RNG_RESTART writes RNG_STATUS with every status (R226, R459). -/
def failRngRestart : OnFail := fun _ _ s => (s, toLe 4 (rngStatus s))

def specRngRaw : OpSpec :=
  { length := fun _ x => x.len == 8
    maxReply := fun _ x => x.pay 4 4 / 8
    own := fun s x => need (x.fn == 0 && lcOpen s && decide (x.pay 0 1 ≤ 3) && x.pay 1 3 == 0 && decide (8 ≤ x.pay 4 4) &&
                            decide (x.pay 4 4 ≤ 8388608) && x.pay 4 4 % 8 == 0) stPolicyDenied }

/-- RNG_RAW replies with samples of the comparator, which the environment supplies (R226). -/
def runRngRaw (samples : Bytes) : Effect := fun c s => ends s stOk (padTo ((reqOf c).pay 4 4 / 8) samples)

/-- RNG_GENERATE (R225). -/
def execRngGenerate (r : CmdRef) (s : State) : Res := runAccepted 0x0701 runRngGenerate noReply r s
/-- RNG_KAT (R226). -/
def execRngKat (r : CmdRef) (cond expd : Bool) (s : State) : Res := runAccepted 0x0702 (runRngKat cond expd) noReply r s
/-- RNG_RESTART (R222, R226). -/
def execRngRestart (r : CmdRef) (s : State) : Res := runAccepted 0x0703 runRngRestart failRngRestart r s
/-- RNG_RAW (R226). -/
def execRngRaw (r : CmdRef) (samples : Bytes) (s : State) : Res := runAccepted 0x0704 (runRngRaw samples) noReply r s

end Sys2Proof.Machine
end

