-- ==== Sys2Proof/Machine/PayCmds.lean ====
section
/-! DEFINITION. Groups 0x08 to 0x0A: PIN, card and DUKPT commands (R229 to R250, R259 to R261). -/

namespace Sys2Proof.Machine

/-! ## Policy, PAN and digits (R230, R241, R282) -/

def polPinDowngrade (pol : Bytes) : Bool := bit (fld pol 0 4) 0
def polPinGenerate (pol : Bytes) : Bool := bit (fld pol 0 4) 1
def polDecValid (pol : Bytes) (t : Nat) : Bool := bit (fld pol 4 2) t
def polDecTable (pol : Bytes) (t : Nat) : Bytes := bsub pol (0x28 + 16 * t) 16
def polDetok (pol : Bytes) (f : Nat) : Bool := bit (fld pol 8 32) f

def policyOf (s : State) (p : Nat) : Bytes := (getPart s p).policy

def isDigit (b : Byte) : Bool := decide (0x30 ≤ b.toNat) && decide (b.toNat ≤ 0x39)

def panLen (f : Bytes) : Nat := fld f 0 1

/-- A PAN field: 12 to 19 digits, or none where `zero` permits it, and zero bytes after the last digit (R230). -/
def panOk (zero : Bool) (f : Bytes) : Bool :=
  let n := panLen f
  ((decide (12 ≤ n) && decide (n ≤ 19)) || (zero && n == 0)) &&
  (bsub f 1 n).all isDigit && allZero (bsub f (1 + n) (19 - n))

/-- The digits of a PAN field. -/
def panDigits (f : Bytes) : List Nat := (bsub f 1 (panLen f)).map (fun b => b.toNat - 0x30)

/-- The `k` rightmost digits without the check digit, padded with zeros on the left (R234, R243). -/
def panRight (k : Nat) (d : List Nat) : List Nat :=
  let e := d.dropLast
  List.replicate (k - e.length) 0 ++ e.drop (e.length - k)

/-- Nibbles of a byte string, most significant first. -/
def nibbles (b : Bytes) : List Nat := (b.map (fun x => [x.toNat / 16, x.toNat % 16])).flatten

/-- Bytes of a list of nibbles. -/
def ofNibbles : List Nat → Bytes
  | a :: b :: r => BitVec.ofNat 8 (a * 16 + b) :: ofNibbles r
  | [a] => [BitVec.ofNat 8 (a * 16)]
  | [] => []

def digitsAscii (d : List Nat) : Bytes := d.map (fun n => BitVec.ofNat 8 (0x30 + n))

/-- Digit extraction: decimal nibbles left to right, then the others less 10 (R243). -/
def extractDigits (k : Nat) (b : Bytes) : List Nat :=
  let n := nibbles b
  (n.filter (· < 10) ++ (n.filter (10 ≤ ·)).map (· - 10)).take k

/-! ## PIN_IN (R233, R238) -/

def pinSource (x : Req) : Nat := x.pay 4 1
def pinFormat (x : Req) : Nat := x.pay 5 1
def pinWork (x : Req) : Nat := x.pay 6 1
def pinKsn (x : Req) : Bytes := bsub x.payload 8 12
def pinBlock (x : Req) : Bytes := bsub x.payload 0x18 16
def pinPan (x : Req) : Bytes := bsub x.payload 0x28 20

def fmtOk (f : Nat) : Bool := f == 0 || f == 1 || f == 3 || f == 4

/-- Bits set in a counter. -/
def popNat (v n : Nat) : Nat := ((List.range n).filter (bit v)).length

/-- The transaction counter of a KSN (R238). -/
def ksnCounter (source : Nat) (k : Bytes) : Nat :=
  if source = 1 || source = 2 then beNat (bsub k 8 4) else beNat (k.take 10) % 2 ^ 21

/-- The counter rule of R238. -/
def counterOk (source : Nat) (k : Bytes) : Bool :=
  let n := ksnCounter source k
  if source = 1 || source = 2 then n != 0 && decide (popNat n 32 ≤ 16)
  else n != 0 && decide (popNat n 21 ≤ 10) && allZero (bsub k 10 2)

/-- WORK_ALG as R238 allows it. -/
def workOk (source w : Nat) : Bool :=
  match source with
  | 0 => w == 0
  | 1 | 2 => w == 1 || w == 2 || w == 0x10 || w == 0x11 || w == 0x12
  | _ => w == 1

/-- Field rules of PIN_IN. -/
def pinInOk (x : Req) : Bool :=
  x.pay 7 1 == 0 && x.pay 0x14 4 == 0 && decide (pinSource x ≤ 4) && fmtOk (pinFormat x) && workOk (pinSource x) (pinWork x) &&
  (if pinSource x = 0 then allZero (pinKsn x) else counterOk (pinSource x) (pinKsn x)) &&
  (pinFormat x == 4 || allZero ((pinBlock x).drop 8))

/-- The key ALG a format needs (R234). -/
def fmtAlg (f : Nat) (a : BitVec 8) : Bool := if f = 4 then isAes a else isTdes a

/-- Usage and ALG of the key that SOURCE names (R238); a static key is checked by `static`. -/
def sourceChk (source work : Nat) (static : Attr → Option Status) (a : Attr) : Option Status :=
  match source with
  | 0 => static a
  | 1 | 2 => firstFail
      [ usageCheck (if source = 1 then uBdk else uDukptInitial) a, need (isAes a.alg) stKeyUsage,
        need (decide ((algBits work).getD 0 ≤ cmpBits a)) stPolicyDenied ]
  | _ => firstFail [ usageCheck (if source = 3 then uBdk else uDukptInitial) a, need (a.alg == 0x01) stKeyUsage ]

/-- The usage a source key is loaded for. -/
def sourceUsage (source : Nat) (static : BitVec 32) : BitVec 32 :=
  match source with | 0 => static | 1 => uBdk | 2 => uDukptInitial | 3 => uBdk | _ => uDukptInitial

/-- A PIN block's key (R234, R238). -/
def pinKeyChk (x : Req) (a : Attr) : Option Status :=
  sourceChk (pinSource x) (pinWork x)
    (fun a => firstFail [ usageCheck uPinDecrypt a, need (fmtAlg (pinFormat x) a.alg) stKeyUsage ]) a

/-- A DUKPT working key of the wrong algorithm for the format (R234). -/
def workFmt (x : Req) : Option Status :=
  need (pinSource x == 0 || fmtAlg (pinFormat x) (BitVec.ofNat 8 (pinWork x))) stKeyUsage

/-- The ALG and bytes of the key that a source yields for a purpose and direction (R238). -/
def sourceKey (source work : Nat) (ksn : Bytes) (purpose dir : Nat) (v : KeyVal) : BitVec 8 × Bytes :=
  let n := (algBytes work 0).getD 0
  let w (aes : Bool) (ik : Bytes) := padTo n (Config.dukptWork aes ik ksn work purpose dir)
  match source with
  | 0 => (v.attr.alg, v.material)
  | 1 => (BitVec.ofNat 8 work, w true (padTo v.material.length (Config.dukptInitial true v.material ksn)))
  | 2 => (BitVec.ofNat 8 work, w true v.material)
  | 3 => (BitVec.ofNat 8 work, w false (padTo 16 (Config.dukptInitial false v.material ksn)))
  | _ => (BitVec.ofNat 8 work, w false v.material)

/-! ## PIN fields (R234, R235, R237) -/

/-- The PAN field a format is XORed with. -/
def panField (f : Nat) (pan : Bytes) : Bytes :=
  let d := panDigits pan
  match f with
  | 0 | 3 => [0, 0] ++ ofNibbles (panRight 12 d)
  | 4 => ofNibbles ((d.length - 12) :: d ++ List.replicate (31 - d.length) 0)
  | _ => zeros 8

/-- Decrypt a PIN block to its PIN field. -/
def pinDecrypt (f : Nat) (alg : BitVec 8) (key pan blk : Bytes) : Bytes :=
  match f with
  | 4 => blkDec alg key (bxor (blkDec alg key blk) (panField 4 pan))
  | 1 => blkDec alg key (blk.take 8)
  | _ => bxor (blkDec alg key (blk.take 8)) (panField f pan)

/-- Encrypt a PIN field to a 16-byte block. -/
def pinEncrypt (f : Nat) (alg : BitVec 8) (key pan pf : Bytes) : Bytes :=
  match f with
  | 4 => blkEnc alg key (bxor (blkEnc alg key pf) (panField 4 pan))
  | 1 => padTo 16 (blkEnc alg key pf)
  | _ => padTo 16 (blkEnc alg key (bxor pf (panField f pan)))

/-- The PIN of a PIN field that decodes (R235). -/
def pinDecode (f : Nat) (pf : Bytes) : Option (List Nat) :=
  let n := nibbles pf
  let len := n.getD 1 0
  let pin := (n.drop 2).take len
  let fill := (n.take 16).drop (2 + len)
  if n.headD 0 == f && decide (4 ≤ len) && decide (len ≤ 12) && pin.all (· < 10) &&
     (match f with
      | 0 => fill.all (· == 0xF)
      | 3 => fill.all (10 ≤ ·)
      | 4 => fill.all (· == 0xA)
      | _ => true)
  then some pin else none

/-- The PIN field of an output format, its fill taken from the draw stream (R237). -/
def pinField (c : Cmd) (f : Nat) (pin : List Nat) : Bytes :=
  let k := 14 - pin.length
  let head := f :: pin.length :: pin
  match f with
  | 0 => ofNibbles (head ++ List.replicate k 0xF)
  | 1 => ofNibbles (head ++ (nibbles (drawn c 0 ((k + 1) / 2))).take k)
  | 3 =>
    let ok := (drawn c 0 65536).filter (fun b => decide (b.toNat < 252))
    let later (i : Nat) : Byte := Config.laterByte (match c.draw with | .seed b => b | _ => []) (i - ok.length)
    ofNibbles (head ++ (List.range k).map (fun i => 0xA + (ok.getD i (later i)).toNat % 6))
  | _ => ofNibbles (head ++ List.replicate k 0xA) ++ drawn c 0 8

/-- The PIN of a command's PIN_IN under its key, when it decodes. -/
def pinOf (x : Req) (v : KeyVal) : Option (List Nat) :=
  let (alg, key) := sourceKey (pinSource x) (pinWork x) (pinKsn x) 0 0 v
  pinDecode (pinFormat x) (pinDecrypt (pinFormat x) alg key (pinPan x) (pinBlock x))

/-! ## PIN_TRANSLATE (R236, R240) -/

def trOutFmt (x : Req) : Nat := x.pay 0x40 1

/-- Items of a PIN command: a derivation first when the source is DUKPT (R260). -/
def pinItems (u2 : BitVec 32) (x : Req) : List ItemPlan :=
  if pinSource x = 0 then [facetItem [(0, uPinDecrypt), (1, u2)]]
  else [facetItem [(0, sourceUsage (pinSource x) 0)], facetItem [(1, u2)]]

def trOwn (_ : State) (x : Req) : Option Status :=
  let pd (b : Bool) := need b stPolicyDenied
  firstFail
    [ pd (pinInOk x && fmtOk (trOutFmt x) && allZero (bsub x.payload 0x41 7)),
      pd (panOk (pinFormat x == 1 && trOutFmt x == 1) (pinPan x)),
      pd (pinFormat x == 1 || trOutFmt x != 1) ]

def trOutChk (x : Req) (a : Attr) : Option Status :=
  firstFail [ usageCheck uPinEncrypt a, need (fmtAlg (trOutFmt x) a.alg) stKeyUsage ]

/-- BITS of the key a PIN block arrives under: the working key's for a DUKPT source (R236). -/
def pinInBits (x : Req) (a : Attr) : Nat := if pinSource x = 0 then cmpBits a else (algBits (pinWork x)).getD 0

def trBits (pol : Bytes) (x : Req) (i o : Attr) : Option Status :=
  need (polPinDowngrade pol || decide (pinInBits x i ≤ cmpBits o)) stPolicyDenied

def specPinTranslate : OpSpec :=
  { length := fun _ x => x.len == 72
    maxReply := fun _ _ => 24
    own := trOwn
    keys := fun _ x => [x.key 0, x.key 0x3C]
    attrs := fun s x => firstFail
      [ workFmt x, attrCheck s x.part (x.key 0) (pinKeyChk x), attrCheck s x.part (x.key 0x3C) (trOutChk x),
        attrCheck s x.part (x.key 0) (fun i => attrCheck s x.part (x.key 0x3C) (fun o => trBits (policyOf s x.part) x i o)) ]
    draws := fun _ x => trOutFmt x != 0
    items := fun _ x => pinItems uPinEncrypt x }

def runPinTranslate : Effect := fun c s =>
  let x := reqOf c
  withKey s c (x.key 0) (pinKeyChk x) [] fun v =>
    withKey s c (x.key 0x3C) (fun o => firstFail [trOutChk x o, trBits c.policy x v.attr o]) [] fun w =>
      match pinOf x v with
      | none => ends s stVerifyFailed
      | some pin =>
        let out := pinEncrypt (trOutFmt x) w.attr.alg w.material (pinPan x) (pinField c (trOutFmt x) pin)
        let n := if pinSource x = 0 then 0 else ksnCounter (pinSource x) (pinKsn x)
        ends s stOk (out ++ toLe 4 n ++ toLe 2 (loadVersion c (x.key 0x3C)).toNat ++ zeros 2)

/-! ## The offset method (R241, R242) -/

def ofTable (x : Req) : Nat := x.pay 0x40 1
def ofCheck (x : Req) : Nat := x.pay 0x41 1
def ofValLen (x : Req) : Nat := x.pay 0x42 1
def ofPad (x : Req) : Nat := x.pay 0x43 1

/-- The value of an ASCII hexadecimal character. -/
def hexVal (b : Byte) : Option Nat :=
  let n := b.toNat
  if isDigit b then some (n - 0x30) else if 0x41 ≤ n && n ≤ 0x46 then some (n - 0x37) else none

def ofVal (x : Req) : Bytes := bsub x.payload 0x44 (ofValLen x)
def ofOffset (x : Req) : Bytes := bsub x.payload 0x54 12

def offsetOwn (gen : Bool) (s : State) (x : Req) : Option Status :=
  let pd (b : Bool) := need b stPolicyDenied
  firstFail
    [ pd (pinInOk x && panOk (pinFormat x == 1) (pinPan x)),
      pd (decide (ofTable x ≤ 15) && decide (4 ≤ ofCheck x) && decide (ofCheck x ≤ 12) && decide (1 ≤ ofValLen x) &&
          decide (ofValLen x ≤ 16) && decide (ofPad x ≤ 15)),
      pd ((ofVal x).all (fun b => (hexVal b).isSome) && allZero (bsub x.payload (0x44 + ofValLen x) (16 - ofValLen x))),
      pd (if gen then allZero (ofOffset x)
          else ((ofOffset x).take (ofCheck x)).all isDigit && allZero ((ofOffset x).drop (ofCheck x))),
      pd (polDecValid (policyOf s x.part) (ofTable x)),
      pd (!gen || polPinGenerate (policyOf s x.part)) ]

def pvkChk (wide : Bool) (a : Attr) : Option Status :=
  firstFail [ usageCheck uPinVerify a, need (a.alg == 0x01 || (wide && a.alg == 0x02)) stKeyUsage ]

def specOffset (gen : Bool) : OpSpec :=
  { length := fun _ x => x.len == 96
    maxReply := fun _ _ => if gen then 12 else 0
    own := offsetOwn gen
    keys := fun _ x => [x.key 0, x.key 0x3C]
    attrs := fun s x => firstFail
      [ workFmt x, attrCheck s x.part (x.key 0) (pinKeyChk x), attrCheck s x.part (x.key 0x3C) (pvkChk true) ]
    items := fun _ x => pinItems uPinVerify x }

/-- The natural PIN (steps 1 to 3 of R242). -/
def naturalPin (pol : Bytes) (x : Req) (v : KeyVal) : List Nat :=
  let n := (ofVal x).map (fun b => (hexVal b).getD 0)
  let blk := ofNibbles (n ++ List.replicate (16 - n.length) (ofPad x))
  ((nibbles (blkEnc v.attr.alg v.material blk)).take (ofCheck x)).map (fun h => ((polDecTable pol (ofTable x)).getD h 0x30).toNat - 0x30)

def runOffset (gen : Bool) : Effect := fun c s =>
  let x := reqOf c
  withKey s c (x.key 0) (pinKeyChk x) [] fun v =>
    withKey s c (x.key 0x3C) (pvkChk true) [] fun w =>
      match pinOf x v with
      | none => ends s stVerifyFailed
      | some pin =>
        let nat := naturalPin c.policy x w
        if pin.length < ofCheck x then ends s stVerifyFailed
        else if gen then ends s stOk (padTo 12 (digitsAscii (List.zipWith (fun p n => (p + 10 - n) % 10) pin nat)))
        else
          let off := (ofOffset x).map (fun b => b.toNat - 0x30)
          if pin.take (ofCheck x) = List.zipWith (fun n o => (n + o) % 10) nat off then ends s stOk else ends s stVerifyFailed

/-! ## The PVV method (R243) -/

def pvvOwn (gen : Bool) (s : State) (x : Req) : Option Status :=
  let pd (b : Bool) := need b stPolicyDenied
  let v := bsub x.payload 0x44 4
  firstFail
    [ pd (pinInOk x && panOk false (pinPan x) && decide (x.pay 0x40 1 ≤ 6) && x.pay 0x41 3 == 0),
      pd (if gen then allZero v else v.all isDigit),
      pd (!gen || polPinGenerate (policyOf s x.part)) ]

def specPvv (gen : Bool) : OpSpec :=
  { length := fun _ x => x.len == 72
    maxReply := fun _ _ => if gen then 4 else 0
    own := pvvOwn gen
    keys := fun _ x => [x.key 0, x.key 0x3C]
    attrs := fun s x => firstFail
      [ workFmt x, attrCheck s x.part (x.key 0) (pinKeyChk x), attrCheck s x.part (x.key 0x3C) (pvkChk false) ]
    items := fun _ x => pinItems uPinVerify x }

def runPvv (gen : Bool) : Effect := fun c s =>
  let x := reqOf c
  withKey s c (x.key 0) (pinKeyChk x) [] fun v =>
    withKey s c (x.key 0x3C) (pvkChk false) [] fun w =>
      match pinOf x v with
      | none => ends s stVerifyFailed
      | some pin =>
        let tsp := ofNibbles (panRight 11 (panDigits (pinPan x)) ++ [x.pay 0x40 1] ++ pin.take 4)
        let pvv := digitsAscii (extractDigits 4 (blkEnc w.attr.alg w.material tsp))
        if gen then ends s stOk pvv
        else if pvv = bsub x.payload 0x44 4 then ends s stOk else ends s stVerifyFailed

/-! ## CVV (R245) -/

def cvvOwn (verify : Bool) (_ : State) (x : Req) : Option Status :=
  let pd (b : Bool) := need b stPolicyDenied
  let sc := bsub x.payload 0x20 3
  let v := bsub x.payload 0x23 3
  firstFail
    [ pd (decide (x.pay 4 1 ≤ 2) && x.pay 5 3 == 0 && x.pay 0x26 2 == 0),
      pd (panOk false (bsub x.payload 8 20) && (bsub x.payload 0x1C 4).all isDigit),
      pd (if x.pay 4 1 = 0 then sc.all isDigit else allZero sc),
      pd (if verify then v.all isDigit else allZero v) ]

def cvvChk (a : Attr) : Option Status := firstFail [ usageCheck uCvv a, need (a.alg == 0x01) stKeyUsage ]

def specCvv (verify : Bool) : OpSpec :=
  { length := fun _ x => x.len == 40
    maxReply := fun _ _ => if verify then 0 else 8
    own := cvvOwn verify
    keys := fun _ x => [x.key 0]
    attrs := fun s x => attrCheck s x.part (x.key 0) cvvChk
    items := fun _ _ => [facetItem [(0, uCvv)]] }

/-- The card verification value (R245). -/
def cvvValue (x : Req) (v : KeyVal) : Bytes :=
  let sc := match x.pay 4 1 with | 0 => bsub x.payload 0x20 3 | 1 => ascii "000" | _ => ascii "999"
  let d := panDigits (bsub x.payload 8 20) ++ (bsub x.payload 0x1C 4 ++ sc).map (fun b => b.toNat - 0x30)
  let b := ofNibbles (d ++ List.replicate (32 - d.length) 0)
  let e := padTo 8 (Config.desEnc (v.material.take 8) (b.take 8))
  digitsAscii (extractDigits 3 (blkEnc v.attr.alg v.material (bxor e (b.drop 8))))

def runCvv (verify : Bool) : Effect := fun c s =>
  let x := reqOf c
  withKey s c (x.key 0) cvvChk [] fun v =>
    let r := cvvValue x v
    if verify then (if r = bsub x.payload 0x23 3 then ends s stOk else ends s stVerifyFailed)
    else ends s stOk (padTo 8 r)

/-! ## EMV cryptograms (R246 to R248) -/

/-- Padding methods 1 and 2 of ISO 9797-1 on blocks of 8 bytes. -/
def isoPad (method : Nat) (m : Bytes) : Bytes :=
  let t := if method = 2 then m ++ [0x80] else m
  t ++ zeros ((8 - t.length % 8) % 8)

def desCbcMac (k : Bytes) : Bytes → List Bytes → Bytes
  | c, [] => c
  | c, b :: r => desCbcMac k (padTo 8 (Config.desEnc k (bxor c b))) r

/-- MAC algorithm 3 of ISO 9797-1 under a key of 16 bytes. -/
def macAlg3 (key m : Bytes) (method : Nat) : Bytes :=
  let a := desCbcMac (key.take 8) (zeros 8) (chunks 8 (isoPad method m))
  padTo 8 (Config.desEnc (key.take 8) (padTo 8 (Config.desDec (bsub key 8 8) a)))

def emvChk (u : BitVec 32) (a : Attr) : Option Status := firstFail [ usageCheck u a, need (a.alg == 0x01 || isAes a.alg) stKeyUsage ]

/-- The session key of R247. -/
def emvSessionKey (x : Req) (pan : Bytes) (v : KeyVal) : Bytes :=
  let opt := if isAes v.attr.alg then 2 else if panLen pan ≤ 16 then 0 else 1
  let n := v.material.length
  let mk := if x.pay 4 1 = 1 then padTo n (Config.emvMaster opt v.material (bsub pan 1 (panLen pan)) (BitVec.ofNat 8 (x.pay 0x1C 1)))
            else v.material
  if x.pay 5 1 = 1 then padTo n (Config.emvSession (isAes v.attr.alg) mk (bsub x.payload 0x1E 2)) else mk

/-- The 8-byte cryptogram MAC (R246): algorithm 3 for TDES, the leftmost 8 bytes of CMAC for AES. -/
def emvMac (alg : BitVec 8) (key m : Bytes) (method : Nat) : Bytes :=
  if isAes alg then (cmac alg key m).take 8 else macAlg3 key m method

/-- One byte of two decimal digits. -/
def isBcd (n : Nat) : Bool := decide (n % 16 < 10) && decide (n / 16 < 10)

def arqcOwn (_ : State) (x : Req) : Option Status :=
  let pd (b : Bool) := need b stPolicyDenied
  let m := x.pay 7 1
  firstFail
    [ pd (decide (x.pay 4 1 ≤ 1) && decide (x.pay 5 1 ≤ 1) && decide (x.pay 6 1 ≤ 2) && decide (m ≤ 2)),
      pd (panOk false (bsub x.payload 8 20) && isBcd (x.pay 0x1C 1) && x.pay 0x1D 1 == 0),
      pd ((m == 1 || x.pay 0x28 2 == 0) && x.pay 0x2A 2 == 0 && (m == 2 || x.pay 0x2C 4 == 0)),
      pd (decide (x.pay 0x30 1 ≤ 8) && (m == 2 || x.pay 0x30 1 == 0) && allZero (bsub x.payload 0x31 7)),
      pd (allZero (bsub x.payload (0x38 + x.pay 0x30 1) (8 - x.pay 0x30 1))) ]

/-- What depends on the key's ALG (R246). -/
def arqcKeyChk (x : Req) (a : Attr) : Option Status :=
  firstFail
    [ emvChk uArqc a,
      need (if isAes a.alg then x.pay 6 1 == 0 && x.pay 7 1 != 1 else x.pay 6 1 == 1 || x.pay 6 1 == 2) stPolicyDenied ]

def specArqc : OpSpec :=
  { length := fun _ x => decide (65 ≤ x.len) && decide (x.len ≤ 64 + 256)
    maxReply := fun _ _ => 16
    own := arqcOwn
    keys := fun _ x => [x.key 0]
    attrs := fun s x => attrCheck s x.part (x.key 0) (arqcKeyChk x)
    items := fun _ x => [facetItem [(0, uArqc)], facetItem [] (x.len - 64)] }

def runArqc : Effect := fun c s =>
  let x := reqOf c
  withKey s c (x.key 0) (arqcKeyChk x) [] fun v =>
    let sk := emvSessionKey x (bsub x.payload 8 20) v
    let q := bsub x.payload 0x20 8
    if emvMac v.attr.alg sk (x.payload.drop 64) (x.pay 6 1) ≠ q then ends s stVerifyFailed
    else
      match x.pay 7 1 with
      | 0 => ends s stOk (zeros 16)
      | 1 => ends s stOk (blkEnc v.attr.alg sk (bxor q (bsub x.payload 0x28 2 ++ zeros 6)) ++ toLe 8 8)
      | _ =>
        let m := (emvMac v.attr.alg sk (q ++ bsub x.payload 0x2C 4 ++ bsub x.payload 0x38 (x.pay 0x30 1)) 2).take 4
        ends s stOk (padTo 8 m ++ toLe 8 4)

def scriptOwn (_ : State) (x : Req) : Option Status :=
  let pd (b : Bool) := need b stPolicyDenied
  firstFail
    [ pd (decide (x.pay 4 1 ≤ 1) && decide (x.pay 5 1 ≤ 1) && decide (4 ≤ x.pay 6 1) && decide (x.pay 6 1 ≤ 8) && x.pay 7 1 == 0),
      pd (panOk false (bsub x.payload 8 20) && isBcd (x.pay 0x1C 1) && x.pay 0x1D 1 == 0) ]

def specScript : OpSpec :=
  { length := fun _ x => decide (33 ≤ x.len) && decide (x.len ≤ 32 + 1024)
    maxReply := fun _ _ => 8
    own := scriptOwn
    keys := fun _ x => [x.key 0]
    attrs := fun s x => attrCheck s x.part (x.key 0) (emvChk uIssuerScript)
    items := fun _ x => [facetItem [(0, uIssuerScript)], facetItem [] (x.len - 32)] }

def runScript : Effect := fun c s =>
  let x := reqOf c
  withKey s c (x.key 0) (emvChk uIssuerScript) [] fun v =>
    let sk := emvSessionKey x (bsub x.payload 8 20) v
    ends s stOk (padTo 8 ((emvMac v.attr.alg sk (x.payload.drop 32) 2).take (x.pay 6 1)))

/-! ## DUKPT (R249, R250) -/

def duSource (x : Req) : Nat := x.pay 4 1
def duKsn (x : Req) : Bytes := bsub x.payload 8 12

def duInitOwn (_ : State) (x : Req) : Option Status :=
  let k := duKsn x
  need ((duSource x == 1 || duSource x == 3) && x.pay 5 3 == 0 && allZero (bsub x.payload 0x18 8) &&
        ksnCounter (duSource x) k == 0 && (duSource x == 1 || allZero (bsub k 10 2))) stPolicyDenied

def duInitChk (x : Req) (a : Attr) : Option Status := sourceChk (duSource x) 0 (fun _ => none) a

/-- The attributes R250 fixes for an initial key of the ALG given. -/
def duAttr (alg : BitVec 8) : Attr :=
  { alg := alg, cls := 0, bits := BitVec.ofNat 16 ((algBits alg.toNat).getD 0), usage := uDukptInitial, x9Usage := ascii "B1",
    mode := 0x58, export_ := 1, span := 0, algPub := 0, keyVersion := [0, 0] }

def duInitAlg (s : State) (x : Req) : Option (BitVec 8) :=
  if duSource x = 3 then some 0x01 else (attrFor s x.part (x.key 0)).map (fun a => a.alg)

def specDukptInitial : OpSpec :=
  { length := fun _ x => x.len == 32
    maxReply := fun _ _ => 136
    own := duInitOwn
    keys := fun _ x => [x.key 0]
    target := fun _ x => some (x.key 0x14)
    outAttr := fun s x => (duInitAlg s x).map duAttr
    attrs := fun s x => attrCheck s x.part (x.key 0) (duInitChk x)
    draws := fun _ x => isCached (x.key 0x14)
    items := fun _ _ => [facetItem [(0, uBdk)]]
    persist := fun _ x => isOnDie (x.key 0x14) }

def runDukptInitial : Effect := fun c s =>
  let x := reqOf c
  withKey s c (x.key 0) (duInitChk x) [] fun v =>
    let p := c.ref.part
    let o := x.key 0x14
    let aes := decide (duSource x = 1)
    let a := duAttr (if aes then v.attr.alg else 0x01)
    let m := padTo ((algBytes a.alg.toNat 0).getD 0) (Config.dukptInitial aes v.material (duKsn x))
    let nv := newVal s p o a m (drawn c 0 8)
    let t := rewriteOk p o c.shadow (some nv) s
    ends t stOk (toLe 2 (getKey t p o).version.toNat ++ padTo 3 ((kcv a.alg m).getD []) ++ zeros 3 ++
                 (if isCached o then tokenBytes t p o nv else []))

def duWork (x : Req) : Nat := x.pay 5 1
def duDir (x : Req) : Nat := x.pay 6 1
def duMacLen (x : Req) : Nat := x.pay 7 1
def duWorkAes (x : Req) : Bool := decide (0x10 ≤ duWork x)

/-- Fields the MAC and decryption commands share: `kind` 0 generate, 1 verify, 2 decrypt. -/
def duOwn (kind : Nat) (_ : State) (x : Req) : Option Status :=
  let pd (b : Bool) := need b stPolicyDenied
  let iv := bsub x.payload 0x18 16
  firstFail
    [ pd (decide (1 ≤ duSource x) && decide (duSource x ≤ 4) && workOk (duSource x) (duWork x) && decide (duDir x ≤ 1) &&
          x.pay 0x14 4 == 0),
      pd (if kind = 2 then duMacLen x == 0
          else if duWorkAes x then decide (8 ≤ duMacLen x) && decide (duMacLen x ≤ 16)
          else decide (4 ≤ duMacLen x) && decide (duMacLen x ≤ 8)),
      pd (counterOk (duSource x) (duKsn x)),
      pd (match kind with
          | 0 => allZero iv
          | 1 => allZero (iv.drop (duMacLen x))
          | _ => duWorkAes x || allZero (iv.drop 8)) ]

def duChk (x : Req) (a : Attr) : Option Status := sourceChk (duSource x) (duWork x) (fun _ => none) a

def duLength (kind : Nat) (_ : State) (x : Req) : Bool :=
  let n := x.len - 40
  decide (40 ≤ x.len) &&
  (if kind = 2 then decide (8 ≤ n) && decide (n ≤ 65536) && n % (if duWorkAes x then 16 else 8) == 0
   else decide (1 ≤ n) && decide (n ≤ 8192))

def specDukpt (kind : Nat) : OpSpec :=
  { length := duLength kind
    maxReply := fun _ x => match kind with | 0 => 16 | 1 => 0 | _ => x.len - 40
    own := duOwn kind
    keys := fun _ x => [x.key 0]
    attrs := fun s x => attrCheck s x.part (x.key 0) (duChk x)
    items := fun _ x => [facetItem [(0, sourceUsage (duSource x) 0)], facetItem [] (x.len - 40)] }

def runDukpt (kind : Nat) : Effect := fun c s =>
  let x := reqOf c
  withKey s c (x.key 0) (duChk x) [] fun v =>
    let (alg, key) := sourceKey (duSource x) (duWork x) (duKsn x) (if kind = 2 then 2 else 1) (duDir x) v
    let data := x.payload.drop 40
    if kind = 2 then ends s stOk (modeRun 2 false alg key (bsub x.payload 0x18 16) data)
    else
      let m := (if duSource x ≤ 2 then cmac alg key data else macAlg3 key data 1).take (duMacLen x)
      if kind = 0 then ends s stOk (padTo 16 m)
      else if m = bsub x.payload 0x18 (duMacLen x) then ends s stOk else ends s stVerifyFailed

/-! ## Keys that pass to a second item (R231, R238, R247) -/

/-- The ALG and bytes of the key that a command's first item derives for its second, from the key it names first: a DUKPT working key, or
the key that the cryptogram's MAC is made under. -/
def derivedKey (c : Cmd) : Option (KeyVal → BitVec 8 × Bytes) :=
  let x := reqOf c
  let emv (v : KeyVal) : BitVec 8 × Bytes := (v.attr.alg, emvSessionKey x (bsub x.payload 8 20) v)
  let pin : Option (KeyVal → BitVec 8 × Bytes) :=
    if pinSource x = 0 then none else some (sourceKey (pinSource x) (pinWork x) (pinKsn x) 0 0)
  match c.opcode.toNat with
  | 0x0801 => pin
  | 0x0802 => pin
  | 0x0803 => pin
  | 0x0804 => pin
  | 0x0805 => pin
  | 0x0903 => some emv
  | 0x0904 => some emv
  | 0x0A02 => some (sourceKey (duSource x) (duWork x) (duKsn x) 1 (duDir x))
  | 0x0A03 => some (sourceKey (duSource x) (duWork x) (duKsn x) 1 (duDir x))
  | 0x0A04 => some (sourceKey (duSource x) (duWork x) (duKsn x) 2 (duDir x))
  | _ => none

/-! ## The rows -/

/-- PIN_TRANSLATE (R236, R237, R240). -/
def execPinTranslate (r : CmdRef) (s : State) : Res := runAccepted 0x0801 runPinTranslate noReply r s
/-- PIN_VERIFY_OFFSET (R242). -/
def execPinVerifyOffset (r : CmdRef) (s : State) : Res := runAccepted 0x0802 (runOffset false) noReply r s
/-- PIN_VERIFY_PVV (R243). -/
def execPinVerifyPvv (r : CmdRef) (s : State) : Res := runAccepted 0x0803 (runPvv false) noReply r s
/-- PIN_OFFSET_GENERATE (R239, R242). -/
def execPinOffsetGenerate (r : CmdRef) (s : State) : Res := runAccepted 0x0804 (runOffset true) noReply r s
/-- PIN_PVV_GENERATE (R239, R243). -/
def execPinPvvGenerate (r : CmdRef) (s : State) : Res := runAccepted 0x0805 (runPvv true) noReply r s
/-- CVV_GENERATE (R245). -/
def execCvvGenerate (r : CmdRef) (s : State) : Res := runAccepted 0x0901 (runCvv false) noReply r s
/-- CVV_VERIFY (R245). -/
def execCvvVerify (r : CmdRef) (s : State) : Res := runAccepted 0x0902 (runCvv true) noReply r s
/-- ARQC_VERIFY (R246, R247). -/
def execArqcVerify (r : CmdRef) (s : State) : Res := runAccepted 0x0903 runArqc noReply r s
/-- SCRIPT_MAC_GENERATE (R248). -/
def execScriptMacGenerate (r : CmdRef) (s : State) : Res := runAccepted 0x0904 runScript noReply r s
/-- DUKPT_DERIVE_INITIAL (R250). -/
def execDukptDeriveInitial (r : CmdRef) (s : State) : Res := runAccepted 0x0A01 runDukptInitial noReply r s
/-- DUKPT_MAC_GENERATE (R250). -/
def execDukptMacGenerate (r : CmdRef) (s : State) : Res := runAccepted 0x0A02 (runDukpt 0) noReply r s
/-- DUKPT_MAC_VERIFY (R250). -/
def execDukptMacVerify (r : CmdRef) (s : State) : Res := runAccepted 0x0A03 (runDukpt 1) noReply r s
/-- DUKPT_DECRYPT (R250). -/
def execDukptDecrypt (r : CmdRef) (s : State) : Res := runAccepted 0x0A04 (runDukpt 2) noReply r s

end Sys2Proof.Machine
end

