-- ==== Sys2Proof/Machine/VaultCmds.lean ====
section
/-! DEFINITION. Group 0x11: the token vault (R251 to R257, R430). -/

namespace Sys2Proof.Machine

/-! ## Tokens (R252) -/

def vlDomain (x : Req) : Nat := x.pay 4 1
def vlFirst (x : Req) : Nat := x.pay 5 1
def vlLast (x : Req) : Nat := x.pay 6 1
def vlIn (x : Req) : Bytes := bsub x.payload 8 20
def vlContext (x : Req) : Bytes := bsub x.payload 0x20 8

/-- Middle digits of a PAN of `n` digits. -/
def vlMiddle (x : Req) (n : Nat) : Nat := n - vlFirst x - vlLast x

/-- The tweak of R252: the kept digits, first then last, ending with 0xF when odd in number. -/
def vlTweak (x : Req) (d : List Nat) : Bytes :=
  let kept := d.take (vlFirst x) ++ d.drop (d.length - vlLast x)
  toLe 1 (vlDomain x) ++ toLe 1 (16 * vlFirst x + vlLast x) ++ ofNibbles (if kept.length % 2 = 1 then kept ++ [0xF] else kept)

/-- FF1 on the middle digits; the kept digits stand. -/
def vlCipher (enc : Bool) (x : Req) (key : Bytes) (d : List Nat) : List Nat :=
  let n := vlMiddle x d.length
  d.take (vlFirst x) ++ ff1Value enc key 10 (vlTweak x d) ((d.drop (vlFirst x)).take n) ++ d.drop (vlFirst x + n)

def panBytes (d : List Nat) : Bytes := toLe 1 d.length ++ padTo 19 (digitsAscii d)

/-! ## The index (R253) -/

/-- The index tag of a PAN under a vault key. -/
def vaultTag (key : Bytes) (domain : Nat) (d : List Nat) : Bytes :=
  let ki := hmac 0x11 key (ascii "ULGUS-VIX")
  (hmac 0x11 ki (toLe 1 domain ++ toLe 1 d.length ++ digitsAscii d)).take 16

def tagBlock (blocks : Nat) (t : Bytes) : Nat := leNat (t.take 8) % blocks
def tagA (t : Bytes) : Nat := (t.getD 8 0).toNat % 64
def tagB (t : Bytes) : Nat := let b := (t.getD 9 0).toNat % 64; if b = tagA t then (tagA t + 1) % 64 else b

def inBucket (blk b : Nat) (r : VaultRec) : Bool := r.block == blk && r.slot / 8 == b

/-- The records a lookup of a tag reads (R253). -/
def vaultSeen (v : Vault) (t : Bytes) : List VaultRec :=
  let k := tagBlock v.blocks t
  let near := v.records.filter (fun r => inBucket k (tagA t) r || inBucket k (tagB t) r)
  if v.overflow.at k 0 = 0 then near else v.records.filter (fun r => r.block == k)

def vaultFind (v : Vault) (t : Bytes) : Option VaultRec := (vaultSeen v t).find? (fun r => r.tag == t && !r.poisoned)

/-- The lowest free record position of a bucket, or of a whole block. -/
def freeSlot (v : Vault) (k lo n : Nat) : Option Nat :=
  ((List.range n).map (lo + ·)).find? (fun i => !(v.records.any (fun r => r.block == k && r.slot == i)))

/-- Where a new record goes, and whether it overflows its buckets (R253). -/
def vaultPlace (v : Vault) (t : Bytes) : Option (Nat × Bool) :=
  let k := tagBlock v.blocks t
  let na := (v.records.filter (inBucket k (tagA t))).length
  let nb := (v.records.filter (inBucket k (tagB t))).length
  let first := if nb < na then tagB t else tagA t
  match freeSlot v k (8 * first) 8 with
  | some i => some (i, false)
  | none => (freeSlot v k 0 512).map (fun i => (i, true))

/-- Insert a record at the place the rule gives it. -/
def vaultInsert (v : Vault) (r : VaultRec) : Option Vault :=
  let k := tagBlock v.blocks r.tag
  (vaultPlace v r.tag).map (fun p =>
    { v with records := v.records ++ [{ r with block := k, slot := p.1 }],
             overflow := if p.2 then v.overflow.put k (v.overflow.at k 0 + 1) else v.overflow })

/-! ## Checks (R229, R255) -/

def vlKeyChk (a : Attr) : Option Status :=
  need (isAes a.alg && a.usage &&& (uFpe ||| uVault) == (uFpe ||| uVault)) stKeyUsage

/-- A token or PAN field with at least six middle digits. -/
def vlPanOk (x : Req) (f : Bytes) : Bool := panOk false f && decide (vlFirst x + vlLast x + 6 ≤ panLen f)

def vlFields (x : Req) : Bool := decide (vlFirst x ≤ 8) && decide (vlLast x ≤ 4) && x.pay 7 1 == 0

def vaultOwn (op : Nat) (s : State) (x : Req) : Option Status :=
  need (vlFields x && vlPanOk x (vlIn x) && x.pay 0x1C 4 == 0 && (op == 1 || allZero (vlContext x)) &&
        (op != 2 || polDetok (policyOf s x.part) x.fn)) stPolicyDenied

def rlCount (x : Req) : Nat := x.pay 8 2
def rlEntry (x : Req) (i : Nat) : Bytes := bsub x.payload (16 + 28 * i) 28

def reloadOwn (_ : State) (x : Req) : Option Status :=
  need (vlFields x && allZero (bsub x.payload 0xA 6) && decide (1 ≤ rlCount x) && decide (rlCount x ≤ 256) &&
        (List.range (rlCount x)).all (fun i => vlPanOk x ((rlEntry x i).take 20))) stPolicyDenied

/-- Whether the partition's vault has room for `n` more reserved records (R256). -/
def vaultRoom (n : Nat) (s : State) (x : Req) : Option Status :=
  let v := (getPart s x.part).vault
  need (decide (v.records.length + v.reserved + n ≤ v.capacity)) stFlowLimit

def vaultUsage : BitVec 32 := uFpe ||| uVault

def specVault (op : Nat) : OpSpec :=
  { phase := .clear
    length := fun _ x => x.len == 40
    maxReply := fun _ _ => 40
    own := vaultOwn op
    keys := fun _ x => [x.key 0]
    attrs := fun s x => attrCheck s x.part (x.key 0) vlKeyChk
    shares := fun s x => if op = 1 then vaultRoom 1 s x else none
    items := fun _ _ => [facetItem [(0, vaultUsage)], coreItem]
    reserve := fun _ _ => if op = 1 then 1 else 0 }

def specVaultReload : OpSpec :=
  { phase := .clear
    length := fun _ x => decide (16 ≤ x.len) && x.len == 16 + 28 * rlCount x
    maxReply := fun _ _ => 16
    quorum := fun _ x => some x.part
    own := reloadOwn
    keys := fun _ x => [x.key 0]
    attrs := fun s x => attrCheck s x.part (x.key 0) vlKeyChk
    shares := fun s x => vaultRoom (rlCount x) s x
    items := fun _ x => facetItem [(0, vaultUsage)] :: List.replicate (rlCount x) coreItem
    reserve := fun _ x => rlCount x }

/-! ## Updates in journal order (R254) -/

def isVaultOp (op : BitVec 16) : Bool := decide (0x1101 ≤ op.toNat) && decide (op.toNat ≤ 0x1104)

/-- The PANs a vault command is about, under its key. -/
def vaultPans (c : Cmd) (key : Bytes) : List (List Nat) :=
  let x := reqOf c
  match c.opcode.toNat with
  | 0x1101 => [panDigits (vlIn x)]
  | 0x1104 => (List.range (rlCount x)).map (fun i => vlCipher false x key (panDigits ((rlEntry x i).take 20)))
  | _ => [vlCipher false x key (panDigits (vlIn x))]

/-- The blocks a vault command updates. -/
def vaultBlocks (s : State) (c : Cmd) : List Nat :=
  let x := reqOf c
  match loadKey s c (x.key 0) with
  | none => []
  | some k => (vaultPans c k.material).map (fun d => tagBlock (getPart s c.ref.part).vault.blocks (vaultTag k.material (vlDomain x) d))

/-- Every vault command accepted earlier has computed its tags, and every earlier update of a shared block has ended. -/
def vaultTurn (s : State) (r : CmdRef) : Bool :=
  match findCmd s r with
  | none => true
  | some c => s.prism.cmds.all (fun d =>
      !(d.ref.part == c.ref.part && isVaultOp d.opcode && decide (d.order < c.order) && d.result.isNone) ||
      ((d.items.take 1).all (fun it => it.state == .ended) && (vaultBlocks s d).all (fun k => !(vaultBlocks s c).contains k)))

/-- Whether item `i` of the command may become ready: an update item of a vault command only when every vault command accepted earlier in
the journal has computed its tags and every earlier update to the same block has ended (R254). -/
def vaultItemTurn (s : State) (c : Cmd) (i : Nat) : Bool := i = 0 || !isVaultOp c.opcode || vaultTurn s c.ref

/-! ## Readiness (R70, R254) -/

def itemReady (it : Item) : Bool := it.state == .waiting && it.preds == 0 && it.loads.all (fun l => l.done)

/-- Stamp the items of a command that have just become ready with the time. -/
def stampCmd (s : State) (c : Cmd) : Cmd :=
  { c with items := c.items.zipIdx.map (fun e =>
    if itemReady e.1 && e.1.readyNs.isNone && vaultItemTurn s c e.2 then { e.1 with readyNs := some s.clk.ns } else e.1) }

/-- What has happened to one vault command may make items of others of its partition ready (R254). -/
def stampVaults (p : Nat) (s : State) : State :=
  setCmds s (s.prism.cmds.map (fun c => if c.ref.part == p && isVaultOp c.opcode then stampCmd s c else c))

/-- Stamp the items of a command that have just become ready with the time. -/
def stampReady (r : CmdRef) (s : State) : State :=
  match findCmd s r with
  | none => s
  | some c => if isVaultOp c.opcode then stampVaults r.part s else modCmd r (stampCmd s) s

/-! ## Effects -/

def setVault (p : Nat) (v : Vault) (s : State) : State := modPart p (fun x => { x with vault := v }) s

def vaultReply (d : List Nat) (found : Bool) (r : Option VaultRec) : Bytes :=
  padTo 20 (if d.isEmpty then [] else panBytes d) ++ toLe 1 (b2n found) ++ zeros 3 ++
  (match r with | none => zeros 16 | some r => padTo 8 r.context ++ toLe 8 r.time.toNat)

/-- A poisoned record among those read is freed and lost, and the command that read it ends with FAULT_DETECTED (R430). -/
def vaultPoison (p : Nat) (t : Bytes) (s : State) : Option State :=
  let v := (getPart s p).vault
  match (vaultSeen v t).find? (fun r => r.poisoned) with
  | none => none
  | some r =>
    let s := setVault p { v with records := v.records.filter (fun q => !(q == r)) } s
    some { s with flt := { s.flt with vaultLost := satAdd 32 s.flt.vaultLost 1 } }

def vaultRec (c : Cmd) (t ctx : Bytes) (s : State) : VaultRec :=
  let x := reqOf c
  { block := 0, slot := 0, tag := t, key := x.key 0, version := loadVersion c (x.key 0), domain := BitVec.ofNat 8 (vlDomain x),
    keepFirst := BitVec.ofNat 8 (vlFirst x), keepLast := BitVec.ofNat 8 (vlLast x), context := ctx, time := s.hzn.time, poisoned := false }

def runVaultTokenise : Effect := fun c s =>
  let x := reqOf c
  withKey s c (x.key 0) vlKeyChk [] fun k =>
    let p := c.ref.part
    let d := panDigits (vlIn x)
    let t := vaultTag k.material (vlDomain x) d
    match vaultPoison p t s with
    | some s => ends s stFault
    | none =>
      let v := (getPart s p).vault
      let token := vlCipher true x k.material d
      match vaultFind v t with
      | some r => ends s stOk (vaultReply token true (some r))
      | none =>
        let r := vaultRec c t (vlContext x) s
        match vaultInsert v r with
        | none => ends (bumpPart p cVaultBlockFull s) stFlowLimit
        | some v => ends (setVault p v s) stOk (vaultReply token false (some r))

def runVaultDetokenise : Effect := fun c s =>
  let x := reqOf c
  withKey s c (x.key 0) vlKeyChk [] fun k =>
    let p := c.ref.part
    let d := vlCipher false x k.material (panDigits (vlIn x))
    let t := vaultTag k.material (vlDomain x) d
    match vaultPoison p t s with
    | some s => ends s stFault
    | none => match vaultFind (getPart s p).vault t with
      | some r => ends s stOk (vaultReply d true (some r))
      | none => ends s stOk (vaultReply [] false none)

def runVaultDelete : Effect := fun c s =>
  let x := reqOf c
  withKey s c (x.key 0) vlKeyChk [] fun k =>
    let p := c.ref.part
    let t := vaultTag k.material (vlDomain x) (vlCipher false x k.material (panDigits (vlIn x)))
    match vaultPoison p t s with
    | some s => ends s stFault
    | none =>
      let v := (getPart s p).vault
      match vaultFind v t with
      | none => ends s stOk (vaultReply [] false none)
      | some r => ends (setVault p { v with records := v.records.filter (fun q => !(q == r)) } s) stOk (vaultReply [] true (some r))

/-- The progress of a reload: inserted, present, block full; `bad` when a poisoned record was read. -/
structure ReloadAcc where
  st       : State
  inserted : Nat
  present  : Nat
  full     : Nat
  bad      : Bool

/-- One entry of VAULT_RELOAD (R255, R256). -/
def reloadOne (c : Cmd) (key : Bytes) (a : ReloadAcc) (i : Nat) : ReloadAcc :=
  if a.bad then a
  else
    let x := reqOf c
    let e := rlEntry x i
    let p := c.ref.part
    let t := vaultTag key (vlDomain x) (vlCipher false x key (panDigits (e.take 20)))
    match vaultPoison p t a.st with
    | some s => { a with st := s, bad := true }
    | none =>
      let v := (getPart a.st p).vault
      match vaultFind v t with
      | some _ => { a with present := a.present + 1 }
      | none => match vaultInsert v (vaultRec c t (bsub e 0x14 8) a.st) with
        | some v => { a with st := setVault p v a.st, inserted := a.inserted + 1 }
        | none => { a with st := bumpPart p cVaultBlockFull a.st, full := a.full + 1 }

def runVaultReload : Effect := fun c s =>
  let x := reqOf c
  withKey s c (x.key 0) vlKeyChk [] fun k =>
    let a := (List.range (rlCount x)).foldl (reloadOne c k.material) { st := s, inserted := 0, present := 0, full := 0, bad := false }
    if a.bad then ends a.st stFault
    else ends a.st stOk (toLe 4 a.inserted ++ toLe 4 a.present ++ toLe 4 a.full ++ zeros 4)

/-! ## The rows -/

/-- A vault row: it runs in its turn (R254), or ends without its effect, and the updates after it may become ready. -/
def runVault (op : Nat) (eff : Effect) (r : CmdRef) (s : State) : Res :=
  match findCmd s r with
  | none => .next s
  | some c =>
    if ready op s c && (vaultTurn s r || (failStatus c).isSome) then .next (stampVaults r.part (runCmd eff noReply c s)) else .next s

/-- VAULT_TOKENISE (R252 to R256). -/
def execVaultTokenise (r : CmdRef) (s : State) : Res := runVault 0x1101 runVaultTokenise r s
/-- VAULT_DETOKENISE (R255). -/
def execVaultDetokenise (r : CmdRef) (s : State) : Res := runVault 0x1102 runVaultDetokenise r s
/-- VAULT_DELETE (R255). -/
def execVaultDelete (r : CmdRef) (s : State) : Res := runVault 0x1103 runVaultDelete r s
/-- VAULT_RELOAD (R255, R256). -/
def execVaultReload (r : CmdRef) (s : State) : Res := runVault 0x1104 runVaultReload r s

end Sys2Proof.Machine
end

