-- ==== Sys2Proof/Machine/Reset.lean ====
section
/-! DEFINITION. Function-level reset, destruction of a partition, warm reset and loss of both feeds: what each takes away and
what it keeps (R8, R64, R106, R110 to R112, R153, R265, R293). -/

namespace Sys2Proof.Machine

/-! ## Vault layout (R251, R431, R432) -/

/-- Ranks that hold the vault: of the serving ranks all but the one that holds what rank 0 holds (R431, R432). -/
def vaultRanks (s : State) : Nat := 15 - ((List.range 16).filter (fun i => s.flt.offRanks.contains i)).length

/-- Vault blocks of a partition over the serving ranks. -/
def vaultBlocksNow (s : State) : Nat := 524288 * vaultRanks s / pDiv s

/-- Place every record again under a block count; a poisoned record, or one that finds no place, is lost (R432). -/
def relay (blocks : Nat) (v : Vault) : Vault × Nat :=
  v.records.foldl (fun a r =>
    if r.poisoned then (a.1, a.2 + 1)
    else match vaultInsert a.1 r with
      | some w => (w, a.2)
      | none => (a.1, a.2 + 1)) ({ v with blocks := blocks, records := [], overflow := [] }, 0)

/-- Lay every vault out over the serving ranks; records lost are counted (R432). -/
def relayVaults (s : State) : State :=
  let n := vaultBlocksNow s
  (partNums s).foldl (fun s p =>
    let x := getPart s p
    if x.vault.blocks = n then s
    else
      let (v, lost) := relay n x.vault
      let s := setPart s p { x with vault := v }
      { s with flt := { s.flt with vaultLost := satAdd 32 s.flt.vaultLost lost } }) s

/-- VAULT_CAPACITY: seven-eighths of the records (R251), shown from the entry to Clear on (R258). -/
def setCapacity (s : State) : State :=
  (partNums s).foldl (fun s p => modPart p (fun x => { x with vault := { x.vault with capacity := 448 * x.vault.blocks } }) s) s

/-- Lay the vaults out, and show their capacity in Clear. -/
def layVaults (s : State) : State :=
  let s := relayVaults s
  if s.svc.phase == .clear then setCapacity s else s

/-! ## Function-level reset (R8, R99, R106, R110, R111, R265) -/

/-- A ring at reset, keeping what reset keeps: its generation, LAST_SEQ and its count of accepted commands. -/
def ringCleared (r : Ring) : Ring := { ringReset with gen := r.gen, lastSeq := r.lastSeq, accepts := r.accepts }

/-- The function's own registers return to reset; counters are kept. -/
def fnCleared (x : Fn) : Fn :=
  { x with irqCause := 0, irqMask := 0, jnlIndex := 0, jnlWindow := [], stray := [], latch := [], msixTable := [], msixPend := [] }

/-- A Lens lock that the PF holds breaks (R334). -/
def breakPfLens (s : State) : State :=
  match s.plat.lockOwner with
  | .pf _ => if s.plat.lock = 1 then { s with plat := { s.plat with lock := 3 } } else s
  | .session _ => s

/-- PF registers that no reset text keeps across a function-level reset (R8). A field that shows what holds now (a state, a supply,
an address in use) goes on showing it: DEDUCED, log entry 102. -/
def pfCleared (s : State) : State :=
  let q := s.prism
  breakPfLens
  { s with
    pm := { s.pm with selPart := 0, selWin := 0, refused := false, spoof := [], spoofNext := 0 }
    prism := { q with trcBase := 0, trcOn := false, trcLog := 16, trcPart := 0, trcFilter := false, trcMask := 0xFF, trcWrite := 0,
                      trcRead := 0, trcFull := false, trcLost := 0 }
    fabClass := []
    rng := { s.rng with restarts := 0 }
    fw := { s.fw with lastResult := 0 }
    plat := { s.plat with cntLens := 0, passes := 0, mismatch := false, refusedSwap := false, log := [], logNext := 0 }
    life := { s.life with cntDebug := 0, log := [], logNext := 0 }
    ilu := { s.ilu with partnerLost := false }
    facets := s.facets.map (fun e => (e.1, { e.2 with glitch := 0, timer := 0, retried := 0 }))
    engines := s.engines.map (fun e => (e.1, { e.2 with mismatch := 0, parity := 0, retried := 0 }))
    flt := { s.flt with cause := 0, mask := 0 }
    hzn := { s.hzn with restored := false, coldStart := false, vbatShown := 0,
                        channels := s.hzn.channels.map (fun e => (e.1, { e.2 with value := 0, warn := false })) } }

/-- Ceremony locks whose opening function is `f` break (R265). -/
def breakOwned (f : Nat) (s : State) : State :=
  { s with parts := s.parts.map (fun e => if e.2.lock.ownerFn = f then (e.1, { e.2 with lock := breakLock e.2.lock }) else e) }

/-- The generations a function-level reset raises (R106). -/
def resetGens (f : Nat) (s : State) : State :=
  let x := getFn s f
  if !x.mapped then s
  else if fnsOf s x.partition = [f] then bumpPartGen x.partition s
  else (fnRings x).foldl (fun s g => bumpRingGen g s) s

/-- Function-level reset of one function, its generations apart (R111): its registers and rings return to reset and locks it opened
break. -/
def functionClear (f : Nat) (s : State) : State :=
  let s := modFn f fnCleared s
  let s := (fnRings (getFn s f)).foldl (fun s g => modRing g ringCleared s) s
  let s := if f = 0 then pfCleared s else s
  breakOwned f s

/-- Function-level reset of one function (R111): its registers and rings return to reset, locks it opened break, and the
generations of R106 rise. -/
def functionReset (f : Nat) (s : State) : State := resetGens f (functionClear f s)

/-- The VFs. -/
def vfNums : List Nat := (List.range 255).map (· + 1)

/-! ## Destruction of a partition (R121) -/

/-- Release every context of a partition, without regard to its commands. -/
def releaseAll (p : Nat) (s : State) : State :=
  (s.sess.ctxs.filter (fun e => e.2.allocated && e.2.part == p)).foldl (fun s e => releaseCtx e.1 s) s

/-- The partition loses its keys, sessions, journal, vault records, officers and policy and becomes EMPTY. Its generation,
windows, counters and random instance stay. Commands of it that have not ended go with its journal. -/
def emptyPart (p : Nat) (s : State) : State :=
  let s := releaseAll p (destroyPartKeys p s)
  let rs := partRings s p
  let s := { s with
    replies := s.replies.filter (fun c => !rs.contains c.ring)
    prism := { s.prism with cmds := s.prism.cmds.filter (fun c => !(c.ref.part == p)), held := s.prism.held.filter (fun h => h.ref.part != p) }
    rng := { s.rng with queue := s.rng.queue.filter (fun r => r.part != p) } }
  let x := getPart s p
  setPart s p { partReset with gen := x.gen, windows := x.windows, counters := x.counters, drbg := x.drbg, drbgCount := x.drbgCount,
                               drbgTime := x.drbgTime, drbgDue := x.drbgDue, bucketOver := x.bucketOver, bucketCap := x.bucketCap,
                               bucketNs := x.bucketNs }

/-! ## Registers of a warm reset (R8, R293) -/

/-- Every ring returns to reset and its generation rises by one (R106). -/
def warmRings (t : Tab Ring) : Tab Ring :=
  (List.range 1024).map (fun g => let r := t.at g ringReset; (g, { ringCleared r with gen := r.gen + 1 }))

/-- A function after a warm reset: counters return to 0 too, and so do FN_IRQ_CAUSE and, until the start loads them, the mapping
registers (R8, R98). -/
def warmFn (x : Fn) : Fn :=
  { fnCleared x with counters := [], partition := 0, ringBase := 0, ringCount := 0, mapped := false }

/-- A partition after a warm reset (R8, R99, R216, R265). A freeze cut short leaves it ACTIVE (R120). -/
def warmPart (x : Part) : Part :=
  { x with lock := breakLock x.lock, counters := [], drained := 0, freezeCmd := none,
           state := if x.state == .freezing then .active else x.state, drbg := [], drbgCount := 0, drbgDue := true,
           bucketOver := 0, bucketCap := 0, bucketNs := 0, vault := { x.vault with capacity := 0, reserved := 0 } }

/-- Prism after a warm reset; the commands it cut off wait for the restart's finalisation (R112). -/
def warmPrism (q : Prism) : Prism :=
  { cmds := [], held := [], cutOff := q.cutOff ++ q.cmds, order := q.order, credit := [], chosen := [], affinity := [], trcBase := 0,
    trcOn := false, trcLog := 16, trcPart := 0, trcFilter := false, trcMask := 0xFF, trcWrite := 0, trcRead := 0, trcFull := false,
    trcLost := 0, trcMark := q.trcMark }

/-- The key store after a warm reset: the hot set, shadows, key registers and the seal go; keys, MWK and epochs stay (R153,
R155). -/
def warmKeys (k : KeyStore) : KeyStore :=
  { k with holds := [], reserved := [], hot := [], sealed := false, busStopped := false, scramble := [], integrity := [], maskSeed := [], maskUsed := 0, ctxKey := [],
           keys := k.keys.map (fun e => (e.1, { e.2 with pending := [] })) }

/-- The generator stops; RNG_FAULT and RESTARTS are kept (R221, R228). -/
def warmRng (g : Rng) : Rng :=
  { g with state := .testing, running := false, katPassed := false, katKnown := false, verdict := false, instDone := false,
           tests := State.resetTests, cond := [], srcOk := 0, shared := false, pool := [],
           module := [], queue := [], waits := [], restartCmds := [] }

/-- Firmware after a warm reset: a released image is retained unless it is to be discarded (R310, R311). -/
def warmFw (discard : Bool) (w : Firmware) : Firmware :=
  let keep := w.load = 3 && !discard && w.lastResult != 10
  { w with load := 0, retained := false, appSvn := 0, appMeas := [], stage := if keep then w.stage else [],
           stageLen := if keep then w.stageLen else 0, rotStage := [], rotLen := 0, loaderLen := none, loaderBuf := [] }

/-- The management bus after a warm reset: sessions, handshakes and partial messages go; EID, record and retirements stay. -/
def warmMbus (m : Mbus) : Mbus :=
  { m with ports := m.ports.map (fun p => { State.resetPort with retired := p.retired, dynAddr := p.dynAddr }), buffers := [],
           strangers := [], sessions := [], dialogs := [], chunksIn := [], chunksOut := [], dropped := 0, authFail := 0 }

/-- A service session of the bus that holds the Lens lock loses it (R334). -/
def breakLens (s : State) : State := if s.plat.lock = 1 then { s with plat := { s.plat with lock := 3 } } else s

def warmLife (l : LifeDebug) : LifeDebug :=
  { l with inspection := false, scope := 0, halted := [], challenge := none, rolling := false, cdi1 := [], cdi2 := [], unitKey := [], rotKey := [],
           appKey := [] }

def warmHorizon (h : Horizon) : Horizon :=
  { h with restored := false, coldStart := false, calCmd := none, envelopes := [], calDefault := false, vbatShown := 0,
           channels := h.channels.map (fun e => (e.1, { e.2 with value := 0, warn := false, warns := 0 })) }

/-- Iluon after a warm reset: links are down and every register returns to reset but the claim (R422). The mode and the position
stand in the stored ring configuration, and ILN_RING shows them again once the ring is formed (R8, R403). -/
def warmIluon (i : Iluon) : Iluon :=
  let port (p : IluonPort) : IluonPort := { State.resetIluonPort with retiredLanes := p.retiredLanes }
  { i with west := port i.west, east := port i.east, mirror := .none, partnerSeen := false, partnerLost := false, resyncPct := 0,
           formed := false, line := false, live := [], fetch := none, imageOwed := i.members != 0, markDue := 0, rtts := [], keyLease := State.resetLease, vaultLease := State.resetLease, keyMaster := false,
           vaultOwner := false, loadPct := 0, busy := [], peerLoad := [], peerRoles := [], compares := [], cntRefused := 0, cntDiverge := 0,
           dirty := 0 }

/-- Fault reporting after a warm reset; the log, the map, strikes and poisoned lines are kept. A rank retirement cut off is
finished, and requalified ranks rejoin (R428, R432). -/
def warmFaults (f : Faults) : Faults :=
  let off := match f.rebuilding with | none => f.offRanks | some r => f.offRanks ++ [r]
  { f with cause := 0, mask := 0, corrected := 0, poisoned := 0, vaultLost := 0, rebuilding := none, evacuating := false,
           offRanks := (off ++ f.queuedRanks).filter (fun r => !f.rejoin.contains r), queuedRanks := [], rejoin := [] }

def darkService (v : Service) (ns : Nat) (warm : Bool) : Service :=
  { State.resetService with calFull := warm && v.calFull, jnlLost := v.jnlLost, perst := v.perst, perstNs := v.perstNs,
                            warmCount := if warm then v.warmCount + 1 else 0, releaseNs := ns }

/-- The island stops driving clocks; the start begins again at the power-on row of R292. -/
def darkClock (c : Clock) : Clock :=
  { c with powered := true, porNs := c.ns, pllEnabled := true, pllLocked := false, islandClock := false }

/-- Transient contexts go with their commands, and no session has a command outstanding. -/
def warmSessions (s : State) : State :=
  let s := (s.sess.ctxs.filter (fun e => e.2.allocated && e.2.transient)).foldl (fun s e => releaseCtx e.1 s) s
  { s with sess := { s.sess with ctxs := s.sess.ctxs.map (fun e => (e.1, { e.2 with outstanding := 0 })) } }

/-- What a reset cuts off of the writes to flash and OTP that are under way (R132, R302, R362). -/
def cutWrites (s : State) : State := cutBackings (cutCommit (cutIntent s))

/-- A warm reset of the module (R293): back to Dark, with memory held in self-refresh. -/
def warmReset (s : State) : State :=
  let s := breakLens (warmSessions (cutWrites s))
  { s with
    clk := darkClock s.clk
    svc := darkService s.svc s.clk.ns true
    fns := s.fns.map (fun e => (e.1, warmFn e.2))
    rings := warmRings s.rings
    pm := { s.pm with selPart := 0, selWin := 0, refused := false, spoof := [], spoofNext := 0 }
    parts := s.parts.map (fun e => (e.1, warmPart e.2))
    ks := warmKeys s.ks
    prism := warmPrism s.prism
    facets := []
    engines := []
    domains := []
    fabClass := []
    rng := warmRng s.rng
    fw := warmFw s.svc.discardApp s.fw
    mbus := warmMbus s.mbus
    life := warmLife s.life
    hzn := warmHorizon s.hzn
    ilu := warmIluon s.ilu
    flt := warmFaults s.flt }

/-! ## Loss of both feeds (R64, R153, R265, R395) -/

/-- What a partition keeps in the private NOR devices and the Horizon domain. State that lies in memory goes: an import is
abandoned and a freeze ends. -/
def coldPart (x : Part) : Part :=
  if x.state == .importing then { partReset with lock := breakLock x.lock, lastCer := x.lastCer }
  else { partReset with
    state := if x.state == .freezing then .active else x.state
    policy := x.policy, threshold := x.threshold, officers := x.officers, salt := x.salt, lock := breakLock x.lock,
    lastCer := x.lastCer, nextNonce := x.nextNonce, nextBackup := x.nextBackup }

/-- The module in power-fail reset: every domain but 0 is off (R24); memory and registers are lost; fuses, the private NOR devices and the Horizon domain keep
what they hold, and JNL_EPOCH counts the loss of the journal (R64, R395). -/
def feedsLost (s : State) : State :=
  let s := cutWrites s
  let z := State.reset
  { z with
    clk := { z.clk with ns := s.clk.ns, feedA := s.clk.feedA, feedB := s.clk.feedB }
    svc := { z.svc with jnlLost := true, perst := s.svc.perst, perstNs := s.svc.perstNs }
    pm := { z.pm with logP := s.pm.logP, stored := s.pm.stored, nextOffer := s.pm.nextOffer, nextExport := s.pm.nextExport }
    parts := s.parts.map (fun e => (e.1, coldPart e.2))
    ks := { z.ks with nor0 := s.ks.nor0, nor1 := s.ks.nor1, mwk := s.ks.mwk, mwkPrev := s.ks.mwkPrev, mwkGen := s.ks.mwkGen,
                      prevPresent := s.ks.prevPresent, rewrap := s.ks.rewrap, epochs := s.ks.epochs, regCrcOk := s.ks.regCrcOk }
    fw := { z.fw with slotA := s.fw.slotA, slotB := s.fw.slotB }
    plat := { z.plat with pcfg := s.plat.pcfg, records := s.plat.records, brecSeq := s.plat.brecSeq, ackSeq := s.plat.ackSeq,
                          brecLost := s.plat.brecLost, lostLast := s.plat.lostLast, prevHash := s.plat.prevHash }
    mbus := { z.mbus with config := s.mbus.config, ports := s.mbus.ports.map (fun p => { State.resetPort with retired := p.retired }) }
    life := { z.life with otp := s.life.otp, certs := s.life.certs, fenced := s.life.fenced }
    hzn := { warmHorizon s.hzn with epoch := s.hzn.epoch + 1, channels := [], responding := false }
    ilu := { z.ilu with claim := s.ilu.claim, topClaim := s.ilu.claim, partner := s.ilu.partner, pairPort := s.ilu.pairPort,
                        paired := s.ilu.paired, pairKey := s.ilu.pairKey, ringKey := s.ilu.ringKey, counter := s.ilu.counter,
                        ringId := s.ilu.ringId, members := s.ilu.members, leaseMode := s.ilu.leaseMode, leaseMult := s.ilu.leaseMult,
                        position := s.ilu.position, spill := s.ilu.spill, imageOwed := s.ilu.members != 0 }
    flt := { z.flt with retired := s.flt.retired, causes := s.flt.causes, strikes := s.flt.strikes, offRanks := (warmFaults s.flt).offRanks }
    domains := State.domainsDark
    free := s.free
    out := s.out
    pending := s.pending }

end Sys2Proof.Machine
end

