-- ==== Sys2Proof/Machine/PartCmds.lean ====
section
/-! DEFINITION. Group 0x0C: partitions, policy, officers, ceremonies and migration (R113 to R121, R262 to R271, R281, R282, R461). -/

namespace Sys2Proof.Machine

/-! ## The flow of R461 -/

/-- A command of the flow of R461: its condition is judged again when it runs, and the status check 8 would give stands. -/
def adminRun (own : State → Req → Option Status) (apply : Cmd → State → State) (reply : Cmd → State → Bytes) : Effect := fun c s =>
  match own s (reqOf c) with
  | some st => ends s st
  | none => let t := apply c s; ends t stOk (reply c t)

def zeroReply : Cmd → State → Bytes := fun _ _ => zeros 4

/-- A partition and its state, EMPTY at and above P (R98). -/
def stateOf (s : State) (p : Nat) : PartState := if p < partCount s then (getPart s p).state else .empty

def setPartState (p : Nat) (st : PartState) (s : State) : State := modPart p (fun x => { x with state := st }) s

/-! ## Officers and policy (R262, R282) -/

def officerLen : Nat := 3552

def officerOf (b : Bytes) : Officer :=
  { slot := fld b 0 1, sigAlg := BitVec.ofNat 8 (fld b 1 1), name := bsub b 4 12, sigPub := bsub b 0x10 1952, kemPub := bsub b 0x7B0 1568 }

/-- The form of an officer record. -/
def officerOk (b : Bytes) : Bool :=
  decide (1 ≤ fld b 0 1) && decide (fld b 0 1 ≤ 16) && (fld b 1 1 == 0x41 || fld b 1 1 == 0x51) && fld b 2 2 == 0 &&
  allZero (bsub b 0xDD0 16) && (fld b 1 1 != 0x41 || allZero (bsub b (0x10 + 97) (1952 - 97)))

/-- `n` officer records from offset `off` on. -/
def officerRecs (b : Bytes) (off n : Nat) : List Bytes := (List.range n).map (fun i => bsub b (off + officerLen * i) officerLen)

/-- M and N of R262. -/
def setSizeOk (m n : Nat) : Bool := decide (2 ≤ n) && decide (n ≤ 16) && decide (2 ≤ m) && decide (m ≤ n)

/-- A whole officer set: sizes, records, slots distinct. -/
def officersOk (m : Nat) (recs : List Bytes) : Bool :=
  setSizeOk m recs.length && recs.all officerOk && (recs.map (fun b => fld b 0 1)).eraseDups.length == recs.length

def digitByte (b : Byte) : Bool := decide (0x30 ≤ b.toNat) && decide (b.toNat ≤ 0x39)

/-- A policy record as R282 and R241 require. -/
def policyOk (b : Bytes) : Bool :=
  decide (fld b 0 4 ≤ 3) && fld b 6 2 == 0 && allZero (bsub b 0x1A8 8) &&
  (List.range 16).all (fun t =>
    let d := bsub b (0x28 + 16 * t) 16
    if bit (fld b 4 2) t then d.all digitByte && (List.range 10).all (fun k => d.contains (BitVec.ofNat 8 (0x30 + k)))
    else allZero d)

/-! ## PARTITION_CREATE to FUNCTION_MAP (R281) -/

def pcRecs (x : Req) : List Bytes := officerRecs x.payload 440 (x.pay 5 1)

def ownCreate (s : State) (x : Req) : Option Status :=
  need (x.fn == 0 && x.pay 2 2 == 0 && x.pay 6 2 == 0 && x.pay 0 2 != 0 && decide (x.pay 0 2 < partCount s) &&
        (getPart s (x.pay 0 2)).state == .empty && policyOk (bsub x.payload 8 432) && officersOk (x.pay 4 1) (pcRecs x)) stPolicyDenied

/-- The partition stands with its policy and officers, its salt apart. -/
def presumeCreate : Cmd → State → State := fun c s =>
  let x := reqOf c
  modPart (x.pay 0 2) (fun p => { p with state := .active, policy := bsub x.payload 8 432, threshold := x.pay 4 1,
                                         officers := (pcRecs x).map officerOf }) s

def applyCreate : Cmd → State → State := fun c s =>
  let p := (reqOf c).pay 0 2
  layVaults (modPart p (fun y => { y with salt := drawn c 0 32 }) (presumeCreate c s))

def specPartitionCreate : OpSpec :=
  { length := fun _ x => decide (440 ≤ x.len) && x.len == 440 + officerLen * x.pay 5 1
    maxReply := fun _ _ => 4
    quorum := fun _ _ => some 0
    own := ownCreate
    draws := fun _ _ => true
    flow := some .admin
    persist := fun _ _ => true
    presume := presumeCreate }

/-- The rules ENABLE, DISABLE and DESTROY share: the PF, reserved bytes, and the state they start from. -/
def ownState (st : PartState) (not0 : Bool) (s : State) (x : Req) : Option Status :=
  need (x.fn == 0 && allZero (bsub x.payload 2 6) && stateOf s (x.pay 0 2) == st && (!not0 || x.pay 0 2 != 0)) stPolicyDenied

def applyEnable : Cmd → State → State := fun c s => setPartState ((reqOf c).pay 0 2) .active s

/-- Disable raises the generations of R106 and leaves the partition DISABLED. -/
def applyDisable : Cmd → State → State := fun c s =>
  let p := (reqOf c).pay 0 2
  bumpPartGen p (setPartState p .disabled s)

def presumeEmpty : Cmd → State → State := fun c s =>
  modPart ((reqOf c).pay 0 2) (fun y => { y with state := .empty, officers := [], threshold := 0, policy := [] }) s

def applyDestroy : Cmd → State → State := fun c s => emptyPart ((reqOf c).pay 0 2) s

def specPartState (own : State → Req → Option Status) (quorum0 : Bool) (presume : Cmd → State → State) : OpSpec :=
  { length := fun _ x => x.len == 8
    maxReply := fun _ _ => 4
    quorum := fun _ _ => if quorum0 then some 0 else none
    own := own
    flow := some .admin
    persist := fun _ _ => true
    presume := presume }

def specPartitionEnable : OpSpec := specPartState (ownState .disabled false) false applyEnable
def specPartitionDisable : OpSpec := specPartState (ownState .active true) false
  (fun c s => setPartState ((reqOf c).pay 0 2) .disabled s)
def specPartitionDestroy : OpSpec := specPartState (ownState .disabled false) true presumeEmpty

def fmFn (x : Req) : Nat := x.pay 0 2
def fmPart (x : Req) : Nat := x.pay 2 2
def fmBase (x : Req) : Nat := x.pay 4 2
def fmCount (x : Req) : Nat := x.pay 6 2

/-- The blocks of two functions overlap. -/
def blocksMeet (a n b m : Nat) : Bool := n != 0 && m != 0 && decide (a < b + m) && decide (b < a + n)

/-- Rings that functions other than `f` serve partition `p` with. -/
def ringsBut (s : State) (p f : Nat) : Nat :=
  ((fnsOf s p).filter (· != f)).foldl (fun n g => n + (getFn s g).ringCount) 0

def ownMap (s : State) (x : Req) : Option Status :=
  let f := fmFn x
  need (x.fn == 0 && decide (1 ≤ f) && decide (f ≤ 255) && decide (fmCount x ≤ 64) &&
        (fmPart x == 0xFFFF ||
         (decide (fmPart x < partCount s) && decide (fmBase x + fmCount x ≤ 1024) &&
          allFns.all (fun g => g == f || !blocksMeet (fmBase x) (fmCount x) (getFn s g).ringBase (getFn s g).ringCount) &&
          decide (ringsBut s (fmPart x) f + fmCount x ≤ 1024 / partCount s)))) stPolicyDenied

/-- The mapping itself, in the registers and the stored configuration (R97, R98). -/
def setMap : Cmd → State → State := fun c s =>
  let x := reqOf c
  let f := fmFn x
  let none_ := fmPart x == 0xFFFF
  let g (y : Fn) : Fn := { y with partition := if none_ then 0 else fmPart x, ringBase := if none_ then 0 else fmBase x,
                                  ringCount := if none_ then 0 else fmCount x, mapped := !none_ }
  let s := modFn f g s
  { s with pm := { s.pm with stored := s.pm.stored.put f (g fnReset) } }

/-- Remapping acts first as a function-level reset of the function (R97). -/
def applyMap : Cmd → State → State := fun c s => setMap c (functionReset (fmFn (reqOf c)) s)

def specFunctionMap : OpSpec := specPartState ownMap true setMap

/-! ## Policy and officers of the caller's partition (R281, R282) -/

def ownPolicySet (_ : State) (x : Req) : Option Status := need (policyOk x.payload) stPolicyDenied

def applyPolicySet : Cmd → State → State := fun c s => modPart c.ref.part (fun p => { p with policy := c.payload }) s

def specPolicySet : OpSpec :=
  { length := fun _ x => x.len == 432
    maxReply := fun _ _ => 4
    quorum := fun _ x => some x.part
    own := ownPolicySet
    flow := some .admin
    persist := fun _ _ => true
    presume := applyPolicySet }

/-- A command whose payload is 8 zero bytes. -/
def specZero8 (reply : Nat) : OpSpec :=
  { length := fun _ x => x.len == 8
    maxReply := fun _ _ => reply
    own := fun _ x => need (allZero x.payload) stPolicyDenied }

def specPolicyGet : OpSpec := specZero8 432
def runPolicyGet : Effect := fun c s => ends s stOk (padTo 432 (getPart s c.ref.part).policy)

def ownEnrol (s : State) (x : Req) : Option Status :=
  let p := getPart s x.part
  let r := bsub x.payload 4 officerLen
  need (allZero (bsub x.payload 1 3) && officerOk r && !p.officers.any (fun o => o.slot == fld r 0 1) &&
        setSizeOk (x.pay 0 1) (p.officers.length + 1)) stPolicyDenied

/-- Officers stay in slot order. -/
def insertOfficer (o : Officer) : List Officer → List Officer
  | [] => [o]
  | q :: r => if o.slot < q.slot then o :: q :: r else q :: insertOfficer o r

def applyEnrol : Cmd → State → State := fun c s =>
  modPart c.ref.part (fun p => { p with officers := insertOfficer (officerOf (bsub c.payload 4 officerLen)) p.officers,
                                        threshold := (reqOf c).pay 0 1 }) s

def specOfficerEnrol : OpSpec :=
  { length := fun _ x => x.len == 4 + officerLen
    maxReply := fun _ _ => 4
    quorum := fun _ x => some x.part
    own := ownEnrol
    flow := some .admin
    persist := fun _ _ => true
    presume := applyEnrol }

def ownRemove (s : State) (x : Req) : Option Status :=
  let p := getPart s x.part
  need (x.pay 2 2 == 0 && p.officers.any (fun o => o.slot == x.pay 0 1) && setSizeOk (x.pay 1 1) (p.officers.length - 1)) stPolicyDenied

def applyRemove : Cmd → State → State := fun c s =>
  let x := reqOf c
  modPart c.ref.part (fun p => { p with officers := p.officers.filter (fun o => o.slot != x.pay 0 1), threshold := x.pay 1 1 }) s

def specOfficerRemove : OpSpec :=
  { length := fun _ x => x.len == 4
    maxReply := fun _ _ => 4
    quorum := fun _ x => some x.part
    own := ownRemove
    flow := some .admin
    persist := fun _ _ => true
    presume := applyRemove }

def specOfficerList : OpSpec := specZero8 580

/-- The entry of slot `k` in the reply of OFFICER_LIST. -/
def officerEntry (l : List Officer) (k : Nat) : Bytes :=
  match l.find? (fun o => o.slot == k) with
  | none => zeros 36
  | some o => toLe 1 o.slot ++ [o.sigAlg] ++ zeros 2 ++ sha3_256 (padTo 1952 o.sigPub)

def runOfficerList : Effect := fun c s =>
  let p := getPart s c.ref.part
  ends s stOk (toLe 1 p.threshold ++ toLe 1 p.officers.length ++ zeros 2 ++
    ((List.range 16).map (fun i => officerEntry p.officers (i + 1))).flatten)

/-! ## Ceremonies (R264 to R270) -/

/-- Where a ceremony command holds FLAGS and TARGET, which bit is OTHER and which bits are permitted. -/
structure CerForm where
  flagsAt  : Nat
  targetAt : Nat
  other    : Nat
  allowed  : Nat

def cerOpen : CerForm := { flagsAt := 0x20, targetAt := 0x22, other := 1, allowed := 3 }
def cerSign : CerForm := { flagsAt := 5, targetAt := 6, other := 0, allowed := 1 }
def cerCancel : CerForm := { flagsAt := 4, targetAt := 6, other := 0, allowed := 1 }
def cerQuery : CerForm := { flagsAt := 0, targetAt := 2, other := 0, allowed := 1 }

/-- The partition whose lock the command works on (R268). -/
def cerPart (f : CerForm) (x : Req) : Nat := if bit (x.pay f.flagsAt 1) f.other then x.pay f.targetAt 2 else x.part

/-- FLAGS and TARGET as R268 and R270 allow them. -/
def cerForm (f : CerForm) (s : State) (x : Req) : Bool :=
  let t := x.pay f.targetAt 2
  decide (x.pay f.flagsAt 1 ≤ f.allowed) &&
  (if bit (x.pay f.flagsAt 1) f.other then x.fn == 0 && t != 0 && decide (t < partCount s) && stateOf s t != .empty else t == 0)

/-- The lock as it counts now: an expired ceremony is over (R265). -/
def lockNow (s : State) (p : Nat) : Lock :=
  let l := (getPart s p).lock
  if (l.state == .collecting || l.state == .authorised) && decide (l.expiry.toNat ≤ s.hzn.time.toNat) then
    { l with state := .free, signed := [], bad := 0 }
  else l

def lockNum : LockState → Nat
  | .free => 0 | .collecting => 1 | .authorised => 2 | .broken => 3

def setLock (p : Nat) (l : Lock) (s : State) : State := modPart p (fun x => { x with lock := l }) s

def ownOpen (s : State) (x : Req) : Option Status :=
  let p := cerPart cerOpen x
  let l := lockNow s p
  firstFail
    [ need (cerForm cerOpen s x && x.pay 0x21 1 == 0 && x.pay 0x24 4 == 0) stPolicyDenied,
      need (l.state != .collecting && l.state != .authorised) stFlowLimit,
      need (l.state != .broken || bit (x.pay 0x20 1) 0) stLockBroken,
      need (!(getPart s p).officers.isEmpty) stPolicyDenied ]

def openCeremony (challenge : Bytes) : Cmd → State → State := fun c s =>
  let x := reqOf c
  let p := cerPart cerOpen x
  let y := getPart s p
  let l : Lock := { state := .collecting, id := y.lastCer + 1, ownerFn := c.fn, ownerGen := y.gen, digest := bsub c.payload 0 32,
                    challenge := challenge, threshold := y.threshold, officers := y.officers, signed := [], bad := 0,
                    expiry := hznPlus s 300 }
  setPart s p { y with lock := l, lastCer := y.lastCer + 1 }

/-- The 48 bytes of a ceremony. -/
def cerBytes (l : Lock) : Bytes :=
  toLe 4 l.id.toNat ++ toLe 1 l.threshold ++ zeros 3 ++ toLe 8 l.expiry.toNat ++ padTo 32 l.challenge

def specCeremonyOpen : OpSpec :=
  { length := fun _ x => x.len == 0x28
    maxReply := fun _ _ => 48
    own := ownOpen
    draws := fun _ _ => true
    flow := some .admin
    presume := openCeremony [] }

def runCeremonyOpen : Effect :=
  adminRun ownOpen (fun c s => openCeremony (drawn c 0 32) c s) (fun c s => cerBytes (getPart s (cerPart cerOpen (reqOf c))).lock)

/-- An opening that a failed draw ends uses up its CEREMONY_ID (R266). -/
def failCeremonyOpen : OnFail := fun c st s =>
  if st = stRngFailed || st = stRngNotReady then
    (modPart (cerPart cerOpen (reqOf c)) (fun y => { y with lastCer := y.lastCer + 1 }) s, [])
  else (s, [])

/-- The command names the current ceremony; one it names that was discarded is LOCK_BROKEN (R270). -/
def currentCer (l : Lock) (id : BitVec 32) : Option Status :=
  if l.id == id && l.state == .broken then some stLockBroken
  else need (l.id == id && (l.state == .collecting || l.state == .authorised)) stPolicyDenied

/-- Signature length an officer's SIG_ALG requires. -/
def officerSigLen (a : BitVec 8) : Nat := if a == 0x41 then 96 else 3309

def signOfficer (l : Lock) (x : Req) : Option Officer := l.officers.find? (fun o => o.slot == x.pay 4 1)

def ownSign (s : State) (x : Req) : Option Status :=
  let l := lockNow s (cerPart cerSign x)
  firstFail
    [ need (cerForm cerSign s x && allZero (bsub x.payload 8 8)) stPolicyDenied,
      currentCer l (x.key 0),
      match signOfficer l x with
      | none => some stPolicyDenied
      | some o => need (!l.signed.contains o.slot && x.len == 16 + officerSigLen o.sigAlg) stPolicyDenied ]

/-- The message SIGNED (R264). -/
def cerMessage (s : State) (p : Nat) (l : Lock) : Bytes :=
  ascii "ULGUS-CEREMONY" ++ unitSerial s ++ toLe 2 p ++ toLe 4 l.id.toNat ++ padTo 32 l.challenge ++ padTo 32 l.digest

/-- An officer's signature over SIGNED verifies (R264). -/
def officerVerify (o : Officer) (m sig : Bytes) : Bool :=
  if o.sigAlg == 0x41 then Config.verify 0x10 0x03 0x41 (o.sigPub.take 97) m [] sig
  else Config.verify 0x30 0 0x51 o.sigPub m [] sig

/-- A valid signature is held; the M-th authorises the ceremony (R265). -/
def addSignature : Cmd → State → State := fun c s =>
  let x := reqOf c
  let p := cerPart cerSign x
  let l := (getPart s p).lock
  let sg := l.signed ++ [x.pay 4 1]
  setLock p { l with signed := sg, state := if l.threshold ≤ sg.length then .authorised else l.state } s

/-- A signature that fails; the third while collecting discards the ceremony (R265). -/
def badSignature (p : Nat) (s : State) : State :=
  let l := (getPart s p).lock
  if l.state == .collecting then
    if 2 ≤ l.bad then setLock p { l with state := .free, signed := [], bad := 0 } s else setLock p { l with bad := l.bad + 1 } s
  else s

def specCeremonySign : OpSpec :=
  { length := fun _ x => x.len == 112 || x.len == 3325
    maxReply := fun _ _ => 4
    own := ownSign
    items := fun _ x => if x.len == 112 then [facetItem, engineItem] else [engineItem]
    flow := some .admin
    presume := addSignature }

def runCeremonySign : Effect := fun c s =>
  let x := reqOf c
  let p := cerPart cerSign x
  let l := lockNow s p
  match ownSign s x, signOfficer l x with
  | some st, _ => ends s st
  | none, none => ends s stPolicyDenied
  | none, some o =>
    if officerVerify o (cerMessage s p l) (x.payload.drop 16) then
      let t := addSignature c s
      let l := (getPart t p).lock
      ends t stOk (toLe 1 l.signed.length ++ toLe 1 (lockNum l.state) ++ zeros 2)
    else ends (badSignature p s) stVerifyFailed

def ownCancel (s : State) (x : Req) : Option Status :=
  firstFail
    [ need (cerForm cerCancel s x && x.pay 5 1 == 0) stPolicyDenied,
      currentCer (lockNow s (cerPart cerCancel x)) (x.key 0) ]

def freeLock (p : Nat) (s : State) : State :=
  modPart p (fun y => { y with lock := { y.lock with state := .free, signed := [], bad := 0 } }) s

def applyCancel : Cmd → State → State := fun c s => freeLock (cerPart cerCancel (reqOf c)) s

def specCeremonyCancel : OpSpec :=
  { length := fun _ x => x.len == 8
    maxReply := fun _ _ => 4
    own := ownCancel
    flow := some .admin
    presume := applyCancel }

def ownQuery (s : State) (x : Req) : Option Status :=
  need (cerForm cerQuery s x && x.pay 1 1 == 0 && x.pay 4 4 == 0) stPolicyDenied

def specCeremonyQuery : OpSpec :=
  { length := fun _ x => x.len == 8
    maxReply := fun _ _ => 52
    own := ownQuery
    flow := some .admin }

def queryReply : Cmd → State → Bytes := fun c s =>
  let l := lockNow s (cerPart cerQuery (reqOf c))
  (if l.state == .free then zeros 48 else cerBytes l) ++ toLe 1 l.signed.length ++ toLe 1 (lockNum l.state) ++ zeros 2

/-! ## Migration (R113 to R121) -/

/-- The rules every migration command shares: the PF, a partition below P, reserved bytes zero. -/
def migBase (s : State) (x : Req) : Bool := x.fn == 0 && decide (x.pay 0 2 < partCount s) && x.pay 2 2 == 0

def specMigrate (len : Req → Bool) (reply : Nat) (own : State → Req → Option Status) (presume : Cmd → State → State) : OpSpec :=
  { phase := .clear
    length := fun _ x => len x
    maxReply := fun _ _ => reply
    authLock := fun _ x => x.pay 0 2
    own := own
    flow := some .admin
    presume := presume }

def freezeMs (x : Req) : Nat := if x.pay 4 4 = 0 then 1000 else x.pay 4 4

def ownFreeze (s : State) (x : Req) : Option Status :=
  need (migBase s x && (getPart s (x.pay 0 2)).state == .active && decide (x.pay 4 4 ≤ 60000)) stPolicyDenied

def specFreeze : OpSpec :=
  { specMigrate (fun x => x.len == 8) 8 ownFreeze (fun c s => setPartState ((reqOf c).pay 0 2) .frozen s) with
    authLock := fun _ x => x.part }

/-- The drain begins; it ends with FREEZE_DRAINED or FREEZE_TIMEOUT. -/
def runFreeze : Effect := fun c s =>
  let x := reqOf c
  match ownFreeze s x with
  | some st => ends s st
  | none =>
    (modPart (x.pay 0 2) (fun p => { p with state := .freezing, freezeCmd := some c.ref, drained := 0,
                                            freezeNs := s.clk.ns + freezeMs x * 1000000 }) s, none)

/-- Commands of a partition that are still owed, the freezing command itself apart. -/
def owedOf (s : State) (p : Nat) : Nat :=
  (s.prism.cmds.filter (fun c => c.ref.part == p && (getPart s p).freezeCmd != some c.ref)).length

/-- FREEZE_DRAINED (R113, R119). -/
def execFreezeDrained (p : Fin 256) (s : State) : Res :=
  let x := getPart s p.val
  match x.freezeCmd with
  | none => .next s
  | some r => guarded (x.state == .freezing && owedOf s p.val == 0)
      (fun s =>
        let t := endCmd r stOk (toLe 4 x.drained ++ zeros 4) (setPart s p.val { x with state := .frozen, freezeCmd := none })
        match findCmd s r with
        | none => t
        | some c => replicateOut c stOk s t) s

/-- FREEZE_TIMEOUT (R113, R120): the partition is ACTIVE again, with no change of generation. -/
def execFreezeTimeout (p : Fin 256) (s : State) : Res :=
  let x := getPart s p.val
  match x.freezeCmd with
  | none => .next s
  | some r => guarded (x.state == .freezing && decide (x.freezeNs ≤ s.clk.ns) && owedOf s p.val != 0)
      (fun s => endCmd r stAborted (toLe 4 x.drained ++ toLe 4 (owedOf s p.val))
        (setPart s p.val { x with state := .active, freezeCmd := none })) s

def ownThaw (s : State) (x : Req) : Option Status :=
  let st := (getPart s (x.pay 0 2)).state
  need (migBase s x && (st == .frozen || st == .exported || st == .importing)) stPolicyDenied

def thawTo (s : State) (p : Nat) : PartState := if (getPart s p).state == .importing then .empty else .active

def specThaw : OpSpec :=
  { specMigrate (fun x => x.len == 4) 0 ownThaw (fun c s => let p := (reqOf c).pay 0 2; setPartState p (thawTo s p) s) with
    quorum := fun s x => if (getPart s (x.pay 0 2)).state == .exported then some (x.pay 0 2) else none }

def applyThaw : Cmd → State → State := fun c s =>
  let p := (reqOf c).pay 0 2
  match (getPart s p).state with
  | .importing => emptyPart p s
  | .exported => bumpPartGen p (modPart p (fun y => { y with state := .active, blob := none }) s)
  | _ => setPartState p .active s

def ownOffer (s : State) (x : Req) : Option Status :=
  need (migBase s x && (getPart s (x.pay 0 2)).state == .empty) stPolicyDenied

def blankOffer : Offer := { id := 0, body := [], secret := [], expiry := 0 }

def specOffer : OpSpec :=
  { specMigrate (fun x => x.len == 4) 6416 ownOffer
      (fun c s => modPart ((reqOf c).pay 0 2) (fun y => { y with moveOffer := some (y.moveOffer.getD blankOffer) }) s) with
    authLock := fun _ x => x.part
    draws := fun _ _ => true
    items := fun _ _ => [engineItem] }

def runOffer : Effect := fun c s =>
  match ownOffer s (reqOf c) with
  | some st => ends s st
  | none =>
    let p := (reqOf c).pay 0 2
    let o := makeOffer s s.pm.nextOffer p (hznPlus s 600) c
    ends (modPart p (fun x => { x with moveOffer := some o }) { s with pm := { s.pm with nextOffer := s.pm.nextOffer + 1 } }) stOk o.body

/-- The offer in a MIGRATE_EXPORT payload, and the chain after it. -/
def exOffer (x : Req) : Bytes := bsub x.payload 4 6416
def exChain (x : Req) : Bytes := x.payload.drop 6420

def ownExport (s : State) (x : Req) : Option Status :=
  need (migBase s x && (getPart s (x.pay 0 2)).state == .frozen && lifeCycle s == .deployed &&
        fld (exOffer x) 6 2 == s.pm.logP.getD 0 && decide (s.fw.appSvn.toNat ≤ Config.chainSvn (exChain x))) stPolicyDenied

def specExport : OpSpec :=
  { specMigrate (fun x => decide (6421 ≤ x.len) && decide (x.len ≤ 6420 + 16384)) 1764 ownExport
      (fun c s => setPartState ((reqOf c).pay 0 2) .exported s) with
    quorum := fun _ x => some (x.pay 0 2)
    draws := fun _ _ => true
    items := fun _ _ => [engineItem]
    persist := fun _ _ => true }

/-- The sections of a partition's blob (R116). -/
def imageOf (s : State) (p : Nat) : PartImage :=
  let x := getPart s p
  { policy := x.policy, threshold := x.threshold, officers := x.officers, salt := x.salt,
    keys := (partKeys s p).filterMap (fun e => e.2.cur.map (fun v => { key := e.1, version := e.2.version, val := v : BlobKey })),
    sessions := s.sess.ctxs.filter (fun e => e.2.allocated && !e.2.transient && e.2.part == p),
    rings := (partRings s p).map (fun g => { ring := g, lastSeq := (getRing s g).lastSeq, accepts := (getRing s g).accepts,
                                             replies := s.replies.filter (fun c => c.ring == g) : BlobRing }),
    jnext := x.jnext, jwrapped := x.jwrapped, journal := x.journal, vault := x.vault.records }

/-- TRANSCRIPT and K of R115. -/
def moveTranscript (offer ct pub : Bytes) (id : Nat) : Bytes := sha3_512 (offer ++ ct ++ pub ++ toLe 4 id)
def moveKey (ss z tr : Bytes) : Bytes := (sha3_512 (ss ++ z ++ tr)).take 32

/-- Offer signature, chain and expiry (R115, R120). -/
def offerOk (s : State) (x : Req) : Bool :=
  let o := exOffer x
  Config.chainVerifies (rootDigest s) (exChain x) && hybridVerify (Config.chainKey (exChain x)) (o.take 0x69C) (o.drop 0x69C) &&
  decide (s.hzn.time.toNat < fld o 0x10 8)

def runExport : Effect := fun c s =>
  let x := reqOf c
  match ownExport s x with
  | some st => ends s st
  | none =>
    if !offerOk s x then ends s stVerifyFailed
    else
      let p := x.pay 0 2
      let o := exOffer x
      let m := drawn c 0 32
      let sc := padTo 48 (Config.genPrivate 0x41 384 (drawStream c 32))
      let ek := bsub o 0x18 1568
      let ct := padTo 1568 (Config.kemCipher 0x5A ek m)
      let pub := padTo 97 (Config.publicOf 0x41 sc)
      let id := s.pm.nextExport
      let tr := moveTranscript o ct pub id.toNat
      let k := moveKey (padTo 32 (Config.kemShared 0x5A ek m)) (padTo 48 (Config.ecdh 0x41 sc (bsub o 0x638 97))) tr
      let plain := encodePart (imageOf s p)
      let ch := sealChunks k id plain
      let hdr := toLe 4 id.toNat ++ toLe 4 ch.length ++ unitSerial s ++ bsub o 0 4 ++ toLe 2 p ++ toLe 2 (s.pm.logP.getD 0) ++
        toLe 8 plain.length ++ ct ++ pub ++ zeros 3 ++ tr
      let blob : Blob := { id := id, header := hdr ++ Config.chainKey (exChain x) ++ bsub o 8 8, chunks := ch, nextRead := 0,
                           issued := s.hzn.time }
      ends (modPart p (fun y => { y with state := .exported, blob := some blob })
        { s with pm := { s.pm with nextExport := s.pm.nextExport + 1 } }) stOk hdr

def ownExportChunk (s : State) (x : Req) : Option Status :=
  let p := getPart s (x.pay 0 2)
  need (migBase s x && p.state == .exported &&
        (match p.blob with | none => false | some b => decide (x.pay 4 4 < b.chunks.length))) stPolicyDenied

def specExportChunk : OpSpec :=
  { phase := .clear
    length := fun _ x => x.len == 8
    maxReply := fun _ _ => 8388512
    own := ownExportChunk }

def runExportChunk : Effect := fun c s =>
  let x := reqOf c
  match ownExportChunk s x, (getPart s (x.pay 0 2)).blob with
  | none, some b => ends s stOk (b.chunks.getD (x.pay 4 4) [])
  | _, _ => ends s stPolicyDenied

def imHeader (x : Req) : Bytes := bsub x.payload 4 1764
def imPairs (x : Req) : Nat := x.pay 0x6E8 2
def imMap (x : Req) : List (Nat × Nat) := (List.range (imPairs x)).map (fun i => (x.pay (0x6EA + 4 * i) 2, x.pay (0x6EC + 4 * i) 2))

def distinct (l : List Nat) : Bool := l.eraseDups.length == l.length

def ownImport (s : State) (x : Req) : Option Status :=
  let p := getPart s (x.pay 0 2)
  let m := imMap x
  need (migBase s x && p.state == .empty && p.moveOffer.isSome && lifeCycle s == .deployed &&
        fld (imHeader x) 0x16 2 == s.pm.logP.getD 0 && distinct (m.map (·.1)) && distinct (m.map (·.2)) &&
        m.all (fun e => (partRings s (x.pay 0 2)).contains e.2)) stPolicyDenied

def specImport : OpSpec :=
  { specMigrate (fun x => decide (1770 ≤ x.len) && x.len == 1770 + 4 * imPairs x) 0 ownImport
      (fun c s => modPart ((reqOf c).pay 0 2) (fun y => { y with state := .importing, moveOffer := none }) s) with
    authLock := fun _ x => x.part
    quorum := fun _ _ => some 0
    items := fun _ _ => [engineItem] }

def runImport : Effect := fun c s =>
  let x := reqOf c
  let p := x.pay 0 2
  match ownImport s x, (getPart s p).moveOffer with
  | some st, _ => ends s st
  | none, none => ends s stPolicyDenied
  | none, some o =>
    let h := imHeader x
    if fld h 0x10 4 != o.id.toNat || decide (o.expiry.toNat ≤ s.hzn.time.toNat) then ends s stVerifyFailed
    else
      let ct := bsub h 0x20 1568
      let pub := bsub h 0x640 97
      let tr := moveTranscript o.body ct pub (fld h 0 4)
      let k := moveKey (padTo 32 (Config.kemDecaps 0x5A (o.secret.take 64) ct)) (padTo 48 (Config.ecdh 0x41 (o.secret.drop 64) pub)) tr
      let st : Staging := { id := BitVec.ofNat 32 (fld h 0 4), key := k, chunks := fld h 4 4, total := fld h 0x18 8, have_ := [],
                            tags := [], ringMap := imMap x, header := h ++ tr, last := s.hzn.time }
      ends (modPart p (fun y => { y with state := .importing, moveOffer := none, staging := some st }) s) stOk

def ownImporting (s : State) (x : Req) : Option Status :=
  need (migBase s x && (getPart s (x.pay 0 2)).state == .importing) stPolicyDenied

def specImportChunk : OpSpec :=
  { phase := .clear
    length := fun _ x => decide (20 ≤ x.len) && x.len == 36 + x.pay 0xC 4 && decide (x.len ≤ 8388516)
    own := ownImporting
    items := fun _ x => [facetItem [] x.len] }

def runImportChunk : Effect := fun c s =>
  let x := reqOf c
  let p := x.pay 0 2
  match ownImporting s x, (getPart s p).staging with
  | none, some st =>
    (match openChunk st.key st.id st.have_.length (c.payload.drop 4) with
    | none => ends s stVerifyFailed
    | some (d, tag) =>
      if st.chunks ≤ st.have_.length then ends s stVerifyFailed
      else
        let st' := { st with have_ := st.have_ ++ [d], tags := st.tags ++ tag, last := s.hzn.time }
        ends (modPart p (fun y => { y with staging := some st' }) s) stOk)
  | _, _ => ends s stPolicyDenied

/-- The image a finished import holds: every chunk verified and the transcript matched (R120). -/
def importedImage (st : Staging) : Option PartImage :=
  if st.have_.length = st.chunks && st.have_.flatten.length = st.total && bsub st.header 0x6A4 64 == st.header.drop 1764 then
    decodePart st.have_.flatten
  else none

/-- The partition's functions hold at least as many rings as the source, and the ring map pairs every one of them (R114, R119). Which rings
the source has is known once every chunk has verified: MIGRATE_IMPORT_END judges it. DEDUCED, log entry 116. -/
def ringsFit (s : State) (p : Nat) : Bool :=
  match (getPart s p).staging.bind (fun st => (importedImage st).map (fun i => (st, i))) with
  | none => true
  | some (st, i) => decide (i.rings.length ≤ (partRings s p).length) && i.rings.all (fun r => st.ringMap.any (fun e => e.1 == r.ring))

def ownImportEnd (s : State) (x : Req) : Option Status :=
  firstFail [ ownImporting s x, need (ringsFit s (x.pay 0 2)) stPolicyDenied ]

def specImportEnd : OpSpec :=
  { specMigrate (fun x => x.len == 4) 4804 ownImportEnd (fun c s => setPartState ((reqOf c).pay 0 2) .active s) with
    authLock := fun _ x => x.part
    draws := fun _ _ => true
    persist := fun _ _ => true }

def mapRing (m : List (Nat × Nat)) (g : Nat) : Nat := match m.find? (fun e => e.1 == g) with | none => g | some e => e.2

/-- Install one key under its own name, wrapped anew: its record keeps its RANDOM (R117, R135). -/
def installKey (c : Cmd) (p : Nat) (s : State) (k : BlobKey) : State :=
  let v := newVal s p k.key k.val.attr k.val.material k.val.random
  noteBacking c.ref k.key (storeKey p k.key { cur := some v, version := k.version, failed := false, codes := [], pending := [] } s)

/-- Install the sessions at their moved indices, and take those contexts out of the free order (R86, R117). -/
def installSessions (src p : Nat) (l : List (Nat × Session)) (s : State) : State :=
  let l := l.map (fun e => (e.1 - src + p, { e.2 with part := p, partGen := (getPart s p).gen, warmCount := s.svc.warmCount,
                                                      lastUse := s.hzn.time, outstanding := 0 }))
  let ids := l.map (·.1)
  let top := ids.foldl (fun m i => max m (i / pDiv s + 1)) (freshOf s p)
  let gap := ((List.range (top - freshOf s p)).map (fun k => ctxIndex s p (freshOf s p + k))).filter (fun i => !ids.contains i)
  let freed := (freedOf s p).filter (fun i => !ids.contains i) ++ gap
  let s := { s with sess := { s.sess with fresh := s.sess.fresh.put p top, freed := s.sess.freed.put p freed } }
  l.foldl (fun s e => setSess e.1 e.2 s) s

/-- Install rings, replies and journal through the ring map (R117). -/
def installRings (src p : Nat) (m : List (Nat × Nat)) (i : PartImage) (s : State) : State :=
  let s := i.rings.foldl (fun s r => modRing (mapRing m r.ring) (fun x => { x with lastSeq := r.lastSeq, accepts := r.accepts }) s) s
  let reps := (i.rings.map (fun r => r.replies.map (fun c => { c with ring := mapRing m r.ring }))).flatten
  let move (h : BitVec 32) : BitVec 32 := if h = 0 then 0 else h + BitVec.ofNat 32 p - BitVec.ofNat 32 src
  let j := i.journal.map (fun e => (e.1, { e.2 with partition := BitVec.ofNat 16 p, session := move e.2.session,
                                                    ring := BitVec.ofNat 16 (mapRing m e.2.ring.toNat) }))
  modPart p (fun y => { y with jnext := i.jnext, jwrapped := i.jwrapped, journal := j }) { s with replies := s.replies ++ reps }

/-- The partition's token epoch advances with the import, before the keys are wrapped (R117, R139). -/
def installImage (c : Cmd) (p src : Nat) (m : List (Nat × Nat)) (i : PartImage) (s : State) : State :=
  let s := bumpEpoch p (bumpPartGen p s)
  let s := modPart p (fun y => { y with state := .active, staging := none, policy := i.policy, threshold := i.threshold,
                                        officers := i.officers, salt := i.salt }) s
  let s := i.keys.foldl (installKey c p) s
  let s := installRings src p m i (installSessions src p i.sessions s)
  let v := (relay (vaultBlocksNow s) { vaultReset with records := i.vault }).1
  setCapacity (modPart p (fun y => { y with vault := v }) s)

/-- The receipt (R119). -/
def importReceipt (s : State) (c : Cmd) (p : Nat) (st : Staging) : Bytes :=
  let b := toLe 4 st.id.toNat ++ unitSerial s ++ toLe 2 p ++ zeros 2 ++ sha3_512 st.tags
  b ++ hybridBlock s.life.appKey b (drawn c 0 64)

def runImportEnd : Effect := fun c s =>
  let x := reqOf c
  let p := x.pay 0 2
  match ownImportEnd s x, (getPart s p).staging with
  | none, some st =>
    (match importedImage st with
    | none => ends (emptyPart p s) stVerifyFailed
    | some i => ends (installImage c p (fld st.header 0x14 2) st.ringMap i s) stOk (importReceipt s c p st))
  | _, _ => ends s stPolicyDenied

def ownCommit (s : State) (x : Req) : Option Status :=
  need (migBase s x && (getPart s (x.pay 0 2)).state == .exported) stPolicyDenied

def specCommit : OpSpec :=
  { specMigrate (fun x => x.len == 4 || (x.len == 4808 && !x.authRef)) 0 ownCommit presumeEmpty with
    quorum := fun _ x => if x.len == 4 then some (x.pay 0 2) else none
    persist := fun _ _ => true
    items := fun _ x => if x.len == 4 then [coreItem] else [engineItem] }

/-- A receipt for this export, signed by the destination it went to (R119, R120). -/
def receiptOk (b : Blob) (r : Bytes) : Bool :=
  let tags := (b.chunks.map (fun d => d.drop (d.length - 16))).flatten
  fld r 0 4 == b.id.toNat && bsub r 4 8 == b.header.drop (1764 + 2692) && bsub r 0x10 64 == sha3_512 tags &&
  hybridVerify (bsub b.header 1764 2692) (r.take 0x50) (r.drop 0x50)

def runCommit : Effect := fun c s =>
  let x := reqOf c
  let p := x.pay 0 2
  match ownCommit s x with
  | some st => ends s st
  | none =>
    let ok := x.len == 4 || (match (getPart s p).blob with | none => false | some b => receiptOk b (x.payload.drop 4))
    if ok then ends (emptyPart p (bumpPartGen p s)) stOk else ends s stVerifyFailed

/-! ## DEVICE_PROVISION (R286) -/

def pvRecs (x : Req) : List Bytes := officerRecs x.payload 436 (x.pay 2 1)

def ownProvision (s : State) (x : Req) : Option Status :=
  need (x.fn == 0 && x.pay 3 1 == 0 && s.ks.mwkGen == 0 && (lifeCycle s == .personalised || lifeCycle s == .deployed) &&
        decide (x.pay 0 1 ≤ 8) && policyOk (bsub x.payload 4 432) && officersOk (x.pay 1 1) (pvRecs x) && s.ilu.mirror == .none && s.hzn.active == 0)
    stPolicyDenied

/-- P is set and partition 0 stands with its officers and policy under MWK generation 1. -/
def presumeProvision : Cmd → State → State := fun c s =>
  let x := reqOf c
  let s := { s with pm := { s.pm with logP := some (x.pay 0 1) }, ks := { s.ks with mwkGen := 1 } }
  modPart 0 (fun p => { p with state := .active, policy := bsub x.payload 4 432, threshold := x.pay 1 1,
                               officers := (pvRecs x).map officerOf }) s

def applyProvision : Cmd → State → State := fun c s =>
  let s := presumeProvision c s
  let s := { s with ks := { s.ks with mwk := drawn c 0 32, prevPresent := false, regCrcOk := true, busStopped := false } }
  let s := modPart 0 (fun p => { p with salt := drawn c 32 32 }) s
  layVaults ((partNums s).foldl (fun s p => if (getPart s p).drbg.isEmpty then instantiatePart s p else s) s)

def specProvision : OpSpec :=
  { phase := .clear
    length := fun _ x => decide (436 ≤ x.len) && x.len == 436 + officerLen * x.pay 2 1
    maxReply := fun _ _ => 12
    own := ownProvision
    draws := fun _ _ => true
    flow := some .admin
    persist := fun _ _ => true
    presume := presumeProvision }

/-! ## The rows -/

/-- PARTITION_CREATE (R136, R281). -/
def execPartitionCreate (r : CmdRef) (s : State) : Res := runAccepted 0x0C01 (adminRun ownCreate applyCreate zeroReply) noReply r s
/-- PARTITION_ENABLE (R113, R281). -/
def execPartitionEnable (r : CmdRef) (s : State) : Res :=
  runAccepted 0x0C02 (adminRun (ownState .disabled false) applyEnable zeroReply) noReply r s
/-- PARTITION_DISABLE (R106, R110, R281). -/
def execPartitionDisable (r : CmdRef) (s : State) : Res :=
  runAccepted 0x0C03 (adminRun (ownState .active true) applyDisable zeroReply) noReply r s
/-- PARTITION_DESTROY (R121, R281). -/
def execPartitionDestroy (r : CmdRef) (s : State) : Res :=
  runAccepted 0x0C04 (adminRun (ownState .disabled false) applyDestroy zeroReply) noReply r s
/-- FUNCTION_MAP (R97, R98, R281). -/
def execFunctionMap (r : CmdRef) (s : State) : Res := runAccepted 0x0C05 (adminRun ownMap applyMap zeroReply) noReply r s
/-- POLICY_SET (R281, R282). -/
def execPolicySet (r : CmdRef) (s : State) : Res := runAccepted 0x0C06 (adminRun ownPolicySet applyPolicySet zeroReply) noReply r s
/-- POLICY_GET (R281). -/
def execPolicyGet (r : CmdRef) (s : State) : Res := runAccepted 0x0C07 runPolicyGet noReply r s
/-- OFFICER_ENROL (R262, R281). -/
def execOfficerEnrol (r : CmdRef) (s : State) : Res := runAccepted 0x0C08 (adminRun ownEnrol applyEnrol zeroReply) noReply r s
/-- OFFICER_REMOVE (R262, R281). -/
def execOfficerRemove (r : CmdRef) (s : State) : Res := runAccepted 0x0C09 (adminRun ownRemove applyRemove zeroReply) noReply r s
/-- OFFICER_LIST (R281). -/
def execOfficerList (r : CmdRef) (s : State) : Res := runAccepted 0x0C0A runOfficerList noReply r s
/-- CEREMONY_OPEN (R265, R266, R270). -/
def execCeremonyOpen (r : CmdRef) (s : State) : Res := runAccepted 0x0C10 runCeremonyOpen failCeremonyOpen r s
/-- CEREMONY_SIGN (R264, R265, R270). -/
def execCeremonySign (r : CmdRef) (s : State) : Res := runAccepted 0x0C11 runCeremonySign noReply r s
/-- CEREMONY_CANCEL (R265, R270). -/
def execCeremonyCancel (r : CmdRef) (s : State) : Res := runAccepted 0x0C12 (adminRun ownCancel applyCancel zeroReply) noReply r s
/-- CEREMONY_QUERY (R270). -/
def execCeremonyQuery (r : CmdRef) (s : State) : Res := runAccepted 0x0C13 (adminRun ownQuery (fun _ s => s) queryReply) noReply r s
/-- MIGRATE_FREEZE (R113, R118, R119). -/
def execMigrateFreeze (r : CmdRef) (s : State) : Res := runAccepted 0x0C20 runFreeze noReply r s
/-- MIGRATE_THAW (R106, R113, R118). -/
def execMigrateThaw (r : CmdRef) (s : State) : Res := runAccepted 0x0C21 (adminRun ownThaw applyThaw (fun _ _ => [])) noReply r s
/-- MIGRATE_OFFER (R115, R118, R119). -/
def execMigrateOffer (r : CmdRef) (s : State) : Res := runAccepted 0x0C22 runOffer noReply r s
/-- MIGRATE_EXPORT (R114 to R116, R119). -/
def execMigrateExport (r : CmdRef) (s : State) : Res := runAccepted 0x0C23 runExport noReply r s
/-- MIGRATE_EXPORT_CHUNK (R116, R119). -/
def execMigrateExportChunk (r : CmdRef) (s : State) : Res := runAccepted 0x0C24 runExportChunk noReply r s
/-- MIGRATE_IMPORT (R114, R115, R119). -/
def execMigrateImport (r : CmdRef) (s : State) : Res := runAccepted 0x0C25 runImport noReply r s
/-- MIGRATE_IMPORT_CHUNK (R116, R120). -/
def execMigrateImportChunk (r : CmdRef) (s : State) : Res := runAccepted 0x0C26 runImportChunk noReply r s
/-- MIGRATE_IMPORT_END (R106, R117, R119, R120). -/
def execMigrateImportEnd (r : CmdRef) (s : State) : Res := runAccepted 0x0C27 runImportEnd noReply r s
/-- MIGRATE_COMMIT (R106, R121). -/
def execMigrateCommit (r : CmdRef) (s : State) : Res := runAccepted 0x0C28 runCommit noReply r s
/-- DEVICE_PROVISION (R286): its reply is the serial, MWK generation 1 and three zero bytes. -/
def execDeviceProvision (r : CmdRef) (s : State) : Res :=
  runAccepted 0x0106 (adminRun ownProvision applyProvision (fun _ s => unitSerial s ++ [s.ks.mwkGen] ++ zeros 3)) noReply r s

end Sys2Proof.Machine
end

