-- ==== Sys2Proof/Machine/KeyBlock.lean ====
section
/-! DEFINITION. X9.143 key blocks: reading, mapping and building (R143 to R146, R274, R275). -/

namespace Sys2Proof.Machine

/-! ## Characters -/

def decVal (b : Byte) : Option Nat := if 0x30 ≤ b.toNat && b.toNat ≤ 0x39 then some (b.toNat - 0x30) else none

def hexDigit (b : Byte) : Option Nat :=
  let n := b.toNat
  if 0x30 ≤ n && n ≤ 0x39 then some (n - 0x30) else if 0x41 ≤ n && n ≤ 0x46 then some (n - 0x37)
  else if 0x61 ≤ n && n ≤ 0x66 then some (n - 0x57) else none

/-- A number in characters of a base, most significant first. -/
def charsVal (dig : Byte → Option Nat) (base : Nat) : Bytes → Nat → Option Nat
  | [], acc => some acc
  | b :: r, acc => match dig b with | none => none | some d => charsVal dig base r (acc * base + d)

def unhex : Bytes → Option Bytes
  | [] => some []
  | [_] => none
  | a :: b :: r => match hexDigit a, hexDigit b, unhex r with
    | some x, some y, some t => some (BitVec.ofNat 8 (16 * x + y) :: t)
    | _, _, _ => none

def hexChar (n : Nat) : Byte := BitVec.ofNat 8 (if n < 10 then 0x30 + n else 0x37 + n)
def toHex (b : Bytes) : Bytes := (b.map (fun x => [hexChar (x.toNat / 16), hexChar (x.toNat % 16)])).flatten

/-- A number in `n` decimal characters. -/
def toDec : Nat → Nat → Bytes
  | 0, _ => []
  | n + 1, v => toDec n (v / 10) ++ [BitVec.ofNat 8 (0x30 + v % 10)]

/-! ## Reading a block (R144) -/

/-- What is read of a block before its MAC: the whole header with its optional blocks, their list, key data and MAC. -/
structure KbRead where
  header : Bytes
  opts   : List (Bytes × Bytes)     -- ID, and the block whole
  data   : Bytes
  mac    : Bytes

def kbVersion (b : Bytes) : Byte := b.headD 0
def verD : Byte := 0x44
def verB : Byte := 0x42
def verOk (v : Byte) : Bool := v == verD || v == verB
def kbMacLen (v : Byte) : Nat := if v = verD then 16 else 8
def kbBlk (v : Byte) : Nat := if v = verD then 16 else 8

/-- Walk `n` optional blocks from `off`, none running past `lim`: the blocks and the offset after them. -/
def kbWalk (b : Bytes) (lim : Nat) : Nat → Nat → Option (List (Bytes × Bytes) × Nat)
  | 0, off => some ([], off)
  | n + 1, off => match charsVal hexDigit 16 (bsub b (off + 2) 2) 0 with
    | none => none
    | some l => if decide (4 ≤ l) && decide (off + l ≤ lim) then
        (kbWalk b lim n (off + l)).map (fun r => ((bsub b off 2, bsub b off l) :: r.1, r.2))
      else none

/-- Read the structure of a block; none when it cannot be walked. -/
def kbRead (b : Bytes) : Option KbRead :=
  let m := 2 * kbMacLen (kbVersion b)
  match charsVal decVal 10 (bsub b 1 4) 0, charsVal decVal 10 (bsub b 12 2) 0 with
  | some len, some n =>
    if len = b.length && decide (16 + m ≤ len) then
      match kbWalk b (len - m) n 16 with
      | none => none
      | some (opts, off) => match unhex (bsub b off (len - m - off)), unhex (b.drop (len - m)) with
        | some d, some t => some { header := b.take off, opts := opts, data := d, mac := t }
        | _, _ => none
    else none
  | _, _ => none

/-! ## Mapping a header (R144) -/

def chG : Byte := 0x47
def chV : Byte := 0x56
def chC : Byte := 0x43
def chE : Byte := 0x45
def chD : Byte := 0x44
def chB : Byte := 0x42
def chX : Byte := 0x58
def chS : Byte := 0x53

/-- Usage bits of a mode out of three accepted ones, the third giving both. -/
def modeBits (m a b both : Byte) (ua ub : BitVec 32) : Option (BitVec 32) :=
  if m = a then some ua else if m = b then some ub else if m = both then some (ua ||| ub) else none

/-- USAGE set for a key usage and a mode; none when the table of R144 has no such row. -/
def x9Map (u : Bytes) (m : Byte) : Option (BitVec 32) :=
  let is (t : String) := u == ascii t
  if is "B0" then (if m = chX then some uBdk else none)
  else if is "B1" then (if m = chX then some uDukptInitial else none)
  else if is "C0" then (if m = chG || m = chV || m = chC then some uCvv else none)
  else if is "D0" then modeBits m chE chD chB uEncrypt uDecrypt
  else if is "E0" then (if m = chX then some uArqc else none)
  else if is "E2" then (if m = chG || m = chC then some uIssuerScript else none)
  else if is "K0" || is "K1" then modeBits m chE chD chB uWrap uUnwrap
  else if is "M3" || is "M6" then modeBits m chG chV chC uMacGen uMacVerify
  else if is "P0" then modeBits m chE chD chB uPinEncrypt uPinDecrypt
  else if is "V1" || is "V2" then (if m = chV || m = chC then some uPinVerify else none)
  else if is "S0" then (if m = chS then some uSign else if m = chV then some uVerify else none)
  else none

def exportOf (c : Byte) : Option (BitVec 8) := if c = chE then some 1 else if c = chS then some 2 else if c = 0x4E then some 0 else none
def exportChar (e : BitVec 8) : Byte := if e = 1 then chE else if e = 2 then chS else 0x4E

/-- KEY_VERSION of the attribute record: zero for the characters "00" (R126). -/
def keyVersionOf (v : Bytes) : Bytes := if v = ascii "00" then [0, 0] else v
def keyVersionChars (v : Bytes) : Bytes := if allZero v then ascii "00" else v

/-- The key an algorithm character and key bytes make: ALG, BITS, CLASS and material. `none`: not supported or of a length that
does not fit; an asymmetric key not in the form the module holds is refused with POLICY_DENIED (R274). -/
def kbKey (alg : Byte) (key : Bytes) : Except Status (BitVec 8 × Nat × BitVec 8 × Bytes) :=
  let n := key.length
  if alg = 0x54 then
    if n = 16 then .ok (0x01, 80, 0, key) else if n = 24 then .ok (0x02, 112, 0, key) else .error stVerifyFailed
  else if alg = 0x41 then
    if n = 16 then .ok (0x10, 128, 0, key) else if n = 24 then .ok (0x11, 192, 0, key) else if n = 32 then .ok (0x12, 256, 0, key)
    else .error stVerifyFailed
  else if alg = 0x48 then
    if decide (16 ≤ n) && decide (n ≤ 128) then .ok (0x20, 8 * n, 0, key) else .error stVerifyFailed
  else match Config.derPrivate key with
    | none => .error stVerifyFailed
    | some (a, bits, seed, m) =>
      if alg = Config.x9Char a then (if seed then .ok (BitVec.ofNat 8 a, bits, 1, m) else .error stPolicyDenied) else .error stVerifyFailed

/-- The attributes and material a header and key bytes give (R144). -/
def kbAttr (h key : Bytes) : Except Status (Attr × Bytes) :=
  match x9Map (bsub h 5 2) (h.getD 8 0), exportOf (h.getD 11 0), kbKey (h.getD 7 0) key with
  | none, _, _ => .error stVerifyFailed
  | _, none, _ => .error stVerifyFailed
  | _, _, .error e => .error e
  | some u, some e, .ok (alg, bits, cls, m) =>
    .ok ({ alg := alg, cls := cls, bits := BitVec.ofNat 16 bits, usage := u, x9Usage := bsub h 5 2, mode := h.getD 8 0, export_ := e,
           span := 0, algPub := 0, keyVersion := keyVersionOf (bsub h 9 2) }, m)

/-- A KC block's text for a key: its ID, its length, the method and the value (R145). -/
def kcBlock (alg : BitVec 8) (key : Bytes) : Bytes :=
  match kcv alg key with
  | none => []
  | some v => ascii "KC0C" ++ ascii (if isTdes alg then "00" else "01") ++ toHex v

/-- Unwrap a key block under its protection key: attributes, material, and the structure read (R144). -/
def kbOpen (kbpk b : Bytes) : Except Status (Attr × Bytes × KbRead) :=
  match kbRead b with
  | none => .error stVerifyFailed
  | some r =>
    let v := kbVersion b
    let plain := Config.x9Decrypt v kbpk r.mac r.data
    let n := beNat (plain.take 2)
    if (Config.x9Mac v kbpk r.header plain).take (kbMacLen v) ≠ r.mac then .error stVerifyFailed
    else if n % 8 ≠ 0 || decide (plain.length < 2 + n / 8) then .error stVerifyFailed
    else match kbAttr r.header (bsub plain 2 (n / 8)) with
      | .error e => .error e
      | .ok (a, m) =>
        if v = verB && !isTdes a.alg then .error stVerifyFailed
        else if r.opts.all (fun o => !(o.1 == ascii "KC") || o.2 == kcBlock a.alg m) then .ok (a, m, r)
        else .error stVerifyFailed

/-! ## Building a block (R145) -/

def algChar (a : BitVec 8) : Byte :=
  if isTdes a then 0x54 else if isAes a then 0x41 else if isHmac a then 0x48 else Config.x9Char a.toNat

/-- Key bytes as a block carries them. -/
def kbMaterial (a : Attr) (m : Bytes) : Bytes :=
  if isTdes a.alg || isAes a.alg || isHmac a.alg then m else Config.derEncode a.alg.toNat a.bits.toNat m

/-- Padding characters of the PB block: the fewest, at least one, that fill a whole number of cipher blocks (R145). -/
def pbPad (blk n : Nat) : Nat := let k := (blk - (n + 4) % blk) % blk; if k = 0 then blk else k

/-- Build a block of a version for a key, carrying over optional blocks, drawing the padding from `rnd`. -/
def kbBuild (v : Byte) (kbpk : Bytes) (a : Attr) (m : Bytes) (carry : List Bytes) (rnd : Bytes) : Bytes :=
  let kc := kcBlock a.alg m
  let fixed := carry.flatten ++ kc
  let blk := kbBlk v
  let k := pbPad blk (16 + fixed.length)
  let pb := ascii "PB" ++ toHex (toBe 1 (4 + k)) ++ (rnd.take k).map Config.printable
  let opts := fixed ++ pb
  let key := kbMaterial a m
  let body := toBe 2 (8 * key.length) ++ key
  let pad := (blk - body.length % blk) % blk
  let plain := body ++ bsub rnd k pad
  let len := 16 + opts.length + 2 * plain.length + 2 * kbMacLen v
  let h := [v] ++ toDec 4 len ++ padTo 2 a.x9Usage ++ [algChar a.alg, a.mode] ++ keyVersionChars a.keyVersion ++ [exportChar a.export_] ++
           toDec 2 (carry.length + (if kc.isEmpty then 0 else 1) + 1) ++ ascii "00"
  let mac := padTo (kbMacLen v) (Config.x9Mac v kbpk (h ++ opts) plain)
  h ++ opts ++ toHex (padTo plain.length (Config.x9Encrypt v kbpk mac plain)) ++ toHex mac

/-- Optional blocks a re-emitted header keeps: those the module reads, KC and PB apart (R144, R145). -/
def kbCarry (r : KbRead) : List Bytes :=
  (r.opts.filter (fun o => o.1 == ascii "KS" || o.1 == ascii "IK" || o.1 == ascii "KP" || o.1 == ascii "TS")).map (fun o => o.2)

/-- The protection key a version needs (R143): `u` is UNWRAP or WRAP. -/
def kbpkChk (u : BitVec 32) (v : Byte) (a : Attr) : Option Status :=
  firstFail [ usageCheck u a, need ((if v = verD then isAes a.alg else a.alg == 0x02) && a.x9Usage == ascii "K1") stKeyUsage ]

end Sys2Proof.Machine
end

