-- ==== Sys2Proof/Machine/PkCmds.lean ====
section
/-! DEFINITION. Group 0x06: signatures, key agreement, encapsulation and RSA encryption (R199 to R210). -/

namespace Sys2Proof.Machine

/-! ## The parameter block (R205) -/

def pkScheme (x : Req) : Nat := x.pay 8 1
def pkScheme2 (x : Req) : Nat := x.pay 9 1
def pkHash (x : Req) : Nat := x.pay 0xA 1
def pkCtxLen (x : Req) : Nat := x.pay 0xB 1
def pkAlg (x : Req) : Nat := x.pay 0xC 1
def pkAlg2 (x : Req) : Nat := x.pay 0xD 1
def pkInfoLen (x : Req) : Nat := x.pay 0xE 2
def pkLenA (x : Req) : Nat := x.pay 0x10 4
def pkLenB (x : Req) : Nat := x.pay 0x14 4
def pkLenC (x : Req) : Nat := x.pay 0x18 4
def pkLenD (x : Req) : Nat := x.pay 0x1C 4
def pkOut (x : Req) : BitVec 32 := x.key 0x20
def pkPre (x : Req) : Nat := x.pay 0x24 1
def pkOutAttr (x : Req) : Attr := attrOf (bsub x.payload 0x30 16)

def pkOffA (x : Req) : Nat := 64 + pkCtxLen x
def pkOffB (x : Req) : Nat := pkOffA x + pkLenA x
def pkOffC (x : Req) : Nat := pkOffB x + pkLenB x
def pkOffD (x : Req) : Nat := pkOffC x + pkLenC x
def pkOffInfo (x : Req) : Nat := pkOffD x + pkLenD x
def pkOffMsg (x : Req) : Nat := pkOffInfo x + pkInfoLen x

def pkCtx (x : Req) : Bytes := bsub x.payload 64 (pkCtxLen x)
def pkA (x : Req) : Bytes := bsub x.payload (pkOffA x) (pkLenA x)
def pkB (x : Req) : Bytes := bsub x.payload (pkOffB x) (pkLenB x)
def pkC (x : Req) : Bytes := bsub x.payload (pkOffC x) (pkLenC x)
def pkD (x : Req) : Bytes := bsub x.payload (pkOffD x) (pkLenD x)
def pkInfo (x : Req) : Bytes := bsub x.payload (pkOffInfo x) (pkInfoLen x)
def pkMsg (x : Req) : Bytes := x.payload.drop (pkOffMsg x)

/-! ## Lengths (R206, R207) -/

def isEcc (a : Nat) : Bool := a == 0x40 || a == 0x41 || a == 0x42
def isMlDsa (a : Nat) : Bool := a == 0x50 || a == 0x51 || a == 0x52
def isMlKem (a : Nat) : Bool := a == 0x58 || a == 0x59 || a == 0x5A

/-- Bytes of one coordinate or of the order of a curve. -/
def curveLen (a : Nat) : Nat := match a with | 0x40 => 32 | 0x41 => 48 | 0x42 => 66 | _ => 0

/-- An RSA modulus length R125 allows. -/
def rsaBitsOk (l : Nat) : Bool := decide (1024 ≤ l) && decide (l ≤ 8192) && l % 256 == 0

/-- Modulus bits of an RSA public key of `n` bytes. -/
def rsaBitsOfPub (n : Nat) : Nat := (n - 4) * 8

/-- Whether a public key has the length its ALG fixes (R207). -/
def pubLenOk (a n : Nat) : Bool :=
  match a with
  | 0x30 => decide (4 ≤ n) && rsaBitsOk (rsaBitsOfPub n)
  | 0x40 => n == 65 | 0x41 => n == 97 | 0x42 => n == 133
  | 0x48 => n == 32 | 0x49 => n == 57
  | 0x50 => n == 1312 | 0x51 => n == 1952 | 0x52 => n == 2592
  | 0x58 => n == 800 | 0x59 => n == 1184 | 0x5A => n == 1568
  | _ => true

def kemCtLen (a : Nat) : Nat := match a with | 0x58 => 768 | 0x59 => 1088 | 0x5A => 1568 | _ => 0

/-- Signature length of an ALG, `l` being the RSA modulus bits (R206). -/
def sigLen (a l : Nat) : Nat :=
  match a with
  | 0x30 => l / 8
  | 0x40 => 64 | 0x41 => 96 | 0x42 => 132
  | 0x48 => 64 | 0x49 => 114
  | 0x50 => 2420 | 0x51 => 3309 | 0x52 => 4627
  | _ => 0

/-- The fields lie within the payload (R205). -/
def pkFits (x : Req) : Bool := decide (64 ≤ x.len) && decide (pkOffMsg x ≤ x.len)

def pkHybrid (x : Req) : Bool := x.key 4 != 0 || pkAlg2 x != 0 || pkScheme2 x != 0

/-- Bounds of the message (R206). -/
def pkMsgOk (x : Req) : Bool :=
  let n := (pkMsg x).length
  if pkPre x == 1 then n == digestLen (pkHash x)
  else if pkHybrid x then true
  else if pkScheme x == 0x20 || pkScheme x == 0x21 || (pkScheme x == 0x30 && pkHash x == 0) then decide (n ≤ 1048576)
  else true

/-- ALG and strength of the key a reference names, when known before acceptance. -/
def pkKeyAttr (s : State) (x : Req) (off : Nat) : Option Attr := attrFor s x.part (x.key off)

/-- An ALG that has signatures (R206). -/
def signsAlg (a : Nat) : Bool := a == 0x30 || isEcc a || a == 0x48 || a == 0x49 || isMlDsa a

/-- A signature has the length its ALG fixes; an ALG without signatures fixes none, and is refused at check 8 (R206, R210). -/
def sigLenOk (a l n : Nat) : Bool := !signsAlg a || n == sigLen a l

/-- A length that the ALG of KEY fixes, where KEY has an ALG the command takes; any other key is refused at check 8 (R207, R210). -/
def byKey (s : State) (x : Req) (fits : Nat → Bool) (lenOk : Attr → Bool) : Bool :=
  match pkKeyAttr s x 0 with | none => true | some a => !fits a.alg.toNat || lenOk a

/-- Check 7 of a public-key command (R206, R207, R210). -/
def pkLength (op : Nat) (s : State) (x : Req) : Bool :=
  pkFits x &&
  (match op with
   | 1 => pkMsgOk x
   | 2 => pubLenOk (pkAlg x) (pkLenA x) && sigLenOk (pkAlg x) (rsaBitsOfPub (pkLenA x)) (pkLenB x) &&
          (pkAlg2 x == 0 || (pubLenOk (pkAlg2 x) (pkLenC x) && sigLenOk (pkAlg2 x) (rsaBitsOfPub (pkLenC x)) (pkLenD x))) && pkMsgOk x
   | 3 => byKey s x isEcc (fun a => pubLenOk a.alg.toNat (pkLenA x))
   | 4 => pubLenOk (pkAlg x) (pkLenA x)
   | 5 => byKey s x isMlKem (fun a => pkLenA x == kemCtLen a.alg.toNat)
   | 6 => pubLenOk (pkAlg x) (pkLenA x) &&
          (pkAlg x != 0x30 || decide ((pkMsg x).length + 2 * digestLen (pkHash x) + 2 ≤ rsaBitsOfPub (pkLenA x) / 8))
   | 7 => byKey s x (fun g => g == 0x30) (fun a => pkLenA x == a.bits.toNat / 8)
   | _ => true)

/-! ## Fields and combinations (R205, R206, R208) -/

def schemeAlg (scheme alg : Nat) : Bool :=
  match scheme with
  | 0x01 => alg == 0x30 | 0x02 => alg == 0x30
  | 0x10 => isEcc alg
  | 0x20 => alg == 0x48 | 0x21 => alg == 0x49
  | 0x30 => isMlDsa alg
  | _ => false

def hashed6 (h : Nat) : Bool := h == 2 || h == 3 || h == 4 || h == 0x11 || h == 0x12 || h == 0x13

def schemeHash (scheme h : Nat) : Bool :=
  match scheme with
  | 0x01 => hashed6 h | 0x02 => hashed6 h | 0x10 => hashed6 h
  | 0x20 => h == 0 | 0x21 => h == 0
  | 0x30 => h == 0 || h == 4 || h == 0x13
  | _ => false

/-- SCHEME, HASH, PREHASHED and the context agree, and a hybrid is as R206 lays down. -/
def signFieldsOk (second : Bool) (x : Req) : Bool :=
  schemeHash (pkScheme x) (pkHash x) && decide (pkPre x ≤ 1) && (pkPre x == 0 || pkHash x != 0) &&
  (pkCtxLen x == 0 || (pkScheme x == 0x30 && !pkHybrid x)) &&
  (!pkHybrid x || (pkScheme x == 0x30 && pkHash x == 0 && pkPre x == 0 && second && pkScheme2 x == 0x10))

/-- Structural faults of a public key: an even RSA modulus, an even e or e below 3, an ECC prefix other than 0x04 (R200). -/
def pubStructOk (a : Nat) (k : Bytes) : Bool :=
  if a == 0x30 then
    let n := beNat (k.take (k.length - 4))
    let e := beNat (k.drop (k.length - 4))
    n % 2 == 1 && e % 2 == 1 && decide (3 ≤ e)
  else if isEcc a then k.headD 0 == 0x04
  else true

/-- OUT_ATTR as R208 allows it, USAGE apart. -/
def outAttrOk (a : Attr) : Bool :=
  a.cls == 0 &&
  (match a.alg.toNat with
   | 0x20 => a.bits.toNat % 8 == 0 && decide (128 ≤ a.bits.toNat) && decide (a.bits.toNat ≤ 512)
   | 0x01 | 0x02 | 0x10 | 0x11 | 0x12 => algBits a.alg.toNat == some a.bits.toNat
   | _ => false) &&
  a.span == 0 && a.algPub == 0 && allZero a.keyVersion && decide (a.export_.toNat ≤ 2)

/-- The unused fields of each command are zero (R205). -/
def pkUnused (op : Nat) (x : Req) : Bool :=
  let z (b : Bool) (n : Nat) := b || n == 0
  let key := op == 1 || op == 3 || op == 5 || op == 7 || op == 8
  let out := op == 3 || op == 4 || op == 5
  allZero (bsub x.payload 0x25 11) &&
  z key (x.pay 0 4) && z (op == 1) (x.pay 4 4) && z (op == 1 || op == 2) (pkScheme x) && z (op == 1 || op == 2) (pkScheme2 x) &&
  z (op == 1 || op == 2 || op == 6 || op == 7) (pkHash x) && z (op == 1 || op == 2) (pkCtxLen x) &&
  z (op == 2 || op == 3 || op == 4 || op == 6) (pkAlg x) && z (op == 2) (pkAlg2 x) &&
  z (out || op == 6 || op == 7) (pkInfoLen x) && decide (pkInfoLen x ≤ 256) &&
  z (decide (2 ≤ op) && decide (op ≤ 7)) (pkLenA x) && z (op == 2) (pkLenB x) && z (op == 2) (pkLenC x) && z (op == 2) (pkLenD x) &&
  z out (x.pay 0x20 4) && z (op == 1 || op == 2) (pkPre x) && (out || allZero (bsub x.payload 0x30 16)) &&
  z (decide (op ≤ 2) || op == 6) (pkMsg x).length

def pkOwn (op : Nat) (_ : State) (x : Req) : Option Status :=
  let pd (b : Bool) := need b stPolicyDenied
  firstFail
    [ pd (pkUnused op x),
      (match op with
       | 1 => pd (signFieldsOk (x.key 4 != 0) x)
       | 2 => firstFail
          [ pd (signFieldsOk (pkAlg2 x != 0) x), pd (schemeAlg (pkScheme x) (pkAlg x)),
            pd (pkAlg2 x == 0 || isEcc (pkAlg2 x)), pd (pkAlg2 x != 0 || (pkLenC x == 0 && pkLenD x == 0)),
            pd (pubStructOk (pkAlg x) (pkA x)), pd (pkAlg2 x == 0 || pubStructOk (pkAlg2 x) (pkC x)) ]
       | 3 => firstFail [ pd (pkAlg x == 0 || isEcc (pkAlg x)), pd ((pkA x).headD 0 == 0x04) ]
       | 4 => pd (isMlKem (pkAlg x))
       | 6 => firstFail
          [ pd (pkAlg x == 0x30), pd (pkHash x == 2 || pkHash x == 0x11), pd (pubStructOk 0x30 (pkA x)) ]
       | 7 => pd (pkHash x == 2 || pkHash x == 0x11)
       | _ => none),
      (if op == 3 || op == 4 || op == 5 then
         firstFail [ pd (outAttrOk (pkOutAttr x)), need (usageOk (pkOutAttr x).usage) stKeyUsage ]
       else none) ]

/-! ## Keys (R204) -/

def pkUsage (op : Nat) : BitVec 32 :=
  match op with
  | 1 => uSign | 3 => uKeyAgree | 5 => uDecapsulate | 7 => uDecrypt
  | _ => uSign ||| uKeyAgree ||| uDecapsulate ||| uDecrypt

def isPrivate (a : Nat) : Bool := a == 0x30 || isEcc a || a == 0x48 || a == 0x49 || isMlDsa a || isMlKem a

/-- Usage and ALG of KEY, and the scheme that depends on it (R204, R206, R207). -/
def pkKeyChk (op : Nat) (x : Req) (a : Attr) : Option Status :=
  let g := a.alg.toNat
  firstFail
    [ usageCheck (pkUsage op) a,
      need (match op with
        | 1 => signsAlg g
        | 3 => isEcc g
        | 5 => isMlKem g
        | 7 => g == 0x30
        | _ => isPrivate g) stKeyUsage,
      need (op != 1 || schemeAlg (pkScheme x) g) stPolicyDenied,
      need (op != 3 || pkAlg x == 0 || pkAlg x == g) stPolicyDenied,
      need (match op with
        | 3 => pubLenOk g (pkLenA x)
        | 5 => pkLenA x == kemCtLen g
        | 7 => pkLenA x == a.bits.toNat / 8
        | _ => true) stLength ]

/-- KEY2 of a hybrid signature (R204). -/
def pkKey2Chk (a : Attr) : Option Status := firstFail [ usageCheck uSign a, need (isEcc a.alg.toNat) stKeyUsage ]

def pkKeyed (op : Nat) : Bool := op == 1 || op == 3 || op == 5 || op == 7 || op == 8
def pkOuts (op : Nat) : Bool := op == 3 || op == 4 || op == 5

def pkKeys (op : Nat) (_ : State) (x : Req) : List (BitVec 32) :=
  if pkKeyed op then x.key 0 :: (if op == 1 && x.key 4 != 0 then [x.key 4] else []) else []

def pkAttrs (op : Nat) (s : State) (x : Req) : Option Status :=
  if pkKeyed op then
    firstFail
      [ attrCheck s x.part (x.key 0) (pkKeyChk op x),
        (if op == 1 && x.key 4 != 0 then attrCheck s x.part (x.key 4) pkKey2Chk else none) ]
  else none

def pkDraws (op : Nat) (_ : State) (x : Req) : Bool :=
  match op with
  | 1 => pkScheme x == 2 || pkScheme x == 0x10 || pkScheme x == 0x30
  | 4 => true
  | 6 => true
  | 3 => isCached (pkOut x)
  | 5 => isCached (pkOut x)
  | _ => false

/-- Message hashing runs as a facet item ahead of the engine item, except for pure ML-DSA and for a message that is a digest already; a
hybrid hashes M and has two engine items; an output key has its derivation in a facet item (R203, R206, R208). -/
def pkItems (op : Nat) (_ : State) (x : Req) : List ItemPlan :=
  let eng := engineItem (if pkKeyed op then [(0, pkUsage op)] else [])
  let pure := pkScheme x == 0x30 && pkHash x == 0 && !pkHybrid x
  let hash := if (op == 1 || op == 2) && pkPre x == 0 && !pure then
    [facetItem [] (pkMsg x).length] else []
  let second := if pkHybrid x then [engineItem (if op == 1 then [(1, uSign)] else [])] else []
  hash ++ [eng] ++ second ++ (if pkOuts op then [facetItem] else [])

def pkMaxReply (op : Nat) : Nat :=
  match op with
  | 1 => 4792 | 2 => 32 | 3 => 160 | 4 => 1728 | 5 => 160 | 6 => 1056 | 7 => 1056 | _ => 2624

def specPk (op : Nat) : OpSpec :=
  { length := pkLength op
    maxReply := fun _ _ => pkMaxReply op
    own := pkOwn op
    keys := pkKeys op
    target := fun _ x => if pkOuts op then some (pkOut x) else none
    outAttr := fun _ x => if pkOuts op then some (pkOutAttr x) else none
    attrs := pkAttrs op
    draws := pkDraws op
    items := pkItems op
    persist := fun _ x => pkOuts op && isOnDie (pkOut x) }

/-! ## Replies (R209) -/

def padTo4 (b : Bytes) : Bytes := b ++ zeros ((4 - b.length % 4) % 4)

def pkReply (a b : Bytes) (version : Nat) (kc : Bytes) : Bytes :=
  toLe 4 a.length ++ toLe 4 b.length ++ toLe 2 version ++ padTo 3 kc ++ zeros 19 ++ padTo4 a ++ b

/-- Every status other than OK returns the 32-byte header, every field zero (R209). -/
def pkFail : OnFail := fun _ _ s => (s, zeros 32)

/-! ## Input checks inside the engine (R200) -/

/-- Order 1: coordinates and coefficients reduced. -/
def inReduced (a : Nat) (k : Bytes) : Bool :=
  if isEcc a then
    let n := curveLen a
    decide (beNat (bsub k 1 n) < Config.fieldPrime a) && decide (beNat (bsub k (1 + n) n) < Config.fieldPrime a)
  else if a == 0x48 then decide (leNat k % 2 ^ 255 < Config.fieldPrime a)
  else if a == 0x49 then decide (leNat k % 2 ^ 455 < Config.fieldPrime a)
  else if isMlKem a then Config.kemReduced a k
  else true

/-- Order 2: on the curve, or decodable. -/
def inOnCurve (a : Nat) (k : Bytes) : Bool :=
  if isEcc a then Config.onCurve a (bsub k 1 (curveLen a)) (bsub k (1 + curveLen a) (curveLen a))
  else if a == 0x48 || a == 0x49 then (Config.edDecode a k).isSome
  else true

def inNotNeutral (a : Nat) (k : Bytes) : Bool := !(a == 0x48 || a == 0x49) || Config.edDecode a k != some true

/-- Orders 4 and 5 on a signature under a public key. -/
def sigReduced (a : Nat) (pub sig : Bytes) : Bool :=
  if a == 0x30 then decide (beNat sig < beNat (pub.take (pub.length - 4)))
  else if isEcc a then
    let n := curveLen a
    decide (beNat (sig.take n) < Config.groupOrder a) && decide (beNat (sig.drop n) < Config.groupOrder a)
  else if a == 0x48 || a == 0x49 then decide (leNat (sig.drop (sig.length / 2)) < Config.groupOrder a)
  else true

def sigNonZero (a : Nat) (sig : Bytes) : Bool :=
  if a == 0x30 then beNat sig != 0
  else if isEcc a then let n := curveLen a; beNat (sig.take n) != 0 && beNat (sig.drop n) != 0
  else true

/-- R200 on a public key and a signature. -/
def verifyInputs (a : Nat) (pub sig : Bytes) : Option Status :=
  firstFail
    [ need (inReduced a pub) stInputNotReduced,
      need (inOnCurve a pub && (!(a == 0x48 || a == 0x49) || (Config.edDecode a (sig.take (sig.length / 2))).isSome)) stPointNotOnCurve,
      need (inNotNeutral a pub) stInputZero,
      need (sigReduced a pub sig) stInputNotReduced,
      need (sigNonZero a sig) stInputZero ]

/-- R200 on a peer point or an encapsulation key. -/
def peerInputs (a : Nat) (k : Bytes) : Option Status :=
  firstFail [ need (inReduced a k) stInputNotReduced, need (inOnCurve a k) stPointNotOnCurve ]

/-! ## Effects -/

/-- What a scheme signs: the digest of the message, the digest given, or the message itself (R206). -/
def signInput (x : Req) : Bytes :=
  if pkHash x = 0 || pkPre x = 1 then pkMsg x else hashOf (pkHash x) (pkMsg x)

def signWith (scheme h : Nat) (v : KeyVal) (m ctx rnd : Bytes) : Bytes :=
  padTo (sigLen v.attr.alg.toNat v.attr.bits.toNat) (Config.sign scheme h v.attr.alg.toNat v.material m ctx rnd)

/-- Bytes a signature draws: the PSS salt, or 32 for a hedged nonce (R197). -/
def signDraw (scheme h : Nat) : Nat := if scheme = 2 then digestLen h else if scheme = 0x10 || scheme = 0x30 then 32 else 0

def runPkSign : Effect := fun c s =>
  let x := reqOf c
  withKey s c (x.key 0) (pkKeyChk 1 x) (zeros 32) fun v =>
    if x.key 4 = 0 then
      let rnd := drawn c 0 (signDraw (pkScheme x) (pkHash x))
      ends s stOk (pkReply (signWith (pkScheme x) (pkHash x) v (signInput x) (pkCtx x) rnd) [] 0 [])
    else
      withKey s c (x.key 4) pkKey2Chk (zeros 32) fun v2 =>
        let d := sha3_512 (pkMsg x)
        ends s stOk (pkReply (signWith 0x30 0 v d [] (drawn c 0 32)) (signWith 0x10 0x13 v2 d [] (drawn c 32 32)) 0 [])

def runPkVerify : Effect := fun c s =>
  let x := reqOf c
  let bad := verifyInputs (pkAlg x) (pkA x) (pkB x)
  if pkAlg2 x = 0 then
    match bad with
    | some st => ends s st (zeros 32)
    | none =>
      if Config.verify (pkScheme x) (pkHash x) (pkAlg x) (pkA x) (signInput x) (pkCtx x) (pkB x) then ends s stOk (pkReply [] [] 0 [])
      else ends s stVerifyFailed (zeros 32)
  else
    match firstFail [bad, verifyInputs (pkAlg2 x) (pkC x) (pkD x)] with
    | some st => ends s st (zeros 32)
    | none =>
      let d := sha3_512 (pkMsg x)
      if Config.verify 0x30 0 (pkAlg x) (pkA x) d [] (pkB x) && Config.verify 0x10 0x13 (pkAlg2 x) (pkC x) d [] (pkD x) then
        ends s stOk (pkReply [] [] 0 [])
      else ends s stVerifyFailed (zeros 32)

/-- Write an output key derived from Z, RANDOM being taken from the draw stream at `off` (R135, R208). -/
def writeOutKey (c : Cmd) (a z : Bytes) (off : Nat) (s : State) : State × Option (Status × Bytes) :=
  let x := reqOf c
  let p := c.ref.part
  let at_ := pkOutAttr x
  let m := deriveOut z (pkInfo x) ((algBytes at_.alg.toNat at_.bits.toNat).getD 0)
  let v := newVal s p (pkOut x) at_ m (drawn c off 8)
  let t := rewriteOk p (pkOut x) c.shadow (some v) s
  let tok := if isCached (pkOut x) then tokenBytes t p (pkOut x) v else []
  ends t stOk (pkReply a tok (getKey t p (pkOut x)).version.toNat ((kcv at_.alg m).getD []))

def runPkAgree : Effect := fun c s =>
  let x := reqOf c
  withKey s c (x.key 0) (pkKeyChk 3 x) (zeros 32) fun v =>
    let a := v.attr.alg.toNat
    match peerInputs a (pkA x) with
    | some st => ends s st (zeros 32)
    | none => writeOutKey c [] (padTo (curveLen a) (Config.ecdh a v.material (pkA x))) 0 s

def runPkEncapsulate : Effect := fun c s =>
  let x := reqOf c
  match peerInputs (pkAlg x) (pkA x) with
  | some st => ends s st (zeros 32)
  | none =>
    let m := drawn c 0 32
    writeOutKey c (padTo (kemCtLen (pkAlg x)) (Config.kemCipher (pkAlg x) (pkA x) m)) (padTo 32 (Config.kemShared (pkAlg x) (pkA x) m)) 32 s

def runPkDecapsulate : Effect := fun c s =>
  let x := reqOf c
  withKey s c (x.key 0) (pkKeyChk 5 x) (zeros 32) fun v =>
    writeOutKey c [] (padTo 32 (Config.kemDecaps v.attr.alg.toNat v.material (pkA x))) 0 s

def runPkRsaEncrypt : Effect := fun c s =>
  let x := reqOf c
  let n := rsaBitsOfPub (pkLenA x) / 8
  ends s stOk (pkReply (padTo n (Config.oaepEncrypt (pkHash x) (pkA x) (pkInfo x) (pkMsg x) (drawn c 0 (digestLen (pkHash x))))) [] 0 [])

def runPkRsaDecrypt : Effect := fun c s =>
  let x := reqOf c
  withKey s c (x.key 0) (pkKeyChk 7 x) (zeros 32) fun v =>
    let pub := Config.publicOf 0x30 v.material
    match firstFail [ need (decide (beNat (pkA x) < beNat (pub.take (pub.length - 4)))) stInputNotReduced,
                      need (beNat (pkA x) != 0) stInputZero ] with
    | some st => ends s st (zeros 32)
    | none => match Config.oaepDecrypt (pkHash x) v.material (pkInfo x) (pkA x) with
      | none => ends s stVerifyFailed (zeros 32)
      | some m => ends s stOk (pkReply m [] 0 [])

/-- Length of a public key in the encoding of R207. -/
def pubLen (a l : Nat) : Nat :=
  match a with
  | 0x30 => l / 8 + 4 | 0x40 => 65 | 0x41 => 97 | 0x42 => 133 | 0x48 => 32 | 0x49 => 57
  | 0x50 => 1312 | 0x51 => 1952 | 0x52 => 2592 | 0x58 => 800 | 0x59 => 1184 | 0x5A => 1568 | _ => 0

def publicKey (v : KeyVal) : Bytes := padTo (pubLen v.attr.alg.toNat v.attr.bits.toNat) (Config.publicOf v.attr.alg.toNat v.material)

def runPkPublic : Effect := fun c s =>
  let x := reqOf c
  withKey s c (x.key 0) (pkKeyChk 8 x) (zeros 32) fun v => ends s stOk (pkReply (publicKey v) [] 0 [])

/-! ## The rows -/

/-- PK_SIGN (R203, R204, R206). -/
def execPkSign (r : CmdRef) (s : State) : Res := runAccepted 0x0601 runPkSign pkFail r s
/-- PK_VERIFY (R200, R203, R204). -/
def execPkVerify (r : CmdRef) (s : State) : Res := runAccepted 0x0602 runPkVerify pkFail r s
/-- PK_AGREE (R208). -/
def execPkAgree (r : CmdRef) (s : State) : Res := runAccepted 0x0603 runPkAgree pkFail r s
/-- PK_ENCAPSULATE (R208). -/
def execPkEncapsulate (r : CmdRef) (s : State) : Res := runAccepted 0x0604 runPkEncapsulate pkFail r s
/-- PK_DECAPSULATE (R200, R208). -/
def execPkDecapsulate (r : CmdRef) (s : State) : Res := runAccepted 0x0605 runPkDecapsulate pkFail r s
/-- PK_RSA_ENCRYPT (R206). -/
def execPkRsaEncrypt (r : CmdRef) (s : State) : Res := runAccepted 0x0606 runPkRsaEncrypt pkFail r s
/-- PK_RSA_DECRYPT (R200, R206). -/
def execPkRsaDecrypt (r : CmdRef) (s : State) : Res := runAccepted 0x0607 runPkRsaDecrypt pkFail r s
/-- PK_PUBLIC (R204, R207). -/
def execPkPublic (r : CmdRef) (s : State) : Res := runAccepted 0x0608 runPkPublic pkFail r s

end Sys2Proof.Machine
end

