-- ==== Sys2Proof/Machine/KeyCmds.lean ====
section
/-! DEFINITION. Group 0x03: the key life commands (R142, R147, R149, R151, R272 to R280). -/

namespace Sys2Proof.Machine

/-- A command that takes effect whole or is refused with POLICY_DENIED. -/
def denyUnless (b : Bool) (f : State × Option (Status × Bytes)) (s : State) : State × Option (Status × Bytes) :=
  if b then f else ends s stPolicyDenied

/-- Any usage: what a load declares that R272 does not restrict. -/
def anyUsage : BitVec 32 := 0x007FFFFF

/-! ## KEY_GENERATE (R272, R273) -/

def genOut (x : Req) : BitVec 32 := x.key 0
def genAttr (x : Req) : Attr := attrOf (bsub x.payload 0x10 16)

/-- CLASS an ALG has (R126). -/
def algClass (alg : Nat) : Nat := if alg < 0x30 then 0 else if alg = 0x80 then 2 else 1

/-- BITS a value R126 allows for ALG. -/
def bitsOk (alg bitsN : Nat) : Bool :=
  (algBytes alg bitsN).isSome && (alg == 0x20 || alg == 0x30 || algBits alg == some bitsN || (algSizes alg).contains bitsN)

def genAttrOk (x : Req) : Bool :=
  let a := genAttr x
  a.span == 0 && a.algPub == 0 && allZero a.keyVersion && a.cls.toNat == algClass a.alg.toNat && decide (a.export_.toNat ≤ 2) &&
  bitsOk a.alg.toNat a.bits.toNat && (!isCached (genOut x) || algCacheable a.alg.toNat a.bits.toNat)

def isSymAlg (alg : Nat) : Bool := decide (alg < 0x30)

def specKeyGenerate : OpSpec :=
  { length := fun _ x => x.len == 32
    maxReply := fun _ _ => 136
    own := fun _ x => firstFail
      [ need (allZero (bsub x.payload 4 12) && genAttrOk x) stPolicyDenied, need (usageOk (genAttr x).usage) stKeyUsage ]
    target := fun _ x => some (genOut x)
    outAttr := fun _ x => some (genAttr x)
    draws := fun _ _ => true
    items := fun _ x => [if isSymAlg (genAttr x).alg.toNat then coreItem else engineItem]
    persist := fun _ x => isOnDie (genOut x) }

/-- Whether a key is found by search over the drawn stream rather than read straight from it (R273). -/
def isSearched (alg : Nat) : Bool := isEcc alg || alg == 0x30

/-- The material of a generated key: symmetric keys, Edwards keys and post-quantum seeds are drawn bytes; ECC scalars and RSA keys
come of the drawn stream (R273). -/
def genMaterial (c : Cmd) (alg bitsN : Nat) : Bytes :=
  let n := (algBytes alg bitsN).getD 0
  if isSearched alg then padTo n (Config.genPrivate alg bitsN (drawStream c 0)) else drawn c 0 n

/-- How many bytes of the draw stream the key took; RANDOM of a cached key is the next value (R135, R218). -/
def genTaken (c : Cmd) (alg bitsN : Nat) : Nat :=
  if isSearched alg then Config.genTaken alg bitsN (drawStream c 0) else (algBytes alg bitsN).getD 0

def runKeyGenerate : Effect := fun c s =>
  let x := reqOf c
  let a := genAttr x
  writeKey c (genOut x) a (genMaterial c a.alg.toNat a.bits.toNat) (drawn c (genTaken c a.alg.toNat a.bits.toNat) 8) s

/-! ## KEY_IMPORT, KEY_EXPORT and KEY_TRANSLATE (R274, R275) -/

def impBlock (x : Req) : Bytes := x.payload.drop 16

def specKeyImport : OpSpec :=
  { length := fun _ x => decide (32 ≤ x.len) && decide (x.len ≤ 16 + 16384)
    maxReply := fun _ _ => 136
    quorum := fun _ x => some x.part
    own := fun _ x => need (allZero (bsub x.payload 8 8) && verOk (kbVersion (impBlock x))) stPolicyDenied
    keys := fun _ x => [x.key 0]
    target := fun _ x => some (x.key 4)
    attrs := fun s x => attrCheck s x.part (x.key 0) (kbpkChk uUnwrap (kbVersion (impBlock x)))
    draws := fun _ x => isCached (x.key 4)
    items := fun _ x => [facetItem [(0, uUnwrap)] (x.len - 16)]
    persist := fun _ x => isOnDie (x.key 4) }

/-- Whether an imported key fits its target reference (R274). -/
def importFits (s : State) (p : Nat) (o : BitVec 32) (a : Attr) (m : Bytes) : Bool :=
  if isCached o then decide (m.length ≤ 72) && algCacheable a.alg.toNat a.bits.toNat
  else spanFree s p o (algSpan a.alg.toNat a.bits.toNat)

/-- Write an imported key, once it fits. -/
def importKey (c : Cmd) (o : BitVec 32) (a : Attr) (m : Bytes) (s : State) : State × Option (Status × Bytes) :=
  denyUnless (importFits s c.ref.part o a m) (writeKey c o a m (drawn c 0 8) s) s

def runKeyImport : Effect := fun c s =>
  let x := reqOf c
  let b := impBlock x
  withKey s c (x.key 0) (kbpkChk uUnwrap (kbVersion b)) [] fun v =>
    match kbOpen v.material b with
    | .error e => ends s e
    | .ok (a, m, _) => importKey c (x.key 4) a m s

def expFormat (x : Req) : Nat := x.pay 8 1
def expVersion (x : Req) : Byte := BitVec.ofNat 8 (x.pay 9 1)

/-- The wrapping key of KEY_EXPORT (R143, R275). -/
def wrapperChk (x : Req) (a : Attr) : Option Status :=
  if expFormat x = 0 then kbpkChk uWrap (expVersion x) a
  else firstFail [ usageCheck uWrap a, need (isAes a.alg && a.x9Usage != ascii "K1") stKeyUsage ]

/-- What R145 and R275 ask of the key exported, and of the strength of its wrapper. -/
def exportChk (x : Req) (k : Attr) : Option Status :=
  need (k.export_ != 0 && (expFormat x == 0 || k.export_ == 2) && (expFormat x != 0 || expVersion x != verB || isTdes k.alg)) stKeyUsage

def strengthChk (k w : Attr) : Option Status := need (decide (cmpBits k ≤ cmpBits w)) stKeyUsage

def specKeyExport : OpSpec :=
  { length := fun _ x => x.len == 16
    maxReply := fun _ _ => 16384
    own := fun _ x => need (allZero (bsub x.payload 0xA 6) && decide (expFormat x ≤ 1) &&
                            (if expFormat x = 0 then verOk (expVersion x) else expVersion x == 0)) stPolicyDenied
    keys := fun _ x => [x.key 0, x.key 4]
    attrs := fun s x => firstFail
      [ attrCheck s x.part (x.key 0) (exportChk x), attrCheck s x.part (x.key 4) (wrapperChk x),
        attrCheck s x.part (x.key 0) (fun k => attrCheck s x.part (x.key 4) (strengthChk k)) ]
    draws := fun _ x => expFormat x == 0
    items := fun _ _ => [facetItem [(0, anyUsage), (1, uWrap)]] }

def runKeyExport : Effect := fun c s =>
  let x := reqOf c
  withKey s c (x.key 0) (exportChk x) [] fun k =>
    withKey s c (x.key 4) (fun w => firstFail [wrapperChk x w, strengthChk k.attr w]) [] fun w =>
      if expFormat x = 0 then ends s stOk (kbBuild (expVersion x) w.material k.attr k.material [] (drawn c 0 256))
      else ends s stOk (Config.aesWrap w.material (kbMaterial k.attr k.material))

def trVersion (x : Req) : Byte := BitVec.ofNat 8 (x.pay 8 1)

def specKeyTranslate : OpSpec :=
  { length := fun _ x => decide (32 ≤ x.len) && decide (x.len ≤ 16 + 16384)
    maxReply := fun _ _ => 16384
    own := fun _ x => need (verOk (trVersion x) && allZero (bsub x.payload 9 7) && verOk (kbVersion (impBlock x))) stPolicyDenied
    keys := fun _ x => [x.key 0, x.key 4]
    attrs := fun s x => firstFail
      [ attrCheck s x.part (x.key 0) (kbpkChk uUnwrap (kbVersion (impBlock x))),
        attrCheck s x.part (x.key 4) (kbpkChk uWrap (trVersion x)) ]
    draws := fun _ _ => true
    items := fun _ x => [facetItem [(0, uUnwrap)] (x.len - 16), facetItem [(1, uWrap)]] }

def runKeyTranslate : Effect := fun c s =>
  let x := reqOf c
  let b := impBlock x
  withKey s c (x.key 0) (kbpkChk uUnwrap (kbVersion b)) [] fun i =>
    withKey s c (x.key 4) (kbpkChk uWrap (trVersion x)) [] fun o =>
      match kbOpen i.material b with
      | .error e => ends s e
      | .ok (a, m, r) =>
        if a.export_ = 0 || decide (cmpBits o.attr < cmpBits a) || (trVersion x == verB && !isTdes a.alg) then ends s stKeyUsage
        else ends s stOk (kbBuild (trVersion x) o.material a m (kbCarry r) (drawn c 0 256))

/-! ## KEY_DESTROY and KEY_QUERY (R142, R276) -/

/-- Form, seal, phase and existence of a reference to destroy; a FAILED one may be destroyed (R130, R142). -/
def destroyCheck (s : State) (x : Req) : Option Status :=
  let r := x.key 0
  let e := getKey s x.part r
  firstFail [ targetCheck s r, need (if e.pending.isEmpty then e.cur.isSome else !pendingDestroy s e) stKeyNotFound ]

/-- A destroy with no rewrite pending before it takes effect at its acceptance (R142). -/
def destroyAccept (c : Cmd) (s : State) : State :=
  let r := (reqOf c).key 0
  if (getKey s c.ref.part r).pending.head? = some c.ref then
    modCmd c.ref (fun c => { c with shadow := false }) (rewriteOk c.ref.part r c.shadow none s)
  else s

def specKeyDestroy : OpSpec :=
  { length := fun _ x => x.len == 8
    own := fun s x => firstFail [ need (x.pay 4 4 == 0) stPolicyDenied, destroyCheck s x ]
    target := fun _ x => some (x.key 0)
    accept := destroyAccept
    persist := fun _ x => isOnDie (x.key 0) }

def runKeyDestroy : Effect := fun c s =>
  let r := (reqOf c).key 0
  if (getKey s c.ref.part r).pending.contains c.ref then ends (rewriteOk c.ref.part r c.shadow none s) stOk else ends s stOk

def specKeyQuery : OpSpec :=
  { length := fun _ x => x.len == 8
    maxReply := fun _ _ => 24
    own := fun s x => firstFail [ need (x.pay 4 4 == 0) stPolicyDenied, targetCheck s (x.key 0) ] }

def queryState (e : KeyEntry) : Nat := if !e.pending.isEmpty then 3 else if e.cur.isNone then 0 else if e.failed then 2 else 1

def runKeyQuery : Effect := fun c s =>
  let e := getKey s c.ref.part ((reqOf c).key 0)
  let a := match e.cur with | none => zeros 16 | some v => attrBytes v.attr
  let k := match e.cur with | none => [] | some v => if e.failed then [] else (kcv v.attr.alg v.material).getD []
  ends s stOk (a ++ toLe 2 e.version.toNat ++ padTo 3 k ++ toLe 1 (queryState e) ++ zeros 2)

/-! ## Token commands (R137, R139, R277) -/

/-- A cached reference is named; a well-formed on-die one or KIND 0 is a field out of range (R277). Any other form is left to R122. -/
def cachedOnly (s : State) (r : BitVec 32) : Option Status := need (!((isOnDie r && refForm s r) || refKind r == 0)) stPolicyDenied

def specTokenLoad : OpSpec :=
  { length := fun _ x => x.len == 136
    maxReply := fun _ _ => 136
    own := fun s x => firstFail [ need (x.pay 4 4 == 0) stPolicyDenied, cachedOnly s (x.key 0) ]
    target := fun _ x => some (x.key 0)
    items := fun _ _ => [facetItem] }

/-- A token under the previous generation is rewrapped under the current one. The record keeps its TOKEN_EPOCH with its RANDOM: R135 gives the
epoch at wrapping and does not say whether a rewrap renews it. DESIGN CHOICE, log entry 117. -/
def runTokenLoad : Effect := fun c s =>
  let x := reqOf c
  let p := c.ref.part
  let r := x.key 0
  match openToken s p r (x.payload.drop 8) with
  | none => ends s stVerifyFailed
  | some v =>
    let old := v.mwkGen != s.ks.mwkGen
    let v := { v with mwkGen := s.ks.mwkGen }
    let t := rewriteOk p r c.shadow (some v) s
    ends t stOk (keyReply (getKey t p r).version v.attr.alg v.material t.ks.mwkGen (if old then tokenBytes t p r v else []))

def specTokenReissue : OpSpec :=
  { length := fun _ x => x.len == 8
    maxReply := fun _ _ => 128
    own := fun s x => firstFail [ need (x.pay 4 4 == 0) stPolicyDenied, cachedOnly s (x.key 0) ]
    keys := fun _ x => [x.key 0]
    items := fun _ _ => [facetItem [(0, anyUsage)]] }

def runTokenReissue : Effect := fun c s =>
  let x := reqOf c
  withKey s c (x.key 0) (fun _ => none) [] fun v =>
    ends s stOk (tokenBytes s c.ref.part (x.key 0) { v with epoch := epochOf s c.ref.part + 1, mwkGen := s.ks.mwkGen })

def specTokenRevoke : OpSpec :=
  { length := fun _ x => x.len == 8
    maxReply := fun _ _ => 4
    quorum := fun _ x => some x.part
    own := fun _ x => need (allZero (x.payload)) stPolicyDenied }

def runTokenRevoke : Effect := fun c s =>
  let t := bumpEpoch c.ref.part s
  ends t stOk (toLe 4 (epochOf t c.ref.part).toNat)

/-! ## KEY_PROVE (R147, R278) -/

def proveChk (a : Attr) : Option Status := usageCheck uProve a

def specKeyProve : OpSpec :=
  { length := fun _ x => x.len == 40
    maxReply := fun _ _ => 32
    own := fun _ x => need (x.pay 4 4 == 0) stPolicyDenied
    keys := fun _ x => [x.key 0]
    attrs := fun s x => attrCheck s x.part (x.key 0) proveChk
    draws := fun _ _ => true
    items := fun _ _ => [facetItem [(0, uProve)]] }

def runKeyProve : Effect := fun c s =>
  let x := reqOf c
  withKey s c (x.key 0) proveChk [] fun v =>
    let pk := hmac 0x02 v.material (ascii "ULGUS-PROVE" ++ [v.attr.alg] ++ toLe 2 v.attr.bits.toNat)
    let nm := drawn c 0 16
    ends s stOk (nm ++ (hmac 0x02 pk (bsub x.payload 8 32 ++ unitSerial s ++ toLe 4 (x.pay 0 4) ++ nm)).take 16)

/-! ## The master wrapping key (R149, R280) -/

def pfOnly (x : Req) : Bool := x.fn == 0

/-- A KEY_MWK_CHANGE is accepted and has not run. The two commands run in journal order and are judged against what those before them
leave, so that neither is refused once accepted (R149, R291). -/
def changeOwed (s : State) : Bool := s.prism.cmds.any (fun c => c.opcode == 0x030B && c.result.isNone)

def specMwkChange : OpSpec :=
  { length := fun _ x => x.len == 8
    maxReply := fun _ _ => 4
    quorum := fun _ _ => some 0
    own := fun s x => need (pfOnly x && allZero x.payload && !s.ks.prevPresent && !changeOwed s) stPolicyDenied
    draws := fun _ _ => true
    flow := some .mwk }

def runMwkChange : Effect := fun c s =>
  let k := s.ks
  let s := { s with ks := { k with mwkPrev := k.mwk, mwk := drawn c 0 32, mwkGen := nextGen k.mwkGen, prevPresent := true, rewrap := true } }
  ends s stOk ([s.ks.mwkGen] ++ zeros 3)

def specMwkClear : OpSpec :=
  { length := fun _ x => x.len == 8
    maxReply := fun _ _ => 4
    quorum := fun _ _ => some 0
    own := fun s x => need (pfOnly x && allZero x.payload && !s.ks.rewrap && !changeOwed s) stPolicyDenied
    flow := some .mwk }

def runMwkClear : Effect := fun _ s => ends { s with ks := { s.ks with mwkPrev := zeros 32, prevPresent := false } } stOk (zeros 4)

/-! ## TR-34 (R279) -/

def liveNonces (s : State) (p : Nat) : List Nonce := (getPart s p).nonces

/-- Accepted KEY_TR34_NONCE commands of a partition that have not run. -/
def noncesOwed (s : State) (p : Nat) : Nat :=
  (s.prism.cmds.filter (fun c => c.ref.part == p && c.opcode == 0x0310 && c.result.isNone)).length

def specTr34Nonce : OpSpec :=
  { length := fun _ x => x.len == 0 || x.len == 8
    maxReply := fun _ _ => 20
    own := fun _ x => need (allZero x.payload) stPolicyDenied
    shares := fun s x => need (decide ((liveNonces s x.part).length + noncesOwed s x.part < 16)) stFlowLimit
    draws := fun _ _ => true }

def runTr34Nonce : Effect := fun c s =>
  let p := c.ref.part
  let n : Nonce := { id := (getPart s p).nextNonce, value := drawn c 0 16, issued := s.hzn.time }
  ends (modPart p (fun x => { x with nonces := x.nonces ++ [n], nextNonce := x.nextNonce + 1 }) s) stOk (toLe 4 n.id.toNat ++ n.value)

/-- A CA certificate with one of the partition's anchors that verifies the leaf certificate (R279, R282). -/
def anchored (pol ca leaf : Bytes) : Bool :=
  let d := sha3_256 ca
  (List.range 4).any (fun i => let a := bsub pol (0x128 + 32 * i) 32; !allZero a && a == d) && Config.certIssued ca leaf

def teCert (x : Req) : Bytes := bsub x.payload 32 (x.pay 0x1C 2)
def teCa (x : Req) : Bytes := x.payload.drop (32 + x.pay 0x1C 2)

def rsaKeyChk (u : BitVec 32) (a : Attr) : Option Status :=
  firstFail [ usageCheck u a, need (a.alg == 0x30 && decide (2048 ≤ a.bits.toNat)) stKeyUsage ]

def certLen (n : Nat) : Bool := decide (1 ≤ n) && decide (n ≤ 4096)

def specTr34Export : OpSpec :=
  { length := fun _ x => decide (32 ≤ x.len) && certLen (x.pay 0x1C 2) && certLen (x.pay 0x1E 2) &&
                         x.len == 32 + x.pay 0x1C 2 + x.pay 0x1E 2
    maxReply := fun _ _ => 8192
    own := fun s x => firstFail
      [ need ((x.pay 8 1 == 1 || x.pay 8 1 == 2) && x.pay 9 3 == 0 && (x.pay 8 1 == 2 || allZero (bsub x.payload 0xC 16))) stPolicyDenied,
        need (anchored (policyOf s x.part) (teCa x) (teCert x)) stPolicyDenied ]
    keys := fun _ x => [x.key 0, x.key 4]
    attrs := fun s x => firstFail
      [ attrCheck s x.part (x.key 0) (fun a => need (a.export_ != 0) stKeyUsage), attrCheck s x.part (x.key 4) (rsaKeyChk uSign) ]
    draws := fun _ _ => true
    items := fun _ _ => [facetItem [(0, anyUsage)], engineItem [(1, uSign)]] }
where
  policyOf (s : State) (p : Nat) : Bytes := (getPart s p).policy

def runTr34Export : Effect := fun c s =>
  let x := reqOf c
  withKey s c (x.key 0) (fun a => need (a.export_ != 0) stKeyUsage) [] fun k =>
    withKey s c (x.key 4) (rsaKeyChk uSign) [] fun d =>
      let a := k.attr
      let h := [verD] ++ ascii "0000" ++ padTo 2 a.x9Usage ++ [algChar a.alg, a.mode] ++ keyVersionChars a.keyVersion ++
               [exportChar a.export_] ++ ascii "0000"
      let ts := if x.pay 8 1 = 1 then toLe 8 s.hzn.time.toNat else []
      ends s stOk (Config.tr34Build d.material (teCert x) h (kbMaterial a k.material) (bsub x.payload 0xC 16) ts (drawn c 0 96))

def tiToken (x : Req) : Bytes := bsub x.payload 32 (x.pay 0xC 2)
def tiCert (x : Req) : Bytes := bsub x.payload (32 + x.pay 0xC 2) (x.pay 0xE 2)
def tiCa (x : Req) : Bytes := x.payload.drop (32 + x.pay 0xC 2 + x.pay 0xE 2)

def specTr34Import : OpSpec :=
  { length := fun _ x => decide (32 ≤ x.len) && decide (1 ≤ x.pay 0xC 2) && decide (x.pay 0xC 2 ≤ 8192) && certLen (x.pay 0xE 2) &&
                         certLen (x.pay 0x10 2) && x.len == 32 + x.pay 0xC 2 + x.pay 0xE 2 + x.pay 0x10 2
    maxReply := fun _ _ => 136
    quorum := fun _ x => some x.part
    own := fun s x => firstFail
      [ need (allZero (bsub x.payload 0x12 14)) stPolicyDenied,
        need (anchored (getPart s x.part).policy (tiCa x) (tiCert x)) stPolicyDenied ]
    keys := fun _ x => [x.key 0]
    target := fun _ x => some (x.key 4)
    attrs := fun s x => attrCheck s x.part (x.key 0) (rsaKeyChk uDecrypt)
    draws := fun _ x => isCached (x.key 4)
    items := fun _ _ => [engineItem [(0, uDecrypt)], facetItem]
    persist := fun _ x => isOnDie (x.key 4) }

/-- A live nonce is used once, whatever the verdict (R279). -/
def runTr34Import : Effect := fun c s =>
  let x := reqOf c
  let p := c.ref.part
  withKey s c (x.key 0) (rsaKeyChk uDecrypt) [] fun k =>
    match (liveNonces s p).find? (fun n => n.id == x.key 8) with
    | none => ends s stVerifyFailed
    | some n =>
      let s := modPart p (fun y => { y with nonces := y.nonces.filter (fun m => m.id != n.id) }) s
      if decide (n.issued.toNat + secTicks 600 ≤ s.hzn.time.toNat) || !Config.tr34Signed (tiCert x) (tiToken x) ||
         Config.tr34Nonce (tiToken x) != n.value then ends s stVerifyFailed
      else match Config.tr34Open k.material (tiToken x) with
        | none => ends s stVerifyFailed
        | some (h, key) => match kbAttr h key with
          | .error e => ends s e
          | .ok (a, m) => importKey c (x.key 4) a m s

/-! ## Backup and restore (R151, R280) -/

/-- Multiplication in GF(2^8) with x^8 + x^4 + x^3 + x + 1. -/
def gfMul : Nat → Nat → Nat → Nat
  | 0, _, _ => 0
  | k + 1, a, b =>
    let r := if b % 2 = 1 then a else 0
    let a2 := if 128 ≤ a then ((2 * a) % 256) ^^^ 0x1B else 2 * a
    r ^^^ gfMul k a2 (b / 2)

def gf (a b : Nat) : Nat := gfMul 8 a b

/-- The inverse: the 254th power. -/
def gfInv (a : Nat) : Nat := (List.range 254).foldl (fun r _ => gf r a) 1

/-- Byte `i` of share `x`: the polynomial of the key byte and the drawn coefficients. -/
def shareByte (coeffs : List Bytes) (bk : Bytes) (x i : Nat) : Nat :=
  let cs := (bk.getD i 0).toNat :: coeffs.map (fun c => (c.getD i 0).toNat)
  cs.reverse.foldl (fun acc k => gf acc x ^^^ k) 0

def shareOf (coeffs : List Bytes) (bk : Bytes) (x : Nat) : Bytes :=
  toLe 1 x ++ (List.range 32).map (fun i => BitVec.ofNat 8 (shareByte coeffs bk x i))

/-- The key that shares (x, 32 bytes) determine, by interpolation at 0. -/
def joinShares (l : List (Nat × Bytes)) : Bytes :=
  (List.range 32).map (fun i => BitVec.ofNat 8
    (l.foldl (fun acc s =>
      let w := l.foldl (fun w t => if t.1 = s.1 then w else gf w (gf t.1 (gfInv (t.1 ^^^ s.1)))) 1
      acc ^^^ gf w (s.2.getD i 0).toNat) 0))

/-- The key a share is encrypted under (R151). -/
def shareKey (ss : Bytes) (id : BitVec 32) (x : Nat) : Bytes := sha3_256 (ss ++ toLe 4 id.toNat ++ toLe 1 x)

/-- One share record of 1,624 bytes, encapsulated to an officer's transport key with the drawn `m`. -/
def shareRecord (id : BitVec 32) (o : Officer) (share m : Bytes) : Bytes :=
  let (ct, tag) := gcmSeal (shareKey (padTo 32 (Config.kemShared 0x5A o.kemPub m)) id o.slot) Config.shareNonce [] share
  toLe 1 o.slot ++ zeros 3 ++ padTo 1568 (Config.kemCipher 0x5A o.kemPub m) ++ padTo 36 ct ++ tag

/-- Open a share record under a decapsulation key. -/
def openShare (dz : Bytes) (id : BitVec 32) (b : Bytes) : Option (Nat × Bytes) :=
  let x := fld b 0 1
  (gcmOpen (shareKey (padTo 32 (Config.kemDecaps 0x5A dz (bsub b 4 1568))) id x) Config.shareNonce [] (bsub b 1572 33) (bsub b 1608 16)).bind
    (fun p => if fld p 0 1 = x then some (x, p.drop 1) else none)

/-- At its acceptance a backup takes the version of every key of the partition, as the journal order has them (R280). -/
def backupAccept (c : Cmd) (s : State) : State :=
  let p := c.ref.part
  let l := ((partKeys s p).filter (fun e => if e.2.pending.isEmpty then e.2.cur.isSome && !e.2.failed else !pendingDestroy s e.2)).map
    (fun e => (e.1, takeVersion s p e.1))
  modCmd c.ref (fun c => { c with keys := l }) (l.foldl (fun s k => takeRef p k.1 k.2 s) s)

/-- A backup is held, or one accepted has not run. -/
def backupHeld (s : State) (p : Nat) : Bool :=
  (getPart s p).backup.isSome || s.prism.cmds.any (fun c => c.ref.part == p && c.opcode == 0x0318 && c.result.isNone)

def specKeyBackup : OpSpec :=
  { length := fun _ x => x.len == 8
    maxReply := fun s x => 24 + 1624 * (getPart s x.part).officers.length
    quorum := fun _ x => some x.part
    own := fun _ x => need (allZero x.payload) stPolicyDenied
    shares := fun s x => need (!backupHeld s x.part) stFlowLimit
    draws := fun _ _ => true
    accept := backupAccept }

/-- Every version the backup took is in force or in a shadow entry: the rewrites before it have ended. -/
def backupTurn (s : State) (r : CmdRef) : Bool :=
  match findCmd s r with
  | none => true
  | some c => c.keys.all (fun k => verLe k.2 (getKey s r.part k.1).version)

/-- The values it draws follow each other without gaps (R218), in the order R151 names them: BK, the M − 1 coefficients of each byte's polynomial,
then the encapsulation value of each officer in order of SLOT. DEDUCED, log entry 118. -/
def runKeyBackup : Effect := fun c s =>
  let p := c.ref.part
  let x := getPart s p
  let id := x.nextBackup
  let bk := drawn c 0 32
  let co := (List.range (x.threshold - 1)).map (fun i => drawn c (32 + 32 * i) 32)
  let keys := c.keys.filterMap (fun k => (versionVal s p k.1 k.2).map (fun v => { key := k.1, version := k.2, val := v : BlobKey }))
  let plain := encodeKeys keys
  let ch := sealChunks bk id plain
  let recs := (x.officers.zipIdx.map (fun e => shareRecord id e.1 (shareOf co bk e.1.slot) (drawn c (32 * (x.threshold - 1 + 1 + e.2)) 32))).flatten
  let blob : Blob := { id := id, header := [], chunks := ch, nextRead := 0, issued := s.hzn.time }
  ends (modPart p (fun x => { x with backup := some blob, nextBackup := x.nextBackup + 1 }) s) stOk
    (toLe 4 id.toNat ++ toLe 4 ch.length ++ toLe 8 plain.length ++ toLe 1 x.threshold ++ toLe 1 x.officers.length ++ zeros 6 ++ recs)

def specBackupChunk : OpSpec :=
  { length := fun _ x => x.len == 8
    maxReply := fun _ _ => 8388512
    own := fun s x => match (getPart s x.part).backup with
      | none => some stPolicyDenied
      | some b => need (x.pay 0 4 == b.id.toNat && decide (x.pay 4 4 < b.chunks.length)) stPolicyDenied }

/-- Reading the last chunk releases the snapshot (R280). -/
def runBackupChunk : Effect := fun c s =>
  let x := reqOf c
  let p := c.ref.part
  match (getPart s p).backup with
  | none => ends s stPolicyDenied
  | some b => match b.chunks[x.pay 4 4]? with
    | none => ends s stPolicyDenied
    | some d =>
      let last := x.pay 4 4 + 1 == b.chunks.length
      ends (modPart p (fun y => { y with backup := if last then none else some { b with nextRead := x.pay 4 4 + 1 } }) s) stOk d

def specRestoreOffer : OpSpec :=
  { length := fun _ x => x.len == 8
    maxReply := fun _ _ => 6416
    own := fun _ x => need (allZero x.payload) stPolicyDenied
    draws := fun _ _ => true
    items := fun _ _ => [engineItem] }

def runRestoreOffer : Effect := fun c s =>
  let p := c.ref.part
  let o := makeOffer s s.pm.nextOffer p (hznPlus s 600) c
  ends (modPart p (fun x => { x with keyOffer := some o }) { s with pm := { s.pm with nextOffer := s.pm.nextOffer + 1 } }) stOk o.body

def rsCount (x : Req) : Nat := x.pay 0x18 1
def rsShare (x : Req) (i : Nat) : Bytes := bsub x.payload (32 + 1624 * i) 1624

def specRestore : OpSpec :=
  { length := fun _ x => decide (32 ≤ x.len) && x.len == 32 + 1624 * rsCount x
    maxReply := fun _ _ => 4
    quorum := fun _ x => some x.part
    own := fun _ x => need (x.pay 0xC 4 == 0 && allZero (bsub x.payload 0x19 7) && decide (2 ≤ rsCount x) && decide (rsCount x ≤ 16) &&
        (List.range (rsCount x)).all (fun i => fld (rsShare x i) 1 3 == 0)) stPolicyDenied
    items := fun _ _ => [engineItem] }

def runRestore : Effect := fun c s =>
  let x := reqOf c
  let p := c.ref.part
  match (getPart s p).keyOffer with
  | none => ends s stVerifyFailed
  | some o =>
    if o.id != x.key 0 || decide (o.expiry.toNat ≤ s.hzn.time.toNat) then ends s stVerifyFailed
    else
      let l := (List.range (rsCount x)).map (fun i => openShare (o.secret.take 64) (x.key 4) (rsShare x i))
      let s := modPart p (fun y => { y with keyOffer := none }) s
      if l.any (fun e => e.isNone) then ends s stVerifyFailed
      else
        let st : Staging := { id := x.key 4, key := joinShares (l.filterMap id), chunks := x.pay 8 4, total := x.pay 0x10 8, have_ := [],
                              tags := [], ringMap := [], header := [], last := s.hzn.time }
        ends (modPart p (fun y => { y with restore := some st }) s) stOk (zeros 4)

def specRestoreChunk : OpSpec :=
  { length := fun _ x => decide (16 ≤ x.len) && x.len == 32 + x.pay 8 4 && decide (x.len ≤ 8388512)
    maxReply := fun _ _ => 4
    own := fun s x => need (getPart s x.part).restore.isSome stPolicyDenied
    items := fun _ x => [facetItem [] x.len] }

def runRestoreChunk : Effect := fun c s =>
  let p := c.ref.part
  match (getPart s p).restore with
  | none => ends s stPolicyDenied
  | some st => match openChunk st.key st.id st.have_.length c.payload with
    | none => ends s stVerifyFailed
    | some (d, tag) =>
      if st.chunks ≤ st.have_.length then ends s stVerifyFailed
      else ends (modPart p (fun y => { y with restore := some { st with have_ := st.have_ ++ [d], tags := st.tags ++ tag, last := s.hzn.time } }) s)
        stOk (zeros 4)

/-- The keys staged, when every chunk has verified. -/
def stagedKeys (st : Staging) : Option (List BlobKey) :=
  if st.have_.length = st.chunks && st.have_.flatten.length = st.total then decodeKeys st.have_.flatten else none

def restoreDraws (s : State) (x : Req) : Bool :=
  match (getPart s x.part).restore with
  | none => false
  | some st => match stagedKeys st with | none => true | some l => l.any (fun k => isCached k.key)

def specRestoreEnd : OpSpec :=
  { length := fun _ x => x.len == 8
    maxReply := fun _ _ => 8 + 4 * 16382
    own := fun s x => need (allZero x.payload && (getPart s x.part).restore.isSome) stPolicyDenied
    draws := restoreDraws
    persist := fun _ _ => true }

/-- Write one restored key into an empty reference, or skip it (R280); `n` counts the keys written. -/
def restoreOne (c : Cmd) (a : State × Nat × List (BitVec 32)) (k : BlobKey) : State × Nat × List (BitVec 32) :=
  let (s, n, skipped) := a
  let p := c.ref.part
  let e := getKey s p k.key
  if refForm s k.key && e.cur.isNone && e.pending.isEmpty && importFits s p k.key k.val.attr k.val.material then
    let v := newVal s p k.key k.val.attr k.val.material (drawn c (8 * n) 8)
    let s := noteBacking c.ref k.key (rewriteOk p k.key false (some v) s)
    (modCmd c.ref (fun c => { c with wrote := c.wrote ++ [(k.key, (getKey s p k.key).version)] }) s, n + 1, skipped)
  else (s, n, skipped ++ [k.key])

/-- The restore ends with KEY_RESTORE_END, and BK goes with it whatever the status (R152). -/
def endRestore (p : Nat) (s : State) : State := modPart p (fun y => { y with restore := none }) s
def failRestoreEnd : OnFail := fun c _ s => (endRestore c.ref.part s, [])

def runRestoreEnd : Effect := fun c s =>
  let p := c.ref.part
  match (getPart s p).restore with
  | none => ends s stPolicyDenied
  | some st => match stagedKeys st with
    | none => ends (endRestore p s) stVerifyFailed
    | some l =>
      let (s, n, sk) := l.foldl (restoreOne c) (s, 0, [])
      let s := bumpEpoch p (endRestore p s)
      ends s stOk (toLe 4 n ++ toLe 4 sk.length ++ ((sk.take 16382).map (fun r => toLe 4 r.toNat)).flatten)

/-! ## The rows -/

/-- KEY_GENERATE (R272, R273). -/
def execKeyGenerate (r : CmdRef) (s : State) : Res := runAccepted 0x0301 runKeyGenerate noReply r s
/-- KEY_IMPORT (R144, R274). -/
def execKeyImport (r : CmdRef) (s : State) : Res := runAccepted 0x0302 runKeyImport noReply r s
/-- KEY_EXPORT (R145, R275). -/
def execKeyExport (r : CmdRef) (s : State) : Res := runAccepted 0x0303 runKeyExport noReply r s
/-- KEY_TRANSLATE (R275). -/
def execKeyTranslate (r : CmdRef) (s : State) : Res := runAccepted 0x0304 runKeyTranslate noReply r s
/-- KEY_DESTROY (R142). -/
def execKeyDestroy (r : CmdRef) (s : State) : Res := runAccepted 0x0305 runKeyDestroy noReply r s
/-- KEY_QUERY (R276). -/
def execKeyQuery (r : CmdRef) (s : State) : Res := runAccepted 0x0306 runKeyQuery noReply r s
/-- KEY_TOKEN_LOAD (R137, R277). -/
def execKeyTokenLoad (r : CmdRef) (s : State) : Res := runAccepted 0x0307 runTokenLoad noReply r s
/-- KEY_TOKEN_REISSUE (R277). -/
def execKeyTokenReissue (r : CmdRef) (s : State) : Res := runAccepted 0x0308 runTokenReissue noReply r s
/-- KEY_TOKEN_REVOKE (R139, R277). -/
def execKeyTokenRevoke (r : CmdRef) (s : State) : Res := runAccepted 0x0309 runTokenRevoke noReply r s
/-- KEY_PROVE (R147, R278). -/
def execKeyProve (r : CmdRef) (s : State) : Res := runAccepted 0x030A runKeyProve noReply r s
/-- KEY_MWK_CHANGE (R149, R280). -/
def execKeyMwkChange (r : CmdRef) (s : State) : Res := runAccepted 0x030B runMwkChange noReply r s
/-- KEY_MWK_CLEAR_PREVIOUS (R149, R280). -/
def execKeyMwkClearPrevious (r : CmdRef) (s : State) : Res := runAccepted 0x030C runMwkClear noReply r s
/-- KEY_TR34_NONCE (R279). -/
def execKeyTr34Nonce (r : CmdRef) (s : State) : Res := runAccepted 0x0310 runTr34Nonce noReply r s
/-- KEY_TR34_EXPORT (R279). -/
def execKeyTr34Export (r : CmdRef) (s : State) : Res := runAccepted 0x0311 runTr34Export noReply r s
/-- KEY_TR34_IMPORT (R279). -/
def execKeyTr34Import (r : CmdRef) (s : State) : Res := runAccepted 0x0312 runTr34Import noReply r s
/-- KEY_BACKUP (R151, R280): it runs once the rewrites before it have ended. -/
def execKeyBackup (r : CmdRef) (s : State) : Res :=
  if backupTurn s r then runAccepted 0x0318 runKeyBackup noReply r s else .next s
/-- KEY_BACKUP_CHUNK (R280). -/
def execKeyBackupChunk (r : CmdRef) (s : State) : Res := runAccepted 0x0319 runBackupChunk noReply r s
/-- KEY_RESTORE_OFFER (R280). -/
def execKeyRestoreOffer (r : CmdRef) (s : State) : Res := runAccepted 0x031A runRestoreOffer noReply r s
/-- KEY_RESTORE (R151, R280). -/
def execKeyRestore (r : CmdRef) (s : State) : Res := runAccepted 0x031B runRestore noReply r s
/-- KEY_RESTORE_CHUNK (R280). -/
def execKeyRestoreChunk (r : CmdRef) (s : State) : Res := runAccepted 0x031C runRestoreChunk noReply r s
/-- KEY_RESTORE_END (R139, R280). -/
def execKeyRestoreEnd (r : CmdRef) (s : State) : Res := runAccepted 0x031D runRestoreEnd failRestoreEnd r s

end Sys2Proof.Machine
end

