-- ==== Sys2Proof/Machine/SymCmds.lean ====
section
/-! DEFINITION. Groups 0x04 and 0x05: ciphers, digests and MACs, whole or as streams (R166 to R188). -/

namespace Sys2Proof.Machine

/-! ## Items (R175, R179) -/

/-- Data bytes of each input fragment that holds data, the parameter block being the first `hdr` bytes. -/
def dataFrags (hdr : Nat) : List Nat → List Nat
  | [] => []
  | n :: r => if n ≤ hdr then dataFrags (hdr - n) r else (n - hdr) :: dataFrags 0 r

/-- Consecutive fragments joined so that a command has at most 256 items (R70). -/
def joinFrags (f : List Nat) : List Nat :=
  let k := (f.length + 255) / 256
  if k ≤ 1 then f else (List.range ((f.length + k - 1) / k)).map (fun i => ((f.drop (k * i)).take k).sum)

/-- One facet item per fragment that holds data; one item without data when there is none (R175). A command of more than 256 such
fragments has at most 256 items (R70): each then takes as many consecutive fragments as make them enough. DESIGN CHOICE, log entry 111. -/
def streamItems (hdr : Nat) (usage : BitVec 32) (keyed : Bool) (x : Req) : List ItemPlan :=
  let f := joinFrags (dataFrags hdr x.frags)
  let l := if keyed then [(0, usage)] else []
  (if f.isEmpty then [0] else f).map (fun n => facetItem l n)

/-- A stream field's own rules: 0 to 3, a session for 1 to 3 (R173, R177). -/
def streamOk (x : Req) : Bool := decide (x.pay 5 1 ≤ 3) && (x.pay 5 1 == 0 || x.handle != 0)

def stream23 (x : Req) : Bool := x.pay 5 1 == 2 || x.pay 5 1 == 3

/-! ## The save area of a command (R80, R181) -/

/-- The context whose save area a command uses: its session's, or its transient one. -/
def cmdCtx (c : Cmd) : Option Nat := if c.handle = 0 then c.transient else some (handleIndex c.handle)

def saveOf (s : State) (c : Cmd) : SaveArea :=
  match cmdCtx c with | none => saveReset | some i => (getSess s i).save

/-- Close the stream of a session's save area: FORMAT empty. -/
def closeStream (c : Cmd) (s : State) : State :=
  if c.handle = 0 then s else modSess (handleIndex c.handle) (fun x => { x with save := { saveReset with saveCount := x.saveCount } }) s

/-- FORMAT of a save area (R181). -/
def saveFormat (a : SaveArea) : Nat := match a.wrapped with | none => 0 | some false => 0x0101 | some true => 0x0102

/-- Bytes 0x000 to 0x01F of a save area (R181). -/
def saveHead (a : SaveArea) : Bytes :=
  toLe 2 (saveFormat a) ++ [a.group, a.modeAlg] ++ toLe 4 a.key.toNat ++ toLe 2 a.keyVersion.toNat ++ toLe 1 a.partLen ++ [a.tagLen] ++
  zeros 4 ++ toLe 8 a.offset ++ toLe 8 a.saveCount

/-- The 384 bytes of a save area as they lie in memory (R80, R181). -/
def saveBytes (a : SaveArea) : Bytes := saveHead a ++ padTo 288 a.state ++ zeros 16 ++ padTo 16 a.tag ++ zeros 32

/-- The chaining state of a stream as STATE holds it before encryption (R181). -/
def chainBytes (a : SaveArea) (v : Option KeyVal) : Bytes :=
  padTo 288 (Config.chainState a.group.toNat a.modeAlg.toNat ((v.map (fun v => v.attr.alg)).getD 0) ((v.map (fun v => v.material)).getD [])
    a.iv a.aad a.absorbed)

/-- Nonce and additional data of a wrapped save area in context `i` (R182). -/
def saveNonce (i : Nat) (a : SaveArea) : Bytes := toLe 4 i ++ toLe 8 a.saveCount
def saveAad (i : Nat) (gen : BitVec 48) (a : SaveArea) : Bytes := saveHead a ++ toLe 4 i ++ toLe 8 gen.toNat

/-- A save area as the facet writes it to context `i`: in the clear for a stream without a key, wrapped for any other (R182). -/
def sealSave (ctxk : Bytes) (i : Nat) (x : Session) (v : Option KeyVal) (a : SaveArea) : SaveArea :=
  if a.wrapped = some true then
    let (ct, tag) := gcmSeal (ctxkOf ctxk x.part) (saveNonce i a) (saveAad i x.partGen a) (chainBytes a v)
    { a with state := ct, tag := tag }
  else { a with state := chainBytes a v, tag := zeros 16 }

/-- The facet writes a stream's state back to the command's save area: SAVE_COUNT counts the write in the area and in the context's
control state (R79, R181, R182). -/
def writeSave (c : Cmd) (a : SaveArea) (v : Option KeyVal) (s : State) : State :=
  match cmdCtx c with
  | none => s
  | some i => modSess i (fun x =>
      { x with save := sealSave s.ks.ctxKey i x v { a with saveCount := x.saveCount + 1 }, saveCount := x.saveCount + 1 }) s

/-- Whether the save area of context `i` can be restored: its SAVE_COUNT is that of the control state, and a wrapped one has a good tag
(R182). -/
def restoreOk (s : State) (i : Nat) : Bool :=
  let x := getSess s i
  let a := x.save
  a.saveCount == x.saveCount &&
  (a.wrapped != some true || (gcmOpen (ctxkOf s.ks.ctxKey x.part) (saveNonce i a) (saveAad i x.partGen a) a.state a.tag).isSome)

/-- The save area the command's first item started from: its stream's, or an empty one. Before that item it is the session's as it stands
(R177, R181). -/
def baseOf (s : State) (c : Cmd) : SaveArea := c.base.getD (if stream23 (reqOf c) then saveOf s c else saveReset)

/-- R177 step 2, at a stream command's first item: END_CAUSE when the saved state disagrees, in the order of the comparisons. -/
def streamCause (s : State) (c : Cmd) (group modeAlg : Nat) (off : Nat) : Option Nat :=
  let x := reqOf c
  let a := saveOf s c
  if !stream23 x then none
  else if a.wrapped.isNone then some 4
  else if a.group.toNat != group || a.modeAlg.toNat != modeAlg || a.key != x.key 0 then some 7
  else if a.offset != off then some 3
  else if a.key != 0 && a.keyVersion != loadVersion c a.key then some 5
  else none

/-- Bytes of the items that ended and were committed, from the first on. -/
def committed (c : Cmd) : Nat :=
  ((c.items.takeWhile (fun it => it.state == .ended && it.fail.isNone)).map (fun it => it.bytes)).sum

/-! ## SYM_ENCRYPT and SYM_DECRYPT (R172, R173, R175) -/

def symMode (x : Req) : Nat := x.pay 4 1
def symAadLen (x : Req) : Nat := x.pay 8 4
def symData (x : Req) : Bytes := x.payload.drop 64
def symIv (x : Req) : Bytes := bsub x.payload 0x20 16
def ff1Radix (x : Req) : Nat := x.pay 0x20 4
def ff1N (x : Req) : Nat := x.pay 0x24 2
def ff1TweakLen (x : Req) : Nat := x.pay 0x26 1
def ff1Tweak (x : Req) : Bytes := bsub x.payload 0x28 (ff1TweakLen x)

/-- Text bytes of a command: its data less GCM's additional data. -/
def symText (x : Req) : Bytes := if symMode x = 7 then (symData x).drop (symAadLen x) else symData x

/-- The block the data must be a multiple of: whole blocks for ECB and CBC always, for every mode in a non-final stream
command (R168). -/
def symBlockOk (alg : BitVec 8) (x : Req) : Bool :=
  let n := if symMode x = 3 then 1 else blkSize alg
  let must := symMode x == 1 || symMode x == 2 || x.pay 5 1 == 1 || x.pay 5 1 == 2
  symMode x == 8 || !must || (symText x).length % n == 0

def symLength (s : State) (x : Req) : Bool :=
  let n := x.len - 64
  decide (64 ≤ x.len) && decide (n ≤ 8388480) &&
  (n != 0 || (symMode x == 7 && (x.pay 5 1 == 0 || x.pay 5 1 == 3))) &&
  (symMode x != 7 || decide (x.pay 0x10 8 + (symText x).length ≤ 2 ^ 36 - 32)) &&
  (symMode x != 8 || (dataFrags 64 x.frags).all (fun k => k % (2 * ff1N x) == 0)) &&
  (match attrFor s x.part (x.key 0) with | none => true | some a => symBlockOk a.alg x)

/-- Order 3 of R460 for the two commands. AAD_LEN above the data carried is refused here with POLICY_DENIED, and not at check 7 with
LENGTH_MISMATCH; R173 does not say which. DESIGN CHOICE, log entry 112. -/
def symOwn (enc : Bool) (_ : State) (x : Req) : Option Status :=
  let m := symMode x
  let st := x.pay 5 1
  let gcm := m == 7
  let iv := symIv x
  let pd (b : Bool) := need b stPolicyDenied
  firstFail
    [ pd (x.pay 7 1 == 0 && x.pay 0x0C 4 == 0 && x.pay 0x18 8 == 0),
      pd (decide (1 ≤ m) && decide (m ≤ 8)),
      pd (streamOk x),
      pd (if gcm then decide (12 ≤ x.pay 6 1) && decide (x.pay 6 1 ≤ 16) else x.pay 6 1 == 0),
      pd (if gcm && (st == 0 || st == 1) then decide (symAadLen x ≤ (symData x).length) else symAadLen x == 0),
      pd (stream23 x || x.pay 0x10 8 == 0),
      pd (!stream23 x || allZero iv),
      pd (m != 1 || allZero iv),
      pd (!gcm || allZero (iv.drop 12)),
      pd (!(gcm && enc) || allZero iv),
      pd (!(gcm && !enc) || !allZero (iv.take 12)),
      pd (!(gcm && !enc) || st == 0),
      pd (if gcm && !enc then allZero ((bsub x.payload 0x30 16).drop (x.pay 6 1)) else allZero (bsub x.payload 0x30 16)),
      pd (m != 8 || (st == 0 && decide (2 ≤ ff1Radix x) && decide (ff1Radix x ≤ 65536) && decide (2 ≤ ff1N x) &&
          decide (ff1N x ≤ 56) && decide (1000000 ≤ ff1Radix x ^ ff1N x) && decide (ff1TweakLen x ≤ 8) && x.pay 0x27 1 == 0 &&
          allZero (bsub x.payload (0x28 + ff1TweakLen x) (8 - ff1TweakLen x)))),
      need (m != 8 || (symsOf (symData x)).all (fun k => decide (k < ff1Radix x))) stInputNotReduced ]

def symUsage (enc : Bool) (x : Req) : BitVec 32 := if symMode x = 8 then uFpe else if enc then uEncrypt else uDecrypt

/-- The IV field beyond the IV is zero: with a TDES key the IV is its first 8 bytes (R173). -/
def symIvFits (alg : BitVec 8) (x : Req) : Bool := !(isTdes alg && decide (2 ≤ symMode x) && decide (symMode x ≤ 6)) || allZero ((symIv x).drop 8)

/-- ALG and usage of the key for the mode (R166). -/
def symKeyChk (enc : Bool) (x : Req) (a : Attr) : Option Status :=
  firstFail
    [ usageCheck (symUsage enc x) a,
      need (if decide (7 ≤ symMode x) then isAes a.alg else isAes a.alg || isTdes a.alg) stKeyUsage,
      need (symIvFits a.alg x) stPolicyDenied,
      need (symBlockOk a.alg x) stLength ]

def specSym (enc : Bool) : OpSpec :=
  { length := symLength
    maxReply := fun _ x => 64 + (x.len - 64)
    own := symOwn enc
    keys := fun _ x => [x.key 0]
    attrs := fun s x => attrCheck s x.part (x.key 0) (symKeyChk enc x)
    draws := fun _ x => enc && symMode x == 7 && decide (x.pay 5 1 ≤ 1)
    items := fun _ x => streamItems 64 (symUsage enc x) true x
    transient := fun _ x => x.pay 5 1 == 0 && x.handle == 0 && decide (1 < (streamItems 64 0 true x).length) }

/-- The reply header of group 0x04 (R176). -/
def symHeader (doneN off cause : Nat) (iv tag : Bytes) : Bytes :=
  toLe 8 doneN ++ toLe 8 off ++ toLe 4 cause ++ zeros 12 ++ padTo 16 iv ++ padTo 16 tag

/-- The state a stream command works from: IV, additional data and text so far (R177, R181). -/
structure StreamIn where
  iv   : Bytes
  aad  : Bytes
  prev : Bytes

/-- The IV GCM encryption draws: the first 12 bytes of the draw stream, taken 12 at a time, that are not all zero (R167, R180, R218).
Beyond the first 65,536 bytes the stream is an open value, of which it is known only that the IV is not zero. -/
def drawnIv (c : Cmd) : Bytes :=
  match ((List.range 5461).find? (fun i => !allZero (drawn c (12 * i) 12))) with
  | some i => drawn c (12 * i) 12
  | none => toLe 12 (1 + Config.laterIv (match c.draw with | .seed b => b | _ => []) % (2 ^ 96 - 1))

def symIn (s : State) (enc : Bool) (c : Cmd) : StreamIn :=
  let x := reqOf c
  if stream23 x then let a := baseOf s c; { iv := a.iv, aad := a.aad, prev := a.absorbed }
  else
    { iv := if symMode x = 7 && enc then drawnIv c else symIv x,
      aad := if symMode x = 7 then (symData x).take (symAadLen x) else [], prev := [] }

/-- The bytes of a stream of `n` whose output can be given: whole blocks in ECB and CBC, which hold a partial block back (R168, R181). -/
def wholeLen (alg : BitVec 8) (x : Req) (n : Nat) : Nat := if symMode x = 1 || symMode x = 2 then n - n % blkSize alg else n

/-- The output of `text` after what the stream has processed. -/
def symOut (enc : Bool) (x : Req) (v : KeyVal) (i : StreamIn) (text : Bytes) : Bytes :=
  if symMode x = 8 then
    ((chunks (2 * ff1N x) text).map (fun b => symBytes (ff1Value enc v.material (ff1Radix x) (ff1Tweak x) (symsOf b)))).flatten
  else
    let all := i.prev ++ text
    (modeRun (symMode x) enc v.attr.alg v.material i.iv (all.take (wholeLen v.attr.alg x all.length))).drop (wholeLen v.attr.alg x i.prev.length)

/-- Data of a command through its first `n` bytes: the additional data among them, and the text (R173). -/
def symSplit (x : Req) (n : Nat) : Nat × Bytes :=
  let k := if symMode x = 7 && !stream23 x then symAadLen x else 0
  (min n k, ((symData x).drop k).take (n - k))

/-- The save area after the first `n` data bytes of the command (R181). -/
def symSave (s : State) (enc : Bool) (c : Cmd) (alg : BitVec 8) (n : Nat) : SaveArea :=
  let x := reqOf c
  let i := symIn s enc c
  let (k, text) := symSplit x n
  let total := i.prev.length + text.length
  { wrapped := some true, group := 4, modeAlg := BitVec.ofNat 8 (symMode x), key := x.key 0, keyVersion := loadVersion c (x.key 0),
    tagLen := BitVec.ofNat 8 (x.pay 6 1), partLen := if symMode x = 3 || symMode x = 6 then 0 else total % blkSize alg, offset := total,
    saveCount := 0, state := [], tag := [], absorbed := i.prev ++ text, aad := if stream23 x then i.aad else i.aad.take k, iv := i.iv }

/-- The stream a command leaves on its session when it ends: STREAM 0 none, STREAM 3 none when it ended OK or with VERIFY_FAILED, any other
as its last committed item left it (R177). -/
def streamAfter (c : Cmd) (st : Status) (s : State) : State :=
  let m := (reqOf c).pay 5 1
  if m = 0 || (m = 3 && (st = stOk || st = stVerifyFailed)) then closeStream c s else s

def runSym (enc : Bool) : Effect := fun c s =>
  let x := reqOf c
  let i := symIn s enc c
  withKey s c (x.key 0) (symKeyChk enc x) (symHeader 0 i.prev.length 0 [] []) fun v =>
    let st := x.pay 5 1
    let text := symText x
    let out := symOut enc x v i text
    let off := i.prev.length + text.length
    let s1 := streamAfter c stOk s
    if symMode x = 7 then
      if enc then
        let all := if i.prev.isEmpty then out else modeRun 7 true v.attr.alg v.material i.iv (i.prev ++ text)
        let tag := if st = 0 || st = 3 then (gcmTag v.material i.iv i.aad all).take (x.pay 6 1) else []
        ends s1 stOk (symHeader text.length off 0 (if st ≤ 1 then i.iv else []) tag ++ out)
      else
        let tag := bsub x.payload 0x30 (x.pay 6 1)
        if (gcmTag v.material i.iv i.aad text).take (x.pay 6 1) = tag then ends s1 stOk (symHeader text.length off 0 [] [] ++ out)
        else ends s1 stVerifyFailed (symHeader text.length off 0 [] [])
    else ends s1 stOk (symHeader text.length off 0 [] [] ++ out)

/-- A symmetric command that ends without its whole effect: the committed items stand, with their output when it ends with
ABORTED, and the stream stays open after them (R161, R176, R185). -/
def failSym (enc : Bool) : OnFail := fun c st s =>
  let x := reqOf c
  let i := symIn s enc c
  let (k, text) := symSplit x (committed c)
  let cause := if st = stAborted then c.abort.getD 0 else 0
  let off := i.prev.length + text.length
  match loadKey s c (x.key 0) with
  | none => (streamAfter c st s, symHeader text.length off cause [] [])
  | some v =>
    let out := if st = stAborted && !(symMode x = 7 && !enc) then symOut enc x v i text else []
    let iv := if symMode x = 7 && enc && decide (x.pay 5 1 ≤ 1) && decide (0 < k + text.length) then i.iv else []
    (streamAfter c st s, symHeader text.length off cause iv [] ++ out)

/-! ## DIGEST, DIGEST_VERIFY, MAC_GENERATE and MAC_VERIFY (R169, R174) -/

def macAlg (x : Req) : Nat := x.pay 4 1
def macData (x : Req) : Bytes := x.payload.drop 96
def macExpected (x : Req) : Bytes := bsub x.payload 0x10 64
def isHmacCode (k : Nat) : Bool := (decide (0x21 ≤ k) && decide (k ≤ 0x25)) || (decide (0x31 ≤ k) && decide (k ≤ 0x33))

def macLength (_ : State) (x : Req) : Bool := decide (96 ≤ x.len) && decide (x.len ≤ 96 + 8388512)

/-- The digest code an HMAC code uses: ALG - 0x20 (R169). -/
def hmacDigest (code : Nat) : Nat := code - 0x20

def digOwn (keyed verify : Bool) (_ : State) (x : Req) : Option Status :=
  let st := x.pay 5 1
  let k := macAlg x
  let full := if keyed then (if k = 0x40 then 16 else digestLen (hmacDigest k)) else digestLen k
  let n := if x.pay 6 1 = 0 then full else x.pay 6 1
  let pd (b : Bool) := need b stPolicyDenied
  firstFail
    [ pd (x.pay 7 1 == 0 && allZero (bsub x.payload 0x50 16)),
      pd (if keyed then isHmacCode k || k == 0x40 else digestCode k),
      pd (streamOk x),
      pd (if keyed then x.pay 6 1 == 0 || (decide ((if k = 0x40 then 8 else 10) ≤ x.pay 6 1) && decide (x.pay 6 1 ≤ full))
          else x.pay 6 1 == 0),
      pd (stream23 x || x.pay 8 8 == 0),
      pd (if verify && (st == 0 || st == 3) then allZero ((macExpected x).drop n) else allZero (macExpected x)),
      need (keyed || x.key 0 == 0) stKeyUsage ]

def macUsage (verify : Bool) : BitVec 32 := if verify then uMacVerify else uMacGen

/-- ALG and usage of a MAC key (R169). -/
def macKeyChk (verify : Bool) (x : Req) (a : Attr) : Option Status :=
  firstFail
    [ usageCheck (macUsage verify) a,
      need (if macAlg x = 0x40 then isAes a.alg || isTdes a.alg else isHmac a.alg) stKeyUsage,
      need (macAlg x != 0x40 || x.pay 6 1 == 0 || decide (x.pay 6 1 ≤ blkSize a.alg)) stPolicyDenied,
      need (!(verify && macAlg x == 0x40 && x.pay 6 1 == 0 && (x.pay 5 1 == 0 || x.pay 5 1 == 3)) ||
            allZero ((macExpected x).drop (blkSize a.alg))) stPolicyDenied ]

def specDig (keyed verify : Bool) : OpSpec :=
  { length := macLength
    maxReply := fun _ _ => 96
    own := digOwn keyed verify
    keys := fun _ x => if keyed then [x.key 0] else []
    attrs := fun s x => if keyed then attrCheck s x.part (x.key 0) (macKeyChk verify x) else none
    items := fun _ x => streamItems 96 (macUsage verify) keyed x
    transient := fun _ x => x.pay 5 1 == 0 && x.handle == 0 && decide (1 < (streamItems 96 0 keyed x).length) }

/-- The reply of group 0x05 (R176). -/
def macReply (doneN off cause : Nat) (result : Bytes) : Bytes :=
  toLe 8 doneN ++ toLe 8 off ++ toLe 4 cause ++ zeros 12 ++ padTo 64 result

/-- The value a digest or MAC command computes over a whole message (R169). -/
def macValue (x : Req) (v : Option KeyVal) (m : Bytes) : Bytes :=
  match v with
  | none => hashOf (macAlg x) m
  | some v =>
    let full := if macAlg x = 0x40 then cmac v.attr.alg v.material m else hmac (hmacDigest (macAlg x)) v.material m
    if x.pay 6 1 = 0 then full else full.take (x.pay 6 1)

/-- Bytes held back by a digest or MAC after `n`: what remains of its block; the Keccak state of SHA3 takes each byte at its position
within the rate (R181). -/
def macPart (x : Req) (alg : Option (BitVec 8)) (n : Nat) : Nat :=
  let code := if macAlg x < 0x20 then macAlg x else hmacDigest (macAlg x)
  if macAlg x = 0x40 then n % blkSize (alg.getD 0x10) else if 0x10 ≤ code then 0 else n % max 1 (digestBlock code)

/-- The save area after the first `n` data bytes of the command (R181). -/
def macSave (s : State) (keyed : Bool) (c : Cmd) (alg : Option (BitVec 8)) (n : Nat) : SaveArea :=
  let x := reqOf c
  let all := (if stream23 x then (baseOf s c).absorbed else []) ++ (macData x).take n
  { wrapped := some keyed, group := 5, modeAlg := BitVec.ofNat 8 (macAlg x), key := x.key 0,
    keyVersion := if keyed then loadVersion c (x.key 0) else 0, tagLen := 0, partLen := macPart x alg all.length, offset := all.length,
    saveCount := 0, state := [], tag := [], absorbed := all, aad := [], iv := [] }

/-- A digest or MAC over the data of a stream, with its key when it has one (R177, R178). -/
def runMacWith (verify : Bool) (c : Cmd) (v : Option KeyVal) (s : State) : State × Option (Status × Bytes) :=
  let x := reqOf c
  let st := x.pay 5 1
  let prev := if stream23 x then (baseOf s c).absorbed else []
  let all := prev ++ macData x
  let n := (macData x).length
  let s1 := streamAfter c stOk s
  if st = 1 || st = 2 then ends s1 stOk (macReply n all.length 0 [])
  else
    let m := macValue x v all
    if verify then
      if m = (macExpected x).take m.length then ends s1 stOk (macReply n all.length 0 [])
      else ends s1 stVerifyFailed (macReply n all.length 0 [])
    else ends s1 stOk (macReply n all.length 0 m)

def runDig (keyed verify : Bool) : Effect := fun c s =>
  let x := reqOf c
  if keyed then
    withKey s c (x.key 0) (macKeyChk verify x) (macReply 0 (baseOf s c).offset 0 []) (fun v => runMacWith verify c (some v) s)
  else runMacWith verify c none s

/-- A digest or MAC command that ends without its whole effect (R161, R176, R185). -/
def failDig : OnFail := fun c st s =>
  let x := reqOf c
  let n := committed c
  let prev := if stream23 x then (baseOf s c).offset else 0
  (streamAfter c st s, macReply n (prev + min n (macData x).length) (if st = stAborted then c.abort.getD 0 else 0) [])

/-! ## The save area at the end of an item (R79) -/

/-- The save area of a command's stream after the items up to item `i`. -/
def saveAfter (s : State) (c : Cmd) (v : Option KeyVal) (i : Nat) : SaveArea :=
  let n := ((c.items.take (i + 1)).map (fun it => it.bytes)).sum
  let alg := v.map (fun v => v.attr.alg)
  match c.opcode.toNat with
  | 0x0401 => symSave s true c (alg.getD 0x10) n
  | 0x0402 => symSave s false c (alg.getD 0x10) n
  | 0x0501 => macSave s false c alg n
  | 0x0502 => macSave s false c alg n
  | _ => macSave s true c alg n

/-- R177 step 2 for a command of group 0x04 or 0x05. -/
def streamVerdict (s : State) (c : Cmd) : Option Nat :=
  let x := reqOf c
  if c.opcode.toNat / 256 == 4 then streamCause s c 4 (symMode x) (x.pay 0x10 8) else streamCause s c 5 (macAlg x) (x.pay 8 8)

/-- The first item of a stream command starts: STREAM 0 or 1 discards the session's open stream, STREAM 2 or 3 goes on from it (R177). -/
def startStream (c : Cmd) (s : State) : State :=
  if stream23 (reqOf c) then let a := saveOf s c; modCmd c.ref (fun c => { c with base := some a }) s
  else modCmd c.ref (fun c => { c with base := some saveReset }) (closeStream c s)

/-- The comparisons of R177 failed with END_CAUSE `k`: the command ends with ABORTED, nothing processed, and cause 5 closes the stream. -/
def refuseStream (k : Nat) (c : Cmd) (s : State) : State :=
  let a := saveOf s c
  cutCmd c.ref stAborted k true (modCmd c.ref (fun c => { c with base := some a }) (if k = 5 then closeStream c s else s))

/-! ## The rows -/

/-- SYM_ENCRYPT (R172, R173, R176, R180). -/
def execSymEncrypt (r : CmdRef) (s : State) : Res := runAccepted 0x0401 (runSym true) (failSym true) r s
/-- SYM_DECRYPT (R172, R173, R178). -/
def execSymDecrypt (r : CmdRef) (s : State) : Res := runAccepted 0x0402 (runSym false) (failSym false) r s
/-- DIGEST (R169, R174). -/
def execDigest (r : CmdRef) (s : State) : Res := runAccepted 0x0501 (runDig false false) failDig r s
/-- DIGEST_VERIFY (R171, R174, R178). -/
def execDigestVerify (r : CmdRef) (s : State) : Res := runAccepted 0x0502 (runDig false true) failDig r s
/-- MAC_GENERATE (R169, R174). -/
def execMacGenerate (r : CmdRef) (s : State) : Res := runAccepted 0x0503 (runDig true false) failDig r s
/-- MAC_VERIFY (R171, R174, R178). -/
def execMacVerify (r : CmdRef) (s : State) : Res := runAccepted 0x0504 (runDig true true) failDig r s

end Sys2Proof.Machine
end

