-- ==== Sys2Proof/Machine/Prism.lean ====
section
/-! DEFINITION. Prism: readiness, the choice of the next item, key loads, the end of an item, and credit (R70 to R79, R101, R133,
R138, R160, R161, R190, R191, R198, R199). -/

namespace Sys2Proof.Machine

/-! ## Readiness (R70) -/

/-- The end of item `i` decrements the count of each of its successors. -/
def releaseSucc (r : CmdRef) (i : Nat) (s : State) : State :=
  stampReady r (modCmd r (fun c =>
    match c.items[i]? with
    | none => c
    | some it => { c with items := it.succ.foldl (fun l k => l.modify k (fun x => { x with preds := x.preds - 1 })) c.items }) s)

/-! ## Order (R47, R74, R218) -/

/-- No command accepted earlier on the same ring is left, when the header asks for a fence (R47). -/
def fenceOk (s : State) (c : Cmd) : Bool := !c.fence || s.prism.cmds.all (fun d => !(d.ring == c.ring && decide (d.order < c.order)))

/-- Item `i` is first in its flow: every earlier command of the flow has its result, and every earlier item has ended (R74). -/
def firstInFlow (s : State) (c : Cmd) (i : Nat) : Bool :=
  flowTurn s c && (c.items.take i).all (fun it => it.state == .ended || it.state == .cancelled)

/-- Item `i` may be dispatched now, units apart: of a command that has been cut short only an item put back from service waits, and it
runs (R77, R161). An update item of a vault command waits for its turn (R254). A forwarded vault command is held while the vault is rebuilt (R432). -/
def mayStart (s : State) (c : Cmd) (i : Nat) (it : Item) : Bool :=
  itemReady it && vaultItemTurn s c i && !(c.fromMirror && c.opcode.toNat / 256 == 0x11 && s.flt.rebuilding.isSome) && c.result.isNone && c.spilled.isNone && c.draw != .waiting && !drawFailed c && fenceOk s c &&
  firstInFlow s c i

/-! ## Engine shares (R190, R191) -/

/-- The datapath share an operation takes. -/
inductive EngineShare where
  | small | wide | whole | lattice
  deriving DecidableEq, Repr

def shareOfAlg (alg bitsN : Nat) (priv : Bool) : EngineShare :=
  match alg with
  | 0x40 => .small | 0x48 => .small
  | 0x41 => .wide | 0x42 => .wide | 0x49 => .wide
  | 0x30 => if !priv && decide (bitsN ≤ 1024) then .wide else .whole
  | _ => .lattice

/-- Engine items of the command before item `i`. -/
def engineRank (c : Cmd) (i : Nat) : Nat := ((c.items.take i).filter (fun it => it.kind == .engine)).length

/-- ALG, strength and whether the operation is private, for engine item `i`. -/
def engineWork (s : State) (c : Cmd) (i : Nat) : Nat × Nat × Bool :=
  let x := reqOf c
  let keyed (off : Nat) : Nat × Nat × Bool :=
    match loadKey s c (x.key off) with
    | some v => (v.attr.alg.toNat, v.attr.bits.toNat, true)
    | none => (0, 0, true)
  match c.opcode.toNat with
  | 0x0601 => if engineRank c i = 0 then keyed 0 else keyed 4
  | 0x0602 => if engineRank c i = 0 then (pkAlg x, rsaBitsOfPub (pkLenA x), false) else (pkAlg2 x, 0, false)
  | 0x0603 => keyed 0
  | 0x0604 => (pkAlg x, 0, false)
  | 0x0605 => keyed 0
  | 0x0606 => (0x30, rsaBitsOfPub (pkLenA x), false)
  | 0x0607 => keyed 0
  | 0x0608 => keyed 0
  | 0x0301 => ((genAttr x).alg.toNat, (genAttr x).bits.toNat, true)
  | 0x0311 => (0x30, ((loadKey s c (x.key 4)).map (fun v => v.attr.bits.toNat)).getD 2048, true)
  | 0x0312 => (0x30, ((loadKey s c (x.key 0)).map (fun v => v.attr.bits.toNat)).getD 2048, true)
  | 0x0C11 => if x.len == 112 then (0x41, 384, false) else (0x51, 0, false)
  | _ => (0x52, 0, true)

def engineShare (s : State) (c : Cmd) (i : Nat) : EngineShare := let (a, b, p) := engineWork s c i; shareOfAlg a b p

/-- Lanes in use on an engine. -/
def lanesBusy (e : Engine) : BitVec 16 := e.busy.foldl (fun m b => m ||| b.lanes) 0

/-- The lowest free 256-bit lane of quarter `q`. -/
def freeLane (m : BitVec 16) (q : Nat) : Option Nat := ((List.range 4).map (4 * q + ·)).find? (fun l => !bit m.toNat l)

/-- Quarters of which every lane is free. -/
def freeQuarters (m : BitVec 16) : List Nat := (List.range 4).filter (fun q => m.toNat / 16 ^ q % 16 == 0)

/-- The lanes an item of this share would take, when they are free. -/
def lanesFor (m : BitVec 16) : EngineShare → Option (BitVec 16)
  | .small =>
    match (List.range 4).filterMap (freeLane m) with
    | a :: b :: _ => some (1#16 <<< a ||| 1#16 <<< b)
    | _ => none
  | .wide =>
    match freeQuarters m with
    | a :: b :: _ => some (0xF#16 <<< (4 * a) ||| 0xF#16 <<< (4 * b))
    | _ => none
  | .whole => if m = 0 then some 0xFFFF else none
  | .lattice => if m = 0 then some 0xFFFF else none

def needsWhole (h : EngineShare) : Bool := h == .whole || h == .lattice

/-- The reservation of an engine that still stands: its item waits (R191). -/
def liveReserve (s : State) (e : Engine) : Option (CmdRef × Nat) :=
  match e.reserved with
  | none => none
  | some (r, i) =>
    match (findCmd s r).bind (fun c => c.items[i]?) with
    | none => none
    | some it => if it.state == .waiting then some (r, i) else none

/-- The lanes engine `n` gives item `i` now. -/
def engineLanes (s : State) (n : Nat) (c : Cmd) (i : Nat) : Option (BitVec 16) :=
  let e := getEngine s n
  if e.nttBusy then none
  else match liveReserve s e with
    | some w => if w = (c.ref, i) then lanesFor (lanesBusy e) (engineShare s c i) else none
    | none => lanesFor (lanesBusy e) (engineShare s c i)

/-! ## Units an item may go to (R75, R76, R161, R199) -/

def lastIndexOf (l : List UnitId) (u : UnitId) : Nat := (l.zipIdx.filter (fun e => e.1 == u)).foldl (fun _ e => e.2 + 1) 0

/-- A retry goes to a unit that has not failed the item; when every serving unit has, to the one that failed it longest ago. -/
def retryUnit (s : State) (it : Item) (u : UnitId) : Bool :=
  if it.failedOn.isEmpty then true
  else
    let serving := (allUnits it.kind).filter (unitServes s)
    if serving.any (fun v => !it.failedOn.contains v) then !it.failedOn.contains u
    else serving.all (fun v => decide (lastIndexOf it.failedOn u ≤ lastIndexOf it.failedOn v))

def longItem (it : Item) : Bool := it.kind == .facet && decide (4096 < it.bytes)

/-- Facets that hold long items. -/
def longBusy (s : State) : Nat :=
  s.prism.cmds.foldl (fun n c => n + (c.items.filter (fun it =>
    longItem it && (match it.state with | .inService _ => true | _ => false))).length) 0

/-- Unit `u` has room for item `i`. An engine's two key registers hold the keys of all its lane items: an item whose keys find no
register free waits. DEDUCED from R134 and R190, log entry 113. -/
def unitRoom (s : State) (u : UnitId) (c : Cmd) (i : Nat) (it : Item) : Bool :=
  match u with
  | .engine n =>
    let k := (getEngine s n.val).keyRegs.length
    (engineLanes s n.val c i).isSome && (k == 0 || decide (k + it.loads.length ≤ 2))
  | .facet _ => (itemOn s u).isNone && (!longItem it || decide (longBusy s < 32))
  | .core _ => (itemOn s u).isNone

/-! ## The choice (R75, R101) -/

def affine (s : State) (f : Flow) (u : UnitId) : Bool := s.prism.affinity.contains (f, u)

/-- Ready for 2 µs or longer. -/
def agedNow (s : State) (it : Item) : Bool := it.aged || (match it.readyNs with | none => false | some t => decide (t + 2000 ≤ s.clk.ns))

/-- Held for a serving unit other than `u`. -/
def heldElse (s : State) (c : Cmd) (it : Item) (u : UnitId) : Bool :=
  (match it.readyNs with | none => false | some t => !it.unheld && decide (s.clk.ns < t + 400)) &&
  s.prism.affinity.any (fun a => a.1 == c.flow && unitKind a.2 == it.kind && a.2 != u && unitServes s a.2)

/-- An item that might be chosen. -/
structure Candidate where
  cmd  : Cmd
  idx  : Nat
  item : Item

def readyAt (x : Candidate) : Nat := x.item.readyNs.getD 0

/-- The oldest candidate of a list, the first of equals. -/
def oldest : List Candidate → Option Candidate
  | [] => none
  | x :: r => match oldest r with
    | none => some x
    | some y => if readyAt y < readyAt x then some y else some x

/-- The items of partition `p` that unit `u` could serve now. -/
def candidates (s : State) (u : UnitId) (p : Nat) : List Candidate :=
  ((s.prism.cmds.filter (fun c => c.ref.part == p)).map (fun c =>
    (c.items.zipIdx.filter (fun e => e.1.kind == unitKind u && mayStart s c e.2 e.1 && retryUnit s e.1 u && unitRoom s u c e.2 e.1)).map
      (fun e => { cmd := c, idx := e.2, item := e.1 }))).flatten

/-- Rules 1 to 3 of R75: the item, and whether rule 1 took it. -/
def pick (s : State) (u : UnitId) (p : Nat) : Option (Candidate × Bool) :=
  let l := candidates s u p
  match oldest (l.filter (fun x => agedNow s x.item)) with
  | some x => some (x, true)
  | none => match oldest (l.filter (fun x => affine s x.cmd.flow u)) with
    | some x => some (x, false)
    | none => (oldest (l.filter (fun x => !heldElse s x.cmd x.item u))).map (fun x => (x, false))

def creditKey (k : UnitKind) (p : Nat) : Nat := kindNum k * 256 + p
def credit (s : State) (k : UnitKind) (p : Nat) : Int := s.prism.credit.at (creditKey k p) 0
def setCredit (k : UnitKind) (p : Nat) (v : Int) (s : State) : State :=
  { s with prism := { s.prism with credit := s.prism.credit.put (creditKey k p) v } }

/-- Partitions in the order after the one last chosen for the kind (R101). Where none has been chosen yet, after a start, partition 0 comes
first: R101 is silent. DESIGN CHOICE, log entry 114. -/
def partOrder (s : State) (k : UnitKind) : List Nat :=
  let n := pDiv s
  let c := s.prism.chosen.at (kindNum k) (n - 1)
  (List.range n).map (fun i => (c + 1 + i) % n)

/-- The partition and item unit `u` takes. -/
def choose (s : State) (u : UnitId) : Option (Candidate × Bool) :=
  ((partOrder s (unitKind u)).filter (fun p => decide (0 < credit s (unitKind u) p))).findSome? (pick s u)

/-! ## Dispatch (R75, R79, R134, R193 to R197) -/

/-- Items that carry chaining state (R78, R181): those of groups 0x04 and 0x05, but FF1, which has none. -/
def chains (c : Cmd) (it : Item) : Bool :=
  it.kind == .facet && (decide (0x0401 ≤ c.opcode.toNat) && decide (c.opcode.toNat ≤ 0x05FF)) &&
  !(c.opcode.toNat / 256 == 4 && symMode (reqOf c) == 8)

/-- The key registers an item's loads fill: each key recombined from its two shares (R131, R134). -/
def regsOf (r : CmdRef) (i : Nat) (it : Item) : List KeyReg :=
  it.loads.map (fun l => { cmd := r, item := i, reg := l.reg, source := l.source, version := l.version, alg := l.alg, usage := l.keyUsage,
                           material := bxor l.share l.mask })

/-- Randomisations of one computation from 2,048 bytes of the engine's mask stream (R196, R197). -/
def blindOf (alg : Nat) (b : Bytes) : Blind :=
  if alg = 0x30 then
    .rsa (BitVec.ofNat 64 (fld b 0 8)) (BitVec.ofNat 64 (fld b 8 8)) (bsub b 16 1024) (BitVec.ofNat 32 (fld b 1040 4))
  else if alg < 0x50 then .curve (BitVec.ofNat 64 (fld b 0 8)) (bsub b 8 66) (BitVec.ofNat 32 (fld b 74 4))
  else .lattice (bsub b 0 1024) (bsub b 1024 1024)

/-- A coefficient as two arithmetic shares modulo q, the first of them random (R196). -/
def twoShares (q : Nat) (c : Nat) (r : Byte) : Nat × Nat := (r.toNat % q, (c + q - r.toNat % q) % q)

/-- What a computation holds of a private key under its randomisations (R125, R196): the blinded exponents of RSA, the blinded scalar of a
curve, the two shares of each secret coefficient of a lattice. -/
def heldSecret (alg : Nat) (m : Bytes) : Blind → Bytes
  | .rsa r1 r2 _ _ =>
    let n := (m.length - 4) / 5
    let part (k : Nat) : Nat := beNat (bsub m (k * n) n)
    toBe (n + 8) (part 2 + r1.toNat * (part 0 - 1)) ++ toBe (n + 8) (part 3 + r2.toNat * (part 1 - 1))
  | .curve r _ _ => toBe (m.length + 8) (beNat m + r.toNat * Config.groupOrder alg)
  | .lattice share _ =>
    let q := if alg < 0x58 then 8380417 else 3329
    (((Config.latticeSecret alg m).zip share).map (fun e => let (a, b) := twoShares q e.1 e.2; toLe 4 a ++ toLe 4 b)).flatten

/-- The words of operand memory that lie with a set of lanes: 256 for each lane. The place of an item's operands is the microcode's own.
DESIGN CHOICE, log entry 115. -/
def laneWord (m : BitVec 16) (a : Nat) : Bool := bit m.toNat (a / 256)

/-- Operand words of a byte string. -/
def opWords (secret : Bool) (b : Bytes) : List OpWord := (chunks 64 b).map (fun w => { data := padTo 64 w, secret := secret })

/-- Store words from address `a` on, as far as they lie with the item's lanes. -/
def storeWords (m : BitVec 16) (a : Nat) (l : List OpWord) (t : Tab OpWord) : Tab OpWord :=
  l.zipIdx.foldl (fun t e => if laneWord m (a + e.2) then t.put (a + e.2) e.1 else t) t

/-- The lowest word of a set of lanes. -/
def firstWord (m : BitVec 16) : Nat := 256 * (((List.range 16).find? (fun l => bit m.toNat l)).getD 0)

/-- An item's start in operand memory: its words are filled with zeros, which clears their tags, then its secrets enter from the key
registers in the form each computation holds them in, tagged, and its public operands from the fabric, untagged (R193, R194, R196). -/
def startMem (e : EngineItem) (alg : Nat) (regs : List KeyReg) (payload : Bytes) (t : Tab OpWord) : Tab OpWord :=
  let held (b : Option Blind) : Bytes := match b with | none => [] | some b => (regs.map (fun k => heldSecret alg k.material b)).flatten
  storeWords e.lanes (firstWord e.lanes) (opWords true (held e.first ++ held e.second) ++ opWords false payload)
    (t.filter (fun w => !laneWord e.lanes w.1))

/-- What the microcode has written when an item leaves: values computed from its words, tagged when any of those is (R194). They stay in
operand memory, and the result port copies what it releases (R195, R202). -/
def endMem (e : EngineItem) (t : Tab OpWord) : Tab OpWord :=
  let mine := t.filter (fun w => laneWord e.lanes w.1)
  let tag := mine.any (fun w => w.2.secret)
  storeWords e.lanes (firstWord e.lanes + mine.length)
    ((Config.engineWords ((mine.map (fun w => w.2.data)).flatten) 4).map (fun w => { data := padTo 64 w, secret := tag })) t

/-- Operand memory read by anyone but the engine itself: a tagged word is never read (R194). -/
def readOpWord (e : Engine) (a : Nat) : Option Bytes :=
  match e.mem.look a with
  | none => some (zeros 64)
  | some w => if w.secret then none else some w.data

/-- An engine takes an item: lanes, key registers, fresh randomisations for each of the two computations of a private operation (R196), and
operand memory. -/
def engineStart (alg : Nat) (priv lattice : Bool) (m : BitVec 16) (c : Cmd) (i : Nat) (it : Item) (e : Engine) : Engine :=
  let rnd (k : Nat) : Bytes := Config.maskStream e.mask (e.maskUsed + 2048 * k) 2048
  let x : EngineItem := { cmd := c.ref, item := i, lanes := m, first := if priv then some (blindOf alg (rnd 0)) else none,
                          second := if priv then some (blindOf alg (rnd 1)) else none }
  { e with busy := e.busy ++ [x], keyRegs := e.keyRegs ++ regsOf c.ref i it, nttBusy := lattice, reserved := none,
           maskUsed := if priv then e.maskUsed + 4096 else e.maskUsed, mem := startMem x alg (regsOf c.ref i it) c.payload e.mem }

/-- The key register that a derived key fills from its hot-set entry, for the item after the one that derived it (R231, R238, R247). -/
def derivedRegs (s : State) (c : Cmd) (i : Nat) (it : Item) : List KeyReg :=
  match hotDerived s c.ref with
  | none => []
  | some h => if i = 0 || !h.ready then [] else
    [{ cmd := c.ref, item := i, reg := it.loads.length, source := some (.hot h.part h.entry), version := 0, alg := h.alg, usage := 0,
       material := h.data }]

/-- What the unit itself records of an item it starts. A facet that changes to another flow's chaining state holds that flow's context alone,
and an item without one of another flow leaves it none (R79). -/
def unitStart (u : UnitId) (c : Cmd) (i : Nat) (it : Item) (s : State) : State :=
  match u with
  | .core _ => s
  | .facet n =>
    let s := if chains c it then
      { s with facets := s.facets.map (fun e => (e.1, { e.2 with resident := if e.2.resident == some c.flow then none else e.2.resident })) } else s
    modFacet n.val (fun f =>
      { f with keyRegs := regsOf c.ref i it ++ derivedRegs s c i it,
               resident := if chains c it then some c.flow else if f.resident == some c.flow then f.resident else none }) s
  | .engine n =>
    match engineLanes s n.val c i with
    | none => s
    | some m =>
      let (alg, _, priv) := engineWork s c i
      modEngine n.val (engineStart alg priv (engineShare s c i == .lattice) m c i it) s

/-- The flow's state is restored first: the item carries chaining state, some already stands, and the facet's resident context
is another (R79). -/
def restores (s : State) (u : UnitId) (c : Cmd) (i : Nat) (it : Item) : Bool :=
  match u with
  | .facet n => chains c it && (getFacet s n.val).resident != some c.flow && (decide (0 < i) || stream23 (reqOf c))
  | _ => false

/-- The time an item waited from ready to `t`, in 10 ns units (R83). -/
def waitField (it : Item) (t : Nat) : Nat := min ((t - it.readyNs.getD 0) / 10) 0xFFFF

def dispatch (u : UnitId) (x : Candidate) (rule1 : Bool) (s : State) : State :=
  let c := x.cmd
  let hit := affine s c.flow u
  let rest := restores s u c x.idx x.item
  let s := unitStart u c x.idx x.item s
  let s := modItem c.ref x.idx (fun it => { it with state := .inService u, startNs := s.clk.ns, marked := false, redispatch := false }) s
  let aff := s.prism.affinity.filter (fun a => !(a.1 == c.flow && unitKind a.2 == unitKind u)) ++ [(c.flow, u)]
  let s := { s with prism := { s.prism with affinity := aff, chosen := s.prism.chosen.put (kindNum (unitKind u)) c.ref.part } }
  traceRec 1 (unitByte (some u)) c.ref.part (b2n hit + 2 * b2n rest + 4 * b2n rule1 + 8 * b2n x.item.redispatch)
    (toLe 4 (flowField c.flow c.ref) ++ toLe 2 x.idx ++ toLe 2 (waitField x.item s.clk.ns)) s

/-- The context a restore reads cannot be restored (R182). -/
def restoreFails (s : State) (u : UnitId) (x : Candidate) : Bool :=
  restores s u x.cmd x.idx x.item && (saveOf s x.cmd).wrapped.isSome && !(match cmdCtx x.cmd with | none => true | some i => restoreOk s i)

/-- The command of a context that cannot be restored completes with SESSION_LOST, and its session ends (R88, R182). -/
def failRestore (c : Cmd) (s : State) : State :=
  let s := cutCmd c.ref stSessionLost 0 true s
  if c.handle = 0 then s else loseSession (handleIndex c.handle) s

/-- The unit takes the item chosen. Before the first item of a command that carries chaining state runs, its stream is compared; before any
restore, the save area is checked (R177, R182). -/
def takeItem (u : UnitId) (x : Candidate) (rule1 : Bool) (s : State) : State :=
  let c := x.cmd
  if restoreFails s u x then failRestore c s
  else if chains c x.item && c.base.isNone then
    match streamVerdict s c with
    | some k => refuseStream k c s
    | none => dispatch u x rule1 (startStream c s)
  else dispatch u x rule1 s

/-- UNIT_FREE_DISPATCH (R75, R101): a serving unit with room takes the item the rules choose, or stays idle. -/
def execUnitFreeDispatch (u : UnitId) (s : State) : Res :=
  guarded (unitServes s u) (fun s => match choose s u with | none => s | some (x, r1) => takeItem u x r1 s) s

/-- ITEM_HOLD_LAPSE (R75): 400 ns after it became ready, an item is held for no unit. -/
def execItemHoldLapse (r : CmdRef) (i : Nat) (s : State) : Res :=
  match (findCmd s r).bind (fun c => c.items[i]?) with
  | none => .next s
  | some it => guarded (it.state == .waiting && (match it.readyNs with | none => false | some t => decide (t + 400 ≤ s.clk.ns)))
      (modItem r i (fun it => { it with unheld := true })) s

/-- Nanoseconds an engine item takes in Clear (R192): by ALG, strength, and whether the operation is private. A strength between two rows of
the table counts as the one above it: DESIGN CHOICE, log entry 36. -/
def durationNs (alg bitsN : Nat) (priv : Bool) : Nat :=
  match alg with
  | 0x30 =>
    if bitsN ≤ 2048 then (if priv then 250000 else 8000)
    else if bitsN ≤ 3072 then (if priv then 1280000 else 14000)
    else if bitsN ≤ 4096 then (if priv then 2000000 else 20000)
    else (if priv then 12800000 else 80000)
  | 0x40 => if priv then 160000 else 256000
  | 0x41 => if priv then 400000 else 640000
  | 0x42 => if priv then 800000 else 1280000
  | 0x48 => if priv then 128000 else 200000
  | 0x49 => if priv then 500000 else 800000
  | 0x50 => if priv then 64000 else 25000
  | 0x51 => if priv then 100000 else 40000
  | 0x52 => if priv then 160000 else 66700
  | 0x58 => if priv then 20000 else 16000
  | 0x59 => if priv then 32000 else 25000
  | _ => if priv then 50000 else 40000

/-- When an item in service is due to end: its start and its duration, twice as long in Overcast (R192). -/
def itemDue (s : State) (r : CmdRef) (i : Nat) : Nat :=
  match findCmd s r with
  | none => 0
  | some c => match c.items[i]? with
    | none => 0
    | some it =>
      let (a, b, p) := engineWork s c i
      it.startNs + (if s.svc.phase == .overcast then 2 else 1) * durationNs a b p

/-- When the lanes of an engine are due to be free. -/
def engineFreeNs (s : State) (n : Nat) : Nat := (getEngine s n).busy.foldl (fun t b => max t (itemDue s b.cmd b.item)) 0

/-- The engine to reserve for an item that needs a whole one: the one whose lanes free earliest (R191). -/
def reserveFor (s : State) (it : Item) : Option Nat :=
  let l := (List.finRange 16).filter (fun n => unitServes s (.engine n) && (liveReserve s (getEngine s n.val)).isNone &&
                                             retryUnit s it (.engine n))
  l.foldl (fun (b : Option Nat) n => match b with
    | none => some n.val
    | some m => if engineFreeNs s n.val < engineFreeNs s m then some n.val else some m) none

/-- ITEM_READY_2US (R75, R191): rule 1 applies from now on, and an item that needs a whole engine and finds none free has one
reserved. -/
def execItemReady2us (r : CmdRef) (i : Nat) (s : State) : Res :=
  match findCmd s r with
  | none => .next s
  | some c =>
    match c.items[i]? with
    | none => .next s
    | some it => guarded (it.state == .waiting && (match it.readyNs with | none => false | some t => decide (t + 2000 ≤ s.clk.ns)))
        (fun s =>
          let s := modItem r i (fun it => { it with aged := true }) s
          if it.kind == .engine && needsWhole (engineShare s c i) && mayStart s c i it &&
             (List.finRange 16).all (fun n => !(unitServes s (.engine n)) || (engineLanes s n.val c i).isNone) &&
             !(List.range 16).any (fun n => liveReserve s (getEngine s n) == some (r, i)) then
            match reserveFor s it with
            | none => s
            | some n => modEngine n (fun e => { e with reserved := some (r, i) }) s
          else s) s

/-- CREDIT_TICK (R101): A_k is added to every credit, capped at 50 A_k. -/
def execCreditTick (s : State) : Res :=
  let add (k : UnitKind) (s : State) : State :=
    let a : Int := servingCount s k * 256000 / pDiv s
    (partNums s).foldl (fun s p => setCredit k p (min (credit s k p + a) (50 * a)) s) s
  .next (add .engine (add .facet (add .core s)))

/-- An item ends with a failure status: the command's waiting items are cancelled (R72). -/
def failItem (r : CmdRef) (i : Nat) (st : Status) (s : State) : State :=
  let s := modItem r i (fun it => { it with state := .ended, fail := some st }) s
  match findCmd s r with
  | none => s
  | some c => releaseKeys r (modCmd r (fun c => { c with items := cancelItems c }) (traceCancels c s))

/-! ## The end of an item -/

/-- Set bits of a 16-lane mask. -/
def laneCount (m : BitVec 16) : Nat := ((List.range 16).filter (fun l => bit m.toNat l)).length

/-- The sixteenths of its unit an item held. -/
def heldShare (s : State) (u : UnitId) (r : CmdRef) (i : Nat) : Nat :=
  match u with
  | .engine n => ((getEngine s n.val).busy.filter (fun b => b.cmd == r && b.item == i)).foldl (fun t b => t + laneCount b.lanes) 0
  | _ => 16

/-- Charge an item's service time to its partition (R101, R191), in 1/256 ns. -/
def charge (u : UnitId) (r : CmdRef) (i : Nat) (it : Item) (s : State) : State :=
  let t : Int := (s.clk.ns - it.startNs) * 16 * heldShare s u r i
  setCredit (unitKind u) r.part (credit s (unitKind u) r.part - t) s

/-- Free the unit an item leaves; the key registers it loaded are cleared (R134). -/
def leaveUnit (u : UnitId) (r : CmdRef) (i : Nat) (s : State) : State :=
  let mine (k : KeyReg) : Bool := k.cmd == r && k.item == i
  match u with
  | .core _ => s
  | .facet n => modFacet n.val (fun f => { f with keyRegs := f.keyRegs.filter (fun k => !mine k) }) s
  | .engine n => modEngine n.val (fun e =>
      let b := e.busy.filter (fun b => !(b.cmd == r && b.item == i))
      { e with busy := b, nttBusy := e.nttBusy && !b.isEmpty, keyRegs := e.keyRegs.filter (fun k => !mine k),
               mem := (e.busy.filter (fun b => b.cmd == r && b.item == i)).foldl (fun t x => endMem x t) e.mem }) s

def itemTrace (event : Nat) (u : UnitId) (c : Cmd) (i : Nat) (it : Item) (s : State) : State :=
  traceRec event (unitByte (some u)) c.ref.part 0 (toLe 4 (flowField c.flow c.ref) ++ toLe 2 i ++ toLe 2 (waitField it it.startNs)) s

/-- The pre-computed states a facet keeps of a key it has used (R170): HMAC's inner and outer states, CMAC's subkeys, or GHASH's H with its
powers; none for any other use. KEY_PROVE uses its key in HMAC, whatever its ALG (R147). -/
def keyStates (c : Cmd) (l : KeyLoad) (m : Bytes) : Option Bytes :=
  let x := reqOf c
  let h := padTo 16 (Config.aesEnc m (zeros 16))
  let k1 (n : Nat) := gfDouble (padTo n (blkEnc l.alg m (zeros n)))
  if isHmac l.alg || c.opcode == 0x030A then
    some (padTo 128 (Config.hmacStates (if c.opcode.toNat / 256 == 5 then hmacDigest (macAlg x) else 2) m))
  else if c.opcode.toNat / 256 == 4 then (if symMode x = 7 then some (padTo 128 (h ++ Config.ghashPowers h)) else none)
  else if l.usage &&& (uMacGen ||| uMacVerify) != 0 then some (padTo 128 (k1 (blkSize l.alg) ++ gfDouble (k1 (blkSize l.alg))))
  else none

/-- One key used by a facet enters its key-state cache, least recently used out first within the partition (R170). -/
def cacheOne (n : Nat) (c : Cmd) (l : KeyLoad) (s : State) : State :=
  match keyStates c l (bxor l.share l.mask) with
  | none => s
  | some b =>
    let p := c.ref.part
    let e : KeyState := { part := p, key := l.key, phys := physical s p l.key, version := l.version, states := b }
    modFacet n (fun f =>
      let mine := e :: f.cache.filter (fun x => x.part == p && !(x.phys == e.phys && x.key == e.key && x.version == e.version))
      { f with cache := mine.take (256 / pDiv s) ++ f.cache.filter (fun x => x.part != p) }) s

/-- The first use of a key by a facet (R170). -/
def cacheState (u : UnitId) (c : Cmd) (it : Item) (s : State) : State :=
  match u with
  | .facet n => it.loads.foldl (fun s l => cacheOne n.val c l s) s
  | _ => s

/-- The first item of a command that derives a key puts it into the hot-set entry taken for it (R231, R238, R247). -/
def passDerived (c : Cmd) (i : Nat) (s : State) : State :=
  match derivedKey c, c.keys.head?.bind (fun k => loadKey s c k.1) with
  | some f, some v => if i = 0 then hotFillDerived c.ref (f v).1 (f v).2 s else s
  | _, _ => s

/-- The item's output is committed, its chaining state is written to the flow's save area, and its successors' counts fall (R70, R79,
R161). -/
def commitItem (u : UnitId) (c : Cmd) (i : Nat) (it : Item) (s : State) : State :=
  let s := passDerived c i (cacheState u c it s)
  let s := if chains c it then
      let v := c.keys.head?.bind (fun k => loadKey s c k.1)
      itemTrace 3 u c i it (writeSave c (saveAfter s c v i) v s)
    else s
  let s := itemTrace 2 u c i it s
  releaseKeys c.ref (releaseSucc c.ref i (modItem c.ref i (fun it => { it with state := .ended }) s))

/-- Put an item back for another attempt (R161, R199). -/
def retryItem (u : UnitId) (c : Cmd) (i : Nat) (it : Item) (s : State) : State :=
  itemTrace 5 u c i it (modItem c.ref i (fun it => { putBack s.clk.ns it with failedOn := it.failedOn ++ [u] }) s)

def sat8 (n : Nat) : Nat := satAdd 8 n 1

/-- A facet's end-of-item check has failed: output discarded, the fault counted, up to three retries (R160, R161). -/
def facetFail (n : Fin 48) (timer : Bool) (c : Cmd) (i : Nat) (it : Item) (s : State) : State :=
  let u := UnitId.facet n
  let again := decide (it.failedOn.length < 3)
  let s := modFacet n.val (fun f => { f with glitch := if timer then f.glitch else sat8 f.glitch, timer := if timer then sat8 f.timer else f.timer,
                                             retried := if again then sat8 f.retried else f.retried }) s
  let s := if again then retryItem u c i it s else failItem c.ref i stFault (itemTrace 2 u c i it s)
  transient (unitChannel u) s

/-- An engine's two computations disagree, or parity or its timer fired: nothing is released, one retry (R198, R199). -/
def engineFail (n : Fin 16) (parity : Bool) (c : Cmd) (i : Nat) (it : Item) (s : State) : State :=
  let u := UnitId.engine n
  let again := it.failedOn.isEmpty
  let s := modEngine n.val (fun e => { e with mismatch := if parity then e.mismatch else sat8 e.mismatch, parity := if parity then sat8 e.parity else e.parity,
                                              retried := if again then sat8 e.retried else e.retried }) s
  let s := if again then retryItem u c i it s else failItem c.ref i stFault (itemTrace 2 u c i it s)
  transient (unitChannel u) s

/-- An item that reads a poisoned line (R430): a session's context ends the session; any other line fails the item. -/
def poisonItem (line : BitVec 32) (u : UnitId) (c : Cmd) (i : Nat) (it : Item) (s : State) : State :=
  let s := itemTrace 2 u c i it (countPoison line s)
  if c.handle = 0 then failItem c.ref i stFault s
  else loseSession (handleIndex c.handle) (failItem c.ref i stSessionLost s)

/-- An end that the unit can report: a control core has none of the detectors, and a facet does not compare two computations (R160, R198). -/
def endFits (u : UnitId) (o : ItemOutcome) : Bool :=
  match o, u with
  | .checkFailed _, .core _ => false
  | .mismatch, .engine _ => true
  | .mismatch, _ => false
  | .engineParity, .engine _ => true
  | .engineParity, _ => false
  | _, _ => true

/-- How an item in service ends. -/
def endOutcome (u : UnitId) (c : Cmd) (i : Nat) (it : Item) (o : ItemOutcome) (s : State) : State :=
  match o, u with
  | .ok, .facet n => if it.marked then facetFail n false c i it s else commitItem u c i it s
  | .ok, .engine n => if it.marked then engineFail n false c i it s else commitItem u c i it s
  | .ok, .core _ => commitItem u c i it s
  | .checkFailed d, .facet n => facetFail n (d == .timer || d == .parity) c i it s
  | .checkFailed d, .engine n => engineFail n (d == .timer || d == .parity) c i it s
  | .mismatch, .engine n => engineFail n false c i it s
  | .engineParity, .engine n => engineFail n true c i it s
  | .poisoned l, _ => poisonItem l u c i it s
  | _, _ => s

/-- ITEM_END (R70, R72, R101, R134, R161, R199): the item leaves its unit and its time is charged, then its outcome counts. -/
def execItemEnd (r : CmdRef) (i : Nat) (o : ItemOutcome) (s : State) : Res :=
  match findCmd s r with
  | none => .next s
  | some c =>
    match c.items[i]? with
    | none => .next s
    | some it =>
      match it.state with
      | .inService u => .next (if endFits u o then endOutcome u c i it o (leaveUnit u r i (charge u r i it s)) else s)
      | _ => .next s

/-- An item in service is lost: its unit is free from now on and its time so far is charged (R185, R202). -/
def loseItem (r : CmdRef) (i : Nat) (s : State) : State :=
  match (findCmd s r).bind (fun c => c.items[i]?) with
  | none => s
  | some it => match it.state with
    | .inService u =>
      let s := modItem r i (fun it => { it with state := .cancelled }) (leaveUnit u r i (charge u r i it s))
      (match findCmd s r with | none => s | some c => releaseKeys r (itemTrace 8 u c i it s))
    | _ => s

/-- VERSION_ZEROISE (R142, R170): a version in a shadow entry without a reference is cleared, with its hot-set entry and the
key-state entries made from it. -/
def execVersionZeroise (p : Fin 256) (key : BitVec 32) (v : BitVec 16) (s : State) : Res :=
  guarded (holdCount s p.val key v == 0 && (s.ks.holds.any (fun h => holdMatch p.val key v h && h.shadow.isSome) ||
           (getKey s p.val key).version != v)) (fun s =>
    { s with ks := { s.ks with holds := s.ks.holds.filter (fun h => !(holdMatch p.val key v h)),
                               hot := s.ks.hot.filter (fun h => !(hotMatch p.val key v h)) },
             facets := s.facets.map (fun e => (e.1, { e.2 with cache := e.2.cache.filter (fun x => !(x.part == p.val && x.key == key && x.version == v)) })) }) s

end Sys2Proof.Machine
end

