-- ==== Sys2Proof/Machine/DeviceCmds.lean ====
section
/-! DEFINITION. Groups 0x01, 0x02 and 0x0B, and the switching of power domains (R20 to R22, R89, R283 to R288, R463). -/

namespace Sys2Proof.Machine

/-! ## Views of the state (R30, R287) -/

/-- SVC_STATUS (R30). -/
def svcStatus (s : State) : Nat :=
  phaseNum s.svc.phase + 4 * b2n s.svc.capped + 8 * b2n s.svc.calFull + 16 * b2n s.svc.memTrained + 32 * b2n (katDone s) +
  256 * servingCount s .facet + 65536 * servingCount s .engine

/-- Domains that are on. Before the module leaves Dark none but those the start needs are reported. -/
def domainsOn (s : State) : Nat := (List.range 32).foldl (fun n d => n + 2 ^ d * b2n (getDomain s d).on) 0

/-- Retired channels of a kind. -/
def retiredOf (s : State) (kind : Nat) : Nat := (s.flt.retired.filter (fun e => e.1 / 256 == kind)).length

/-- The four bytes of RETIRED. -/
def retiredBytes (s : State) : Bytes :=
  toLe 1 (retiredOf s 1) ++ toLe 1 (retiredOf s 2) ++ toLe 1 (retiredOf s 6) ++ toLe 1 (retiredOf s 4 + retiredOf s 5)

def chValue (s : State) (n : Nat) : Nat := ((s.hzn.channels.look n).map (fun m => m.value.toNat)).getD 0

/-- TEMP_MAX in eighths of a degree, as a 16-bit two's complement number (R287, R386). -/
def tempMax (s : State) : Nat := (max (max (chValue s 6) (chValue s 7)) (max (chValue s 8) (chValue s 9)) / 2 + 65536 - 512) % 65536

def statusReply (s : State) : Bytes :=
  toLe 4 (svcStatus s) ++ toLe 1 (lcReport s) ++ toLe 1 (s.pm.logP.getD 0) ++ toLe 1 (roleNum s) ++ [0] ++ unitSerial s ++
  [s.fw.rotSvn, s.fw.appSvn, 0, 0] ++ toLe 4 (domainsOn s) ++ retiredBytes s ++ zeros 4 ++ toLe 8 s.hzn.time.toNat ++
  toLe 2 (tempMax s) ++ zeros 22

def specDeviceStatus : OpSpec := { specZero8 64 with phase := .dawn, onBus := true }
def runDeviceStatus : Effect := fun _ s => ends s stOk (statusReply s)

/-! ## DEVICE_ABORT (R184, R202, R259, R284) -/

/-- The newest journal entry of a partition at (ring, sequence), and its index. -/
def jFind (s : State) (p ring : Nat) (seq : BitVec 64) : Option (Nat × JEntry) :=
  let x := getPart s p
  let age (i : Nat) : Nat := (x.jnext.toNat + 65535 - i) % 65536
  (x.journal.filter (fun e => e.2.ring.toNat == ring && e.2.seq == seq && !e.2.lost)).foldl
    (fun (b : Option (Nat × JEntry)) e => match b with
      | none => some e
      | some y => if age e.1 < age y.1 then some e else some y) none

/-- Groups that are never aborted (R284). -/
def neverAborted (op : Nat) : Bool :=
  let g := op / 256
  decide (g ≤ 3) || g == 7 || (decide (0x0B ≤ g) && decide (g ≤ 0x10))

/-- A vault command whose first update item has been dispatched (R259). -/
def pastAbort (c : Cmd) : Bool :=
  isVaultOp c.opcode && c.items.any (fun it => it.kind == .core && it.state != .waiting)

/-- The command can still be aborted: an item not yet dispatched, or an item of group 0x06 in service. -/
def abortable (c : Cmd) : Bool :=
  c.result.isNone && c.cut.isNone && !pastAbort c &&
  (c.items.any (fun it => it.state == .waiting) || (c.opcode.toNat / 256 == 6 && inService c))

/-- The boundary an abort fixes: the index of the first item not yet dispatched; for group 0x06, whose item in service stops at once,
the first item of all (R184, R202). -/
def abortIndex (c : Cmd) : Nat :=
  if c.opcode.toNat / 256 == 6 then 0 else (c.items.findIdx? (fun it => it.state == .waiting)).getD c.items.length

/-- The save area as it stood at a boundary: a standby that has run past it goes back to it (R184). -/
def rewindSave (c : Cmd) (k : Nat) (s : State) : State :=
  match c.base, c.items[k]? with
  | some a, some it => if it.state == .ended && it.kind == .facet then
      let v := c.keys.head?.bind (fun q => loadKey s c q.1)
      writeSave c (if k = 0 then a else saveAfter s c v (k - 1)) v s
    else s
  | _, _ => s

/-- Abort a command at item `k`: the items from there on are lost or cancelled, those before it run to their end and are committed (R184,
R202, R259). -/
def abortAt (r : CmdRef) (k : Nat) (s : State) : State :=
  match findCmd s r with
  | none => s
  | some c =>
    if c.cut.isSome then s
    else
      let s := rewindSave c k s
      let s := traceCancels { c with items := c.items.zipIdx.map (fun e => if e.2 < k then { e.1 with state := .ended } else e.1) } s
      let s := ((List.range c.items.length).filter (fun i => decide (k ≤ i))).foldl (fun s i => loseItem r i s) s
      releaseKeys r (modCmd r (fun c => { c with
        items := c.items.zipIdx.map (fun e => if e.2 < k then e.1 else { e.1 with state := .cancelled, fail := none })
        cut := some stAborted, abort := some 1 }) s)

/-- The command an abort request names, or the verdict where there is none to abort (R284). -/
def abortTarget (s : State) (p ring : Nat) (seq : BitVec 64) : Nat ⊕ Cmd :=
  match jFind s p ring seq with
  | none => .inl 2
  | some (i, e) =>
    if neverAborted e.opcode.toNat then .inl 3
    else if e.done then .inl 1
    else match findCmd s (refAt p i (getPart s p)) with
      | none => .inl 1
      | some c => if abortable c then .inr c else .inl 1

/-- VERDICT, the boundary, and the state after it. -/
def abortVerdict (s : State) (p ring : Nat) (seq : BitVec 64) : Nat × Nat × State :=
  match abortTarget s p ring seq with
  | .inl v => (v, 0, s)
  | .inr c => (0, abortIndex c, abortAt c.ref (abortIndex c) s)

def specDeviceAbort : OpSpec :=
  { phase := .dawn
    length := fun _ x => x.len == 16
    maxReply := fun _ _ => 4
    own := fun s x => need (allZero (bsub x.payload 2 6) && (partRings s x.part).contains (x.pay 0 2)) stPolicyDenied
    private_ := true }

/-- The active decides and sends its verdict and boundary with the request; a standby has been told them (R184, R202, R284). -/
def runDeviceAbort : Effect := fun c s =>
  match c.told with
  | some v => ends s stOk (toLe 1 v ++ zeros 3)
  | none =>
    let x := reqOf c
    let (v, k, t) := abortVerdict s c.ref.part (x.pay 0 2) (BitVec.ofNat 64 (x.pay 8 8))
    ends (if s.ilu.mirror == .active then sendPartner 0x12 (toLe 1 v ++ toLe 2 k ++ x.payload) t else t) stOk (toLe 1 v ++ zeros 3)

/-- A standby's DEVICE_ABORT waits for its active's verdict. -/
def abortTurn (s : State) (r : CmdRef) : Bool :=
  match findCmd s r with
  | none => true
  | some c => !(c.fromMirror && s.ilu.mirror == .standby && c.told.isNone)

/-! ## Domains (R20 to R22, R285, R463) -/

/-- Domains that host software may gate (R20). -/
def gateable (d : Nat) : Bool := (decide (3 ≤ d) && decide (d ≤ 21)) || d == 27 || d == 28

/-- STATE of the reply: serving, gated or retired. -/
def domainState (s : State) (d : Nat) : Nat :=
  if domainRetired s d then 2 else if (getDomain s d).on then 0 else 1

def domainReply (s : State) (d : Nat) : Bytes := toLe 1 (domainState s d) ++ zeros 3

def dmDomain (x : Req) : Nat := x.pay 0 1
def dmOn (x : Req) : Bool := x.pay 1 1 == 1

def ownDomain (s : State) (x : Req) : Option Status :=
  need (x.fn == 0 && gateable (dmDomain x) && decide (x.pay 1 1 ≤ 1) && x.pay 2 2 == 0 &&
        !(dmOn x && domainRetired s (dmDomain x))) stPolicyDenied

def specDeviceDomain : OpSpec :=
  { phase := .clear
    length := fun _ x => x.len == 4
    maxReply := fun _ _ => 4
    own := ownDomain
    flow := some .domain }

/-- The DEVICE_DOMAIN in progress for a domain. -/
def domainCmd (s : State) (d : Nat) : Option Cmd :=
  s.prism.cmds.find? (fun c => c.opcode == 0x0103 && c.started && c.result.isNone && dmDomain (reqOf c) == d)

def endDomainCmd (d : Nat) (st : Status) (s : State) : State :=
  match domainCmd s d with
  | none => s
  | some c => endCmd c.ref st (domainReply s d) s

/-- An Iluon port goes down with its domain (R398). -/
def portDown (east : Bool) (s : State) : State := dropLink east s

/-- A domain goes off for host software: its units leave every choice (R77). -/
def switchOff (d : Nat) (s : State) : State :=
  let s := modDomain d (fun x => { x with on := false, off := some .host, draining := none, testing := false, katPass := false }) s
  let s := (domainUnits d).foldl (fun s u => removeUnit u s) s
  if d = 27 then portDown false s else if d = 28 then portDown true s else s

def runDeviceDomain : Effect := fun c s =>
  let x := reqOf c
  let d := dmDomain x
  let y := getDomain s d
  if y.on == dmOn x then ends s stOk (domainReply s d)
  else
    let s := abortCalibration s
    if dmOn x then (modDomain d (fun y => { y with on := true, off := none, testing := true, katPass := false }) s, none)
    else (modDomain d (fun y => { y with draining := some s.clk.ns }) s, none)

/-- STATE is written with FAULT_DETECTED as well (R285, R459). -/
def failDeviceDomain : OnFail := fun c st s => (s, if st = stFault then domainReply s (dmDomain (reqOf c)) else [])

/-- Items in service on the units of a domain. -/
def domainWork (s : State) (d : Nat) : List (CmdRef × Nat) :=
  (s.prism.cmds.map (fun c => (c.items.zipIdx.filter (fun e => match e.1.state with
    | .inService u => unitDomain u == d
    | _ => false)).map (fun e => (c.ref, e.2)))).flatten

/-- A DEVICE_DOMAIN in progress asks for this action. -/
def domainWants (s : State) (d : Nat) (on : Bool) : Bool :=
  match domainCmd s d with | none => false | some c => dmOn (reqOf c) == on

/-- DOMAIN_DRAIN_DONE (R21, R285): the drain is over and the domain is off, by the command or because its channels have all retired. -/
def execDomainDrainDone (d : Fin 32) (s : State) : Res :=
  guarded (((getDomain s d.val).draining.isSome || (!(getDomain s d.val).on && domainWants s d.val false)) && (domainWork s d.val).isEmpty)
    (fun s => endDomainCmd d.val stOk (if (getDomain s d.val).on then switchOff d.val s else s)) s

/-- An item forced off: its command completes with ABORTED (R21, R185, R202). -/
def forceOff (s : State) (w : CmdRef × Nat) : State := cutCmd w.1 stAborted 2 true (loseItem w.1 w.2 s)

/-- DOMAIN_DRAIN_TIMEOUT (R21): after 50 µs the work still present is forced off. -/
def execDomainDrainTimeout (d : Fin 32) (s : State) : Res :=
  match (getDomain s d.val).draining with
  | none => .next s
  | some t => guarded (decide (t + 50000 ≤ s.clk.ns) && !(domainWork s d.val).isEmpty)
      (fun s => endDomainCmd d.val stOk (switchOff d.val ((domainWork s d.val).foldl forceOff s))) s

/-- Channels of a domain (R20). -/
def domainChannels (d : Nat) : List Channel :=
  if d = 27 then (List.range 4).map (fun l => { kind := 3, index := l })
  else if d = 28 then (List.range 4).map (fun l => { kind := 3, index := 4 + l })
  else ((domainUnits d).map unitChannel).filter (fun c => c.kind != 0)

/-- A domain that fails its tests stays off, and its channels retire as a failed built-in self-test (R22). -/
def domainFail (d : Nat) (s : State) : State :=
  let s := modDomain d (fun x => { x with on := false, off := some .selfTest, testing := false, katPass := false }) s
  (domainChannels d).foldl (fun s c => selfTestFail c s) s

/-! ## DEVICE_REQUALIFY (R285, R428) -/

def rqChannel (x : Req) : Channel := { kind := x.pay 0 1, index := x.pay 1 1 }

/-- Channels of the table of R285. -/
def channelExists (c : Channel) : Bool :=
  match c.kind with
  | 1 => decide (c.index < 48) | 2 => decide (c.index < 16) | 3 => decide (c.index < 8) | 4 => decide (c.index < 4)
  | 5 => decide (c.index < 3) | 6 => decide (c.index < 16) | _ => false

def specRequalify : OpSpec :=
  { phase := .clear
    length := fun _ x => x.len == 4
    maxReply := fun _ _ => 4
    quorum := fun _ _ => some 0
    own := fun _ x => need (x.fn == 0 && channelExists (rqChannel x) && x.pay 2 2 == 0) stPolicyDenied
    persist := fun _ _ => true }

/-- The domain of a channel. -/
def channelDomain (c : Channel) : Option Nat :=
  match c.kind with
  | 1 => some (6 + c.index / 4) | 2 => some (18 + c.index / 4) | 3 => some (27 + c.index / 4) | _ => none

/-- How a channel that has passed rejoins (R428). -/
def rejoin (c : Channel) (s : State) : State :=
  match c.kind with
  | 3 =>
    let clear (p : IluonPort) : IluonPort := { p with retiredLanes := p.retiredLanes &&& ~~~(1#4 <<< (c.index % 4)) }
    if c.index < 4 then { s with ilu := { s.ilu with west := clear s.ilu.west } } else { s with ilu := { s.ilu with east := clear s.ilu.east } }
  | 5 => { s with mbus := { s.mbus with ports := s.mbus.ports.modify c.index (fun p => { p with retired := false }) } }
  | 6 => { s with flt := { s.flt with rejoin := s.flt.rejoin ++ [c.index] } }
  | _ => s

/-- A passed self-test clears the channel's bit and strikes; a domain gated because all its channels had retired stays on
(R428, R463). -/
def requalified (c : Channel) (s : State) : State :=
  let s := { s with flt := { s.flt with retired := s.flt.retired.del (chanKey c), causes := s.flt.causes.del (chanKey c), strikes := s.flt.strikes.del (chanKey c) } }
  let s := rejoin c (faultLog c.kind 3 c.index 0 s)
  match channelDomain c with
  | none => s
  | some d =>
    let x := getDomain s d
    if !x.on && x.off != some .host then setDomain s d { x with on := true, off := none, testing := false, katPass := true } else s

def runRequalify (pass : Bool) : Effect := fun c s =>
  let ch := rqChannel (reqOf c)
  if pass then ends (requalified ch s) stOk (zeros 4) else ends (selfTestFail ch s) stFault

/-! ## DEVICE_CALIBRATE (R286, R394) -/

/-- A calibration runs, or one accepted has not run. -/
def calibrating (s : State) : Bool :=
  s.hzn.calCmd.isSome || s.prism.cmds.any (fun c => c.opcode == 0x0105 && c.result.isNone)

def specCalibrate : OpSpec :=
  { phase := .clear
    length := fun _ x => x.len == 8
    maxReply := fun _ _ => 8
    own := fun s x => firstFail
      [ need (!calibrating s) stFlowLimit,
        need (x.fn == 0 && allZero x.payload && (List.range 32).all (fun d => !gateable d || (getDomain s d).on)) stPolicyDenied ]
    persist := fun _ _ => true }

/-- The 40 s run begins; CALIBRATION_DONE or a retirement ends it. -/
def runCalibrate : Effect := fun c s => ({ s with hzn := { s.hzn with calCmd := some c.ref, calNs := s.clk.ns } }, none)

/-! ## Sessions (R84 to R89) -/

def specSessionOpen : OpSpec :=
  { length := fun _ x => x.len == 16
    maxReply := fun _ _ => 8
    own := fun _ x => need (x.handle == 0 && decide (x.pay 0 4 ≤ 86400) && allZero (x.payload.drop 4)) stBadHeader
    shares := fun s x =>
      if (nextCtx s x.part).isSome then none else if 0 < ctxFree s x.part then some stServiceReduced else some stFlowLimit
    transient := fun _ _ => true }

/-- The context was taken at the acceptance, on the finding of check 8 (R460); it is a session's from now on. -/
def runSessionOpen : Effect := fun c s =>
  match c.transient with
  | none => ends s stFlowLimit
  | some i =>
    let idle := (reqOf c).pay 0 4
    let s := modSess i (fun x => { x with transient := false, idle := if idle = 0 then 300 else idle, lastUse := s.hzn.time }) s
    ends (modCmd c.ref (fun c => { c with transient := none }) s) stOk (toLe 4 (mkHandle i (getSess s i).tag).toNat ++ toLe 4 (ctxFree s c.ref.part))

/-- The two commands that name their session in the header. -/
def specSessionNamed (reply : Nat) : OpSpec :=
  { length := fun _ x => x.len == 0
    maxReply := fun _ _ => reply
    own := fun _ x => need (x.handle != 0) stBadHeader }

/-- From its acceptance on, SESSION_CLOSE shuts the session to later commands (R87). -/
def specSessionClose : OpSpec :=
  { specSessionNamed 0 with accept := fun c s => modSess (handleIndex c.handle) (fun x => { x with closing := true }) s }

/-- The session a command names is still the one it was accepted on (R86, R88). -/
def sessionStands (s : State) (c : Cmd) : Bool :=
  let x := getSess s (handleIndex c.handle)
  x.allocated && !x.transient && x.tag.toNat == handleTag c.handle

def runSessionClose : Effect := fun c s =>
  if sessionStands s c then ends (releaseCtx (handleIndex c.handle) s) stOk else ends s stSessionLost

def specSessionQuery : OpSpec := specSessionNamed 16

def runSessionQuery : Effect := fun c s =>
  let x := getSess s (handleIndex c.handle)
  if !sessionStands s c then ends s stSessionLost
  else ends s stOk (toLe 4 (x.outstanding - 1) ++ toLe 4 x.idle ++ toLe 8 x.lastUse.toNat)

/-- SESSION_IDLE_TIMEOUT (R88). -/
def execSessionIdleTimeout (i : Nat) (s : State) : Res :=
  guarded ((getSess s i).allocated && !(getSess s i).transient && idlePassed s (getSess s i)) (releaseCtx i) s

/-! ## The journal commands (R65, R288) -/

/-- One entry of a partition's journal as it is read. -/
def jEntryAt (s : State) (p i : Nat) : Bytes :=
  match (getPart s p).journal.look (i % 65536) with | none => zeros 64 | some e => jBytes e

def specJournalRead : OpSpec :=
  { phase := .dawn
    length := fun _ x => x.len == 8
    maxReply := fun _ x => 16 + 64 * x.pay 2 2
    own := fun _ x => need (decide (1 ≤ x.pay 2 2) && decide (x.pay 2 2 ≤ 1024) && x.pay 4 4 == 0) stPolicyDenied }

def runJournalRead : Effect := fun c s =>
  let x := reqOf c
  let p := getPart s c.ref.part
  ends s stOk (toLe 2 p.jnext.toNat ++ toLe 1 (b2n p.jwrapped) ++ [0] ++ toLe 2 s.hzn.epoch.toNat ++ zeros 10 ++
    ((List.range (x.pay 2 2)).map (fun i => jEntryAt s c.ref.part (x.pay 0 2 + i))).flatten)

def specJournalFind : OpSpec :=
  { phase := .dawn
    length := fun _ x => x.len == 16
    maxReply := fun _ _ => 72
    own := fun s x => need (allZero (bsub x.payload 2 6) && (partRings s x.part).contains (x.pay 0 2)) stPolicyDenied }

def runJournalFind : Effect := fun c s =>
  let x := reqOf c
  match jFind s c.ref.part (x.pay 0 2) (BitVec.ofNat 64 (x.pay 8 8)) with
  | none => ends s stOk (zeros 72)
  | some (i, e) => ends s stOk ([1, 0] ++ toLe 2 i ++ zeros 4 ++ jBytes e)

/-! ## The rows -/

/-- DEVICE_STATUS (R287). -/
def execDeviceStatus (r : CmdRef) (s : State) : Res := runAccepted 0x0101 runDeviceStatus noReply r s
/-- DEVICE_ABORT (R284). -/
def execDeviceAbort (r : CmdRef) (s : State) : Res :=
  if abortTurn s r then runAccepted 0x0102 runDeviceAbort noReply r s else .next s
/-- DEVICE_DOMAIN (R285). -/
def execDeviceDomain (r : CmdRef) (s : State) : Res := runAccepted 0x0103 runDeviceDomain failDeviceDomain r s
/-- DEVICE_REQUALIFY (R285, R428). -/
def execDeviceRequalify (r : CmdRef) (pass : Bool) (s : State) : Res := runAccepted 0x0104 (runRequalify pass) noReply r s
/-- DEVICE_CALIBRATE (R286). -/
def execDeviceCalibrate (r : CmdRef) (s : State) : Res := runAccepted 0x0105 runCalibrate noReply r s
/-- SESSION_OPEN (R86, R89). -/
def execSessionOpen (r : CmdRef) (s : State) : Res := runAccepted 0x0201 runSessionOpen noReply r s
/-- SESSION_CLOSE (R88, R89). -/
def execSessionClose (r : CmdRef) (s : State) : Res := runAccepted 0x0202 runSessionClose noReply r s
/-- SESSION_QUERY (R89). -/
def execSessionQuery (r : CmdRef) (s : State) : Res := runAccepted 0x0203 runSessionQuery noReply r s
/-- JOURNAL_READ (R288). -/
def execJournalRead (r : CmdRef) (s : State) : Res := runAccepted 0x0B01 runJournalRead noReply r s
/-- JOURNAL_FIND (R288). -/
def execJournalFind (r : CmdRef) (s : State) : Res := runAccepted 0x0B02 runJournalFind noReply r s

end Sys2Proof.Machine
end

