-- ==== Sys2Proof/Machine/FwCmds.lean ====
section
/-! DEFINITION. Group 0x0D: staging, checking and release of the application firmware, and the update of the root-of-trust firmware
(R300, R302, R307 to R312, R315). -/

namespace Sys2Proof.Machine

/-! ## Boot records that fall due (R336, R339) -/

/-- The platform configuration in use; without one every field is zero. -/
def pcfgUse (s : State) : Bytes := padTo 1408 (s.plat.used.getD [])

/-- Unacknowledged records (R339). -/
def unacked (s : State) : Nat := min 8192 (s.plat.brecSeq - s.plat.ackSeq)

/-- A record of a kind falls due, with its EVENT word. With the store full and RECORDS_HOLD set, one of kind 1 whose step 7 is pending
waits and holds the host (R339). -/
def dueRecord (kind event : Nat) (s : State) : State :=
  let p := s.plat
  let hold := kind == 1 && decide (8192 ≤ unacked s) && bit (fld (pcfgUse s) 0x3C 1) 0 && bit p.booting.toNat 0 && p.pwrgd
  { s with plat := { p with recordDue := p.recordDue ++ [toLe 1 kind ++ toLe 4 event], hold := p.hold || hold,
                            host := if hold then .heldRecords else p.host } }

/-- The newest record's application measurement is zero. -/
def recordLacksApp (s : State) : Bool :=
  s.plat.brecSeq != 0 && allZero (bsub (s.plat.records.at (s.plat.brecSeq % 8192) []) 0xF0 64)

/-! ## Conditions -/

/-- What every command of the group asks: the PF, and its reserved bytes zero. -/
def fwBase (x : Req) (off len : Nat) : Bool := x.fn == 0 && allZero (bsub x.payload off len)

/-- FW_APP_* are served in Dawn, and not between a release and the image's start (R308). -/
def appOpen (s : State) : Bool := s.svc.phase == .dawn && s.fw.load != 3

def ownAppBegin (s : State) (x : Req) : Option Status :=
  need (fwBase x 4 4 && appOpen s && decide (7688 ≤ x.pay 0 4) && decide (x.pay 0 4 ≤ 2 ^ 26)) stPolicyDenied

def applyAppBegin : Cmd → State → State := fun c s =>
  { s with fw := { s.fw with load := 1, stage := [], stageLen := (reqOf c).pay 0 4, stageBad := false } }

def chunkBytes (x : Req) : Bytes := x.payload.drop 8

def ownAppChunk (s : State) (x : Req) : Option Status :=
  need (fwBase x 4 4 && appOpen s && s.fw.load == 1 && x.pay 0 4 == s.fw.stage.length &&
        decide (s.fw.stage.length + (chunkBytes x).length ≤ s.fw.stageLen)) stPolicyDenied

def applyAppChunk : Cmd → State → State := fun c s =>
  { s with fw := { s.fw with stage := s.fw.stage ++ chunkBytes (reqOf c) } }

def ownAppVerify (s : State) (x : Req) : Option Status :=
  need (fwBase x 0 8 && appOpen s && (s.fw.load == 1 || s.fw.load == 2) && s.fw.stage.length == s.fw.stageLen) stPolicyDenied

def ownAppRelease (s : State) (x : Req) : Option Status := need (fwBase x 0 8 && appOpen s && s.fw.load == 2) stPolicyDenied

def ownRotBegin (_ : State) (x : Req) : Option Status :=
  need (fwBase x 4 4 && decide (7688 ≤ x.pay 0 4) && decide (x.pay 0 4 ≤ 2 ^ 20)) stPolicyDenied

def applyRotBegin : Cmd → State → State := fun c s =>
  { s with fw := { s.fw with rotStage := [], rotLen := (reqOf c).pay 0 4 } }

def ownRotChunk (s : State) (x : Req) : Option Status :=
  need (fwBase x 4 4 && s.fw.rotLen != 0 && x.pay 0 4 == s.fw.rotStage.length &&
        decide (s.fw.rotStage.length + (chunkBytes x).length ≤ s.fw.rotLen)) stPolicyDenied

def applyRotChunk : Cmd → State → State := fun c s =>
  { s with fw := { s.fw with rotStage := s.fw.rotStage ++ chunkBytes (reqOf c) } }

def ownRotCommit (s : State) (x : Req) : Option Status :=
  need (fwBase x 0 8 && s.fw.rotLen != 0 && s.fw.rotStage.length == s.fw.rotLen) stPolicyDenied

def ownWarm (_ : State) (x : Req) : Option Status := need (fwBase x 1 7 && decide (x.pay 0 1 ≤ 1)) stPolicyDenied

/-! ## Specs -/

def specFw (own : State → Req → Option Status) (len : Req → Bool) (reply : Nat) (presume : Cmd → State → State := fun _ s => s) : OpSpec :=
  { phase := .dawn
    length := fun _ x => len x
    maxReply := fun _ _ => reply
    own := own
    flow := some .firmware
    presume := presume }

def fwLen8 (x : Req) : Bool := x.len == 8
def fwLenChunk (x : Req) : Bool := decide (24 ≤ x.len) && decide (x.len ≤ 8388608)

def specAppBegin : OpSpec := specFw ownAppBegin fwLen8 4 applyAppBegin
def specAppChunk : OpSpec := specFw ownAppChunk fwLenChunk 4 applyAppChunk
def specAppVerify : OpSpec := specFw ownAppVerify fwLen8 96 (fun _ s => { s with fw := { s.fw with load := 2 } })
def specAppRelease : OpSpec := specFw ownAppRelease fwLen8 4 (fun _ s => { s with fw := { s.fw with load := 3 } })
def specRotBegin : OpSpec := specFw ownRotBegin fwLen8 4 applyRotBegin
def specRotChunk : OpSpec := specFw ownRotChunk fwLenChunk 4 applyRotChunk
def specRotCommit : OpSpec := specFw ownRotCommit fwLen8 8
def specWarmReset : OpSpec := specFw ownWarm fwLen8 4

/-! ## Effects -/

/-- A failed check discards the image and shows FAILED with its result code (R308). -/
def failImage (code : Nat) (s : State) : State :=
  { s with fw := { s.fw with load := 4, lastResult := BitVec.ofNat 4 code, stage := [], stageLen := 0 } }

/-- The reply of FW_APP_VERIFY (R308). -/
def verifyReply (i : Bytes) : Bytes :=
  sha3_512 i ++ toLe 1 (imgSvn i) ++ toLe 1 (imgKeyIndex i) ++ zeros 2 ++ toLe 4 i.length ++ padTo 8 (imgBuildId i) ++ zeros 16

/-- The staged image under R297; a poisoned line makes its body bad (R430). -/
def stageCheck (s : State) : Nat :=
  let r := imageCheck s s.fw.stage 2 s.fw.rotSvn.toNat true
  if s.fw.stageBad && (r == 1 || r == 5 || r == 9) then 8 else r

def runAppVerify : Effect := fun c s =>
  match ownAppVerify s (reqOf c) with
  | some st => ends s st
  | none =>
    let r := stageCheck s
    if r = 1 then
      ends { s with fw := { s.fw with load := 2, lastResult := 1 } } stOk (verifyReply s.fw.stage)
    else ends (failImage r s) stVerifyFailed

/-- The released image is recorded, CDI2 and the application alias key are derived, CDI1 is cleared, and control cores 0 and 1 are
tested (R308, R309, R366). -/
def releaseApp (retained : Bool) (s : State) : State :=
  let m := sha3_512 s.fw.stage
  let svn := BitVec.ofNat 8 (imgSvn s.fw.stage)
  let c2 := hmac 0x13 s.life.cdi1 (ascii "ULGUS-CDI2" ++ m ++ [svn])
  let s := modDomain 2 (fun d => { d with katPass := true, testing := false }) s
  let s := if recordLacksApp s then dueRecord 3 0 s else s
  { s with
    fw := { s.fw with load := 3, retained := retained, appSvn := svn, appMeas := m }
    life := { s.life with cdi2 := c2, appKey := layerKey c2 (ascii "ULGUS-APP"), cdi1 := [] }
    svc := { s.svc with releaseNs := s.clk.ns } }

def runAppRelease (kat : Bool) : Effect := fun c s =>
  match ownAppRelease s (reqOf c) with
  | some st => ends s st
  | none => if kat then ends (releaseApp false s) stOk (zeros 4) else ends s stFault

def runRotCommit (readBack : Bool) : Effect := fun c s =>
  match ownRotCommit s (reqOf c) with
  | some st => ends s st
  | none =>
    let i := s.fw.rotStage
    if imageCheck s i 1 0 true = 1 then
      let b := otherSlot s
      let n := nextFlagSeq s
      let s := writeSlot b i s
      if readBack then
        let s := clearFlag (!b) (raiseFlag b n s)
        ends s stOk (toLe 1 (b2n b) ++ toLe 1 (imgSvn i) ++ zeros 2 ++ toLe 4 n)
      else ends s stFault
    else ends s stVerifyFailed

/-- FW_WARM_RESET: the reset itself follows the completion (R307, R311). -/
def applyWarm : Cmd → State → State := fun c s =>
  { s with svc := { s.svc with discardApp := s.svc.discardApp || (reqOf c).pay 0 1 == 1 } }

/-! ## The rows -/

/-- FW_APP_BEGIN (R308). -/
def execFwAppBegin (r : CmdRef) (s : State) : Res := runAccepted 0x0D01 (adminRun ownAppBegin applyAppBegin zeroReply) noReply r s
/-- FW_APP_CHUNK (R308): the reply is the bytes staged. -/
def execFwAppChunk (r : CmdRef) (s : State) : Res :=
  runAccepted 0x0D02 (adminRun ownAppChunk applyAppChunk (fun _ s => toLe 4 s.fw.stage.length)) noReply r s
/-- FW_APP_VERIFY (R297, R308). -/
def execFwAppVerify (r : CmdRef) (s : State) : Res := runAccepted 0x0D03 runAppVerify noReply r s
/-- FW_APP_RELEASE (R308, R309, R366). -/
def execFwAppRelease (r : CmdRef) (katPass : Bool) (s : State) : Res := runAccepted 0x0D04 (runAppRelease katPass) noReply r s
/-- FW_ROT_BEGIN (R312). -/
def execFwRotBegin (r : CmdRef) (s : State) : Res := runAccepted 0x0D05 (adminRun ownRotBegin applyRotBegin zeroReply) noReply r s
/-- FW_ROT_CHUNK (R312). -/
def execFwRotChunk (r : CmdRef) (s : State) : Res :=
  runAccepted 0x0D06 (adminRun ownRotChunk applyRotChunk (fun _ s => toLe 4 s.fw.rotStage.length)) noReply r s
/-- FW_ROT_COMMIT (R302, R312). -/
def execFwRotCommit (r : CmdRef) (readBackOk : Bool) (s : State) : Res := runAccepted 0x0D07 (runRotCommit readBackOk) noReply r s
/-- FW_WARM_RESET (R307, R311). -/
def execFwWarmReset (r : CmdRef) (s : State) : Res := runAccepted 0x0D08 (adminRun ownWarm applyWarm zeroReply) noReply r s

end Sys2Proof.Machine
end

