-- ==== Sys2Proof/Machine/IdCmds.lean ====
section
/-! DEFINITION. Group 0x0E: attestation, life-cycle requests and certificates (R289, R358 to R369). -/

namespace Sys2Proof.Machine

/-! ## Attestation (R289, R366, R367) -/

/-- Layer 3 key of a partition (R366). -/
def partAttestKey (s : State) (p : Nat) : Bytes :=
  layerKey s.life.cdi2 (ascii "ULGUS-PATT" ++ toLe 1 p ++ (getPart s p).salt)

/-- The signer: the root-of-trust alias key in Dawn, the partition's attestation key from Overcast on. -/
def attestKey (s : State) (p : Nat) : Bytes := if s.svc.phase == .dawn then s.life.rotKey else partAttestKey s p

def rotImage (s : State) : Bytes := (slotOf s s.fw.running).image
def rotMeasurement (s : State) : Bytes := sha3_512 (rotImage s)
/-- SHA3-512 of the ROM and the root-of-trust firmware. -/
def bootMeasurements (s : State) : Bytes := padTo 64 Config.romMeasurement ++ rotMeasurement s
/-- With the application firmware, zero before its release. -/
def allMeasurements (s : State) : Bytes := bootMeasurements s ++ padTo 64 s.fw.appMeas

/-- The OFFICER_LIST reply of a partition. -/
def officerListBytes (s : State) (p : Nat) : Bytes :=
  let x := getPart s p
  toLe 1 x.threshold ++ toLe 1 x.officers.length ++ zeros 2 ++ ((List.range 16).map (fun i => officerEntry x.officers (i + 1))).flatten

/-- The 384-byte report. -/
def attestReport (s : State) (p : Nat) (nonce : Bytes) : Bytes :=
  toLe 2 1 ++ toLe 1 (if s.svc.phase == .dawn then 1 else 2) ++ [0] ++ toLe 2 p ++ zeros 2 ++ unitSerial s ++ padTo 32 nonce ++
  toLe 8 s.hzn.time.toNat ++ toLe 8 (getPart s p).gen.toNat ++ toLe 1 (lcReport s) ++ [s.fw.rotSvn, s.fw.appSvn, 0] ++
  toLe 4 (svcStatus s) ++ allMeasurements s ++ padTo 64 s.plat.prevHash ++
  sha3_256 (padTo 432 (getPart s p).policy ++ officerListBytes s p) ++ zeros 24

def specAttestQuote : OpSpec :=
  { phase := .dawn
    length := fun _ x => x.len == 32
    maxReply := fun _ _ => 5108 }

def runAttestQuote : Effect := fun c s =>
  let r := attestReport s c.ref.part c.payload
  let (rnd, s) := islandDraw 64 s
  ends s stOk (r ++ hybridBlock (attestKey s c.ref.part) r rnd)

/-- Certificate of a layer, issued by the unit identity key (R367). -/
def layerCert (s : State) (layer p : Nat) : Bytes :=
  match layer with
  | 1 => Config.issueCert s.life.unitKey (keyBlock s.life.rotKey) 1 (bootMeasurements s) 0
  | 2 => Config.issueCert s.life.unitKey (keyBlock s.life.appKey) 2 (allMeasurements s) 0
  | _ => Config.issueCert s.life.unitKey (keyBlock (partAttestKey s p)) 3 (allMeasurements s) p

def unitCert (s : State) : Bytes := (s.life.certs.map (fun c => c.1)).getD []
def caCerts (s : State) : Bytes := (s.life.certs.map (fun c => c.2)).getD []

/-- The chain from the unit certificate to the signing key. -/
def attestChain (s : State) (p : Nat) : Bytes := unitCert s ++ layerCert s (if s.svc.phase == .dawn then 1 else 3) p

def specAttestChain : OpSpec := { specZero8 16384 with phase := .dawn }
def runAttestChain : Effect := fun c s => ends s stOk ((attestChain s c.ref.part).take 16384)

/-! ## LC_INFO (R368) -/

def lcInfoReply (s : State) : Bytes :=
  unitSerial s ++ toLe 1 (lcReport s) ++ toLe 1 (transitions s) ++ toLe 1 (seedsUsed s) ++ toLe 1 (reopens s) ++
  toLe 1 (b2n s.life.certs.isSome) ++ zeros 19 ++ identityHash s

def specLcInfo : OpSpec := { specZero8 64 with phase := .dawn }
def runLcInfo : Effect := fun _ s => ends s stOk (lcInfoReply s)

/-! ## LC_REQUEST (R358 to R360, R364) -/

def specLcRequest : OpSpec :=
  { phase := .dawn
    length := fun _ x => x.len == (if rqKey x = 0xFF then 64 else 7480)
    maxReply := fun _ _ => 4
    quorum := fun s x => if rqOwner s x then some 0 else none
    own := ownLcRequest
    shares := fun s x => need (!(rqOwner s x && s.svc.phase == .dawn)) stServiceReduced
    flow := some .lifeCycle
    persist := fun _ _ => true }

def runLcRequest : Effect := fun c s =>
  let x := reqOf c
  match ownLcRequest s x with
  | some st => ends s st
  | none =>
    if !rqSigned s x then ends s stVerifyFailed
    else match rqTarget x with
      | none => ends s stPolicyDenied
      | some t => ends (programIntent t s) stOk (zeros 4)

/-! ## Certificates (R367, R368) -/

def csCert (x : Req) : Bytes := bsub x.payload 8 (x.pay 0 2)
def csCa (x : Req) : Bytes := x.payload.drop (8 + x.pay 0 2)

def ownCertStore (s : State) (x : Req) : Option Status :=
  need (x.fn == 0 && x.pay 4 4 == 0 && lifeCycle s == .personalised && s.life.certs.isNone &&
        padTo 2692 (Config.certKey (csCert x)) == keyBlock s.life.unitKey) stPolicyDenied

def specCertStore : OpSpec :=
  { phase := .dawn
    length := fun _ x => decide (1 ≤ x.pay 0 2) && decide (x.pay 0 2 ≤ 8192) && decide (1 ≤ x.pay 2 2) && decide (x.pay 2 2 ≤ 8192) &&
                         x.len == 8 + x.pay 0 2 + x.pay 2 2
    maxReply := fun _ _ => 4
    own := ownCertStore
    persist := fun _ _ => true }

def runCertStore : Effect := fun c s =>
  let x := reqOf c
  match ownCertStore s x with
  | some st => ends s st
  | none =>
    if Config.certIssued (csCa x) (csCert x) && Config.chainVerifies (rootDigest s) (csCert x ++ csCa x) then
      ends { s with life := { s.life with certs := some (csCert x, csCa x) } } stOk (zeros 4)
    else ends s stVerifyFailed

/-- The certificate of an index, where there is one. -/
def certAt (s : State) (p idx : Nat) : Option Bytes :=
  match idx with
  | 0 => s.life.certs.map (fun c => c.1)
  | 1 => s.life.certs.map (fun c => c.2)
  | 2 => if s.life.unitKey.isEmpty then none else some (layerCert s 1 p)
  | 3 => if s.life.unitKey.isEmpty || s.svc.phase == .dawn then none else some (layerCert s 2 p)
  | 4 => if s.life.unitKey.isEmpty || s.svc.phase == .dawn then none else some (layerCert s 3 p)
  | _ => none

def ownCertRead (s : State) (x : Req) : Option Status :=
  need (allZero (bsub x.payload 1 7) && (certAt s x.part (x.pay 0 1)).isSome) stPolicyDenied

def specCertRead : OpSpec :=
  { phase := .dawn
    length := fun _ x => x.len == 8
    maxReply := fun _ _ => 8192
    own := ownCertRead }

def runCertRead : Effect := fun c s =>
  match certAt s c.ref.part ((reqOf c).pay 0 1) with
  | none => ends s stPolicyDenied
  | some b => ends s stOk (b.take 8192)

/-! ## The rows -/

/-- ATTEST_QUOTE (R289). -/
def execAttestQuote (r : CmdRef) (s : State) : Res := runAccepted 0x0E01 runAttestQuote noReply r s
/-- ATTEST_CHAIN (R289, R367). -/
def execAttestChain (r : CmdRef) (s : State) : Res := runAccepted 0x0E02 runAttestChain noReply r s
/-- LC_INFO (R368). -/
def execLcInfo (r : CmdRef) (s : State) : Res := runAccepted 0x0E10 runLcInfo noReply r s
/-- LC_REQUEST (R360, R364). -/
def execLcRequest (r : CmdRef) (s : State) : Res := runAccepted 0x0E11 runLcRequest noReply r s
/-- ID_CERT_STORE (R368). -/
def execIdCertStore (r : CmdRef) (s : State) : Res := runAccepted 0x0E20 runCertStore noReply r s
/-- ID_CERT_READ (R368). -/
def execIdCertRead (r : CmdRef) (s : State) : Res := runAccepted 0x0E21 runCertRead noReply r s

end Sys2Proof.Machine
end

