-- ==== Sys2Proof/Machine/Iluon.lean ====
section
/-! DEFINITION. The Iluon link, mirror pairs, rings and leases, the running of forwarded and spilled commands apart
(R398 to R420, R422). -/

namespace Sys2Proof.Machine

/-! ## Claims (R405, R415) -/

/-- Raise the claim above every COUNT the module knows. -/
def raiseClaim (s : State) : State :=
  let n := max s.ilu.claim.toNat s.ilu.topClaim.toNat / 256 + 1
  let c := BitVec.ofNat 64 (n * 256 + s.ilu.position % 256)
  modIlu (fun i => { i with claim := c, topClaim := c }) s

/-- The mirror states in which the partition instances are shared with the partner (R223). -/
def partsShared : MirrorState → Bool
  | .active | .standby | .held | .syncSource | .syncTarget => true
  | .none | .solo | .detached => false

/-- Enter a mirror state (R408): SHARED follows it. -/
def toMirror (m : MirrorState) (s : State) : State :=
  { s with ilu := { s.ilu with mirror := m }, rng := { s.rng with shared := partsShared m } }

def activeSide (m : MirrorState) : Bool := m == .active || m == .held || m == .solo || m == .syncSource

/-- A duplicate that is held is discarded; its ring owes it no completion any more. -/
def discardDup (s : State) (h : HeldDup) : State := modRing h.ring (fun g => { g with owed := g.owed - 1 }) s

/-- Discard an accepted command with all it holds: its units, its keys, its draw, its place on its ring, and what waits for it. -/
def discardCmd (s : State) (c : Cmd) : State :=
  let s := (List.range c.items.length).foldl (fun s i => loseItem c.ref i s) s
  let s := endCmd c.ref stAborted [] s
  let s := if c.ring = busRing then s else modRing c.ring (fun g => { g with owed := g.owed - 1 }) s
  let (gone, left) := s.prism.held.partition (fun h => h.ref == c.ref)
  let s := gone.foldl discardDup { s with prism := { s.prism with held := left } }
  match findCmd s c.ref with
  | none => s
  | some c => afterCompletion c s

/-- Discard every mirrored command and completion that is held (R408, R415). -/
def discardMirrored (s : State) : State :=
  (s.prism.cmds.filter (fun c => !localCmd c.opcode.toNat)).foldl discardCmd s

/-- A higher claim has been heard: the module demotes itself (R415). -/
def demote (claim : BitVec 64) (s : State) : State :=
  discardMirrored (toMirror .detached (modIlu (fun i => { i with keyMaster := false, vaultOwner := false, topClaim := claim }) s))

/-- A frame's claim is heard: the highest is kept, a standby adopts its active's, and an active that hears a higher one
demotes itself. -/
def hearClaim (claim : BitVec 64) (s : State) : State :=
  let i := s.ilu
  let s := if i.topClaim.toNat < claim.toNat then modIlu (fun i => { i with topClaim := claim }) s else s
  if i.claim.toNat < claim.toNat then
    if activeSide i.mirror then demote claim s
    else if i.mirror == .standby || i.mirror == .syncTarget then modIlu (fun i => { i with claim := claim }) s
    else if i.mirror == .none && !i.leaseMode then modIlu (fun i => { i with keyMaster := false, vaultOwner := false }) s
    else s
  else s

/-! ## The source of a resynchronisation (R416) -/

/-- The state a resynchronisation copies, by phase. -/
structure SyncImage where
  logP     : Option Nat
  mwk      : Bytes
  mwkPrev  : Bytes
  mwkGen   : BitVec 8
  prevPresent : Bool
  epochs   : Tab (BitVec 32)
  claim    : BitVec 64
  parts    : Tab Part
  keys     : Tab KeyEntry
  nor      : List Backing
  sess     : Sessions
  rings    : Tab Ring
  replies  : List CachedReply
  deriving DecidableEq, Repr

/-- The vendor's own format of the copied state, by phase. -/
opaque encodeSync : Nat → SyncImage → Bytes

/-- What this module copies to its partner. -/
def syncImage (s : State) : SyncImage :=
  { logP := s.pm.logP, mwk := s.ks.mwk, mwkPrev := s.ks.mwkPrev, mwkGen := s.ks.mwkGen, prevPresent := s.ks.prevPresent,
    epochs := s.ks.epochs, claim := s.ilu.claim, parts := s.parts, keys := s.ks.keys, nor := s.ks.nor0, sess := s.sess, rings := s.rings,
    replies := s.replies }

/-- Send one phase of the copy, with the progress it stands at. -/
def sendSync (phase : Nat) (s : State) : State :=
  sendPartner 0x50 (toLe 1 phase ++ toLe 1 s.ilu.resyncPct ++ encodeSync phase (syncImage s)) s

/-- The module becomes the source of a resynchronisation: it sends phases 1 to 3. -/
def enterSource (s : State) : State :=
  sendSync 3 (sendSync 2 (sendSync 1 (toMirror .syncSource (modIlu (fun i => { i with resyncPct := 0 }) s))))

/-- A frame from the partner has arrived (R408, R413). -/
def hearPartner (s : State) : State :=
  let s := modIlu (fun i => { i with heardNs := s.clk.ns, partnerSeen := true }) s
  match s.ilu.mirror with
  | .held => resendForwards (toMirror .active s)
  | .solo => enterSource s
  | .detached => toMirror .syncTarget (modIlu (fun i => { i with resyncPct := 0 }) s)
  | _ => s

/-- LEASE frames, and REPLICATE frames in lease mode, carry a term in place of a claim (R399). -/
def carriesTerm (s : State) (typ : Nat) : Bool := typ == 0x20 || (s.ilu.leaseMode && (typ == 0x30 || typ == 0x31))

/-- What a frame's header tells, once its tag has verified: its claim, and that the partner is there. -/
def heardFrom (f : Frame) (typ : Nat) (s : State) : State :=
  let s := if carriesTerm s typ then s else hearClaim f.claim s
  if fromPartner s f then hearPartner s else s

/-- What a broadcast that has been acted on goes on as: a LEASE takes its vote along, which its own meaning adds. -/
def goOn (f : Frame) (typ : Nat) (s : State) : State :=
  if isBroadcast f && (typ != 0x20 || ownFrame s f) then passOn f typ s else s

/-- Take in a received frame, then act on it: a gap draws LINK_NAK naming the frame wanted, and one addressed here whose tag fails is discarded
(R401, R402). One that is not addressed here, or has been acted on, passes through (R399, R403). -/
def receive (f : Frame) (typ : Nat) (act : State → State) (s : State) : State :=
  let p := iluPort s f.port
  if !p.up then s
  else if f.linkSeq != p.recvSeq then sendHop f.port 0x61 p.recvSeq s
  else
    let s := sendHop f.port 0x60 f.linkSeq (modPort f.port (fun p => { p with recvSeq := p.recvSeq + 1 }) s)
    if !f.tagOk && acts s f typ then
      portFault f.port (modPort f.port (fun p => { p with tagErr := satAdd 8 p.tagErr 1, train := p.train.filter (fun t => t.1 != typ) }) s)
    else
      let through := !acts s f typ
      let s := if f.tagOk then heardFrom f typ s else s
      if through then passOn f typ s
      else goOn f typ (act (modPort f.port (fun p => { p with train := p.train.filter (fun t => t.1 != typ) }) s))

/-- ILUON_LINK_UP (R22, R398, R400): the port's domain is on and its tests have passed; FORWARDs that went with the link are sent again. -/
def execIluonLinkUp (port : Bool) (lanes : Nat) (s : State) : Res :=
  guarded ((getDomain s (portDomain port)).on && (getDomain s (portDomain port)).katPass && s.svc.phase != .dark && (lanes == 1 || lanes == 2 || lanes == 4) &&
           decide (lanes ≤ lanesLeft (iluPort s port)))
    (fun s => resendAll (modPort port (fun p => { p with up := true, lanes := lanes, naks := 0, idleNs := s.clk.ns }) s)) s

/-- ILUON_LINK_DOWN (R400, R401). -/
def execIluonLinkDown (port : Bool) (s : State) : Res := guarded (iluPort s port).up (dropLink port) s

/-- The frames of the replay buffer from the one named on. -/
def heldFrom (p : IluonPort) (seq : BitVec 16) : List (BitVec 16 × Bytes) := p.unacked.dropWhile (fun e => e.1 != seq)

/-- LINK_ACK (R401): acknowledged frames leave the replay buffer. -/
def execLinkAck (port : Bool) (seq : BitVec 16) (s : State) : Res :=
  guarded (!(heldFrom (iluPort s port) seq).isEmpty)
    (modPort port (fun p => { p with unacked := (heldFrom p seq).tail, naks := 0 })) s

/-- LINK_NAK (R401): frames from the one named are replayed, each replay counts, and a frame that fails three replays takes the
link down. -/
def execLinkNak (port : Bool) (seq : BitVec 16) (s : State) : Res :=
  guarded (!(heldFrom (iluPort s port) seq).isEmpty) (fun s =>
    let p := iluPort s port
    let n := if p.nakSeq = seq then p.naks else 0
    if 3 ≤ n then dropLink port s
    else
      let l := heldFrom p seq
      let s := l.foldl (fun s e => emit (.iluon port e.2) s) s
      portFault port (modPort port (fun p => { p with replays := satAdd 8 p.replays l.length, nakSeq := seq, naks := n + 1 }) s)) s

/-- ILUON_FRAME_CRC_ERROR (R401): a frame whose CRC fails, or one that comes with another LINK_SEQ than the next one, is discarded
and LINK_NAK names the frame wanted. -/
def execIluonFrameCrcError (port : Bool) (arrived : Option (BitVec 16)) (s : State) : Res :=
  guarded ((iluPort s port).up && arrived != some (iluPort s port).recvSeq) (sendHop port 0x61 (iluPort s port).recvSeq) s

/-- SYNC_HEADER_ERROR (R401, R424): three on one lane within 1 µs count one transient fault of the lane, and the port retrains on
what is left when that retires it. -/
def execSyncHeaderError (port : Bool) (lane : Fin 4) (s : State) : Res :=
  guarded (iluPort s port).up (fun s =>
    let p := iluPort s port
    let l := (p.laneErrs.at lane.val []).filter (fun t => decide (s.clk.ns < t + 1000)) ++ [s.clk.ns]
    if 3 ≤ l.length then
      transient { kind := 3, index := 4 * b2n port + lane.val } (modPort port (fun p => { p with laneErrs := p.laneErrs.del lane.val }) s)
    else modPort port (fun p => { p with laneErrs := p.laneErrs.put lane.val l }) s) s

/-- CUT_THROUGH_FRAME (R399, R403): a frame that is not acted on here passes on, or comes back from the end of a line. -/
def execCutThroughFrame (f : Frame) (typ : BitVec 8) (s : State) : Res :=
  guarded ((iluPort s f.port).up && (f.dst != s.ilu.position || isBroadcast f) && !ownFrame s f)
    (fun s =>
      let p := iluPort s f.port
      if f.linkSeq != p.recvSeq then sendHop f.port 0x61 p.recvSeq s
      else
        let s := sendHop f.port 0x60 f.linkSeq (modPort f.port (fun p => { p with recvSeq := p.recvSeq + 1 }) s)
        passOn f typ.toNat (if f.tagOk then heardFrom f typ.toNat s else s)) s

/-- TRAIN_FRAME_ARRIVAL (R400): a frame with MORE set adds its payload to the message of its TYPE. -/
def execTrainFrameArrival (f : Frame) (typ : BitVec 8) (s : State) : Res :=
  guarded (bit f.flags.toNat 3 && f.payload.length == 4096) (fun s =>
    let had := ((iluPort s f.port).train.find? (fun t => t.1 == typ.toNat)).elim [] (fun t => t.2)
    let t := receive f typ.toNat (fun s => s) s
    if f.tagOk && acts s f typ.toNat && (iluPort t f.port).recvSeq != (iluPort s f.port).recvSeq then
      modPort f.port (fun p => { p with train := p.train ++ [(typ.toNat, had ++ f.payload)] }) t
    else t) s

/-! ## Heartbeats and time marks (R399, R404) -/

/-- The roles a module holds, as a heartbeat carries them. -/
def rolesNum (s : State) : Nat := b2n s.ilu.keyMaster + 2 * b2n s.ilu.vaultOwner

/-- HEARTBEAT_SEND (R399): a port that has been idle for 1 µs. -/
def execHeartbeatSend (port : Bool) (s : State) : Res :=
  guarded ((iluPort s port).up && decide ((iluPort s port).idleNs + 1000 ≤ s.clk.ns))
    (fun s => sendFrame port 0x01 (nextTo s port) s.ilu.claim (toLe 1 (rolesNum s) ++ toLe 1 s.ilu.loadPct) s) s

/-- HEARTBEAT (R399). -/
def execHeartbeat (f : Frame) (roles load : Nat) (s : State) : Res :=
  .next (receive f 0x01 (modIlu (fun i => { i with peerLoad := i.peerLoad.put (b2n f.port) load,
                                                   peerRoles := i.peerRoles.put (b2n f.port) roles })) s)

/-- R_max: the highest of the last 64 measurements (R404). -/
def rttMax (s : State) : Nat := s.ilu.rtts.foldl max 0

/-- TIME_MARK_SEND (R404): every 100 µs, from the lowest live position. -/
def execTimeMarkSend (s : State) : Res :=
  guarded (s.ilu.formed && s.ilu.live.all (fun p => decide (s.ilu.position ≤ p)) && decide (s.ilu.markNs + 100000 ≤ s.clk.ns))
    (fun s => broadcast 0x02 s.ilu.claim (toLe 1 0 ++ toLe 8 s.clk.ns)
      (modIlu (fun i => { i with markNs := s.clk.ns, markDue := ways s, markSum := 0 }) s)) s

/-- One more of the last 64 measurements. -/
def keepRtt (n : Nat) (s : State) : State :=
  let l := s.ilu.rtts ++ [n]
  modIlu (fun i => { i with rtts := l.drop (l.length - 64) }) s

/-- A mark has come back: with the last of its ways the measurement is kept and broadcast. -/
def markBack (n : Nat) (s : State) : State :=
  let sum := s.ilu.markSum + n
  let t := modIlu (fun i => { i with markSum := sum, markDue := i.markDue - 1 }) s
  if s.ilu.markDue = 1 then broadcast 0x02 s.ilu.claim (toLe 1 1 ++ toLe 8 sum) (keepRtt sum t) else t

/-- TIME_MARK (R404): a returned mark gives a measurement, which is broadcast; every member keeps the last 64. A mark of another member, which carries no
measurement, only passes. -/
def execTimeMark (f : Frame) (measuredNs : Nat) (s : State) : Res :=
  .next (receive f 0x02 (fun s =>
    if ownFrame s f then (if s.ilu.markDue = 0 then s else markBack measuredNs s)
    else if measuredNs = 0 then s else keepRtt measuredNs s) s)

/-! ## The image of a role (R418, R420) -/

/-- Everything a role replicates, with the sequence it stands at. -/
structure RingImage where
  vault   : Bool
  applied : Nat
  changes : List Change
  deriving DecidableEq, Repr

/-- The vendor's own format of an image. -/
opaque encodeImage : RingImage → Bytes
opaque decodeImage : Bytes → Option RingImage

/-- The image of a role as this module holds it: its partitions and keys, or its vault records. -/
def roleImage (vault : Bool) (s : State) : RingImage :=
  { vault := vault, applied := s.ilu.applied,
    changes :=
      if vault then (partNums s).flatMap (fun p => (getPart s p).vault.records.map (fun r => Change.vault p r))
      else (partNums s).map (fun p => let y := getPart s p; Change.partition p y.state y.policy y.threshold y.officers) ++
           s.ks.keys.map (fun e => Change.key (e.1 / 2 ^ 32) (BitVec.ofNat 32 e.1) e.2.version e.2.cur) }

/-- A RESYNC message of a ring: 0 asks for the images, 6 carries one. The codes are the model's own. DESIGN CHOICE, log entry 135. -/
def imageMsg (vault : Bool) (s : State) : Bytes := toLe 1 6 ++ toLe 1 100 ++ encodeImage (roleImage vault s)

/-- Send the images of the roles held here to every member (R420). -/
def broadcastImages (s : State) : State :=
  let s := if s.ilu.keyMaster then broadcast 0x50 s.ilu.claim (imageMsg false s) s else s
  if s.ilu.vaultOwner then broadcast 0x50 s.ilu.claim (imageMsg true s) s else s

/-- Send the images of both roles to one member. -/
def sendImages (n : Nat) (s : State) : State :=
  sendTo n 0x50 s.ilu.claim (imageMsg true s) (sendTo n 0x50 s.ilu.claim (imageMsg false s) s)

/-- RING_FORMED (R402, R403): every member has been heard and RK is in place, drawn by position 0 and sent to the others. In claim mode the member with the highest claim has the
roles (R417), and sends its images to the members that rejoin (R420). -/
def execRingFormed (live position : Nat) (rk : Bytes) (s : State) : Res :=
  guarded (s.ilu.members != 0 && live == s.ilu.members && decide (position < s.ilu.members)) (fun s =>
    let top := !s.ilu.leaseMode && s.ilu.claim == s.ilu.topClaim && s.ilu.claim != 0
    let (k, s) := if position = 0 then islandDraw 32 s else (padTo 32 rk, s)
    broadcastImages (modIlu (fun i => { i with
      formed := true, line := false, live := List.range live, position := position, ringKey := padTo 32 k, keyMaster := top,
      vaultOwner := top, imageOwed := i.imageOwed && !top }) s)) s

/-! ## Pairs (R407 to R415) -/

/-- The state of a module that leaves its pair or ring for good. -/
def leavePair (s : State) : State :=
  toMirror .none (modIlu (fun i => { i with paired := false, position := if i.members = 0 then 0 else i.position, partner := 0, pairKey := [], claim := 0, partnerSeen := false,
                                            partnerLost := false, resyncPct := 0, compares := [] }) s)

/-- The module that was standby keeps only partition 0's policy and officers: keys and every other partition go, MWK generation 1
and the salts are drawn (R407). `rnd` gives the new MWK and salt. -/
def keepPolicyOnly (rnd : Bytes) (s : State) : State :=
  let x := getPart s 0
  let s := destroyAllKeys (clearKeyRegs s)
  let s := ((List.range (pDiv s)).filter (· != 0)).foldl (fun s p => emptyPart p s) s
  let s := emptyPart 0 s
  let s := modPart 0 (fun y => { y with state := .active, policy := x.policy, officers := x.officers, threshold := x.threshold,
                                        salt := rnd.drop 32 }) s
  { s with ks := { s.ks with mwk := rnd.take 32, mwkPrev := zeros 32, mwkGen := 1, prevPresent := false, rewrap := false, epochs := [] } }

/-- Unpairing as either module carries it out; the command that runs it stays in flight. -/
def unpair (rnd : Bytes) (s : State) : State :=
  let keep := activeSide s.ilu.mirror || s.ilu.mirror == .none
  let own := s.prism.cmds
  let s := leavePair s
  if keep then s
  else
    let t := keepPolicyOnly rnd ((own.filter (fun c => c.opcode != 0x0F04)).foldl discardCmd s)
    setCmds t (own.filter (fun c => c.opcode == 0x0F04))

/-- Take over alone under a raised claim (R413). -/
def goSolo (s : State) : State := toMirror .solo (raiseClaim s)

/-- LEAVE (R413): cause 1 ends the pair, causes 2 to 5 move the partner at once. -/
def execLeave (f : Frame) (cause : Nat) (s : State) : Res :=
  .next (receive f 0x14 (fun s =>
    if cause = 1 then
      let (m, s) := islandDraw 64 s
      unpair m s
    else match s.ilu.mirror with
      | .standby => goSolo s
      | .active => toMirror .solo s
      | .held => toMirror .solo s
      | .syncSource => toMirror .solo s
      | .syncTarget => toMirror .detached s
      | _ => s) s)

/-- PARTNER_LOST (R408, R413): no frame from the partner for 20 µs. -/
def execPartnerLost (s : State) : Res :=
  guarded (s.ilu.paired && s.ilu.partnerSeen && decide (s.ilu.heardNs + 20000 ≤ s.clk.ns)) (fun s =>
    let s := setFltCause 0x80 (modIlu (fun i => { i with partnerSeen := false, partnerLost := true }) s)
    match s.ilu.mirror with
    | .active => toMirror .held s
    | .syncSource => toMirror .solo s
    | .syncTarget => toMirror .detached s
    | _ => s) s

/-- FORWARD_ACK (R411): the standby has journaled the command. -/
def execForwardAck (f : Frame) (r : CmdRef) (s : State) : Res :=
  .next (receive f 0x11 (modCmd r (fun c => { c with acked := true })) s)

/-- A MIRROR_SWITCHOVER that waits for its boundary. -/
def switchCmd (s : State) : Option Cmd := s.prism.cmds.find? (fun c => c.opcode == 0x0F05 && c.started && c.result.isNone)

/-- The boundary of a switchover (R414): the active yields and becomes STANDBY; the standby that asked raises its claim and becomes
ACTIVE. -/
def boundary (s : State) : State :=
  match s.ilu.mirror with
  | .active => toMirror .standby (sendPartner 0x12 (toLe 8 s.ilu.claim.toNat) s)
  | .standby =>
    (match switchCmd s with
    | none => s
    | some c =>
      let s := toMirror .active (raiseClaim s)
      endCmd c.ref stOk (toLe 8 s.ilu.claim.toNat) s)
  | _ => s

/-! ## Changes applied and withdrawn (R141, R420) -/

/-- Apply a change to the same local reference of the same partition, wrapped under the module's own keys. -/
def applyChange (c : Change) (s : State) : State :=
  match c with
  | .key p r v val =>
    let w := val.map (fun k => newVal s p r k.attr k.material k.random)
    writeBacking p r (storeKey p r { cur := w, version := v, failed := false, codes := [], pending := (getKey s p r).pending } s)
  | .partition p st pol m o =>
    if st == .empty then emptyPart p s
    else modPart p (fun x => { x with state := st, policy := pol, threshold := m, officers := o }) s
  | .vault p r => modPart p (fun x => { x with vault := (vaultInsert x.vault r).getD x.vault }) s
  | .vaultDelete p t => modPart p (fun x => { x with vault := { x.vault with records := x.vault.records.filter (fun r => r.tag != t) } }) s

/-! ## Abort verdicts of a pair (R184, R202, R284) -/

/-- A refused change is withdrawn: the reference, and whatever else the command changed of what its role replicates, holds again what it held before
(R141, R420). -/
def withdrawChange (c : Cmd) (s : State) : State :=
  let s := (c.undoRest.filter (fun x => match x, c.out with | .key p r _ _, some k => !(p == c.ref.part && r == k) | _, _ => true)).foldl
    (fun s x => applyChange x s) s
  match c.out, c.undo with
  | some k, some e =>
    let now := getKey s c.ref.part k
    fallBack c.ref.part k now.version (setKey c.ref.part k { e with pending := now.pending } s)
  | _, _ => s

/-- The active's verdict aborts a command on the standby too: at the same item, or, when its own engine has already finished a command of
group 0x06, by completing it with ABORTED and a header of zeros and withdrawing what it wrote (R184, R202). -/
def pairAbort (r : CmdRef) (k : Nat) (s : State) : State :=
  match findCmd s r with
  | none => s
  | some c =>
    match c.result with
    | none => abortAt r k s
    | some v =>
      if c.opcode.toNat / 256 == 6 then
        let s := if v.status = stOk then withdrawChange c s else s
        let s := modCmd r (fun c => { c with result := some { status := stAborted, reply := zeros 32 }, wrote := [], backing := [] }) s
        match c.out with
        | some o => if v.status = stOk && isOnDie o then noteBacking r o s else s
        | none => s
      else s

/-- The oldest DEVICE_ABORT of the standby that names this target and waits for its verdict. -/
def abortAsked (s : State) (ring seq : Nat) : Option Cmd :=
  s.prism.cmds.find? (fun c => c.opcode == 0x0102 && c.fromMirror && c.result.isNone && c.told.isNone &&
    (reqOf c).pay 0 2 == ring && (reqOf c).pay 8 8 == seq)

/-- A verdict arrives with the item index (R284). -/
def takeVerdict (ring seq v k : Nat) (s : State) : State :=
  match abortAsked s ring seq with
  | none => s
  | some a =>
    let s := modCmd a.ref (fun c => { c with told := some v }) s
    if v != 0 then s
    else match jFind s a.ref.part ring (BitVec.ofNat 64 seq) with
      | none => s
      | some (i, _) => pairAbort (refAt a.ref.part i (getPart s a.ref.part)) k s

/-- EVENT (R106, R109, R284, R406, R410, R414). A frame whose claim is below the standby's own is refused. -/
def execEvent (f : Frame) (e : PairEvent) (s : State) : Res :=
  .next (receive f 0x12 (fun s =>
    if s.ilu.mirror == .standby && decide (f.claim.toNat < s.ilu.claim.toNat) then
      sendPartner 0x14 [4] (modIlu (fun i => { i with cntRefused := satAdd 32 i.cntRefused 1 }) s)
    else match e with
      | .ringGeneration g =>
        let s := bumpRingGen g s
        if s.ilu.mirror == .active then sendPartner 0x12 (toLe 2 g) s else s
      | .partGeneration p =>
        let s := bumpPartGen p s
        if s.ilu.mirror == .active then sendPartner 0x12 (toLe 2 p) s else s
      | .abortVerdict ring seq v k => if s.ilu.mirror == .standby then takeVerdict ring seq v k s else s
      | .boundary _ => boundary s) s)

/-- A ring that both modules of a pair mirror: every ring but local ring 0 of the PF (R409). -/
def mirrored (s : State) (g : Nat) : Bool := g != (getFn s 0).ringBase

/-- A ring's generation changes: in a pair the active applies the change and sends it on, and the standby sends it to the active,
which returns it (R106, R410). -/
def changeRingGen (g : Nat) (s : State) : State :=
  if !mirrored s g then bumpRingGen g s
  else match s.ilu.mirror with
    | .active => sendPartner 0x12 (toLe 2 g) (bumpRingGen g s)
    | .standby => sendPartner 0x12 (toLe 2 g) (modRing g (fun r => { r with enable := false }) s)
    | _ => bumpRingGen g s

/-- A partition's generation changes through a function-level reset, in a pair or out of it (R106, R410). -/
def changePartGen (p : Nat) (s : State) : State :=
  match s.ilu.mirror with
  | .active => sendPartner 0x12 (toLe 2 p) (bumpPartGen p s)
  | .standby => sendPartner 0x12 (toLe 2 p) s
  | _ => bumpPartGen p s

/-- The generations a function-level reset changes (R106, R110). -/
def changeGens (f : Nat) (s : State) : State :=
  let x := getFn s f
  if !x.mapped then s
  else if fnsOf s x.partition = [f] then changePartGen x.partition s
  else (fnRings x).foldl (fun s g => changeRingGen g s) s

/-- A function-level reset as the host raises it (R111, R410). -/
def hostReset (f : Nat) (s : State) : State := changeGens f (functionClear f s)

/-- Function-level reset of every VF, as clearing VF Enable performs it (R111). -/
def resetVfs (s : State) : State := vfNums.foldl (fun s f => hostReset f s) s

/-! ### Lockstep (R412) -/

/-- The leftmost 8 bytes of SHA3-256 of a reply. -/
def replyDigest (b : Bytes) : Bytes := (sha3_256 b).take 8

/-- A difference from the active (R412). -/
def diverge (s : State) : State :=
  let s := modIlu (fun i => { i with cntDiverge := satAdd 32 i.cntDiverge 1 }) s
  discardMirrored (toMirror .detached (sendPartner 0x14 [4] s))

/-- Enter one side of a comparison, and compare when the other side is there. -/
def compareWith (x : Compare) (s : State) : State :=
  match s.ilu.compares.find? (fun y => y.ref == x.ref && y.theirs != x.theirs) with
  | none => modIlu (fun i => { i with compares := i.compares ++ [x] }) s
  | some y =>
    let s := modIlu (fun i => { i with compares := i.compares.filter (fun z => !(z == y)) }) s
    if x.status == y.status && x.replyLen == y.replyLen && x.digest == y.digest then s else diverge s

/-- REPLY_CHECK (R412). -/
def execReplyCheck (f : Frame) (r : CmdRef) (status : BitVec 16) (replyLen : Nat) (digest : Bytes) (s : State) : Res :=
  .next (receive f 0x13 (fun s =>
    if s.ilu.mirror == .standby then compareWith { ref := r, theirs := true, status := status, replyLen := replyLen, digest := digest } s
    else s) s)

/-! ## Resynchronisation (R416) -/

/-- The vendor's own format of the copied state, as it is read. -/
opaque decodeSync : Bytes → Option SyncImage

/-- Phase 1: P, the register, partitions without their vault and journal, locks and the claim. -/
def syncOne (y : SyncImage) (s : State) : State :=
  let keepMem (e : Nat × Part) : Nat × Part :=
    let x := getPart s e.1
    (e.1, { e.2 with journal := x.journal, jnext := x.jnext, jwrapped := x.jwrapped, vault := x.vault, windows := x.windows, gen := x.gen,
                     counters := x.counters })
  { s with pm := { s.pm with logP := y.logP }, parts := y.parts.map keepMem, ilu := { s.ilu with claim := y.claim },
           ks := { s.ks with mwk := y.mwk, mwkPrev := y.mwkPrev, mwkGen := y.mwkGen, prevPresent := y.prevPresent, epochs := y.epochs } }

/-- Phase 2: keys, into the module's own slots and backing records. -/
def syncTwo (y : SyncImage) (s : State) : State :=
  { s with ks := { s.ks with keys := y.keys, nor0 := y.nor, nor1 := y.nor, hot := [] } }

/-- Phase 3: sessions, journals, replies, vaults, and every ring's LAST_SEQ and generation. -/
def syncThree (y : SyncImage) (s : State) : State :=
  let rings := y.rings.foldl (fun t e => t.put e.1 { t.at e.1 ringReset with lastSeq := e.2.lastSeq, gen := e.2.gen, accepts := e.2.accepts }) s.rings
  let parts := y.parts.map (fun e =>
    let x := getPart s e.1
    (e.1, { x with journal := e.2.journal, jnext := e.2.jnext, jwrapped := e.2.jwrapped, vault := e.2.vault, gen := e.2.gen }))
  { s with sess := y.sess, rings := rings, replies := y.replies, parts := parts }

/-- The module holds a role it has won. -/
def setRole (role : Bool) (v : Bool) (s : State) : State :=
  modIlu (fun i => if role then { i with vaultOwner := v } else { i with keyMaster := v }) s

/-- The record of a role: false KEY_MASTER, true VAULT_OWNER. -/
def leaseOf (s : State) (role : Bool) : LeaseRec := if role then s.ilu.vaultLease else s.ilu.keyLease
def setLease (role : Bool) (r : LeaseRec) (s : State) : State :=
  modIlu (fun i => if role then { i with vaultLease := r } else { i with keyLease := r }) s

/-- A new holder that has fetched what it lacked acts (R418). -/
def fetched (s : State) : State :=
  match s.ilu.fetch with
  | none => s
  | some (role, n) =>
    if n ≤ s.ilu.applied then
      setRole role true (setLease role { leaseOf s role with acts := true } (modIlu (fun i => { i with fetch := none, imageOwed := i.imageOwed && role }) s))
    else s

/-- What an image does not name goes. -/
def dropUnnamed (y : RingImage) (s : State) : State :=
  if y.vault then
    (partNums s).foldl (fun s p => modPart p (fun x =>
      { x with vault := { x.vault with records := x.vault.records.filter (fun r => y.changes.contains (.vault p r)) } }) s) s
  else
    (s.ks.keys.filter (fun e => !y.changes.any (fun x => match x with | .key p r _ _ => keyIndex p r == e.1 | _ => false))).foldl
      (fun s e => applyChange (.key (e.1 / 2 ^ 32) (BitVec.ofNat 32 e.1) e.2.version none) s) s

/-- A member takes in the image of a role (R420). -/
def applyImage (y : RingImage) (s : State) : State :=
  let known : List Change := if y.vault then (partNums s).flatMap (fun p => (getPart s p).vault.records.map (fun r => Change.vault p r)) else []
  let s := (y.changes.filter (fun x => !known.contains x)).foldl (fun s x => applyChange x s) (dropUnnamed y s)
  fetched (modIlu (fun i => { i with applied := max i.applied y.applied, imageOwed := i.imageOwed && y.vault }) s)

/-- RESYNC in a ring: 0 asks for the images of the roles, 6 carries one (R418, R420). -/
def ringSync (f : Frame) (phase : Nat) (state : Bytes) (s : State) : State :=
  match phase with
  | 0 => sendImages f.src s
  | 6 => (match decodeImage state with | none => s | some y => applyImage y s)
  | _ => s

/-- RESYNC (R408, R416, R418, R420): the target applies the copy phase by phase; lockstep begins with the final pass. -/
def execResync (f : Frame) (phase percent : Nat) (state : Bytes) (s : State) : Res :=
  .next (receive f 0x50 (fun s =>
    if s.ilu.mirror == .syncTarget && phase != 0 && phase != 6 then
      let s := modIlu (fun i => { i with resyncPct := min percent 100 }) s
      match decodeSync state with
      | none => s
      | some y =>
        match phase with
        | 1 => syncOne y s
        | 2 => syncTwo y s
        | 3 => syncThree y s
        | 4 => syncThree y (syncTwo y s)
        | 5 => toMirror .standby (syncThree y (syncTwo y (syncOne y s)))
        | _ => s
    else if s.ilu.members != 0 then ringSync f phase state s else s) s)

/-- RESYNC_FINAL_PASS (R416): with less than 16 MiB dirty the source copies the rest and lockstep begins. -/
def execResyncFinalPass (dirtyBytes : Nat) (s : State) : Res :=
  guarded (s.ilu.mirror == .syncSource && decide (dirtyBytes < 16777216))
    (fun s => toMirror .active (sendSync 5 (modIlu (fun i => { i with resyncPct := 100, dirty := 0 }) s))) s

/-! ## Leases (R417 to R419) -/

/-- L (R418); 0 in claim mode. -/
def leaseLen (s : State) : Nat := if s.ilu.leaseMode then max (s.ilu.leaseMult * rttMax s) (4 * rttMax s + 4000) else 0

/-- The window in which a holder may act, after it sent its frame: L (1 - 2ε) - G, with ε 2 × 10^-4 and G 1 µs (R418). -/
def leaseWindow (l : Nat) : Nat := l - l * 4 / 10000 - 1000

/-- ⌊MEMBERS/2⌋ + 1. -/
def majority (s : State) : Nat := s.ilu.members / 2 + 1

/-- may_act of R419, judged now. -/
def mayAct (s : State) (role : Bool) : Bool :=
  let r := leaseOf s role
  r.holder == s.ilu.position && r.acts && decide (majority s ≤ r.votes) && decide (s.clk.ns < r.sent + leaseWindow (leaseLen s))

/-- The holder ceases to hold at once. -/
def ceaseRole (role : Bool) (s : State) : State := setRole role false (setLease role { leaseOf s role with acts := false, votes := 0 } s)

/-- A LEASE as its frame carries it: role, term, holder, L and the votes so far. -/
def leaseBytes (role : Bool) (term : BitVec 64) (holder lengthNs : Nat) (votes : List (Nat × Bool × Nat)) : Bytes :=
  toLe 1 (b2n role) ++ toLe 8 term.toNat ++ toLe 1 holder ++ toLe 8 lengthNs ++
  votes.flatMap (fun v => toLe 1 v.1 ++ toLe 1 (b2n v.2.1) ++ toLe 8 v.2.2)

/-- This member's vote, with the last sequence it has applied. -/
def ownVote (ack : Bool) (s : State) : Nat × Bool × Nat := (s.ilu.position, ack, s.ilu.applied)

/-- The holder sends its LEASE, with its own vote; its own record runs from now. -/
def sendLease (role : Bool) (s : State) : State :=
  let r := leaseOf s role
  broadcast 0x20 r.term (leaseBytes role r.term r.holder (leaseLen s) [ownVote true s])
    (setLease role { r with asked := s.clk.ns, expiry := s.clk.ns + leaseLen s, due := ways s, back := [] } s)

/-- The vote of a member on a lease frame, and its record (R419). -/
def voteLease (role : Bool) (term : BitVec 64) (holder lengthNs : Nat) (s : State) : Bool × State :=
  let r := leaseOf s role
  let nak := decide (term.toNat < r.term.toNat) || (term == r.term && holder != r.holder) ||
             (decide (r.term.toNat < term.toNat) && decide (s.clk.ns < r.expiry))
  let s := if decide (r.term.toNat < term.toNat) && r.holder == s.ilu.position then ceaseRole role s else s
  (!nak, if nak then s else setLease role { leaseOf s role with term := term, holder := holder, expiry := s.clk.ns + lengthNs, acts := false, votes := 0 } s)

/-- A LEASE passes on with this member's vote. -/
def passLease (f : Frame) (role : Bool) (term : BitVec 64) (holder lengthNs : Nat) (votes : List (Nat × Bool × Nat)) (ack : Bool) (s : State) : State :=
  let b := leaseBytes role term holder lengthNs (votes ++ [ownVote ack s])
  let (body, s) := sealPayload 0x20 f.flags.toNat f.src f.dst f.claim b s
  onwards f 0x20 body b.length s

/-- The frame of a holder has come back one way, with the votes of others; the members that voted are live once every way is back. -/
def wayBack (role : Bool) (votes : List (Nat × Bool × Nat)) (s : State) : State :=
  let r := leaseOf s role
  let others := r.back ++ votes.filter (fun v => v.1 != s.ilu.position)
  setLease role { r with back := others, due := r.due - 1 }
    (modIlu (fun i => { i with live := if r.due = 1 then i.position :: others.map (fun v => v.1) else i.live }) s)

/-- Members that have voted for the holder, itself among them. -/
def acksBack (r : LeaseRec) : Nat := 1 + (r.back.filter (fun v => v.2.1)).length

/-- The highest sequence a voter has applied. -/
def topBack (r : LeaseRec) : Nat := (r.back.map (fun v => v.2.2)).foldl max 0

/-- A holder that must fetch before it acts asks the voter with the highest sequence (R418). -/
def fetchRole (role : Bool) (s : State) : State :=
  let r := leaseOf s role
  let s := modIlu (fun i => { i with fetch := some (role, topBack r) }) s
  match r.back.find? (fun v => v.2.2 == topBack r) with
  | none => s
  | some v => sendTo v.1 0x50 s.ilu.claim (toLe 1 0 ++ toLe 1 0) s

/-- The holder acts, and with the last way back it sends its images to members that were not live (R420). -/
def actRole (role : Bool) (was : List Nat) (s : State) : State :=
  let r := leaseOf s role
  let s := modIlu (fun i => { i with imageOwed := i.imageOwed && role }) (setRole role true (setLease role { r with acts := true } s))
  if r.due = 0 then ((r.back.map (fun v => v.1)).filter (fun p => !was.contains p)).foldl (fun s p => sendImages p s) s else s

/-- What becomes of a holder's role when its frame has come back one way (R418, R419): with a majority it acts, or first fetches what it lacks;
without one, it ceases to hold once every way is back. -/
def leaseBack (role : Bool) (votes : List (Nat × Bool × Nat)) (s : State) : State :=
  let t := wayBack role votes s
  let r := leaseOf t role
  if majority s ≤ acksBack r then
    let u := setLease role { r with votes := acksBack r, sent := r.asked } t
    if !r.acts && decide (s.ilu.applied < topBack r) then fetchRole role u else actRole role s.ilu.live u
  else if r.due = 0 then ceaseRole role t
  else t

/-- LEASE (R418, R419): a member votes on a frame that passes it; the holder acts when its frame returns with a majority, and
ceases otherwise. -/
def execLease (f : Frame) (role : Bool) (term : BitVec 64) (holder lengthNs : Nat) (votes : List (Nat × Bool × Nat)) (s : State) : Res :=
  .next (receive f 0x20 (fun s =>
    if !s.ilu.leaseMode then (if ownFrame s f then s else passLease f role term holder lengthNs votes false s)
    else if ownFrame s f then
      let r := leaseOf s role
      if term == r.term && r.holder == s.ilu.position && decide (0 < r.due) then leaseBack role votes s else s
    else
      let (ack, s) := voteLease role term holder lengthNs s
      passLease f role term holder lengthNs votes ack s) s)

/-- LEASE_RENEWAL (R418): at s + L/2, under the same term. -/
def execLeaseRenewal (role : Bool) (s : State) : Res :=
  let r := leaseOf s role
  guarded (s.ilu.leaseMode && s.ilu.formed && r.acts && r.holder == s.ilu.position && decide (r.sent + leaseLen s / 2 ≤ s.clk.ns) &&
           decide (r.asked ≤ r.sent) && mayAct s role) (sendLease role) s

/-- LEASE_WINDOW_END (R418). -/
def execLeaseWindowEnd (role : Bool) (s : State) : Res :=
  guarded (s.ilu.leaseMode && (leaseOf s role).acts && !mayAct s role) (ceaseRole role) s

/-- LEASE_RECORD_EXPIRY (R418): from now on the member votes for a new term. -/
def execLeaseRecordExpiry (role : Bool) (s : State) : Res :=
  guarded (s.ilu.leaseMode && decide ((leaseOf s role).expiry ≤ s.clk.ns) && (leaseOf s role).votes != 0)
    (fun s => setLease role { leaseOf s role with votes := 0 } s) s

/-- Members between the holder and this one, eastwards: its turn in a takeover. -/
def takeoverTurn (s : State) (holder : Nat) : Nat := (s.ilu.position + s.ilu.members - holder - 1) % max 1 s.ilu.members

/-- LEASE_TAKEOVER (R418): R_max + G after the record expired, and 4 R_max more for each member eastwards. -/
def execLeaseTakeover (role : Bool) (s : State) : Res :=
  let r := leaseOf s role
  guarded (s.ilu.leaseMode && s.ilu.formed && !r.acts &&
           decide (r.expiry + rttMax s + 1000 + 4 * rttMax s * takeoverTurn s r.holder ≤ s.clk.ns))
    (fun s => sendLease role (setLease role { r with term := r.term + 1, holder := s.ilu.position, votes := 0, acts := false } s)) s

/-! ## Replication (R406, R419, R420) -/

/-- The vendor's own format of a change, as it is read. -/
opaque decodeChange : Bytes → Option Change

/-- The refusal a member owes a REPLICATE frame (R406, R419). -/
def replicateRefusal (f : Frame) (role : Bool) (s : State) : Option Status :=
  if s.ilu.leaseMode then
    let r := leaseOf s role
    need (!(decide (f.claim.toNat < r.term.toNat) || f.src != r.holder || decide (r.expiry ≤ s.clk.ns))) stLeaseExpired
  else need (decide (s.ilu.topClaim.toNat ≤ f.claim.toNat)) stClaimSuperseded

/-- REPLICATE (R406, R419, R420): changes are applied in sequence order; one applied already is acknowledged again, and one ahead of its turn
waits to be sent again. -/
def execReplicate (f : Frame) (role : Bool) (seq : Nat) (change : Bytes) (s : State) : Res :=
  .next (receive f 0x30 (fun s =>
    match replicateRefusal f role s with
    | some st =>
      sendFrame f.port 0x31 f.src s.ilu.claim (toLe 2 st.toNat) (modIlu (fun i => { i with cntRefused := satAdd 32 i.cntRefused 1 }) s)
    | none =>
      if s.ilu.applied + 1 < seq then s
      else
        let s := if seq ≤ s.ilu.applied then s else
          modIlu (fun i => { i with applied := seq }) (match decodeChange change with | none => s | some c => applyChange c s)
        sendFrame f.port 0x31 f.src s.ilu.claim (toLe 2 0 ++ toLe 8 seq) s) s)

/-- A member has acknowledged one more change of a command; it is wanted no more once it has acknowledged them all. -/
def ackChange (src : Nat) (c : Cmd) : Cmd :=
  let n := c.ackedBy.count src + 1
  if c.replicas.length < n then c
  else { c with ackedBy := c.ackedBy ++ [src], replicated := if n = c.replicas.length then c.replicated - 1 else c.replicated }

/-- REPLICATE_ACK (R420): the change is applied at one more member, or refused, which ends the command and the role. -/
def execReplicateAck (f : Frame) (r : CmdRef) (refusal : BitVec 16) (s : State) : Res :=
  .next (receive f 0x31 (fun s =>
    match findCmd s r with
    | none => s
    | some c =>
      if refusal = 0 then modCmd r (ackChange f.src) s
      else
        let s := modCmd r (fun c => { c with replicated := 0, replicas := [], result := some { status := refusal, reply := [] } }) (withdrawChange c s)
        modIlu (fun i => { i with keyMaster := false, vaultOwner := false }) s) s)

/-! ## Group 0x0F (R290, R403, R407, R413, R414, R421, R423) -/

/-- The rules of the ring commands but RING_STATUS: the PF, and Deployed. -/
def ringBase (s : State) (x : Req) : Bool := x.fn == 0 && lifeCycle s == .deployed

def specRingStatus : OpSpec := { specZero8 64 with phase := .clear }

/-- Nanoseconds left of the lease the module holds. -/
def leaseLeft (s : State) : Nat := if s.ilu.keyLease.acts then s.ilu.keyLease.sent + leaseWindow (leaseLen s) - s.clk.ns else 0

def runRingStatus : Effect := fun _ s =>
  let port (e : Bool) : Nat := let n := portStateNum s e; if n = 3 then 0 else n
  ends s stOk (toLe 1 (roleNum s) ++ toLe 1 (b2n s.ilu.leaseMode) ++ toLe 1 s.ilu.members ++ toLe 1 (port false + 4 * port true) ++ zeros 4 ++
    toLe 8 s.ilu.claim.toNat ++ toLe 8 s.ilu.partner.toNat ++ toLe 4 (rttMax s) ++ toLe 4 (leaseLeft s) ++ zeros 32)

def ownRingConfig (s : State) (x : Req) : Option Status :=
  let mode := x.pay 9 1
  need (ringBase s x && allZero (bsub x.payload 11 5) && decide (2 ≤ x.pay 8 1) && decide (mode ≤ 1) &&
        (if mode = 1 then decide (2 ≤ x.pay 10 1) && decide (x.pay 10 1 ≤ 64) else x.pay 10 1 == 0 && decide (x.pay 8 1 ≤ 8))) stPolicyDenied

def specRingConfig : OpSpec :=
  { phase := .clear
    length := fun _ x => x.len == 16
    maxReply := fun _ _ => 4
    quorum := fun _ _ => some 0
    own := ownRingConfig
    persist := fun _ _ => true }

def runRingConfig (sameP : Bool) : Effect := fun c s =>
  let x := reqOf c
  if sameP then
    ends (modIlu (fun i => { i with ringId := BitVec.ofNat 64 (x.pay 0 8), members := x.pay 8 1, leaseMode := x.pay 9 1 == 1,
                                    leaseMult := x.pay 10 1, formed := false, live := [], keyMaster := false, vaultOwner := false }) s) stOk (zeros 4)
  else ends s stPolicyDenied

def ownMirrorPair (s : State) (x : Req) : Option Status :=
  need (ringBase s x && decide (x.pay 8 1 ≤ 1) && (x.pay 9 1 == 1 || x.pay 9 1 == 2) && allZero (bsub x.payload 10 6) && !s.ilu.paired &&
        s.ilu.mirror == .none && (iluPort s (x.pay 8 1 == 1)).up) stPolicyDenied

def specMirrorPair : OpSpec :=
  { phase := .clear
    length := fun _ x => x.len == 16
    maxReply := fun _ _ => 4
    quorum := fun _ _ => some 0
    own := ownMirrorPair
    persist := fun _ _ => true }

/-- `fits`: the partner meets R407. `agreed`: PK, when the partner's offer, chain and serial verify (R402). -/
def runMirrorPair (fits : Bool) (agreed : Option Bytes) : Effect := fun c s =>
  let x := reqOf c
  match fits, agreed with
  | false, _ => ends s stPolicyDenied
  | true, none => ends s stVerifyFailed
  | true, some pk =>
    let s := modIlu (fun i => { i with
      paired := true, partner := BitVec.ofNat 64 (x.pay 0 8), pairPort := x.pay 8 1 == 1, pairKey := padTo 32 pk, partnerSeen := true,
      heardNs := s.clk.ns, resyncPct := 0, compares := [],
      position := if i.formed then i.position else b2n (decide (x.pay 0 8 < leNat (unitSerial s))) }) s
    ends (if x.pay 9 1 = 1 then enterSource s else toMirror .syncTarget s) stOk (zeros 4)

def ownUnpair (s : State) (x : Req) : Option Status := need (ringBase s x && allZero x.payload && s.ilu.paired) stPolicyDenied

def specMirrorUnpair : OpSpec :=
  { phase := .clear
    length := fun _ x => x.len == 8
    maxReply := fun _ _ => 4
    quorum := fun _ _ => some 0
    own := ownUnpair
    draws := fun _ _ => true
    persist := fun _ _ => true }

/-- It sends LEAVE with cause 1; the pair ends on both sides (R407). -/
def runMirrorUnpair : Effect := fun c s => ends (unpair (drawn c 0 64) (sendPartner 0x14 [1] s)) stOk (zeros 4)

def ownSwitchover (s : State) (x : Req) : Option Status :=
  let i := s.ilu
  need (ringBase s x && allZero x.payload &&
        (match i.mirror with
         | .none => i.members != 0 && !i.leaseMode
         | .standby => true
         | .held => true
         | .detached => !i.partnerSeen
         | _ => false)) stPolicyDenied

def specSwitchover : OpSpec :=
  { phase := .clear
    length := fun _ x => x.len == 8
    maxReply := fun _ _ => 8
    own := ownSwitchover }

/-- Settle the pair (R413), swap the roles at a boundary (R414), or take the roles of a claim-mode ring (R417). -/
def runSwitchover : Effect := fun _ s =>
  match s.ilu.mirror with
  | .standby =>
    if s.ilu.partnerSeen then (sendPartner 0x12 (toLe 8 s.ilu.claim.toNat) s, none)
    else let t := goSolo s; ends t stOk (toLe 8 t.ilu.claim.toNat)
  | .held => let t := goSolo s; ends t stOk (toLe 8 t.ilu.claim.toNat)
  | .detached => let t := goSolo s; ends t stOk (toLe 8 t.ilu.claim.toNat)
  | .none =>
    let t := modIlu (fun i => { i with keyMaster := i.formed, vaultOwner := i.formed }) (raiseClaim s)
    ends t stOk (toLe 8 t.ilu.claim.toNat)
  | _ => ends s stPolicyDenied

def specRingSpill : OpSpec :=
  { phase := .clear
    length := fun _ x => x.len == 8
    maxReply := fun _ _ => 4
    own := fun s x => need (ringBase s x && allZero (bsub x.payload 1 7) && (x.pay 0 1 == 0 || (decide (50 ≤ x.pay 0 1) && decide (x.pay 0 1 ≤ 95))))
      stPolicyDenied }

def runRingSpill : Effect := fun c s => ends (modIlu (fun i => { i with spill := BitVec.ofNat 8 ((reqOf c).pay 0 1) }) s) stOk (zeros 4)

/-- RING_STATUS (R290). -/
def execRingStatus (r : CmdRef) (s : State) : Res := runAccepted 0x0F01 runRingStatus noReply r s
/-- RING_CONFIG (R290, R403). -/
def execRingConfig (r : CmdRef) (sameP : Bool) (s : State) : Res := runAccepted 0x0F02 (runRingConfig sameP) noReply r s
/-- MIRROR_PAIR (R402, R407). -/
def execMirrorPair (r : CmdRef) (fits : Bool) (agreed : Option Bytes) (s : State) : Res :=
  runAccepted 0x0F03 (runMirrorPair fits agreed) noReply r s
/-- MIRROR_UNPAIR (R407). -/
def execMirrorUnpair (r : CmdRef) (s : State) : Res := runAccepted 0x0F04 runMirrorUnpair noReply r s
/-- MIRROR_SWITCHOVER (R413, R414, R417). -/
def execMirrorSwitchover (r : CmdRef) (s : State) : Res := runAccepted 0x0F05 runSwitchover noReply r s
/-- RING_SPILL (R421). -/
def execRingSpill (r : CmdRef) (s : State) : Res := runAccepted 0x0F06 runRingSpill noReply r s

end Sys2Proof.Machine
end

