-- ==== Sys2Proof/Machine/Startup.lean ====
section
/-! DEFINITION. The road from power-on to Clear, resets, power and link events (R16 to R30, R98, R99, R106, R111, R112, R132, R150, R292 to
R304, R309 to R311, R361, R364, R381, R389 to R391, R439 to R441, R452). -/

namespace Sys2Proof.Machine

/-! ## Supplies (R377, R379, R395, R441) -/

/-- The Horizon domain after it has lost every supply: its contents go; what lies in private NOR stays (R381, R395). -/
def horizonLost (h : Horizon) : Horizon :=
  { State.resetHorizon with check := h.check, checkNs := h.checkNs, calLight := h.calLight, calFull := h.calFull }

/-- The Horizon register and the pair's material held with it are lost with the domain (R395). -/
def horizonOff (s : State) : State :=
  let s := zeroiseRegister { s with hzn := horizonLost s.hzn }
  { s with parts := s.parts.map (fun e => (e.1, { e.2 with lastCer := 0 })) }

/-- Whether a battery keeps the Horizon domain alive: 2.0 V or more (R379). -/
def batteryAlive (s : State) : Bool := decide (2000 ≤ s.hzn.vbatA) || decide (2000 ≤ s.hzn.vbatB)

/-- A record of the tamper log (R388, R397). -/
def tamperRecord (cause channel : Nat) (battery : Bool) (sample : Nat) (s : State) : State :=
  let r : TamperRec := { cause := BitVec.ofNat 4 cause, channel := BitVec.ofNat 4 channel, battery := battery,
                         sample := BitVec.ofNat 12 sample, time := s.hzn.time }
  { s with hzn := { s.hzn with log := s.hzn.log.put s.hzn.logNext.toNat r, logNext := s.hzn.logNext + 1 } }

/-- A response begins: its record, the latch, its cause bit and the count (R388, R397). -/
def tamperBegin (cause channel : Nat) (battery : Bool) (sample : Nat) (s : State) : State :=
  let s := tamperRecord cause channel battery sample s
  { s with hzn := { s.hzn with latch := true, latched := s.hzn.latched ||| (1#12 <<< cause), tampers := satAdd 8 s.hzn.tampers 1 } }

/-- What the ROM treats as a set latch at power-up: a key register whose CRC fails, or one lost with keys in it (R389). -/
def latchAtPowerUp (s : State) : State :=
  if s.hzn.lost then (if s.hzn.check.mwkGen != 0 then tamperBegin 11 0 false 0 s else s)
  else if s.ks.mwkGen != 0 && !s.ks.regCrcOk then tamperBegin 10 0 false 0 s else s

/-- POWER_ON (R64, R292, R441): a feed has stayed above 10.5 V and the power-on reset is released. -/
def execPowerOn (feedA feedB : Nat) (s : State) : Res :=
  guarded (!s.clk.powered && (decide (10500 < feedA) || decide (10500 < feedB))) (fun s =>
    latchAtPowerUp
      { s with
        clk := { s.clk with feedA := feedA, feedB := feedB, powered := true, porNs := s.clk.ns, pllEnabled := true, pllLocked := false,
                            islandClock := false, faults := [], holdDark := false }
        domains := []
        hzn := { s.hzn with powered := true, active := s.hzn.active &&& ~~~4#9 } }) s

/-- FEED_CHANGE (R386, R439, R440). -/
def execFeedChange (feedA feedB : Nat) (s : State) : Res := .next { s with clk := { s.clk with feedA := feedA, feedB := feedB } }

/-- POWER_FAIL (R24, R64, R395, R440): every feed below 10.0 V. -/
def execPowerFail (s : State) : Res :=
  guarded (s.clk.powered && decide (s.clk.feedA < 10000) && decide (s.clk.feedB < 10000)) (fun s =>
    let alive := batteryAlive s
    let s := feedsLost s
    if alive then s else horizonOff s) s

/-! ## Clocks (R18, R19, R292) -/

/-- The start goes on: supplied, and not held in Dark by R19. -/
def starting (s : State) : Bool := s.clk.powered && !s.clk.holdDark && s.svc.phase == .dark

/-- A clock fault: a warm reset, and after the third within one second the module stays in Dark (R19). -/
def clockFault (s : State) : State :=
  let l := s.clk.faults.filter (fun t => decide (s.clk.ns < t + 1000000000)) ++ [s.clk.ns]
  let s := warmReset s
  { s with clk := { s.clk with faults := l, holdDark := decide (3 ≤ l.length) } }

/-- PLL_LOCK (R18). -/
def execPllLock (s : State) : Res :=
  guarded (starting s && s.clk.pllEnabled && !s.clk.pllLocked)
    (fun s => { s with clk := { s.clk with pllLocked := true, pllLockNs := s.clk.ns } }) s

/-- PLL_LOCK_TIMEOUT (R292): no lock 2 ms after power-on reset. -/
def execPllLockTimeout (s : State) : Res :=
  guarded (starting s && s.clk.pllEnabled && !s.clk.pllLocked && decide (s.clk.porNs + 2000000 ≤ s.clk.ns)) clockFault s

/-- The record of a transition that the ROM has yet to act on: its intent is not void and its DONE not complete (R364). -/
def openRecord (s : State) : Option Nat :=
  match lastRecord s with
  | none => none
  | some i => if recDone s i || (recWord s i 0 == 0xFFFFFFFF && recWord s i 1 == 0xFFFFFFFF) then none else some i

/-- The target of a complete intent that is to be rolled forward. -/
def openIntent (s : State) : Option (Nat × LifeCycle) :=
  match openRecord s with
  | none => none
  | some i => (recIntent s i).map (fun t => (i, t))

/-- ISLAND_CLOCK_SWITCH (R18, R221, R292): 100 µs after lock; the generator starts. -/
def execIslandClockSwitch (s : State) : Res :=
  guarded (starting s && s.clk.pllLocked && !s.clk.islandClock && decide (s.clk.pllLockNs + 100000 ≤ s.clk.ns)) (fun s =>
    { s with
      clk := { s.clk with islandClock := true }
      rng := { freshRun s.rng with state := .testing, running := true, startNs := s.clk.ns }
      life := { s.life with rolling := (openIntent s).isSome } }) s

/-- CLOCK_CHECK (R19): a lock loss, or a count more than 8 % from the nominal 1,024. -/
def execClockCheck (count : Nat) (lockLost : Bool) (s : State) : Res :=
  guarded (s.clk.powered && s.clk.pllLocked &&
           (lockLost || decide (108 * 1024 < 100 * count) || decide (100 * count < 92 * 1024))) clockFault s

/-! ## Destruction of secrets (R154, R361, R390) -/

/-- What every transition and every tamper response destroys, the retained image apart (R361): keys, partitions, mappings and windows go,
the memory encryption key is replaced, and the loss of the journals is counted and reported (R64). -/
def destroyTenants (s : State) : State :=
  let s := destroyAllKeys (zeroiseRegister s)
  let unmap (x : Fn) : Fn := { x with partition := 0, ringBase := 0, ringCount := 0, mapped := false }
  let (k, s) := islandDraw 64 s
  { s with
    pm := { s.pm with logP := none, stored := s.pm.stored.filter (fun e => e.1 == 0) }
    fns := s.fns.map (fun e => if e.1 = 0 then e else (e.1, unmap e.2))
    parts := s.parts.map (fun e => (e.1, { partReset with gen := e.2.gen, drbg := e.2.drbg, drbgCount := e.2.drbgCount,
                                                          drbgTime := e.2.drbgTime, drbgDue := e.2.drbgDue, lastCer := e.2.lastCer }))
    rings := s.rings.map (fun e => (e.1, { e.2 with lastSeq := 0, accepts := 0 }))
    replies := []
    sess := { ctxs := [], fresh := [], freed := [] }
    prism := { s.prism with cutOff := [], cmds := [], held := [] }
    ks := { s.ks with memKey := k }
    hzn := { s.hzn with epoch := s.hzn.epoch + 1 }
    svc := { s.svc with jnlLost := true } }

/-- Void an identity seed slot (R365). -/
def voidSeed (i : Nat) (s : State) : State := programOtp (0x200 + 32 * i) (List.replicate 32 0xFF) s

/-- Seeds on entering Personalised: seeds are voided, and a new one is drawn into the first blank slot (R364). -/
def newSeed (s : State) : State :=
  let s := ((List.range 8).filter (fun i => !seedBlank s i && !seedVoid s i)).foldl (fun s i => voidSeed i s) s
  match (List.range 8).find? (seedBlank s) with
  | none => s
  | some i => let (b, s) := islandDraw 32 s; programOtp (0x200 + 32 * i) (padTo 32 b) s

/-- On entering Returned or Scrap the seeds are voided and certificate, PCFG and bus configuration erased; both masters are in reset
(R361, R364). -/
def eraseIdentity (s : State) : State :=
  let s := ((List.range 8).filter (fun i => !seedVoid s i)).foldl (fun s i => voidSeed i s) s
  { s with
    life := { s.life with certs := none }
    plat := { s.plat with pcfg := none, hostReset := true, bmcReset := true, pwrgd := false, host := .heldFailed, bmc := .heldFailed,
                          manifest := none, manifestOk := false, regions := [], booting := 0, wait := .idle }
    mbus := { s.mbus with config := 7 :: zeros 143 } }

/-- The roll-forward of a complete intent after its destruction (R364): image, seeds, then STATE and DONE. -/
def finishTransition (i : Nat) (t : LifeCycle) (s : State) : State :=
  let s := { s with fw := { s.fw with stage := [], stageLen := 0 } }
  let s := match t with
    | .personalised => newSeed s
    | .returned => eraseIdentity s
    | .scrap => eraseIdentity s
    | _ => s
  let a := 0x400 + 16 * i
  let s := programOtp (a + 12) (toLe 4 recDoneWord) (programOtp (a + 8) (toLe 4 (lcWord t)) s)
  { s with life := { s.life with fenced := false, rolling := false } }

/-- The row of R292 that acts on intents and the latch: clocked, the generator HEALTHY. -/
def romActs (s : State) : Bool := starting s && s.clk.islandClock && s.rng.state == .healthy && !s.svc.romStarted

/-- LC_ROLL_FORWARD (R361, R364): an incomplete intent is voided, a complete one rolled forward. A set latch is left to
TAMPER_COMPLETION, which does both in one pass (R391). -/
def execLcRollForward (s : State) : Res :=
  match openRecord s with
  | none => .next s
  | some i => guarded (romActs s && !s.hzn.latch) (fun s =>
      match recIntent s i with
      | none =>
        let s := programOtp (0x400 + 16 * i) (List.replicate 8 0xFF) s
        { s with life := { s.life with fenced := false, rolling := false } }
      | some t => finishTransition i t (destroyTenants s)) s

/-- TAMPER_COMPLETION (R389, R390, R391). -/
def execTamperCompletion (s : State) : Res :=
  guarded (romActs s && s.hzn.latch) (fun s =>
    let s := destroyTenants s
    let s := { s with hzn := { s.hzn with latch := false } }
    match openIntent s with
    | none => s
    | some (i, t) => finishTransition i t s) s

/-! ## The ROM's boot (R297, R301) -/

/-- The order of trial: the first slot (true: B) and FLAGS_STATE. -/
def trialOrder (s : State) (readA readB : Bool) : Bool × BitVec 2 :=
  let a := slotActive s.fw.slotA
  let b := slotActive s.fw.slotB
  let svn (r : Bool) (x : Slot) : Nat := if r then imgSvn x.image else 0
  let sa := svn readA s.fw.slotA
  let sb := svn readB s.fw.slotB
  if a && b then
    (!(decide (sb < sa) || (sa == sb && decide (flagSeq s.fw.slotB ≤ flagSeq s.fw.slotA))), 1)
  else if b then (true, 0)
  else if a then (false, 0)
  else (false, 2)

/-- Try one slot and record its result. -/
def trySlot (b readable : Bool) (s : State) : Bool × State :=
  let r := imageCheck s (slotOf s b).image 1 0 readable
  (r == 1, setSlot b { slotOf s b with result := BitVec.ofNat 4 r } s)

/-- A slot has verified: its firmware starts in Dawn. -/
def startRot (b fallback : Bool) (s : State) : State :=
  { s with
    fw := { s.fw with running := b, fallback := fallback, runKey := BitVec.ofNat 2 (imgKeyIndex (slotOf s b).image),
                      rotSvn := BitVec.ofNat 8 (imgSvn (slotOf s b).image) }
    svc := { s.svc with phase := .dawn, romStarted := true, romFound := true } }

/-- boot_rot. -/
def bootRot (readA readB : Bool) (s : State) : State :=
  let s := { s with fw := { s.fw with slotA := { s.fw.slotA with result := 0 }, slotB := { s.fw.slotB with result := 0 } } }
  let (first, flags) := trialOrder s readA readB
  let s := { s with fw := { s.fw with flags := flags } }
  let readable (b : Bool) : Bool := if b then readB else readA
  let (ok, s) := trySlot first (readable first) s
  if ok then startRot first false s
  else
    let (ok, s) := trySlot (!first) (readable (!first)) s
    if ok then startRot (!first) true s
    else { s with svc := { s.svc with romStarted := true, recovery := true }, fw := { s.fw with loaderNs := s.clk.ns } }

/-- ROM_BOOT (R292, R297, R301, R305, R356): after any open record and latch are dealt with; a module in Scrap stays in Dark. -/
def execRomBoot (readableA readableB : Bool) (s : State) : Res :=
  guarded (starting s && s.clk.islandClock && !s.svc.romStarted && (openRecord s).isNone && !s.hzn.latch && lifeCycle s != .scrap)
    (bootRot readableA readableB) s

/-! ## Dawn entry -/

def modLife (g : LifeDebug → LifeDebug) (s : State) : State := { s with life := g s.life }

/-- Write a record of the debug log (R376). -/
def logEvent (e : DebugEvent) (l : LifeDebug) : LifeDebug :=
  { l with log := l.log.put l.logNext.toNat e, logNext := l.logNext + 1, cntDebug := satAdd 32 l.cntDebug 1 }

/-- Write a Horizon checkpoint to both private NOR devices (R381). -/
def writeCheckpoint (s : State) : State :=
  { s with hzn := { s.hzn with
      checkNs := s.clk.ns
      check := { time := s.hzn.time, epoch := s.hzn.epoch, armExt := s.hzn.armExt, armEncl := s.hzn.armEncl,
                 baselines := s.hzn.baselines, mwkGen := s.ks.mwkGen, claim := s.ilu.claim } } }

/-- After a Horizon cold start: time, epoch, arming word and baselines from the newest checkpoint (R381). -/
def restoreHorizon (s : State) : State :=
  if s.hzn.lost then
    let k := s.hzn.check
    { s with
      hzn := { s.hzn with time := k.time + BitVec.ofNat 64 (secTicks 3601), epoch := k.epoch + 1, armExt := k.armExt,
                          armEncl := k.armEncl, baselines := k.baselines, lost := false, coldStart := true, restored := true }
      svc := { s.svc with jnlLost := true }
      ilu := { s.ilu with claim := k.claim, topClaim := k.claim } }
  else s

/-- Program counter bits until C equals the floor (R299). -/
def raiseFloor (floor : Nat) : Nat → State → State
  | 0, s => s
  | n + 1, s => if svnCount s < floor then raiseFloor floor n (programNextBit 0x100 (svnCount s) s) else s

/-- Floor and revocations of the running image, its own key apart (R299). -/
def applyFloor (s : State) : State :=
  let i := rotImage s
  let s := raiseFloor (imgFloor i) 256 s
  let m := imgRevoke i % 16
  let m := if bit m (imgKeyIndex i) then m - 2 ^ imgKeyIndex i else m
  programOtp 0xF0 [BitVec.ofNat 8 m] s

/-- The flip cut off is settled, the other slot is checked, and FW_BOOT and FW_SLOTS are loaded (R299, R303, R314). -/
def settleSlots (s : State) : State :=
  let o := otherSlot s
  let s := if s.fw.flags = 1 then clearFlag o s else s
  let r := imageCheck s (slotOf s o).image 1 0 ((slotOf s o).result != 6)
  let s := setSlot o { slotOf s o with result := BitVec.ofNat 4 r } s
  { s with fw := { s.fw with keysLive := BitVec.ofNat 4 (keysLive s), svnFloor := BitVec.ofNat 8 (svnCount s) } }

/-- Layers 0 and 1 of R366. Without a seed there is no identity, and the secret of the alias key is a free value. -/
def deriveAliases (s : State) : State :=
  match activeSeed s with
  | some seed =>
    let c := hmac 0x13 seed (ascii "ULGUS-CDI1" ++ bootMeasurements s ++ [s.fw.rotSvn] ++ toLe 1 (lcCode (lifeCycle s)))
    { s with life := { s.life with unitKey := layerKey seed (ascii "ULGUS-UID"), cdi1 := c, rotKey := layerKey c (ascii "ULGUS-ROT") } }
  | none =>
    let (c, s) := takeFree 64 s
    { s with life := { s.life with unitKey := [], cdi1 := c, rotKey := layerKey c (ascii "ULGUS-ROT") } }

/-- The outcome of a command that a warm reset cut off (R112): OK when every key version it wrote is the one in force. -/
def cutOffStatus (s : State) (c : Cmd) : Status :=
  if !c.wrote.isEmpty && c.wrote.all (fun w => (getKey s c.ref.part w.1).version == w.2) then stOk else stAborted

/-- Finalise every journal entry left with DONE at 0 (R112). -/
def finaliseJournals (s : State) : State :=
  let out (p i : Nat) : Status :=
    match s.prism.cutOff.find? (fun c => c.ref == refAt p i (getPart s p)) with
    | none => stAborted
    | some c => cutOffStatus s c
  let fin (p : Nat) (e : Nat × JEntry) : Nat × JEntry :=
    if e.2.done then e
    else (e.1, { e.2 with done := true, status := out p e.1, discarded := true, cached := false, replyLen := 0 })
  { s with
    parts := s.parts.map (fun x => (x.1, { x.2 with journal := x.2.journal.map (fin x.1) }))
    prism := { s.prism with cutOff := [] } }

/-- The mapping registers are loaded from the stored configuration (R98). -/
def loadMapping (s : State) : State :=
  s.pm.stored.foldl (fun s e => modFn e.1 (fun x => { x with partition := e.2.partition, ringBase := e.2.ringBase,
                                                             ringCount := e.2.ringCount, mapped := e.2.mapped }) s) s

/-- Keys drawn at a start: the memory key when there is none (R150), the context key, the scramble key and the integrity key
(R129, R182). -/
def drawStartKeys (s : State) : State :=
  let (m, s) := if s.ks.memKey.isEmpty then islandDraw 64 s else (s.ks.memKey, s)
  let (c, s) := islandDraw 32 s
  let (k, s) := islandDraw 32 s
  let (i, s) := islandDraw 32 s
  { s with ks := { s.ks with memKey := m, ctxKey := c, scramble := k, integrity := i } }

/-- The island switches on every domain but those whose channels are all retired (R463). -/
def domainsAtStart (s : State) : State := (List.range 32).foldl (fun s d => gateIfRetired d s) { s with domains := [] }

/-- A module with a stored pairing starts apart from its pair, and drives no platform output; a standalone module drives its outputs
(R316, R408). -/
def mirrorAtStart (s : State) : State :=
  if s.ilu.paired then { s with ilu := { s.ilu with mirror := .detached } }
  else { s with plat := { s.plat with driven := true } }

/-- A platform found released is adopted, with a record of kind 2; one found wholly in reset is to be booted (R317, R325, R336). -/
def platformAtStart (s : State) : State :=
  let p := s.plat
  let up := !p.hostReset || !p.bmcReset
  let s := { s with plat := { p with booting := 0, wait := .idle, isle := [], reads := [], readDone := [], hold := false, host := if p.hostReset then .heldBefore else .released,
                                     bmc := if p.bmcReset then .heldBefore else .released } }
  if up then dueRecord 2 0 s
  else { s with plat := { s.plat with bootWanted := 3, bootFull := true } }

/-- JNL_LOST on every function after the journals have been lost (R64). -/
def reportLoss (s : State) : State :=
  if s.svc.jnlLost then setCauseAll causeJnl { s with svc := { s.svc with jnlLost := false } } else s

/-- Debug events of Dark enter their log (R376). -/
def flushDebugLog (s : State) : State := modLife (fun l => { l.logDue.foldl (fun l e => logEvent e l) l with logDue := [] }) s

/-- DAWN_ENTRY (R98, R112, R132, R299, R303, R366, R376, R381): `bad` are the backing records whose tags fail, by
device, key and position. -/
def execDawnEntry (bad : List (Nat × Nat × Nat)) (s : State) : Res :=
  guarded (s.svc.phase == .dawn && !s.svc.dawnDone && !islandStalls s) (fun s =>
    let s := settleSlots (applyFloor s)
    let s := writeCheckpoint (restoreHorizon s)
    let s := drawStartKeys (deriveAliases s)
    let s := finaliseJournals (reloadKeys bad s)
    let s := platformAtStart (mirrorAtStart (domainsAtStart (loadMapping s)))
    reportLoss (flushDebugLog { s with svc := { s.svc with dawnDone := true } })) s

/-- The PHASE changes, and every function is told (R25, R41). -/
def enterPhase (p : Phase) (s : State) : State := setCauseAll causePhase { s with svc := { s.svc with phase := p } }

/-- The link may train: PERST_N is high, and has been for 20 ms if it was ever low (R292, R452). -/
def linkReady (ns : Nat) (v : Service) : Bool := !v.perst && (v.perstNs == 0 || decide (v.perstNs + 20000000 ≤ ns))

/-- RANK_TRAINED (R27, R292, R424): the link is enabled; a failed attempt is a transient fault of the rank. -/
def execRankTrained (ok : Bool) (s : State) : Res :=
  guarded (s.svc.phase == .dawn && s.svc.dawnDone && !s.svc.rank0) (fun s =>
    if ok then
      { s with svc := { s.svc with rank0 := true, linkUp := linkReady s.clk.ns s.svc } }
    else transient { kind := 6, index := 0 } s) s

/-- RETAINED_APP_RECHECK (R15, R309 to R311): the retained image is checked again, and discarded when it fails. One that passes stays sealed while
control cores 0 and 1 are tested. -/
def execRetainedAppRecheck (s : State) : Res :=
  guarded (s.svc.phase == .dawn && s.svc.rank0 && s.fw.load == 0 && !s.fw.stage.isEmpty) (fun s =>
    let r := stageCheck s
    let s := { s with fw := { s.fw with lastResult := BitVec.ofNat 4 r } }
    if r = 1 then modDomain 2 (fun d => { d with testing := true, katPass := false }) { s with fw := { s.fw with load := 2 } }
    else { s with fw := { s.fw with stage := [], stageLen := 0 } }) s

/-! ## Known-answer tests (R22, R285) -/

/-- In Dawn only a retained image has control cores 0 and 1 under a test of their own, until which it is not released (R309, R311). -/
def retainedWaits (s : State) (d : Nat) : Bool := d == 2 && s.svc.phase == .dawn && s.fw.load == 2

/-- The test of control cores 0 and 1 that a retained image waits for has ended: it is released, or stays sealed in a module held in Dawn (R15,
R309). -/
def endRetained (pass : Bool) (s : State) : State :=
  if pass then releaseApp true s else modDomain 2 (fun d => { d with testing := false }) s

/-- DOMAIN_KAT_DONE (R22, R285): `failed` lists the channels whose tests failed. A domain whose every channel retired while its tests ran does
not come to serve. -/
def execDomainKatDone (d : Fin 32) (failed : List Nat) (s : State) : Res :=
  guarded (((getDomain s d.val).on && (getDomain s d.val).testing) || (!(getDomain s d.val).on && domainWants s d.val true)) (fun s =>
    if !(getDomain s d.val).on then endDomainCmd d.val stFault s
    else if retainedWaits s d.val then endRetained failed.isEmpty s
    else if failed.isEmpty then endDomainCmd d.val stOk (modDomain d.val (fun x => { x with testing := false, katPass := true }) s)
    else endDomainCmd d.val stFault (domainFail d.val s)) s

/-! ## Overcast and Clear (R25, R28, R29, R309, R310) -/

/-- Known-answer tests of every switched-on group start; control cores 0 and 1 passed theirs before the release (R22, R309). -/
def startTests (s : State) : State :=
  (testedDomains.drop 1).foldl (fun s i => modDomain i (fun d => if d.on then { d with testing := true, katPass := false } else d) s) s

/-- A stored calibration point that has kept its CRC. -/
def calGood (p : Option CalPoint) : Bool := match p with | none => false | some c => c.crcOk

/-- Stored calibration points are loaded; the ROM's default light-load point stands in for a lost one (R309, R393). -/
def loadCalibration (s : State) : State :=
  { s with
    svc := { s.svc with calLoaded := true, calFull := calGood s.hzn.calFull }
    hzn := { s.hzn with calDefault := !calGood s.hzn.calLight } }

/-- The release has completed: its completion is written, or it needed none (R309). -/
def releaseWritten (s : State) : Bool := s.prism.cmds.all (fun c => !(c.opcode == 0x0D04))

/-- APP_START_REPORT (R309). -/
def execAppStartReport (s : State) : Res :=
  guarded (s.svc.phase == .dawn && s.fw.load == 3 && releaseWritten s)
    (fun s => loadCalibration (startTests (enterPhase .overcast s))) s

/-- APP_START_TIMEOUT (R310): no start within 500 ms of the release. -/
def execAppStartTimeout (s : State) : Res :=
  guarded (s.svc.phase == .dawn && s.fw.load == 3 && releaseWritten s && decide (s.svc.releaseNs + 500000000 ≤ s.clk.ns))
    (fun s => warmReset { s with fw := { s.fw with lastResult := 10 } }) s

/-- MEMORY_PORTS_TRAINED (R30, R309). -/
def execMemoryPortsTrained (s : State) : Res :=
  guarded (s.svc.phase == .overcast) (fun s => { s with svc := { s.svc with memTrained := true } }) s

/-- ENTER_CLEAR (R25, R29, R251). -/
def execEnterClear (s : State) : Res :=
  guarded (s.svc.phase == .overcast && s.svc.memTrained && s.svc.calLoaded && katDone s) (fun s =>
    layVaults (enterPhase .clear { s with svc := { s.svc with capped := !s.svc.calFull } })) s

/-- CLEAR_TIMEOUT (R28): the module stays in Overcast, and SVC_STATUS shows what is missing as it stands. -/
def execClearTimeout (s : State) : Res := stay s

/-! ## Resets and the link (R106, R111, R293, R452, R457) -/

/-- A warm reset that is due (R305, R307, R364). -/
def warmDue (s : State) : Bool := match s.svc.warmAtNs with | none => false | some t => decide (t ≤ s.clk.ns)

/-- WARM_RESET (R293): from the island's lockstep or parity checks, or when one is due. -/
def execWarmReset (cause : WarmCause) (s : State) : Res :=
  guarded (s.clk.powered && (cause != .other || warmDue s)) warmReset s

/-- PERST_N_ASSERT (R452). -/
def execPerstNAssert (s : State) : Res :=
  guarded (!s.svc.perst) (fun s => resetVfs (hostReset 0 { s with svc := { s.svc with perst := true, linkUp := false } })) s

/-- PERST_N_DEASSERT (R452): the link trains 20 ms later, or at the PCIe row of R292. -/
def execPerstNDeassert (s : State) : Res :=
  guarded s.svc.perst (fun s => { s with svc := { s.svc with perst := false, perstNs := s.clk.ns } }) s

/-- FUNCTION_LEVEL_RESET (R106, R111). -/
def execFunctionLevelReset (f : Fin 256) (s : State) : Res := guarded s.svc.linkUp (hostReset f.val) s

/-- VF_ENABLE_CLEAR (R111). -/
def execVfEnableClear (s : State) : Res := guarded s.svc.linkUp resetVfs s

end Sys2Proof.Machine
end

