-- ==== Sys2Proof/Machine/Tamper.lean ====
section
/-! DEFINITION. Tamper response, measurement channels, calibration and the Horizon domain (R377 to R397, R447). -/

namespace Sys2Proof.Machine

/-! ## Causes and the response (R382, R384, R388, R389, R391) -/

/-- Mains is present: the island is powered. -/
def mains (s : State) : Bool := s.clk.powered

/-- Leave a pair or ring as a failed unit: LEAVE is sent, and the module takes no further part (R375, R391, R413). -/
def leaveFailed (cause : Byte) (s : State) : State :=
  if s.ilu.paired then toMirror .detached (modIlu (fun i => { i with keyMaster := false, vaultOwner := false }) (sendPartner 0x14 [cause] s))
  else if s.ilu.members = 0 then s
  else modIlu (fun i => { i with keyMaster := false, vaultOwner := false, formed := false }) (broadcast 0x14 s.ilu.claim [cause] s)

/-- Steps 1 to 3 of R154, with mains present: bus, key registers, Horizon register, slots, shadows and hot set. -/
def responseStart (s : State) : State :=
  let s := zeroiseRegister (leaveFailed 2 s)
  { s with ks := { s.ks with keys := [], holds := [], hot := [] },
           hzn := { s.hzn with responding := true, calCmd := none } }

/-- A cause fires: it is logged, and unless a response runs it starts one. With mains absent the register is cleared and the latch
stays for the ROM (R388, R389, R391). -/
def fireTamper (cause channel sample : Nat) (s : State) : State :=
  let battery := !mains s
  if s.hzn.latch then tamperRecord cause channel battery sample s
  else
    let s := tamperBegin cause channel battery sample s
    if mains s then responseStart s else zeroiseRegister s

/-- Whether a comparator cause is armed (R379, R382, R385). -/
def causeArmed (s : State) (cause loop : Nat) : Bool :=
  if cause ≤ 1 then loop != 3 || s.hzn.armExt
  else if cause = 2 then !mains s
  else if cause = 7 then s.hzn.armEncl
  else true

def causeBit (cause : Nat) : BitVec 9 := 1#9 <<< cause

/-- Mesh channel of a cause: 12 to 15 for the mesh causes (R397). -/
def causeChannel (cause loop : Nat) : Nat := if cause ≤ 1 then 12 + loop else 0

/-- A comparator condition that has become true is noted: an open enclosure (R385), and the loop that holds a mesh cause true (R384). -/
def noteCondition (cause loop : Nat) (s : State) : State :=
  if cause = 7 then { s with hzn := { s.hzn with enclOpen := true } }
  else if cause ≤ 1 && causeArmed s cause loop then
    { s with hzn := { s.hzn with meshTrue := (cause, loop) :: s.hzn.meshTrue.erase (cause, loop) } }
  else s

/-- A qualified comparator condition, on its edge. -/
def comparator (cause loop : Nat) (s : State) : State :=
  let u := noteCondition cause loop s
  if causeArmed s cause loop && s.hzn.active &&& causeBit cause == 0 then
    fireTamper cause (causeChannel cause loop) 0 { u with hzn := { u.hzn with active := s.hzn.active ||| causeBit cause } }
  else u

/-- TAMPER_CAUSE_FIRE (R382, R384). -/
def execTamperCauseFire (cause : Fin 9) (loop : Fin 4) (s : State) : Res :=
  guarded s.hzn.powered (comparator cause.val loop.val) s

/-- TAMPER_CAUSE_CLEAR (R384). -/
def execTamperCauseClear (cause : Fin 9) (s : State) : Res :=
  .next { s with hzn := { s.hzn with active := s.hzn.active &&& ~~~causeBit cause.val,
                                     enclOpen := s.hzn.enclOpen && cause.val != 7,
                                     meshTrue := s.hzn.meshTrue.filter (fun e => e.1 != cause.val) } }

/-- TAMPER_RESPONSE_END (R388, R390): steps 4 and 5 and the key replacement have ended. -/
def execTamperResponseEnd (s : State) : Res :=
  guarded (mains s && s.hzn.latch && s.hzn.responding) (fun s =>
    let s := destroyTenants s
    warmReset { s with hzn := { s.hzn with latch := false, responding := false } }) s

/-! ## The mesh on battery (R382) -/

/-- MESH_OPEN (0), MESH_SHORT (1) or neither, for one sample of a loop. -/
def meshVerdict (s : State) (loop ohms : Nat) (crossed : Bool) : Option Nat :=
  let b := s.hzn.baselines.getD loop 0
  if (if loop = 3 then decide (8000 < ohms) else decide (2 * b < ohms)) then some 0
  else if crossed || decide (2 * ohms < b) then some 1
  else none

/-- MESH_SAMPLE (R382): two consecutive failing samples of one loop fire. -/
def execMeshSample (loop : Fin 4) (ohms : Nat) (crossed : Bool) (s : State) : Res :=
  guarded (s.hzn.powered && !mains s) (fun s =>
    match meshVerdict s loop.val ohms crossed with
    | none => { s with hzn := { s.hzn with meshBad := s.hzn.meshBad.filter (· != loop.val) } }
    | some cause =>
      if s.hzn.meshBad.contains loop.val then comparator cause loop.val s
      else { s with hzn := { s.hzn with meshBad := s.hzn.meshBad ++ [loop.val] } }) s

/-! ## Measurement channels (R386, R387) -/

def chanReset : MeasCh := { value := 0, warn := false, warns := 0, crossed := false, fired := false }

/-- A value outside lower and upper bounds. -/
def outside (lo hi v : Nat) : Bool := decide (v < lo) || decide (hi < v)

/-- A mesh value, in units of 2 ohms, outside ±15 % of its baseline. -/
def meshOut (b v : Nat) : Bool := decide (200 * v < 85 * b) || decide (115 * b < 200 * v)

/-- The tamper limits of R386. -/
def tamperLimit (s : State) (ch v : Nat) : Bool :=
  match ch with
  | 0 => outside 600 900 v
  | 1 => outside 640 960 v
  | 2 => outside 900 1200 v
  | 3 => decide (3000 < v)
  | 4 => decide (3000 < v)
  | 5 => decide (3900 < v)
  | 10 => outside 224 2944 v
  | 11 => decide (Config.lightLimit < v)
  | 12 => meshOut (s.hzn.baselines.getD 0 0) v
  | 13 => meshOut (s.hzn.baselines.getD 1 0) v
  | 14 => meshOut (s.hzn.baselines.getD 2 0) v
  | 15 => s.hzn.armExt && meshOut (s.hzn.baselines.getD 3 0) v
  | _ => outside 144 3184 v

/-- The warning limits; channels 0 to 2 have their calibrated envelope, in units of 10 µV (R390, R393). -/
def warnLimit (s : State) (ch v : Nat) : Bool :=
  match ch with
  | 3 => outside 2160 2640 v
  | 4 => outside 2160 2640 v
  | 5 => decide (v < 2500)
  | 10 => outside 384 2704 v
  | 6 => decide (2944 < v)
  | 7 => decide (2944 < v)
  | 8 => decide (2944 < v)
  | 9 => decide (2944 < v)
  | 0 => s.hzn.envelopes.any (fun e => e.1 == 0 && outside e.2.1 e.2.2 (100 * v))
  | 1 => s.hzn.envelopes.any (fun e => e.1 == 1 && outside e.2.1 e.2.2 (100 * v))
  | 2 => s.hzn.envelopes.any (fun e => e.1 == 2 && outside e.2.1 e.2.2 (100 * v))
  | _ => false

/-- A rail warning marks every facet and engine item in service as having failed its check (R387). -/
def markService (s : State) : State :=
  setCmds s (s.prism.cmds.map (fun c => { c with items := c.items.map (fun it => match it.state with
    | .inService (.facet _) => { it with marked := true }
    | .inService (.engine _) => { it with marked := true }
    | _ => it) }))

/-- Channel 5 samples the two batteries in turn. -/
def noteBattery (ch v : Nat) (s : State) : State :=
  if ch = 5 then
    let h := s.hzn
    { s with hzn := if h.vbatNext then { h with vbatB := v, vbatNext := false, vbatShown := h.vbatShown ||| 2 }
                      else { h with vbatA := v, vbatNext := true, vbatShown := h.vbatShown ||| 1 } }
  else s

/-- A warning: the bit, the count and CHANNEL_WARN (R386, R434). -/
def channelWarn (ch : Nat) (s : State) : State :=
  let m := s.hzn.channels.at ch chanReset
  let m := { m with warn := true, warns := satAdd 8 m.warns 1 }
  let s := { s with hzn := { s.hzn with channels := s.hzn.channels.put ch m } }
  let s := setFltCause 0x40 s
  if ch ≤ 2 then markService s else s

/-- CHANNEL_SAMPLE (R386, R387). -/
def execChannelSample (ch : Fin 16) (value : BitVec 12) (s : State) : Res :=
  guarded (mains s) (fun s =>
    let v := value.toNat
    let m := s.hzn.channels.at ch.val chanReset
    let cross := tamperLimit s ch.val v
    let fire := cross && m.crossed && !m.fired
    let s := noteBattery ch.val v s
    let m := { m with value := value, crossed := cross, fired := cross && (m.fired || fire) }
    let s := { s with hzn := { s.hzn with channels := s.hzn.channels.put ch.val m } }
    let s := if warnLimit s ch.val v then channelWarn ch.val s else s
    if fire then fireTamper 9 ch.val v s else s) s

/-! ## Calibration (R392 to R394) -/

/-- The light-load point in use: the stored one, or the ROM's default (R393). -/
def lightPoint (s : State) : CalPoint :=
  match s.hzn.calLight with
  | some p => if p.crcOk then p else { load := 0, temp := 200, bounds := Config.defaultBounds, crcOk := true }
  | none => { load := 0, temp := 200, bounds := Config.defaultBounds, crcOk := true }

/-- Quantities: 0 to 2 the channels; 16 + 2u the voltage and 17 + 2u the current of unit u, facets 0 to 47 and engines 48 to 63. -/
def isCurrent (q : Nat) : Bool := decide (16 ≤ q) && q % 2 == 1

/-- Nominal voltage in units of 10 µV. -/
def nominalOf (q : Nat) : Nat := if q = 1 then 80000 else if q = 2 then 105000 else 75000

/-- The other units of a quantity's domain group. -/
def groupOf (q : Nat) : List Nat :=
  if q < 16 then [q] else (List.range 4).map (fun i => 16 + 2 * (4 * ((q - 16) / 2 / 4) + i) + q % 2)

def boundsAt (p : CalPoint) (q : Nat) : Option (Nat × Nat) := (p.bounds.find? (fun b => b.1 == q)).map (fun b => b.2)

/-- F bounds of a quantity: its own, or the mean of its domain group (R393). -/
def fullBounds (p : CalPoint) (q : Nat) : Option (Nat × Nat) :=
  match boundsAt p q with
  | some b => some b
  | none =>
    let l := (groupOf q).filterMap (boundsAt p)
    if l.isEmpty then none
    else some (l.foldl (fun n b => n + b.1) 0 / l.length, l.foldl (fun n b => n + b.2) 0 / l.length)

/-- Interpolation between two points, `u` clamped to their loads. -/
def interpolate (uL uF u bL bF : Nat) : Nat :=
  if uF ≤ uL then bL
  else
    let u := max uL (min u uF)
    (Int.toNat ((bL : Int) + ((u : Int) - uL) * ((bF : Int) - bL) / ((uF : Int) - uL)))

/-- The envelope of one quantity at load `u`. -/
def envelope (s : State) (q u : Nat) : Option (Nat × Nat × Nat) :=
  let l := lightPoint s
  match boundsAt l q with
  | none => none
  | some (lo, hi) =>
    match (if calGood s.hzn.calFull then s.hzn.calFull else none) with
    | none =>
      if isCurrent q then some (q, lo, hi + hi / 5) else some (q, lo - nominalOf q / 25, hi + nominalOf q / 25)
    | some f =>
      let (flo, fhi) := (fullBounds f q).getD (lo, hi)
      let a := interpolate l.load f.load u lo flo
      let b := interpolate l.load f.load u hi fhi
      if isCurrent q then some (q, a, b + fhi / 10) else some (q, a - nominalOf q / 50, b + nominalOf q / 50)

/-- ENVELOPE_RECOMPUTE (R393): each quantity with its present load in thousandths. -/
def execEnvelopeRecompute (loads : List (Nat × Nat)) (s : State) : Res :=
  guarded (mains s && s.svc.calLoaded)
    (fun s => { s with hzn := { s.hzn with envelopes := loads.filterMap (fun x => envelope s x.1 x.2) } }) s

/-- The reply of DEVICE_CALIBRATE: the duration, the mean temperature in eighths of a degree, STORED (R283, R394). -/
def calReply (meanTemp : Int) : Bytes := toLe 4 40000 ++ toLe 2 (Int.toNat (meanTemp % 65536)) ++ [1, 0]

/-- CALIBRATION_DONE (R286, R394): the new point replaces the old one, and the module is CAPPED no more (R29). -/
def execCalibrationDone (point : CalPoint) (meanTemp : Int) (s : State) : Res :=
  match s.hzn.calCmd with
  | none => .next s
  | some r => guarded (decide (s.hzn.calNs + 40000000000 ≤ s.clk.ns)) (fun s =>
      let changed := s.svc.capped
      let s := { s with hzn := { s.hzn with calFull := some { point with crcOk := true }, calCmd := none },
                        svc := { s.svc with calFull := true, capped := false } }
      let s := if changed then setCauseAll causePhase s else s
      endCmd r stOk (calReply meanTemp) s) s

/-! ## Checkpoints and the crystal (R381, R447) -/

/-- HORIZON_CHECKPOINT (R381). -/
def execHorizonCheckpoint (s : State) : Res :=
  guarded (mains s && s.svc.dawnDone && decide (s.hzn.checkNs + 3600000000000 ≤ s.clk.ns)) writeCheckpoint s

/-- CRYSTAL_CHECK (R447). -/
def execCrystalCheck (deviationPpm : Nat) (stopped : Bool) (s : State) : Res :=
  guarded (mains s) (fun s =>
    if stopped || decide (1000 < deviationPpm) then
      let s' := { s with hzn := { s.hzn with skyTicks := true, goodSecs := 0 } }
      if s.hzn.skyTicks then s' else setFltCause 1 (faultLog 0 1 0 0 s')
    else if deviationPpm ≤ 500 then
      let n := s.hzn.goodSecs + 1
      { s with hzn := { s.hzn with goodSecs := n, skyTicks := s.hzn.skyTicks && decide (n < 10) } }
    else { s with hzn := { s.hzn with goodSecs := 0 } }) s

/-! ## DEVICE_TAMPER_ARM (R385) -/

/-- The external loop as channel 15 last read it, in ohms. -/
def loopOhms (s : State) : Nat := 2 * chValue s 15

def ownTamperArm (s : State) (x : Req) : Option Status :=
  let a := x.pay 0 1
  need (x.fn == 0 && decide (a ≤ 3) && allZero (bsub x.payload 1 7) &&
        (!bit a 0 || !outside 200 5000 (loopOhms s)) && (!bit a 1 || !s.hzn.enclOpen)) stPolicyDenied

def specTamperArm : OpSpec :=
  { phase := .clear
    length := fun _ x => x.len == 8
    maxReply := fun _ _ => 4
    quorum := fun _ _ => some 0
    own := ownTamperArm }

/-- What disarming the external loop leaves: a mesh cause that only it held true is active no more (R384). -/
def disarmLoop (h : Horizon) : Horizon :=
  let l := h.meshTrue.filter (fun e => e.2 != 3)
  let gone (c : Nat) : Bool := h.meshTrue.any (fun e => e.1 == c) && !l.any (fun e => e.1 == c)
  { h with meshTrue := l, active := h.active &&& ~~~((if gone 0 then causeBit 0 else 0) ||| (if gone 1 then causeBit 1 else 0)) }

def applyTamperArm : Cmd → State → State := fun c s =>
  let a := (reqOf c).pay 0 1
  let h := if bit a 0 then s.hzn else disarmLoop s.hzn
  { s with hzn := { h with armExt := bit a 0, armEncl := bit a 1, active := if bit a 1 then h.active else h.active &&& ~~~causeBit 7,
                           baselines := if bit a 0 then h.baselines.set 3 (loopOhms s) else h.baselines } }

/-- DEVICE_TAMPER_ARM (R385). -/
def execDeviceTamperArm (r : CmdRef) (s : State) : Res := runAccepted 0x0107 (adminRun ownTamperArm applyTamperArm zeroReply) noReply r s

end Sys2Proof.Machine
end

