-- ==== Sys2Proof/Machine/Debug.lean ====
section
/-! DEFINITION. The debug access port, field reopen and Inspection mode (R357, R365, R370 to R376, R450). -/

namespace Sys2Proof.Machine

/-! ## Instructions and their permission (R371) -/

/-- Instruction codes. -/
def irIdcode : Nat := 0x01
def irSample : Nat := 0x02
def irExtest : Nat := 0x03
def irClamp : Nat := 0x04
def irHighz : Nat := 0x05
def irStatus : Nat := 0x10
def irChallenge : Nat := 0x11
def irResponse : Nat := 0x12
def irDap : Nat := 0x20
def irCore : Nat := 0x21
def irIsland : Nat := 0x22
def irMemTest : Nat := 0x30
def irOtpProg : Nat := 0x31
def irBypass : Nat := 0xFF

/-- Instructions every state permits. -/
def irAlways (ir : Nat) : Bool := ir == irIdcode || ir == irBypass || ir == irStatus

/-- What Inspection adds, by SCOPE. -/
def irScope (s : State) (ir : Nat) : Bool :=
  s.life.inspection &&
  ((bit s.life.scope.toNat 0 && ir == irCore) || (bit s.life.scope.toNat 1 && ir == irDap) ||
   (bit s.life.scope.toNat 2 && (ir == irExtest || ir == irClamp || ir == irHighz)))

/-- The table of R371. -/
def irPermitted (s : State) (ir : Nat) : Bool :=
  match lifeCycle s with
  | .scrap => irAlways ir
  | .raw => ir != irChallenge && ir != irResponse
  | .test => ir != irChallenge && ir != irResponse
  | .returned => ir != irChallenge && ir != irResponse && ir != irOtpProg
  | .personalised => irAlways ir || ir == irSample || ir == irChallenge || ir == irResponse || irScope s ir
  | .deployed => irAlways ir || ir == irSample || ir == irChallenge || ir == irResponse || irScope s ir

/-! ## The debug log (R376) -/

def debugLog (kind ir addr : Nat) (s : State) : State :=
  let e : DebugEvent := { kind := BitVec.ofNat 3 kind, ir := BitVec.ofNat 8 ir, addr := BitVec.ofNat 40 addr, time := s.hzn.time }
  modLife (fun l => if s.svc.phase == .dark then { l with logDue := l.logDue ++ [e] } else logEvent e l) s

/-! ## Selecting an instruction (R370, R371) -/

/-- A new instruction ends what EXTEST, CLAMP or HIGHZ did to the contacts. -/
def setIr (ir : Nat) (s : State) : State := modLife (fun l => { l with ir := BitVec.ofNat 8 ir, driving := false, highz := false }) s

/-- Select an instruction: one that is not permitted acts as BYPASS and is logged with KIND 3. The TAP runs from island power. -/
def tapSelect (ir : Nat) (act : State → State) (s : State) : Res :=
  guarded s.clk.powered (fun s => if irPermitted s ir then act (setIr ir s) else debugLog 3 ir 0 (setIr irBypass s)) s

/-- A data register scanned out. -/
def tapOut (n v : Nat) (s : State) : State := emit (.tap n v) s

/-- A 64-bit data register whose contents the spec does not give. -/
def tapFree (s : State) : State := let (b, t) := takeFree 8 s; tapOut 64 (leNat b) t

/-- TAP_RESET (R450): IDCODE is selected, as IEEE 1149.1 has it. -/
def execTapReset (s : State) : Res := guarded s.clk.powered (setIr irIdcode) s

/-- IDCODE (R371). -/
def execIdcode (s : State) : Res := tapSelect irIdcode (tapOut 32 0x1964853B) s

/-- BYPASS (R371). -/
def execBypass (s : State) : Res := tapSelect irBypass (tapOut 1 0) s

/-- SAMPLE_PRELOAD (R371): the contacts are observed and stay undriven. -/
def execSamplePreload (contacts : Bytes) (s : State) : Res :=
  tapSelect irSample (fun s => tapOut (8 * contacts.length) (leNat contacts) (modLife (fun l => { l with scanOut := contacts }) s)) s

/-- EXTEST (R371). -/
def execExtest (scan : Bytes) (s : State) : Res := tapSelect irExtest (modLife (fun l => { l with scanOut := scan, driving := true })) s

/-- CLAMP (R371): the contacts are held at the values last scanned. -/
def execClamp (s : State) : Res := tapSelect irClamp (fun s => tapOut 1 0 (modLife (fun l => { l with driving := true }) s)) s

/-- HIGHZ (R371). -/
def execHighz (s : State) : Res := tapSelect irHighz (fun s => tapOut 1 0 (modLife (fun l => { l with highz := true }) s)) s

/-- A challenge lives for 600 s of Horizon time. -/
def challengeLive (s : State) : Option Bytes :=
  match s.life.challenge with
  | none => none
  | some (c, t) => if s.hzn.time.toNat < t.toNat + secTicks 600 then some c else none

/-- DBG_STATUS (R372). -/
def dbgStatusWord (s : State) : Nat :=
  lcCode (lifeCycle s) + 16 * b2n s.life.inspection + 32 * b2n s.life.rolling + 64 * s.life.scope.toNat +
  512 * b2n (challengeLive s).isSome + 1024 * dbgKeysLive s + 4096 * phaseNum s.svc.phase

def execDbgStatus (s : State) : Res := tapSelect irStatus (fun s => tapOut 32 (dbgStatusWord s) s) s

/-! ## Field reopen (R374, R375) -/

/-- The 96-byte challenge. -/
def challengeBytes (s : State) (nonce : Bytes) : Bytes :=
  padTo 8 (unitSerial s) ++ toLe 1 (lcReport s) ++ toLe 1 (transitions s) ++ toLe 1 (reopens s) ++ zeros 5 ++ padTo 32 nonce ++
  identityHash s ++ zeros 16

/-- DBG_CHALLENGE: a new challenge replaces one that is live. -/
def execDbgChallenge (s : State) : Res :=
  tapSelect irChallenge (fun s =>
    let (n, s) := islandMask 32 s
    let c := challengeBytes s n
    tapOut 768 (leNat c) (modLife (fun l => { l with challenge := some (c, s.hzn.time) }) s)) s

def respKey (h : Bytes) : Nat := fld h 4 1
def respScope (h : Bytes) : Nat := fld h 5 1
def respRevoke (h : Bytes) : Bool := bit (fld h 6 1) 0

/-- The response header is well formed. -/
def respOk (h : Bytes) : Bool :=
  h.length == 32 && fld h 0 4 == 0x55474442 && decide (respKey h ≤ 1) && decide (respScope h < 8) && decide (fld h 6 1 ≤ 1) &&
  allZero (h.drop 7)

/-- The response verifies under the checks of R297 at orders 3 to 5. -/
def respVerifies (s : State) (h kb sig : Bytes) : Bool :=
  match challengeLive s with
  | none => false
  | some c =>
    respOk h && decide (reopens s < 64) &&
    (sigCheck (dbgKeyRevoked s (respKey h)) (dbgKeyDigest s (respKey h)) kb (c ++ h) sig).isNone

/-- Inspection begins: the fuses are programmed first; keys are sealed, and a pair or ring is left as a failed unit. -/
def enterInspection (h : Bytes) (s : State) : State :=
  let s := programNextBit 0x120 (reopens s) s
  let s := if respRevoke h then programOtp 0xF0 [1#8 <<< (5 - respKey h)] s else s
  let s := modLife (fun l => { l with inspection := true, scope := BitVec.ofNat 3 (respScope h) }) s
  let s := leaveFailed 3 { s with ks := { s.ks with sealed := true } }
  debugLog 5 irResponse 0 s

/-- DBG_RESPONSE. -/
def execDbgResponse (header keyBlock signature : Bytes) (s : State) : Res :=
  tapSelect irResponse (fun s =>
    let ok := respVerifies s header keyBlock signature
    let s := modLife (fun l => { l with challenge := none }) s
    if ok then enterInspection header s else debugLog 4 irResponse 0 s) s

/-- DEBUG_CHALLENGE_EXPIRY (R374). -/
def execDebugChallengeExpiry (s : State) : Res :=
  guarded (s.life.challenge.isSome && (challengeLive s).isNone) (modLife (fun l => { l with challenge := none })) s

/-! ## Access to the fabric, the cores and the arrays (R357, R365, R371, R373) -/

/-- The error response of a debug access (R194, R373). -/
def tapError (s : State) : State := emit .tapError s

/-- DAP_ACCESS: a locked region reads as all-ones and discards writes, with an error response each; what lies at another fabric address is
free. -/
def execDapAccess (write : Bool) (region : DapRegion) (addr : BitVec 40) (_data : BitVec 64) (s : State) : Res :=
  tapSelect irDap (fun s =>
    match region, write with
    | .locked, false => debugLog 1 irDap addr.toNat (tapError (tapOut 64 (2 ^ 64 - 1) s))
    | .locked, true => debugLog 2 irDap addr.toNat (tapError s)
    | .other, false => tapFree s
    | .other, true => s) s

/-- CORE_DEBUG: operation 0 halts the core, 1 steps it, 2 reads a register of it and 3 writes one. -/
def execCoreDebug (core : Fin 8) (op : BitVec 8) (_data : BitVec 64) (s : State) : Res :=
  tapSelect irCore (fun s =>
    if op = 0 then modLife (fun l => { l with halted := l.halted.filter (· != core.val) ++ [core.val] }) s
    else if op = 2 then tapFree s
    else s) s

/-- ISLAND_DEBUG: the data scanned out is free. -/
def execIslandDebug (_op : BitVec 8) (_data : BitVec 64) (s : State) : Res := tapSelect irIsland tapFree s

/-- MEM_TEST: the arrays it tests hold nothing in the states that permit it; its result is free. -/
def execMemTest (_op : BitVec 8) (_data : BitVec 64) (s : State) : Res := tapSelect irMemTest tapFree s

/-- The factory fields, and the factory area among them. -/
def factoryArea (a : Nat) : Bool := decide (0x800 ≤ a) && decide (a < 0x1800)
def factoryField (a : Nat) : Bool := decide (a < 0xF0) || factoryArea a

/-- OTP_PROG: factory fields in Raw, the factory area also in Test; any other address is left alone. -/
def execOtpProg (addr : Nat) (b : Byte) (s : State) : Res :=
  tapSelect irOtpProg (fun s =>
    let ok := match lifeCycle s with
      | .raw => factoryField addr
      | .test => factoryArea addr
      | _ => false
    if ok then programOtp addr [b] s else s) s

end Sys2Proof.Machine
end

