-- ==== Sys2Proof/Machine/Background.lean ====
section
/-! DEFINITION. Work that goes on without a command: scrubs, the rewrap, memory ranks, trace marks, coalescing, and expiries (R48, R81,
R83, R113, R115, R129, R130, R149, R265, R279, R280, R424, R429 to R433). -/

namespace Sys2Proof.Machine

def modFlt (g : Faults → Faults) (s : State) : State := { s with flt := g s.flt }
def modKs (g : KeyStore → KeyStore) (s : State) : State := { s with ks := g s.ks }

/-! ## Interrupts and trace (R48, R81, R83) -/

/-- COAL_TIMER (R43, R48). -/
def execCoalTimer (ring : Fin 1024) (s : State) : Res :=
  guarded (match (getRing s ring.val).coalNs with | none => false | some t => decide (t ≤ s.clk.ns)) (signalRing ring.val) s

/-- Time marks due so far: one every 2^30 fabric cycles. -/
def marksDue (s : State) : Nat := fabricCycles s / 2 ^ 30

/-- TRACE_TIME_MARK (R83). -/
def execTraceTimeMark (s : State) : Res :=
  guarded (decide (s.prism.trcMark < marksDue s)) (fun s =>
    traceRec 7 (unitByte none) 0 0 (toLe 8 s.hzn.time.toNat) { s with prism := { s.prism with trcMark := marksDue s } }) s

/-! ## The key store (R129, R130, R149) -/

/-- SLOT_SCRUB (R129, R130): every slot once every 100 ms; `failed` names, by `keyIndex`, keys whose integrity code fails. -/
def execSlotScrub (failed : List Nat) (s : State) : Res :=
  guarded (s.svc.phase != .dark && decide (s.ks.scrubNs + 100000000 ≤ s.clk.ns)) (fun s =>
    failed.foldl (fun s k => let r := BitVec.ofNat 32 k; if isOnDie r then keyFailed (k / 2 ^ 32) r s else s)
      (modKs (fun k => { k with scrubNs := s.clk.ns }) s)) s

/-- A key as the rewrap leaves it. -/
def rewrapVal (g : BitVec 8) (v : KeyVal) : KeyVal := { v with mwkGen := g }

/-- MWK_REWRAP_END (R149): every backing record and every cached record is under the present generation. -/
def execMwkRewrapEnd (s : State) : Res :=
  guarded (s.ks.rewrap && s.svc.phase != .dark) (modKs (fun k =>
    { k with rewrap := false
             keys := k.keys.map (fun e => (e.1, { e.2 with cur := e.2.cur.map (rewrapVal k.mwkGen) }))
             nor0 := k.nor0.map (rewrapBacking s)
             nor1 := k.nor1.map (rewrapBacking s) })) s

/-! ## Memory (R424, R429, R430) -/

/-- The rank a line lies in: 16 GiB of 64-byte lines each (R431). -/
def lineRank (line : BitVec 32) : Nat := line.toNat / 2 ^ 28

/-- What a region does with a poisoned line (R430). -/
def regionPoison (r : MemRegion) (s : State) : State :=
  match r with
  | .session i => loseSession i s
  | .journal p i => modJ (refAt p i (getPart s p)) (fun e => if e.done then { e with lost := true } else e) s
  | .replyCache g q => { s with replies := s.replies.filter (fun c => !(c.ring == g && c.seq.toNat == q)) }
  | .vault p t => modPart p (fun x => { x with vault := { x.vault with records := x.vault.records.map (fun v =>
      if v.tag == t then { v with poisoned := true } else v) } }) s
  | .staging => { s with fw := { s.fw with stageBad := true } }
  | .keyCache p k => modKs (fun y => { y with poisonedRecs := keyIndex p k :: y.poisonedRecs }) s
  | .internal => s

/-- A corrected burst: counted, and more than 1,000 of one rank in 1 s are a transient fault of the rank. -/
def correctedBurst (rank : Nat) (s : State) : State :=
  let (n, t) := s.flt.bursts.at rank (0, s.clk.ns)
  let (n, t) := if s.clk.ns < t + 1000000000 then (n + 1, t) else (1, s.clk.ns)
  let s := modFlt (fun f => { f with corrected := satAdd 32 f.corrected 1, bursts := f.bursts.put rank (n, t) }) s
  if n = 1001 then transient { kind := 6, index := rank } s else s

/-- One line the patrol has read. -/
def patrolLine (s : State) (l : LineRead) : State :=
  if l.corrected then correctedBurst (lineRank l.line) s
  else if s.flt.poisonedLines.contains l.line then s
  else transient { kind := 6, index := lineRank l.line } (regionPoison l.region (countPoison l.line s))

/-- PATROL_SCRUB (R429, R430): the lines it corrected or found uncorrectable. -/
def execPatrolScrub (lines : List LineRead) (s : State) : Res :=
  guarded s.clk.powered (fun s => lines.foldl patrolLine s) s

/-- RANK_RETRAIN (R433). -/
def execRankRetrain (rank : Fin 16) (ok : Bool) (s : State) : Res :=
  guarded (s.svc.rank0 && !s.flt.offRanks.contains rank.val && !ok) (transient { kind := 6, index := rank.val }) s

/-- A retirement that waited begins (R432). -/
def nextRank (s : State) : State :=
  match s.flt.queuedRanks with
  | [] => s
  | r :: l => startRankRetire r (modFlt (fun f => { f with queuedRanks := l }) s)

/-- VAULT_REBUILD_END (R432): records that could not be read are lost, the others lie under the new block count. The retirement of
rank 0 goes on with its copy; of any other rank it has ended. -/
def execVaultRebuildEnd (unreadable : List (Nat × Bytes)) (s : State) : Res :=
  match s.flt.rebuilding with
  | none => .next s
  | some r =>
    let s := unreadable.foldl (fun s u => regionPoison (.vault u.1 u.2) s) s
    let s := relayVaults (modFlt (fun f => { f with rebuilding := none, offRanks := f.offRanks ++ [r] }) s)
    let s := setFltCause 0x100 s
    if s.flt.evacuating then .next s
    else .next (nextRank (if s.svc.phase == .clear then setCapacity s else s))

/-- RANK_EVACUATION_END (R432): lines that could not be read arrive poisoned; rank 0 is switched off. -/
def execRankEvacuationEnd (unreadable : List MemRegion) (s : State) : Res :=
  guarded (s.flt.evacuating && s.flt.rebuilding.isNone) (fun s =>
    let s := unreadable.foldl (fun s u => regionPoison u s) s
    let s := modFlt (fun f => { f with evacuating := false }) s
    nextRank (if s.svc.phase == .clear then setCapacity s else s)) s

/-! ## Expiries (R113, R115, R265, R279, R280) -/

/-- CEREMONY_EXPIRY (R265): 300 s of Horizon time after the opening. -/
def execCeremonyExpiry (part : Fin 256) (s : State) : Res :=
  let l := (getPart s part.val).lock
  guarded ((l.state == .collecting || l.state == .authorised) && decide (l.expiry.toNat ≤ s.hzn.time.toNat))
    (modPart part.val (fun p => { p with lock := { p.lock with state := .free, signed := [], bad := 0 } })) s

def offerDone (s : State) (o : Option Offer) : Bool := match o with | none => false | some x => decide (x.expiry.toNat ≤ s.hzn.time.toNat)

/-- OFFER_EXPIRY (R115, R280). -/
def execOfferExpiry (part : Fin 256) (restore : Bool) (s : State) : Res :=
  let x := getPart s part.val
  if restore then guarded (offerDone s x.keyOffer) (modPart part.val (fun p => { p with keyOffer := none })) s
  else guarded (offerDone s x.moveOffer) (modPart part.val (fun p => { p with moveOffer := none })) s

/-- 600 s of Horizon time have passed since `t`. -/
def tenMinutes (s : State) (t : BitVec 64) : Bool := decide (t.toNat + secTicks 600 ≤ s.hzn.time.toNat)

/-- TR34_NONCE_EXPIRY (R279). -/
def execTr34NonceExpiry (part : Fin 256) (nonceId : BitVec 32) (s : State) : Res :=
  guarded ((getPart s part.val).nonces.any (fun n => n.id == nonceId && tenMinutes s n.issued))
    (modPart part.val (fun p => { p with nonces := p.nonces.filter (fun n => n.id != nonceId) })) s

/-- BACKUP_SNAPSHOT_EXPIRY (R280): after 600 s, or once its last chunk has been read. -/
def execBackupSnapshotExpiry (part : Fin 256) (s : State) : Res :=
  guarded (match (getPart s part.val).backup with
    | none => false
    | some b => tenMinutes s b.issued || decide (b.chunks.length ≤ b.nextRead))
    (modPart part.val (fun p => { p with backup := none })) s

/-- IMPORT_IDLE_TIMEOUT (R113): no chunk for 600 s, and the partition is EMPTY again. -/
def execImportIdleTimeout (part : Fin 256) (s : State) : Res :=
  let x := getPart s part.val
  guarded (x.state == .importing && (match x.staging with | none => false | some g => tenMinutes s g.last)) (emptyPart part.val) s

end Sys2Proof.Machine
end

