-- ==== Sys2Proof/Machine/Platform.lean ====
section
/-! DEFINITION. The platform root of trust and the Lens filter: power sequence, platform boot, boot records, re-measurement, the
filter, and group 0x10 (R316 to R342). -/

namespace Sys2Proof.Machine

def modPlat (g : Platform → Platform) (s : State) : State := { s with plat := g s.plat }

/-! ## The configuration record (R319) -/

def pc (s : State) (off len : Nat) : Nat := fld (pcfgUse s) off len
def portAt (k : Nat) : Nat := 0x40 + 272 * k
def anchorOf (b : Bytes) : Bytes := bsub b 0x10 32
def pcMagic (b : Bytes) : Bool := fld b 0 4 == 0x55475043
/-- ANCHOR of the stored record is non-zero. -/
def anchorSet (s : State) : Bool := match s.plat.pcfg with | none => false | some b => pcMagic b && !allZero (anchorOf b)

/-- Class and erase-size code of an opcode on a port. -/
def opClass (s : State) (k op : Nat) : Nat := pc s (portAt k + 0x10 + op) 1 % 8
def opErase (s : State) (k op : Nat) : Nat := pc s (portAt k + 0x10 + op) 1 / 8 % 8

def deviceSize (s : State) (k : Nat) : Nat := 2 ^ pc s (portAt k + 1) 1
def pageSize (s : State) (k : Nat) : Nat := 2 ^ pc s (portAt k + 2) 1

def eraseBytes (code : Nat) : Nat := match code with | 1 => 32768 | 2 => 65536 | 3 => 131072 | 4 => 262144 | _ => 4096

/-- One step of SEQUENCE. -/
def seqStep (s : State) (i : Nat) : Bytes := bsub (pcfgUse s) (0x480 + 8 * i) 8

def stepFieldsOk (b : Bytes) : Bool :=
  match fld b 0 1 with
  | 0 => true
  | 1 => decide (fld b 2 1 < 16) && fld b 3 5 == 0
  | 2 => decide (fld b 2 1 < 16) && fld b 3 5 == 0
  | 3 => decide (fld b 2 1 < 128) && fld b 6 2 == 0
  | 4 => decide (fld b 2 1 < 8) && fld b 3 3 == 0 && decide (1 ≤ fld b 6 2) && decide (fld b 6 2 ≤ 10000)
  | 5 => fld b 2 2 == 0 && fld b 6 2 == 0
  | _ => false

def stepOk (b : Bytes) : Bool := decide (fld b 0 1 ≤ 5) && decide (fld b 1 1 ≤ 2) && stepFieldsOk b

def classOk (b : Byte) : Bool :=
  let c := b.toNat
  decide (c < 64) && decide (c % 8 ≤ 6) && (if c % 8 = 3 then decide (c / 8 ≤ 4) || c / 8 == 7 else c / 8 == 0)

def portOk (b : Bytes) : Bool :=
  allZero (bsub b 6 10) &&
  (fld b 0 1 == 0 ||
   (decide (fld b 0 1 ≤ 2) && decide (20 ≤ fld b 1 1) && decide (fld b 1 1 ≤ 32) && decide (8 ≤ fld b 2 1) && decide (fld b 2 1 ≤ 10) &&
    decide (3 ≤ fld b 3 1) && decide (fld b 3 1 ≤ 4) && decide (8 ≤ fld b 4 1) && decide (fld b 4 1 ≤ 32) &&
    (bsub b 0x10 256).all classOk))

/-- A record as R319 lays it out. -/
def pcfgOk (b : Bytes) : Bool :=
  pcMagic b && fld b 4 2 == 1 && decide (fld b 0x30 1 ≤ 3) && (decide (fld b 0x31 1 ≤ 3) || fld b 0x31 1 == 0xFF) &&
  fld b 0x32 2 == 0 && decide (fld b 0x3C 1 ≤ 7) && decide (fld b 0x3D 1 ≤ 15) && fld b 0x3E 2 == 0 &&
  (List.range 4).all (fun k => portOk (bsub b (portAt k) 272)) && (List.range 32).all (fun i => stepOk (bsub b (0x480 + 8 * i) 8))

/-! ## The manifest (R321 to R324) -/

def mfRegions (m : Bytes) : Nat := fld m 0x10 1
def mfSets (m : Bytes) : Nat := fld m 0x11 1

def regionOf (b : Bytes) : Region :=
  { port := fld b 0 1, bmc := fld b 1 1 == 2, recovery := fld b 2 1, recPort := fld b 3 1, first := BitVec.ofNat 32 (fld b 4 4),
    last := BitVec.ofNat 32 (fld b 8 4), recStart := BitVec.ofNat 32 (fld b 12 4), digest := bsub b 16 64, result := 0,
    measured := zeros 64, excluded := false }

def regionBytes (m : Bytes) (i : Nat) : Bytes := bsub m (32 + 80 * i) 80
def manifestRegions (m : Bytes) : List Region := (List.range (mfRegions m)).map (fun i => regionOf (regionBytes m i))

/-- Offsets of the rule sets: `n` sets from `off` on, and where the last one ends. -/
def setOffsets (m : Bytes) : Nat → Nat → List Nat × Nat
  | 0, off => ([], off)
  | n + 1, off =>
    let (l, e) := setOffsets m n (off + 68 + 16 * fld m (off + 2) 2)
    (off :: l, e)

def ruleOf (b : Bytes) : LensRule :=
  { master := fld b 0 1 == 1, port := fld b 1 1, access := BitVec.ofNat 3 (fld b 2 1), first := BitVec.ofNat 32 (fld b 4 4),
    last := BitVec.ofNat 32 (fld b 8 4) }

def ruleBytesOk (b : Bytes) : Bool :=
  decide (fld b 0 1 ≤ 1) && decide (fld b 1 1 ≤ 3) && decide (fld b 2 1 ≤ 7) && fld b 3 1 == 0 && fld b 4 4 % 256 == 0 &&
  (fld b 8 4 + 1) % 256 == 0 && decide (fld b 4 4 < fld b 8 4) && fld b 12 4 == 0

/-- Rule set at an offset as a bank (R323, R333). -/
def bankAt (m : Bytes) (off idx : Nat) (st : BankState) : Bank :=
  { state := st, ruleset := BitVec.ofNat 8 idx, portMap := BitVec.ofNat 8 (fld m off 1), allowHost := bsub m (off + 4) 32,
    allowBmc := bsub m (off + 36) 32, rules := (List.range (fld m (off + 2) 2)).map (fun i => ruleOf (bsub m (off + 68 + 16 * i) 16)) }

def setOk (m : Bytes) (off : Nat) : Bool :=
  decide (fld m (off + 2) 2 ≤ 256) && fld m (off + 1) 1 == 0 && (List.range 4).all (fun k => bits (fld m off 1) (2 * k + 1) (2 * k) != 3) &&
  (List.range (fld m (off + 2) 2)).all (fun i => ruleBytesOk (bsub m (off + 68 + 16 * i) 16))

def regionOk (s : State) (b : Bytes) : Bool :=
  let a := fld b 4 4
  let z := fld b 8 4
  let p := fld b 0 1
  decide (p ≤ 3) && (fld b 1 1 == 1 || fld b 1 1 == 2) && decide (fld b 2 1 ≤ 2) && decide (fld b 3 1 ≤ 3) && a % 256 == 0 &&
  (z + 1) % 256 == 0 && decide (a < z) && (fld b 2 1 != 2 || fld b 12 4 == a) &&
  (fld b 2 1 == 0 || (a % 4096 == 0 && (z + 1) % 4096 == 0 &&
    (List.range 256).any (fun o => opClass s p o == 3 && opErase s p o == 0)))

def meet (a b c d : Nat) : Bool := decide (a ≤ d) && decide (c ≤ b)

/-- No two entries of a list stand in a relation. -/
def noPair {α : Type} (f : α → α → Bool) : List α → Bool
  | [] => true
  | x :: r => r.all (fun y => !f x y) && noPair f r

def regionsMeet (x y : Region) : Bool := x.port == y.port && meet x.first.toNat x.last.toNat y.first.toNat y.last.toNat

/-- The header and the parts are well formed. -/
def manifestForm (s : State) (m : Bytes) : Bool :=
  let (offs, e) := setOffsets m (mfSets m) (32 + 80 * mfRegions m)
  fld m 0 4 == 0x5547504D && fld m 4 2 == 1 && decide (1 ≤ mfRegions m) && decide (mfRegions m ≤ 64) && decide (1 ≤ mfSets m) &&
  decide (mfSets m ≤ 4) && decide (fld m 0x12 1 ≤ 1) && fld m 0x13 1 == 0 && fld m 0x14 4 == m.length && allZero (bsub m 0x18 8) &&
  decide (m.length ≤ 29224) && m.length == e + 2692 + 4724 && offs.all (setOk m) &&
  (List.range (mfRegions m)).all (fun i => regionOk s (regionBytes m i)) && noPair regionsMeet (manifestRegions m)

/-- R324. -/
def manifestOk (s : State) (m : Bytes) : Bool :=
  let n := m.length - 4724
  let kb := bsub m (n - 2692) 2692
  manifestForm s m && bsub m 8 8 == bsub (pcfgUse s) 8 8 && decide (pc s 6 2 ≤ fld m 6 2) && sha3_256 kb == anchorOf (pcfgUse s) &&
  hybridVerify kb (m.take n) (m.drop n)

/-! ## Banks (R326, R331, R332) -/

def activeIdx (s : State) : Bool := s.plat.bank1.state == .active
def bankOf (s : State) (b : Bool) : Bank := if b then s.plat.bank1 else s.plat.bank0
def setBank (b : Bool) (x : Bank) (s : State) : State := modPlat (fun p => if b then { p with bank1 := x } else { p with bank0 := x }) s
def activeBank (s : State) : Bank := bankOf s (activeIdx s)

/-- Master of a port under a bank: 0 host, 1 BMC, 2 neither. -/
def portMaster (b : Bank) (k : Nat) : Nat := bits b.portMap.toNat (2 * k + 1) (2 * k)

def masterNum (m : Bool) : Nat := if m then 1 else 0

def rulesMeet (x y : LensRule) : Bool :=
  x.master == y.master && x.port == y.port && meet x.first.toNat x.last.toNat y.first.toNat y.last.toNat

/-- Why a bank may not be made active (R332): two rules that intersect, a rule on a port not its master's, or an empty bank. -/
inductive SwapFault where
  | pair (i j : Nat) | port (i : Nat) | empty
  deriving DecidableEq, Repr

def swapFault (b : Bank) : Option SwapFault :=
  let n := b.rules.length
  let hit := (List.range n).findSome? (fun i => (List.range n).findSome? (fun j =>
    if i < j then (match b.rules[i]?, b.rules[j]? with
      | some x, some y => if rulesMeet x y then some (SwapFault.pair i j) else none
      | _, _ => none) else none))
  match hit with
  | some f => some f
  | none =>
    match b.rules.findIdx? (fun r => portMaster b r.port != masterNum r.master) with
    | some i => some (.port i)
    | none => if b.ruleset = 0xFF then some .empty else none

def ruleBytes (r : LensRule) : Bytes :=
  toLe 1 (masterNum r.master) ++ toLe 1 r.port ++ toLe 1 r.access.toNat ++ [0] ++ toLe 4 r.first.toNat ++ toLe 4 r.last.toNat ++ zeros 4

/-- A bank image (R331). -/
def bankImage (b : Bank) : Bytes :=
  [b.portMap, 0] ++ toLe 2 b.rules.length ++ padTo 32 b.allowHost ++ padTo 32 b.allowBmc ++ padTo 4096 ((b.rules.map ruleBytes).flatten)

/-- A bitmap of the opcodes of classes 1 to 6 on a port given to the master. -/
def openAllow (s : State) (bmc : Bool) : Bytes :=
  let mine (k : Nat) : Bool := bit (pc s 0x3D 1) k == bmc
  (List.range 32).map (fun j => BitVec.ofNat 8 ((List.range 8).foldl (fun n b =>
    n + 2 ^ b * b2n ((List.range 4).any (fun k => mine k && decide (1 ≤ opClass s k (8 * j + b)) && decide (opClass s k (8 * j + b) ≤ 6)))) 0))

/-- The open bank (R326). -/
def openBank (s : State) (st : BankState) : Bank :=
  let bmcs := pc s 0x3D 1
  { state := st, ruleset := 0xFE, portMap := BitVec.ofNat 8 ((List.range 4).foldl (fun n k => n + 4 ^ k * b2n (bit bmcs k)) 0),
    allowHost := openAllow s false, allowBmc := openAllow s true,
    rules := (List.range 4).map (fun k => { master := bit bmcs k, port := k, access := 7, first := 0,
                                            last := BitVec.ofNat 32 (deviceSize s k - 1) }) }

/-- A rule of the bank lets some master program or erase a byte of the region. -/
def letsWrite (b : Bank) (r : Region) : Bool :=
  b.rules.any (fun u => u.port == r.port && u.access.toNat / 2 != 0 && meet u.first.toNat u.last.toNat r.first.toNat r.last.toNat)

/-- From a bank's activation on, regions it lets anyone write are excluded from re-measurement (R335). -/
def excludeRegions (s : State) : State :=
  let b := activeBank s
  modPlat (fun p => { p with regions := p.regions.map (fun r => if letsWrite b r then { r with excluded := true } else r) }) s

/-- Step 4 of R325: rule set 0, or the open bank, is staged into bank 0 and made active. -/
def activateBoot (s : State) : State :=
  if (activeBank s).ruleset != 0xFF then excludeRegions s
  else
    let b := match s.plat.manifest with
      | some m => bankAt m (32 + 80 * mfRegions m) 0 .active
      | none => openBank s .active
    excludeRegions (setBank false b s)

/-! ## Outputs (R316) -/

/-- Whether the module drives the platform outputs. -/
def drives (s : State) : Bool := if s.ilu.paired then activeSide s.ilu.mirror else s.plat.driven

def wantsHost (s : State) : Bool := bit s.plat.booting.toNat 0
def wantsBmc (s : State) : Bool := bit s.plat.booting.toNat 1

def setHost (st : PlatState) (outcome : BitVec 8) (s : State) : State := modPlat (fun p => { p with host := st, hostOutcome := outcome }) s
def setBmc (st : PlatState) (outcome : BitVec 8) (s : State) : State := modPlat (fun p => { p with bmc := st, bmcOutcome := outcome }) s

/-- Hold the host, or the BMC, with an outcome; a boot that holds a master writes a record (R326, R336). -/
def holdHost (outcome : BitVec 8) (s : State) : State :=
  dueRecord 1 0 (modPlat (fun p => { p with booting := p.booting &&& 2 }) (setHost .heldFailed outcome s))
def holdBmc (outcome : BitVec 8) (s : State) : State :=
  dueRecord 1 0 (modPlat (fun p => { p with booting := p.booting &&& 1 }) (setBmc .heldFailed outcome s))

/-! ## The power sequence (R318) -/

/-- A failed sequence ends it, and the masters not yet released stay in reset with outcome 3. -/
def seqFail (s : State) : State :=
  let s := modPlat (fun p => { p with wait := .idle, stage := 3 }) s
  let s := if wantsHost s then holdHost 3 s else s
  if wantsBmc s then holdBmc 3 s else s

/-- Perform one step: the state, and whether the sequence goes on at once. -/
def doStep (b : Bytes) (s : State) : State × Bool :=
  let n := fld b 2 1
  match fld b 0 1 with
  | 1 => (modPlat (fun p => { p with seqOut := p.seqOut ||| 1#16 <<< n }) s, true)
  | 2 => (modPlat (fun p => { p with seqOut := p.seqOut &&& ~~~(1#16 <<< n) }) s, true)
  | 3 =>
    if chanRetired s { kind := 5, index := 2 } then (seqFail s, false)
    else
      (modPlat (fun p => { p with wait := .pmbus })
        (emit (.pmbus (BitVec.ofNat 8 n) (BitVec.ofNat 8 (fld b 3 1)) (BitVec.ofNat 16 (fld b 4 2))) s), false)
  | 4 =>
    if bit s.plat.pgIn.toNat n then (s, true)
    else (modPlat (fun p => { p with wait := .pg n (s.clk.ns + 1000000 * fld b 6 2) }) s, false)
  | 5 => (modPlat (fun p => { p with wait := .delay (s.clk.ns + 10000 * fld b 4 2) }) s, false)
  | _ => (s, true)

/-- A step that the present stage of this boot performs: a boot of one master runs the stage before its release only, unless it starts
at step 1. -/
def stageRuns (s : State) (stage : Nat) : Bool :=
  s.plat.bootFull || s.plat.booting == 3 || (stage == 1 && wantsBmc s) || (stage == 2 && wantsHost s)

/-- Run the sequence from the next step on until a step waits or the list ends. `fuel` covers three passes over the list. -/
def runSeq : Nat → State → State
  | 0, s => s
  | f + 1, s =>
    let p := s.plat
    if 3 ≤ p.stage then s
    else
      let b := seqStep s p.step
      if 32 ≤ p.step || fld b 0 1 = 0 then runSeq f (modPlat (fun p => { p with stage := p.stage + 1, step := 0 }) s)
      else
        let s := modPlat (fun p => { p with step := p.step + 1 }) s
        if fld b 1 1 = p.stage && stageRuns s p.stage then
          let (s, go) := doStep b s
          if go then runSeq f s else s
        else runSeq f s

/-- The inverse of a step, for power-down. -/
def undoStep (b : Bytes) (s : State) : State :=
  match fld b 0 1 with
  | 1 => (doStep ([2] ++ b.drop 1) s).1
  | 2 => (doStep ([1] ++ b.drop 1) s).1
  | _ => s

/-- Steps of a stage that lie before the end of the list. -/
def stageSteps (s : State) (stage : Nat) : List Bytes :=
  (((List.range 32).map (seqStep s)).takeWhile (fun b => fld b 0 1 != 0)).filter (fun b => fld b 1 1 == stage)

/-- Steps of a power-down: waits and PMBus writes are skipped, and a delay holds the steps after it (R318). -/
def downSeq : List Bytes → State → State
  | [], s => modPlat (fun p => { p with wait := .idle }) s
  | b :: r, s =>
    if fld b 0 1 = 5 then modPlat (fun p => { p with wait := .down (s.clk.ns + 10000 * fld b 4 2) r }) s else downSeq r (undoStep b s)

/-- Power down: stage 2, then stage 1, in reverse. Power-good inputs are taken to fall with it. -/
def powerDown (s : State) : State :=
  downSeq ((stageSteps s 2).reverse ++ (stageSteps s 1).reverse) (modPlat (fun p => { p with pgIn := 0 }) s)

/-! ## Platform boot (R325, R326) -/

/-- The BMC is released once its regions have passed and stage 1 has ended (step 4). A boot of the BMC alone ends there. -/
def tryBmc (s : State) : State :=
  if wantsBmc s && s.plat.bmcHashed == some true && decide (2 ≤ s.plat.stage) then
    let alone := !wantsHost s
    let s := modPlat (fun p => { p with bmcReset := false, bmc := .released, booting := p.booting &&& 1 }) (activateBoot s)
    if alone then dueRecord 1 0 s else s
  else s

/-- PLT_PWRGD_OUT is driven high once the host regions have passed and stage 2 has ended; the record of kind 1 falls due (steps 5
and 6). -/
def tryHost (s : State) : State :=
  if wantsHost s && !s.plat.pwrgd && s.plat.hostHashed == some true && decide (3 ≤ s.plat.stage) then
    dueRecord 1 0 (modPlat (fun p => { p with pwrgd := true, pwrgdNs := s.clk.ns, kind1Durable := false }) (activateBoot s))
  else s

def advance (s : State) : State := tryHost (tryBmc s)

/-- The sequence goes on. -/
def resume (s : State) : State := advance (runSeq 100 (modPlat (fun p => { p with wait := .idle }) s))

/-- Both banks are loaded empty when both masters are in reset together, and a Lens lock then held breaks (R325, R334). -/
def emptyBanks (s : State) : State :=
  modPlat (fun p => { p with bank0 := State.resetBank .active, bank1 := State.resetBank .inactive,
                             lock := if p.lock = 1 then 3 else p.lock }) s

/-- Without an anchor nothing is verified (R326). -/
def unmanaged (s : State) : State :=
  let s := modPlat (fun p => { p with manifestDone := true, hostHashed := some true, bmcHashed := some true }) s
  let s := if wantsHost s then setHost .verifying 5 s else s
  if wantsBmc s then setBmc .verifying 5 s else s

/-- PLATFORM_BOOT (R317, R319, R325): a boot that is wanted starts. Without a valid record both masters stay in reset. -/
def execPlatformBoot (s : State) : Res :=
  guarded (s.svc.dawnDone && drives s && s.plat.bootWanted != 0 && s.plat.booting == 0 && s.plat.wait == .idle) (fun s =>
    let t := s.plat.bootWanted
    let s := modPlat (fun p => { p with used := p.pcfg, bootWanted := 0 }) s
    if !pcMagic (pcfgUse s) then s
    else
      let s := if s.plat.hostReset && s.plat.bmcReset then emptyBanks s else s
      let s := modPlat (fun p =>
        let regs := p.regions.filter (fun r => !bit t.toNat (b2n r.bmc))
        { p with booting := t, manifest := none, manifestOk := false, manVersion := 0, manFailed := false,
                 manifestDone := false, hostHashed := none, bmcHashed := none, failedRegs := 0, stage := 0, step := 0, kind1Durable := false,
                 isle := [], reads := [], readDone := [], passDone := [], regions := regs, host := if bit t.toNat 0 then .verifying else p.host,
                 bmc := if bit t.toNat 1 then .verifying else p.bmc, hostOutcome := if bit t.toNat 0 then 0 else 7,
                 bmcOutcome := if bit t.toNat 1 then 0 else 7 }) s
      let s := if allZero (anchorOf (pcfgUse s)) then unmanaged s else s
      resume s) s

/-- PG_IN_RISE (R318). -/
def execPgInRise (n : Fin 8) (s : State) : Res :=
  let s := modPlat (fun p => { p with pgIn := p.pgIn ||| 1#8 <<< n.val }) s
  match s.plat.wait with
  | .pg k _ => .next (if k = n.val then resume s else s)
  | _ => .next s

/-- PG_WAIT_TIMEOUT (R318). -/
def execPgWaitTimeout (s : State) : Res :=
  match s.plat.wait with
  | .pg _ d => guarded (decide (d ≤ s.clk.ns)) seqFail s
  | _ => .next s

/-- SEQ_DELAY_END (R318). -/
def execSeqDelayEnd (s : State) : Res :=
  match s.plat.wait with
  | .delay t => guarded (decide (t ≤ s.clk.ns)) resume s
  | .down t r => guarded (decide (t ≤ s.clk.ns)) (downSeq r) s
  | _ => .next s

/-- PMBUS_WRITE_DONE (R318). -/
def execPmbusWriteDone (ok : Bool) (s : State) : Res :=
  match s.plat.wait with
  | .pmbus => .next (if ok then resume s else seqFail s)
  | _ => .next s

def lookBytes (l : List (Nat × Bytes)) (i : Nat) : Option Bytes := (l.find? (fun e => e.1 == i)).map (fun e => e.2)

/-! ## The island's own flash accesses (R328) -/

/-- A port is the island's to use while its mapped master is in reset or has no transaction on it. -/
def portFree (s : State) (k : Nat) : Bool :=
  let idle (m : Bool) : Bool := !s.plat.inflight.any (fun i => i.port == k && i.master == m)
  match portMaster (activeBank s) k with
  | 0 => s.plat.hostReset || idle false
  | 1 => s.plat.bmcReset || idle true
  | _ => true

def released (s : State) (bmc : Bool) : Bool := if bmc then !s.plat.bmcReset else !s.plat.hostReset

/-- Regions that a pass of re-measurement reads. -/
def measuredIdx (s : State) : List Nat :=
  (s.plat.regions.zipIdx.filter (fun e => !e.1.excluded && released s e.1.bmc && !chanRetired s { kind := 4, index := e.1.port })).map (fun e => e.2)

/-- Regions of an owner that a platform boot reads. -/
def ownedIdx (s : State) (bmc : Bool) : List Nat :=
  (s.plat.regions.zipIdx.filter (fun e => e.1.bmc == bmc && !chanRetired s { kind := 4, index := e.1.port })).map (fun e => e.2)

/-- Regions a boot still has to read: the BMC's first (R325). -/
def bootIdx (s : State) : List Nat :=
  if s.plat.booting != 0 && s.plat.manifestOk then
    ((if wantsBmc s && s.plat.bmcHashed.isNone then ownedIdx s true else []) ++
     (if wantsHost s && s.plat.hostHashed.isNone then ownedIdx s false else [])).filter (fun i => !s.plat.readDone.contains i)
  else []

/-- A copy of the manifest is to be read (R324): the port and address of the copy. -/
def manifestAt (s : State) (alt : Bool) : Nat × Nat :=
  (pc s (if alt then 0x31 else 0x30) 1, pc s (if alt then 0x38 else 0x34) 4)

/-- What the island is to read on a port: the job, its first byte, its bytes, and the time of one transaction of 256 bytes, at 400 or
50 MB/s in a boot and at 40 MB/s in a pass of re-measurement (R325, R335). -/
def isleJob (s : State) (k : Nat) : Option (Nat × Nat × Nat × Nat) :=
  let rate := if pc s (portAt k) 1 = 2 then 640 else 5120
  let region (i ns : Nat) : Option (Nat × Nat × Nat × Nat) :=
    (s.plat.regions[i]?).map (fun r => (i, r.first.toNat, r.last.toNat + 1 - r.first.toNat, ns))
  let here (i : Nat) : Bool := ((s.plat.regions[i]?).map (fun r => r.port == k)).getD false
  let alt := s.plat.manFailed
  if s.plat.booting != 0 && decide (1 ≤ s.plat.stage) && !s.plat.manifestDone && (manifestAt s alt).1 == k &&
     !s.plat.readDone.contains (64 + b2n alt) then some (64 + b2n alt, (manifestAt s alt).2, 29224, rate)
  else match (bootIdx s).find? here with
    | some i => region i rate
    | none => ((measuredIdx s).find? (fun i => here i && !s.plat.readDone.contains i && !s.plat.passDone.contains i)).bind
        (fun i => region i 6400)

/-- A transaction has run to its end: its bytes are read. -/
def isleEnd (k : Nat) (s : State) : State :=
  match s.plat.isle.look k, isleJob s k, s.plat.reads.look k with
  | some x, some (job, _, len, _), some r =>
    if x.endNs ≤ s.clk.ns then
      let d := r.done + x.len
      modPlat (fun p => { p with isle := p.isle.del k, reads := p.reads.put k { r with done := if len ≤ d then 0 else d },
                                 readDone := if r.job == job && decide (len ≤ d) then p.readDone ++ [job] else p.readDone }) s
    else s
  | some _, _, _ => modPlat (fun p => { p with isle := p.isle.del k }) s
  | none, _, _ => s

/-- The next transaction starts, of at most 256 bytes, where the port is free. -/
def isleStart (k : Nat) (s : State) : State :=
  match s.plat.isle.look k, isleJob s k with
  | none, some (job, first, len, rate) =>
    let r := (s.plat.reads.look k).getD { job := job, done := 0, nextNs := 0 }
    let r := if r.job = job then r else { r with job := job, done := 0 }
    if portFree s k && decide (r.nextNs ≤ s.clk.ns) && decide (r.done < len) then
      let n := min 256 (len - r.done)
      modPlat (fun p => { p with isle := p.isle.put k { addr := first + r.done, len := n, endNs := s.clk.ns + n * rate / 256 },
                                 reads := p.reads.put k { r with nextNs := s.clk.ns + n * rate / 256 } }) s
    else s
  | _, _ => s

/-- What the passing of time brings to the island's flash accesses. -/
def islePass (s : State) : State :=
  if s.svc.dawnDone then (List.range 4).foldl (fun s k => isleStart k (isleEnd k s)) s else s

/-- A copy of the manifest has been read up to this length. -/
def manifestRead (s : State) (alt : Bool) (n : Nat) : Bool :=
  s.plat.readDone.contains (64 + b2n alt) ||
  (match s.plat.reads.look (manifestAt s alt).1 with
   | none => decide (n = 0)
   | some r => r.job == 64 + b2n alt && decide (n ≤ r.done))

/-- Every region of an owner has been read. -/
def ownerRead (s : State) (bmc : Bool) : Bool := (ownedIdx s bmc).all (fun i => s.plat.readDone.contains i)

/-- The ports that a recovery of an owner's regions reads and writes are free (R326, R328). -/
def recoveryFree (s : State) (bmc : Bool) (digests : List (Nat × Bytes)) : Bool :=
  s.plat.regions.zipIdx.all (fun e =>
    e.1.bmc != bmc || e.1.recovery == 0 || lookBytes digests e.2 == some e.1.digest || (portFree s e.1.port && portFree s e.1.recPort))

/-- A region as an accepted manifest names it: one whose owner does not boot keeps what is known of it (R325, R335). -/
def keepRegion (p : Platform) (r : Region) : Region :=
  if bit p.booting.toNat (b2n r.bmc) then r
  else match p.regions.find? (fun o => o.bmc == r.bmc && o.port == r.port && o.first == r.first && o.last == r.last) with
    | none => r
    | some o => { r with result := o.result, measured := o.measured, excluded := o.excluded }

/-- An accepted manifest (R324). -/
def acceptManifest (m : Bytes) (s : State) : State :=
  let raise (b : Bytes) : Bytes := if fld m 0x12 1 = 1 then bput b 6 (toLe 2 (fld m 6 2)) else b
  modPlat (fun p => { p with manifest := some m, manifestOk := true, manVersion := BitVec.ofNat 16 (fld m 6 2), manifestDone := true,
                             regions := (manifestRegions m).map (keepRegion p), pcfg := p.pcfg.map raise, used := p.used.map raise }) s

/-- Both copies have failed (R326). -/
def manifestFail (s : State) : State :=
  let s := modPlat (fun p => { p with manifestDone := true }) s
  let s := if wantsHost s then holdHost 4 s else s
  if wantsBmc s then
    if bit (pc s 0x3C 1) 1 then advance (setBmc .verifying 6 (modPlat (fun p => { p with bmcHashed := some true }) s)) else holdBmc 4 s
  else s

/-- MANIFEST_READ_DONE (R324, R326): a boot rule set that R332 would refuse counts as a failure. -/
def execManifestReadDone (alternate : Bool) (bytes : Bytes) (s : State) : Res :=
  guarded (s.plat.booting != 0 && decide (1 ≤ s.plat.stage) && !s.plat.manifestDone && alternate == s.plat.manFailed &&
           manifestRead s alternate bytes.length) (fun s =>
    let ok := manifestOk s bytes && (swapFault (bankAt bytes (32 + 80 * mfRegions bytes) 0 .inactive)).isNone
    if ok then acceptManifest bytes s
    else if !alternate && pc s 0x31 1 != 0xFF then modPlat (fun p => { p with manFailed := true }) s
    else manifestFail s) s

/-- One region's result (R326): the read digest, or that of the source copy and of the region read again after it was programmed. A
retired flash port counts as failed (R426). -/
def judge (s : State) (digests sources rereads : List (Nat × Bytes)) (i : Nat) (r : Region) : Region :=
  let d := (lookBytes digests i).getD (zeros 64)
  if chanRetired s { kind := 4, index := r.port } then { r with result := 3, measured := zeros 64 }
  else if d = r.digest then { r with result := 0, measured := d }
  else if r.recovery = 0 then { r with result := 3, measured := d }
  else if lookBytes sources i = some r.digest then
    let e := (lookBytes rereads i).getD (zeros 64)
    if e = r.digest then { r with result := BitVec.ofNat 8 r.recovery, measured := e } else { r with result := 3, measured := e }
  else { r with result := 3, measured := d }

/-- The outcome of a master's regions: 0, 1 after a recovery, 2 when one failed. -/
def regionOutcome (l : List Region) : BitVec 8 :=
  if l.any (fun r => r.result == 3) then 2 else if l.any (fun r => r.result == 1 || r.result == 2) then 1 else 0

/-- The state of a master in PLAT_STATUS. -/
def masterState (s : State) (bmc : Bool) : PlatState := if bmc then s.plat.bmc else s.plat.host

/-- A region of an owner differs and names a source, so that a recovery begins (R326); a retired port reads nothing. -/
def toRecover (s : State) (bmc : Bool) (digests : List (Nat × Bytes)) : Bool :=
  masterState s bmc != .recovering &&
  s.plat.regions.zipIdx.any (fun e => e.1.bmc == bmc && e.1.recovery != 0 && !chanRetired s { kind := 4, index := e.1.port } &&
    (lookBytes digests e.2).getD (zeros 64) != e.1.digest)

/-- The recovery of a master's regions begins: PLAT_STATUS shows it until the regions have been hashed again (R326, R342). -/
def beginRecovery (bmc : Bool) (s : State) : State :=
  modPlat (fun p => if bmc then { p with bmc := .recovering } else { p with host := .recovering }) s

/-- The regions of one master are judged. -/
def judgeRegions (bmc : Bool) (digests sources rereads : List (Nat × Bytes)) (s : State) : State :=
    let l := s.plat.regions.zipIdx.map (fun e => if e.1.bmc == bmc then judge s digests sources rereads e.2 e.1 else e.1)
    let mine := l.filter (fun r => r.bmc == bmc)
    let o := regionOutcome mine
    let s := modPlat (fun p => { p with regions := l, failedRegs := (l.filter (fun r => r.result == 3)).length,
                                        readDone := p.readDone.filter (fun i => !(ownedIdx s bmc).contains i) }) s
    if bmc then
      let s := modPlat (fun p => { p with bmcHashed := some (o != 2) }) s
      if o = 2 then holdBmc 2 s else advance (setBmc .verifying o s)
    else
      let s := modPlat (fun p => { p with hostHashed := some (o != 2) }) s
      if o = 2 then holdHost 2 s else advance (setHost .verifying o s)

/-- REGION_HASH_DONE (R325, R326, R342, R426): the regions of one master have been read, the BMC's before the host's. Where one differs and
names a source, a first such event begins the recovery, and the next one ends it. -/
def execRegionHashDone (bmc : Bool) (digests sources rereads : List (Nat × Bytes)) (s : State) : Res :=
  guarded (bit s.plat.booting.toNat (b2n bmc) && s.plat.manifestOk &&
           (if bmc then s.plat.bmcHashed.isNone else s.plat.hostHashed.isNone && (s.plat.bmcHashed.isSome || !wantsBmc s)) &&
           ownerRead s bmc && (toRecover s bmc digests || recoveryFree s bmc digests))
    (fun s => if toRecover s bmc digests then beginRecovery bmc s else judgeRegions bmc digests sources rereads s) s

/-- HOST_RELEASE (R325): 1 ms after PLT_PWRGD_OUT and the durable record. -/
def execHostRelease (s : State) : Res :=
  guarded (wantsHost s && s.plat.pwrgd && s.plat.kind1Durable && decide (s.plat.pwrgdNs + 1000000 ≤ s.clk.ns))
    (modPlat (fun p => { p with hostReset := false, host := .released, booting := p.booting &&& 2 })) s

/-- The masters of a set go into reset, and their boot is wanted. -/
def resetMasters (t : BitVec 2) (full : Bool) (s : State) : State :=
  modPlat (fun p => { p with
    hostReset := p.hostReset || bit t.toNat 0, pwrgd := p.pwrgd && !bit t.toNat 0, host := if bit t.toNat 0 then .heldBefore else p.host,
    bmcReset := p.bmcReset || bit t.toNat 1, bmc := if bit t.toNat 1 then .heldBefore else p.bmc,
    booting := p.booting &&& ~~~t, bootWanted := p.bootWanted ||| t, bootFull := full || t == 3 }) s

/-- PLATFORM_RESET_ASSERT (R318, R340). -/
def execPlatformResetAssert (s : State) : Res :=
  match s.plat.rebootAt with
  | none => .next s
  | some (t, m, cycle) => guarded (decide (t ≤ s.clk.ns)) (fun s =>
      let s := resetMasters m cycle (modPlat (fun p => { p with rebootAt := none, wait := .idle }) s)
      if cycle then powerDown s else s) s

/-! ## Boot records (R336 to R339) -/

def regionEntry (s : State) (kind : Nat) (r : Region) : Bytes :=
  toLe 1 r.port ++ [if kind != 1 && (r.excluded || chanRetired s { kind := 4, index := r.port }) then 5 else r.result] ++ zeros 2 ++ toLe 4 r.first.toNat ++ padTo 64 r.measured

/-- The header of a record (R337). -/
def recordHeader (kind event lost lostLast : Nat) (s : State) : Bytes :=
  let p := s.plat
  toLe 4 0x55474252 ++ toLe 2 1 ++ toLe 1 kind ++ toLe 1 p.regions.length ++ toLe 8 (p.brecSeq + 1) ++ toLe 8 s.hzn.time.toNat ++
  toLe 1 (lcReport s) ++ [if kind = 1 then p.hostOutcome else 7, if kind = 1 then p.bmcOutcome else 7] ++ toLe 1 (b2n (activeIdx s)) ++ toLe 2 p.manVersion.toNat ++
  [p.bank0.ruleset, p.bank1.ruleset] ++ toLe 4 lost ++ toLe 4 event ++ toLe 8 lostLast ++ padTo 64 p.prevHash ++ allMeasurements s ++
  (match p.manifest with | none => zeros 64 | some m => sha3_512 m) ++ sha3_512 (bankImage p.bank0) ++ sha3_512 (bankImage p.bank1) ++ zeros 16

/-- Write a record under the boot alias key (R336, R337, R339). -/
def writeRecord (kind event : Nat) (s : State) : State :=
  let p := s.plat
  let full := decide (8192 ≤ unacked s)
  let lost := p.brecLost + b2n full
  let lostLast := if full then p.brecSeq + 1 - 8192 else p.lostLast
  let m := recordHeader kind event lost lostLast s ++ (p.regions.map (regionEntry s kind)).flatten
  let (rnd, s) := islandDraw 64 s
  let r := m ++ padTo 4724 (hybridBlock s.life.rotKey m rnd)
  modPlat (fun p => { p with records := p.records.put ((p.brecSeq + 1) % 8192) r, brecSeq := p.brecSeq + 1, brecLost := lost,
                             lostLast := lostLast, prevHash := sha3_512 r, kind1Durable := p.kind1Durable || (kind == 1 && p.pwrgd),
                             pwrgdNs := if kind == 1 && p.pwrgd && !p.kind1Durable then s.clk.ns else p.pwrgdNs }) s

/-- The record to write next: while R339 holds the host, one of kind 1 waits. -/
def nextDue (s : State) : Option Bytes := s.plat.recordDue.find? (fun b => !(s.plat.hold && fld b 0 1 == 1))

/-- BOOT_RECORD_DURABLE (R336, R337, R339). -/
def execBootRecordDurable (s : State) : Res :=
  match nextDue s with
  | none => .next s
  | some b => guarded s.svc.dawnDone
      (fun s => writeRecord (fld b 0 1) (fld b 1 4) (modPlat (fun p => { p with recordDue := p.recordDue.erase b }) s)) s

/-! ## Re-measurement (R335) -/

/-- A mismatch (R335, R434). -/
def mismatch (i : Nat) (r : Region) (d : Bytes) (s : State) : State :=
  let s := modPlat (fun p => { p with mismatch := true, regions := p.regions.set i { r with result := 4, measured := d } }) s
  let s := dueRecord 4 (1 + 256 * i) (setFltCause 0x20 s)
  if bit (pc s 0x3C 1) 2 then resetMasters (if r.bmc then 2 else 1) false s else s

/-- REMEASURE_REGION_DONE (R335): a pass is complete when every region it reads is done. -/
def execRemeasureRegionDone (region : Fin 64) (digest : Bytes) (s : State) : Res :=
  match s.plat.regions[region.val]? with
  | none => .next s
  | some r => guarded ((measuredIdx s).contains region.val && s.svc.dawnDone && s.plat.readDone.contains region.val) (fun s =>
      let s := modPlat (fun p => { p with readDone := p.readDone.filter (· != region.val), passDone := if p.passDone.contains region.val then p.passDone else p.passDone ++ [region.val] }) s
      let s := if (measuredIdx s).all (fun i => s.plat.passDone.contains i) then
          modPlat (fun p => { p with passes := satAdd 16 p.passes 1, passDone := [] }) s else s
      if digest = r.digest then s else mismatch region.val r digest s) s

/-- FLASH_STATUS_POLL_TIMEOUT (R424): the access is repeated, and the port counts a transient fault. -/
def execFlashStatusPollTimeout (port : Fin 4) (s : State) : Res :=
  guarded s.svc.dawnDone (fun s => transient { kind := 4, index := port.val }
    (modPlat (fun p => { p with polls := p.polls + 1, isle := p.isle.del port.val }) s)) s

/-! ## The Lens (R327 to R332) -/

/-- Rules of a bank that let a master do an access on a port. -/
def rulesFor (b : Bank) (t : LensTxn) (access : Nat) : List LensRule :=
  b.rules.filter (fun r => r.master == t.master && r.port == t.port.val && bit r.access.toNat access)

/-- Bytes of [lo, hi] that a list of rules covers; rules of an active bank never intersect (R332). -/
def covered (l : List LensRule) (lo hi : Nat) : Nat :=
  l.foldl (fun n r => n + (min hi r.last.toNat + 1 - max lo r.first.toNat)) 0

/-- Bytes of `n` from `a` on, wrapping at `size`, that are covered. -/
def coveredWrap (l : List LensRule) (size a n : Nat) : Nat :=
  let a := a % size
  let whole := n / size * covered l 0 (size - 1)
  let m := n % size
  if m = 0 then whole
  else if a + m ≤ size then whole + covered l a (a + m - 1)
  else whole + covered l a (size - 1) + covered l 0 (a + m - size - 1)

/-- The Lens's address of a transaction: the port's fixed ADDR_BYTES (R320). -/
def lensAddr (s : State) (t : LensTxn) : Nat := t.addr.toNat % 2 ^ (8 * pc s (portAt t.port.val + 3) 1)

/-- Bytes an access touches, and how many of them are permitted (R329). -/
def touched (s : State) (b : Bank) (t : LensTxn) (cls : Nat) : Nat × Nat :=
  let k := t.port.val
  let a := lensAddr s t
  match cls with
  | 1 => (t.count, coveredWrap (rulesFor b t 0) (deviceSize s k) a t.count)
  | 2 =>
    let page := pageSize s k
    let n := min t.count page
    let base := a % deviceSize s k / page * page
    let off := a % page
    let l := rulesFor b t 1
    (n, if off + n ≤ page then (if n = 0 then 0 else covered l (base + off) (base + off + n - 1))
        else covered l (base + off) (base + page - 1) + covered l base (base + off + n - page - 1))
  | _ =>
    let code := opErase s k t.opcode.toNat
    let l := rulesFor b t 2
    if code = 7 then (deviceSize s k, covered l 0 (deviceSize s k - 1))
    else
      let n := eraseBytes code
      let base := a % deviceSize s k / n * n
      (n, covered l base (base + n - 1))

/-- Class of a command: in octal mode a second byte that is not the inverse makes it class 0 (R327). -/
def txnClass (s : State) (t : LensTxn) : Nat :=
  if pc s (portAt t.port.val) 1 = 0 then 0
  else if pc s (portAt t.port.val) 1 = 2 && t.second != ~~~t.opcode then 0
  else opClass s t.port.val t.opcode.toNat

def addressed (cls : Nat) : Bool := decide (1 ≤ cls) && decide (cls ≤ 3)

/-- Write a record of the Lens log (R342). -/
def lensLog (kind filled : Nat) (t : LensTxn) (cls : Nat) (s : State) : State :=
  let e : LensEvent := { master := t.master, port := t.port.val, kind := BitVec.ofNat 3 kind, opcode := t.opcode,
                         filled := BitVec.ofNat 16 (min filled 0xFFFF), addr := if addressed cls then BitVec.ofNat 32 (lensAddr s t) else 0, time := s.hzn.time }
  modPlat (fun p => { p with log := p.log.put p.logNext.toNat e, logNext := p.logNext + 1, cntLens := satAdd 32 p.cntLens 1 }) s

/-- What a transaction comes to. A forwarded read shows MASTER_DUMMY dummy cycles to the master and drives the device with four fewer
(R328). -/
def flashOut (t : LensTxn) (forwarded : Bool) (filled cls : Nat) (s : State) : State :=
  let d := if forwarded && cls == 1 then pc s (portAt t.port.val + 4) 1 else 0
  emit (.flash t.port.val t.opcode t.addr forwarded filled d (d - 4)) s

/-- The port's former master still has a transaction in flight there under the draining bank (R332). -/
def portBusy (s : State) (t : LensTxn) : Bool :=
  let a := activeIdx s
  (bankOf s (!a)).state == .draining &&
  s.plat.inflight.any (fun i => i.port == t.port.val && i.master != t.master && i.bank == !a)

/-- The judgement of one transaction (R329, R330). -/
def judgeTxn (t : LensTxn) (s : State) : State :=
  let b := activeBank s
  let cls := txnClass s t
  let allow := if t.master then b.allowBmc else b.allowHost
  if portMaster b t.port.val != masterNum t.master || portBusy s t then flashOut t false 0 cls (lensLog 5 0 t cls s)
  else if cls = 0 || !bit (allow.getD (t.opcode.toNat / 8) 0).toNat (t.opcode.toNat % 8) then flashOut t false 0 cls (lensLog 4 0 t cls s)
  else if 4 ≤ cls then flashOut t true 0 cls s
  else
    let (n, ok) := touched s b t cls
    if n ≤ ok then flashOut t true 0 cls s
    else if cls = 1 then flashOut t true (n - ok) cls (lensLog 1 (n - ok) t cls s)
    else
      let s := flashOut t false 0 cls (lensLog (if cls = 2 then 2 else 3) 0 t cls s)
      emit (.flash t.port.val (BitVec.ofNat 8 (pc s (portAt t.port.val + 5) 1)) 0 true 0 0 0) s

/-- LENS_TRANSACTION (R24, R327 to R330): an island transaction on the port ends at once, and is repeated later. -/
def execLensTransaction (t : LensTxn) (s : State) : Res :=
  guarded s.clk.powered (fun s =>
    let s := judgeTxn t s
    modPlat (fun p => { p with isle := p.isle.del t.port.val,
                               inflight := p.inflight ++ [{ master := t.master, port := t.port.val, bank := activeIdx s }] }) s) s

/-- LENS_TRANSACTION_END (R331): the end of a draining bank's last transaction makes it INACTIVE. -/
def execLensTransactionEnd (master : Bool) (port : Fin 4) (s : State) : Res :=
  match s.plat.inflight.find? (fun i => i.master == master && i.port == port.val) with
  | none => .next s
  | some i =>
    let s := modPlat (fun p => { p with inflight := p.inflight.erase i }) s
    let d := !activeIdx s
    .next (if (bankOf s d).state == .draining && !s.plat.inflight.any (fun j => j.bank == d)
           then setBank d { bankOf s d with state := .inactive } s else s)

/-! ## The Lens lock (R334) -/

/-- The lock as it stands: the PF's hold is lost when its partition's generation has changed. -/
def lensLock (s : State) : Nat :=
  if s.plat.lock = 1 then
    match s.plat.lockOwner with
    | .pf g => if g = (getPart s (getFn s 0).partition).gen then 1 else 3
    | .session _ => 1
  else s.plat.lock.toNat

def callerOf (s : State) (x : Req) : LensOwner :=
  match x.session with | some i => .session i | none => .pf (getPart s (getFn s 0).partition).gen

/-- 0 FREE, 1 held by the caller, 2 held by another, 3 BROKEN. -/
def lockView (s : State) (x : Req) : Nat := if lensLock s = 1 then (if s.plat.lockOwner = callerOf s x then 1 else 2) else lensLock s

def platBase (x : Req) (off len : Nat) : Bool := x.fn == 0 && allZero (bsub x.payload off len)

def ownLock (s : State) (x : Req) : Option Status :=
  firstFail
    [ need (platBase x 2 6 && decide (x.pay 0 1 ≤ 1) && decide (x.pay 1 1 ≤ 1)) stPolicyDenied,
      (match x.pay 0 1, lockView s x with
       | 1, 2 => some stFlowLimit
       | 1, 3 => need (x.pay 1 1 == 1) stLockBroken
       | 0, 2 => some stPolicyDenied
       | 0, 3 => some stLockBroken
       | _, _ => none) ]

def applyLock : Cmd → State → State := fun c s =>
  let x := reqOf c
  if x.pay 0 1 = 1 then modPlat (fun p => { p with lock := 1, lockOwner := callerOf s x }) s
  else modPlat (fun p => { p with lock := 0 }) s

/-- The lock and draining conditions of LENS_STAGE and LENS_SWAP (R332, R334). -/
def lensHeld (s : State) (x : Req) : Option Status :=
  firstFail
    [ need (lockView s x != 3) stLockBroken,
      need (lockView s x == 1) stPolicyDenied,
      need ((bankOf s (!activeIdx s)).state != .draining) stFlowLimit ]

def ownStage (s : State) (x : Req) : Option Status :=
  firstFail
    [ need (platBase x 1 7 && (match s.plat.manifest with | none => false | some m => decide (x.pay 0 1 < mfSets m))) stPolicyDenied,
      lensHeld s x ]

def applyStage : Cmd → State → State := fun c s =>
  match s.plat.manifest with
  | none => s
  | some m =>
    let k := (reqOf c).pay 0 1
    let off := ((setOffsets m (mfSets m) (32 + 80 * mfRegions m)).1).getD k 0
    setBank (!activeIdx s) (bankAt m off k .inactive) s

def ownSwap (s : State) (x : Req) : Option Status := firstFail [ need (platBase x 0 8) stPolicyDenied, lensHeld s x ]

def swapReply (s : State) (refused : Bool) (a b : Bytes) : Bytes := toLe 1 (b2n (activeIdx s)) ++ toLe 1 (b2n refused) ++ a ++ b

/-- RULE_A and RULE_B of a refused swap; an index the spec does not define is a free value (R332). -/
def swapRules (f : SwapFault) (s : State) : (Bytes × Bytes) × State :=
  match f with
  | .pair i j => ((toLe 2 i, toLe 2 j), s)
  | .port i => let (b, s) := takeFree 2 s; ((toLe 2 i, b), s)
  | .empty => let (a, s) := takeFree 2 s; let (b, s) := takeFree 2 s; ((a, b), s)

/-- The swap takes effect: the old bank drains, or is INACTIVE at once when nothing started under it (R331, R332). -/
def swapBanks (s : State) : State :=
  let a := activeIdx s
  let busy := s.plat.inflight.any (fun i => i.bank == a)
  let s := setBank a { bankOf s a with state := if busy then .draining else .inactive } s
  let s := setBank (!a) { bankOf s (!a) with state := .active } s
  dueRecord 4 2 (excludeRegions (modPlat (fun p => { p with refusedSwap := false }) s))

def runSwap : Effect := fun c s =>
  match ownSwap s (reqOf c) with
  | some st => ends s st (swapReply s false (zeros 2) (zeros 2))
  | none =>
    match swapFault (bankOf s (!activeIdx s)) with
    | none => let s := swapBanks s; ends s stOk (swapReply s false (zeros 2) (zeros 2))
    | some f =>
      let ((a, b), s) := swapRules f (modPlat (fun p => { p with refusedSwap := true }) s)
      ends s stVerifyFailed (swapReply s true a b)

/-- The reply of LENS_SWAP is written with every status (R340, R459). -/
def failSwap : OnFail := fun _ _ s => (s, swapReply s false (zeros 2) (zeros 2))

/-! ## Views (R342) -/

def platNum : PlatState → Nat
  | .heldBefore => 0 | .verifying => 1 | .recovering => 2 | .released => 3 | .heldFailed => 4 | .heldRecords => 5

def platStatus (s : State) : Nat :=
  platNum s.plat.host + 8 * platNum s.plat.bmc + 64 * b2n (anchorSet s) + 128 * b2n s.plat.manifestOk + 256 * s.plat.failedRegs +
  65536 * s.plat.manVersion.toNat

def lensStatus (s : State) : Nat :=
  let a := activeIdx s
  b2n a + 2 * b2n ((bankOf s (!a)).state == .draining) + 4 * b2n s.plat.refusedSwap + 8 * lensLock s +
  256 * (bankOf s a).ruleset.toNat + 65536 * (bankOf s (!a)).ruleset.toNat

def brecStatus (s : State) : Nat := unacked s + 16384 * b2n s.plat.hold

def platReply (s : State) : Bytes :=
  toLe 4 (platStatus s) ++ toLe 4 (lensStatus s) ++ toLe 4 s.plat.brecSeq ++ toLe 4 (brecStatus s) ++ toLe 4 s.plat.brecLost ++ zeros 12

/-! ## The commands (R340, R341) -/

def specPlat (own : State → Req → Option Status) (len reply : Nat) : OpSpec :=
  { phase := .dawn
    length := fun _ x => x.len == len
    maxReply := fun _ _ => reply
    own := own
    onBus := true }

def ownZero8 (_ : State) (x : Req) : Option Status := need (platBase x 0 8) stPolicyDenied

def specPlatformStatus : OpSpec := specPlat ownZero8 8 32
def runPlatformStatus : Effect := fun _ s => ends s stOk (platReply s)

/-- MIN_VERSION of the stored record. -/
def minVersion (s : State) : Nat := match s.plat.pcfg with | none => 0 | some b => if pcMagic b then fld b 6 2 else 0

def ownConfigSet (s : State) (x : Req) : Option Status :=
  need (x.fn == 0 && pcfgOk x.payload && decide (minVersion s ≤ x.pay 6 2)) stPolicyDenied

/-- Once an anchor stands the record is set under a ceremony, from Overcast on. -/
def specConfigSet : OpSpec :=
  { specPlat ownConfigSet 1408 4 with
    quorum := fun s _ => if anchorSet s then some 0 else none
    shares := fun s _ => need (!(anchorSet s && s.svc.phase == .dawn)) stServiceReduced
    persist := fun _ _ => true }

def applyConfigSet : Cmd → State → State := fun c s => modPlat (fun p => { p with pcfg := some c.payload }) s

def specConfigGet : OpSpec := specPlat ownZero8 8 1408
def runConfigGet : Effect := fun _ s => ends s stOk (padTo 1408 (s.plat.pcfg.getD []))

def ownReboot (_ : State) (x : Req) : Option Status :=
  need (platBase x 2 6 && decide (1 ≤ x.pay 0 1) && decide (x.pay 0 1 ≤ 3) && decide (x.pay 1 1 ≤ 1)) stPolicyDenied
def specReboot : OpSpec := specPlat ownReboot 8 4

/-- The resets follow the completion by 10 ms (R340). -/
def scheduleReboot (c : Cmd) (s : State) : State :=
  let x := reqOf c
  modPlat (fun p => { p with rebootAt := some (s.clk.ns + 10000000, BitVec.ofNat 2 (x.pay 0 1), x.pay 1 1 == 1) }) s

def specLensLock : OpSpec := specPlat ownLock 8 4
def specLensStage : OpSpec := specPlat ownStage 8 4
def specLensSwap : OpSpec := specPlat ownSwap 8 6

def ownLensRead (_ : State) (x : Req) : Option Status := need (platBase x 1 7 && decide (x.pay 0 1 ≤ 1)) stPolicyDenied
def specLensRead : OpSpec := specPlat ownLensRead 8 4228
def runLensRead : Effect := fun c s =>
  let i := bankImage (bankOf s ((reqOf c).pay 0 1 == 1))
  ends s stOk (i ++ sha3_512 i)

/-- A record in the store, by its RECORD_SEQ. -/
def recordAt (s : State) (n : Nat) : Option Bytes :=
  (s.plat.records.look (n % 8192)).bind (fun b => if n != 0 && fld b 8 8 == n then some b else none)

def ownRecordRead (s : State) (x : Req) : Option Status := need (x.fn == 0 && (recordAt s (x.pay 0 8)).isSome) stPolicyDenied
def specRecordRead : OpSpec := specPlat ownRecordRead 8 9844
def runRecordRead : Effect := fun c s =>
  match recordAt s ((reqOf c).pay 0 8) with
  | none => ends s stPolicyDenied
  | some b => ends s stOk b

def ownRecordAck (s : State) (x : Req) : Option Status := need (x.fn == 0 && decide (x.pay 0 8 ≤ s.plat.brecSeq)) stPolicyDenied
def specRecordAck : OpSpec := specPlat ownRecordAck 8 4

/-- An acknowledgement that frees a slot lets a host held for records go on (R339, R340). -/
def applyAck : Cmd → State → State := fun c s =>
  let n := (reqOf c).pay 0 8
  let s := modPlat (fun p => { p with ackSeq := max p.ackSeq n }) s
  if s.plat.hold && decide (unacked s < 8192) then modPlat (fun p => { p with hold := false, host := .verifying }) s else s

/-! ## The rows -/

/-- PLATFORM_STATUS (R340). -/
def execPlatformStatus (r : CmdRef) (s : State) : Res := runAccepted 0x1001 runPlatformStatus noReply r s
/-- PLATFORM_CONFIG_SET (R319, R340). -/
def execPlatformConfigSet (r : CmdRef) (s : State) : Res := runAccepted 0x1002 (adminRun ownConfigSet applyConfigSet zeroReply) noReply r s
/-- PLATFORM_CONFIG_GET (R340). -/
def execPlatformConfigGet (r : CmdRef) (s : State) : Res := runAccepted 0x1003 runConfigGet noReply r s
/-- PLATFORM_REBOOT (R340): the effect follows its completion. -/
def execPlatformReboot (r : CmdRef) (s : State) : Res := runAccepted 0x1004 (adminRun ownReboot (fun _ s => s) zeroReply) noReply r s
/-- LENS_LOCK (R334). -/
def execLensLock (r : CmdRef) (s : State) : Res := runAccepted 0x1005 (adminRun ownLock applyLock zeroReply) noReply r s
/-- LENS_STAGE (R333, R334). -/
def execLensStage (r : CmdRef) (s : State) : Res := runAccepted 0x1006 (adminRun ownStage applyStage zeroReply) noReply r s
/-- LENS_SWAP (R331, R332, R334). -/
def execLensSwap (r : CmdRef) (s : State) : Res := runAccepted 0x1007 runSwap failSwap r s
/-- LENS_READ (R331, R340). -/
def execLensRead (r : CmdRef) (s : State) : Res := runAccepted 0x1008 runLensRead noReply r s
/-- BOOT_RECORD_READ (R337, R340). -/
def execBootRecordRead (r : CmdRef) (s : State) : Res := runAccepted 0x1009 runRecordRead noReply r s
/-- BOOT_RECORD_ACK (R339, R340): the reply is UNACKED after it. -/
def execBootRecordAck (r : CmdRef) (s : State) : Res :=
  runAccepted 0x100A (adminRun ownRecordAck applyAck (fun _ s => toLe 4 (unacked s))) noReply r s

end Sys2Proof.Machine
end

