-- ==== Sys2Proof/Machine/Loader.lean ====
section
/-! DEFINITION. The recovery loader on the recovery UART (R305, R306). -/

namespace Sys2Proof.Machine

/-- Longest image the loader takes. -/
def loaderMax : Nat := 1048576

/-- Offset of the next byte expected. -/
def loaderNext (s : State) : Nat := s.fw.loaderBuf.length

/-- A loader frame: SOF, TYPE, LEN, PAYLOAD and the CRC over the last three (R306). -/
def loaderFrame (typ : Nat) (payload : Bytes) : Bytes :=
  let b := toLe 1 typ ++ toLe 2 payload.length ++ payload
  [0xC3] ++ b ++ toLe 4 (crc32 b).toNat

/-- Send a frame on the recovery UART. -/
def loaderSend (typ : Nat) (payload : Bytes) (s : State) : State := emit (.uart (loaderFrame typ payload)) s

/-- Send ACK (TYPE 0x10) with a result. -/
def loaderAck (result : Nat) (s : State) : State := loaderSend 0x10 (toLe 4 (loaderNext s) ++ toLe 1 result) s

/-- Send NAK (TYPE 0x11) with a code. -/
def loaderNak (code : Nat) (s : State) : State := loaderSend 0x11 (toLe 4 (loaderNext s) ++ toLe 1 code) s

/-- The loader has received a frame now. -/
def loaderHeard (s : State) : State := { s with fw := { s.fw with loaderNs := s.clk.ns } }

/-- The loader discards what it holds and waits for BEGIN. -/
def loaderWait (s : State) : State := { s with fw := { s.fw with loaderLen := none, loaderBuf := [] } }

/-- LOADER_HELLO_TIMER (R305, R306): every second while it waits for BEGIN. -/
def execLoaderHelloTimer (s : State) : Res :=
  guarded (s.svc.recovery && s.fw.loaderLen.isNone && decide (s.fw.loaderNs + 1000000000 ≤ s.clk.ns)) (fun s =>
    loaderSend 0x01 (padTo 8 (unitSerial s) ++ toLe 1 (svnCount s) ++ toLe 1 (keysLive s) ++ toLe 1 s.fw.slotA.result.toNat ++
      toLe 1 s.fw.slotB.result.toNat) (loaderHeard s)) s

/-- LOADER_BEGIN (R305, R306). -/
def execLoaderBegin (length : BitVec 32) (crcOk : Bool) (s : State) : Res :=
  guarded s.svc.recovery (fun s =>
    let s := loaderHeard s
    if !crcOk then loaderNak 0x80 s
    else if loaderMax < length.toNat then loaderNak 0x82 (loaderWait s)
    else loaderAck 0 { s with fw := { s.fw with loaderLen := some length.toNat, loaderBuf := [] } }) s

/-- LOADER_DATA (R305, R306): a frame at another offset, with a bad CRC, or with more than LENGTH leaves room for is not stored. -/
def execLoaderData (offset : BitVec 32) (data : Bytes) (crcOk : Bool) (s : State) : Res :=
  guarded s.svc.recovery (fun s =>
    let s := loaderHeard s
    match s.fw.loaderLen with
    | none => loaderNak 0x80 s
    | some n =>
      if !crcOk || data.isEmpty || decide (4096 < data.length) then loaderNak 0x80 s
      else if offset.toNat != loaderNext s then loaderNak 0x81 s
      else if n < loaderNext s + data.length then loaderNak 0x80 s
      else loaderAck 0 { s with fw := { s.fw with loaderBuf := s.fw.loaderBuf ++ data } }) s

/-- The image has verified: slot A, then slot B, then slot A's flag record (R302, R305). -/
def loaderStore (i : Bytes) (s : State) : State :=
  raiseFlag false (nextFlagSeq s) (writeSlot true i (writeSlot false i s))

/-- LOADER_END (R297, R305): success writes the slots, answers result 1 and resets 10 ms later. -/
def execLoaderEnd (crcOk : Bool) (s : State) : Res :=
  guarded s.svc.recovery (fun s =>
    let s := loaderHeard s
    if !crcOk || s.fw.loaderLen.isNone then loaderNak 0x80 s
    else
      let r := imageCheck s s.fw.loaderBuf 1 0 true
      if r = 1 then
        let s := loaderAck 1 (loaderStore s.fw.loaderBuf s)
        { s with svc := { s.svc with warmAtNs := some (s.clk.ns + 10000000) } }
      else loaderWait (loaderNak r s)) s

/-- LOADER_FRAME_TIMEOUT (R305): more than 2 s without a frame. -/
def execLoaderFrameTimeout (s : State) : Res :=
  guarded (s.svc.recovery && s.fw.loaderLen.isSome && decide (s.fw.loaderNs + 2000000000 < s.clk.ns)) (fun s => loaderHeard (loaderWait s)) s

end Sys2Proof.Machine
end

