-- ==== Sys2Proof/Machine/Accept.lean ====
section
/-! DEFINITION. The checks before acceptance (R52, R460, R461) and acceptance itself (R26, R29, R31, R55, R61, R70 to R74, R80, R88, R96,
R104, R105, R128, R140 to R142, R218, R255 to R257, R267, R281, R352 to R356, R408 to R411, R417, R426). -/

namespace Sys2Proof.Machine

/-! ## The group 0x10 commands of the management bus (R354) -/

def mbusAnchor (b : Bytes) (k : Nat) : Bytes := bsub b (8 + 32 * k) 32
def mbusAnchors (b : Bytes) : List Bytes := ((List.range 4).map (mbusAnchor b)).filter (fun a => !allZero a)
def mbusAnchorSet (s : State) : Bool := !(mbusAnchors s.mbus.config).isEmpty

/-- The record as R354 lays it out. -/
def mbusRecordOk (b : Bytes) : Bool :=
  b.length == 144 && decide (fld b 0 1 < 8) && decide (fld b 1 1 < 128) && decide (fld b 2 1 < 128) && decide (fld b 3 1 < 128) &&
  decide (fld b 4 1 ≤ 50) && allZero (bsub b 5 3) && allZero (bsub b 0x88 8)

def ownMbusSet (_ : State) (x : Req) : Option Status := need (x.fn == 0 && mbusRecordOk x.payload) stPolicyDenied

def specMbusSet : OpSpec :=
  { specPlat ownMbusSet 144 4 with
    quorum := fun s _ => if mbusAnchorSet s then some 0 else none
    shares := fun s _ => need (!(mbusAnchorSet s && s.svc.phase == .dawn)) stServiceReduced
    persist := fun _ _ => true }

def specMbusGet : OpSpec := specPlat ownZero8 8 144

/-! ## What each opcode's chapter settles -/

/-- The opcodes of R455, each with its checks and its plan. -/
def opSpec (op : Nat) : Option OpSpec :=
  match op with
  | 0x0101 => some specDeviceStatus | 0x0102 => some specDeviceAbort | 0x0103 => some specDeviceDomain | 0x0104 => some specRequalify
  | 0x0105 => some specCalibrate | 0x0106 => some specProvision | 0x0107 => some specTamperArm
  | 0x0201 => some specSessionOpen | 0x0202 => some specSessionClose | 0x0203 => some specSessionQuery
  | 0x0301 => some specKeyGenerate | 0x0302 => some specKeyImport | 0x0303 => some specKeyExport | 0x0304 => some specKeyTranslate
  | 0x0305 => some specKeyDestroy | 0x0306 => some specKeyQuery | 0x0307 => some specTokenLoad | 0x0308 => some specTokenReissue
  | 0x0309 => some specTokenRevoke | 0x030A => some specKeyProve | 0x030B => some specMwkChange | 0x030C => some specMwkClear
  | 0x0310 => some specTr34Nonce | 0x0311 => some specTr34Export | 0x0312 => some specTr34Import | 0x0318 => some specKeyBackup
  | 0x0319 => some specBackupChunk | 0x031A => some specRestoreOffer | 0x031B => some specRestore | 0x031C => some specRestoreChunk
  | 0x031D => some specRestoreEnd
  | 0x0401 => some (specSym true) | 0x0402 => some (specSym false)
  | 0x0501 => some (specDig false false) | 0x0502 => some (specDig false true) | 0x0503 => some (specDig true false)
  | 0x0504 => some (specDig true true)
  | 0x0601 => some (specPk 1) | 0x0602 => some (specPk 2) | 0x0603 => some (specPk 3) | 0x0604 => some (specPk 4)
  | 0x0605 => some (specPk 5) | 0x0606 => some (specPk 6) | 0x0607 => some (specPk 7) | 0x0608 => some (specPk 8)
  | 0x0701 => some specRngGenerate | 0x0702 => some specRngKat | 0x0703 => some specRngRestart | 0x0704 => some specRngRaw
  | 0x0801 => some specPinTranslate | 0x0802 => some (specOffset false) | 0x0803 => some (specPvv false)
  | 0x0804 => some (specOffset true) | 0x0805 => some (specPvv true)
  | 0x0901 => some (specCvv false) | 0x0902 => some (specCvv true) | 0x0903 => some specArqc | 0x0904 => some specScript
  | 0x0A01 => some specDukptInitial | 0x0A02 => some (specDukpt 0) | 0x0A03 => some (specDukpt 1) | 0x0A04 => some (specDukpt 2)
  | 0x0B01 => some specJournalRead | 0x0B02 => some specJournalFind
  | 0x0C01 => some specPartitionCreate | 0x0C02 => some specPartitionEnable | 0x0C03 => some specPartitionDisable
  | 0x0C04 => some specPartitionDestroy | 0x0C05 => some specFunctionMap | 0x0C06 => some specPolicySet | 0x0C07 => some specPolicyGet
  | 0x0C08 => some specOfficerEnrol | 0x0C09 => some specOfficerRemove | 0x0C0A => some specOfficerList
  | 0x0C10 => some specCeremonyOpen | 0x0C11 => some specCeremonySign | 0x0C12 => some specCeremonyCancel
  | 0x0C13 => some specCeremonyQuery
  | 0x0C20 => some specFreeze | 0x0C21 => some specThaw | 0x0C22 => some specOffer | 0x0C23 => some specExport
  | 0x0C24 => some specExportChunk | 0x0C25 => some specImport | 0x0C26 => some specImportChunk | 0x0C27 => some specImportEnd
  | 0x0C28 => some specCommit
  | 0x0D01 => some specAppBegin | 0x0D02 => some specAppChunk | 0x0D03 => some specAppVerify | 0x0D04 => some specAppRelease
  | 0x0D05 => some specRotBegin | 0x0D06 => some specRotChunk | 0x0D07 => some specRotCommit | 0x0D08 => some specWarmReset
  | 0x0E01 => some specAttestQuote | 0x0E02 => some specAttestChain | 0x0E10 => some specLcInfo | 0x0E11 => some specLcRequest
  | 0x0E20 => some specCertStore | 0x0E21 => some specCertRead
  | 0x0F01 => some specRingStatus | 0x0F02 => some specRingConfig | 0x0F03 => some specMirrorPair | 0x0F04 => some specMirrorUnpair
  | 0x0F05 => some specSwitchover | 0x0F06 => some specRingSpill
  | 0x1001 => some specPlatformStatus | 0x1002 => some specConfigSet | 0x1003 => some specConfigGet | 0x1004 => some specReboot
  | 0x1005 => some specLensLock | 0x1006 => some specLensStage | 0x1007 => some specLensSwap | 0x1008 => some specLensRead
  | 0x1009 => some specRecordRead | 0x100A => some specRecordAck | 0x100B => some specMbusSet | 0x100C => some specMbusGet
  | 0x1101 => some (specVault 1) | 0x1102 => some (specVault 2) | 0x1103 => some (specVault 3) | 0x1104 => some specVaultReload
  | _ => none

/-! ## The projected state (R461) -/

/-- Flows whose commands later checks presume run. -/
def presumed (f : Flow) : Bool := f == .admin || f == .firmware

/-- The state as it will stand once every such command accepted so far has ended OK. -/
def projected (s : State) : State :=
  (s.prism.cmds.filter (fun c => presumed c.flow && c.result.isNone && c.cut.isNone)).foldl
    (fun s c => match opSpec c.opcode.toNat with | none => s | some o => o.presume c s) s

/-! ## Check 8 (R460) -/

/-- Order 2: the quorum check of R267. -/
def quorumCheck (s t : State) (o : OpSpec) (x : Req) : Option Status :=
  let q := o.quorum t x
  if !x.authRef then need q.isNone stQuorum
  else
    let p := q.getD (o.authLock t x)
    let l := (getPart s p).lock
    let m := (getPart t p).lock
    if l.state == .broken && l.id == x.authId then some stLockBroken
    else if !allZero (bsub x.header 0x34 12) then some stQuorum
    else need (l.state == .authorised && m.state == .authorised && l.id == x.authId && l.digest == commandDigest x.header x.payload &&
               decide (s.hzn.time.toNat < l.expiry.toNat)) stQuorum

/-- Groups the life-cycle state refuses (R356). -/
def lifeRefuses (s : State) (op : Nat) : Bool :=
  let g := op / 256
  match lifeCycle s with
  | .deployed => false
  | .scrap => true
  | .personalised => (decide (0x0C20 ≤ op) && decide (op ≤ 0x0C28)) || op == 0x0F03 || op == 0x0F02
  | _ => (decide (2 ≤ g) && decide (g ≤ 0x0C) && !(g == 7 && lcOpen s && op == 0x0704)) || g == 0x0F || g == 0x11 || op == 0x0106

/-- A command that writes or destroys a key, or a partition, policy or officer command: the KEY_MASTER's (R417). -/
def masterCmd (o : OpSpec) (t : State) (x : Req) : Bool :=
  (o.target t x).isSome || x.opcode == 0x0305 || x.opcode == 0x031D || (decide (0x0C01 ≤ x.opcode) && decide (x.opcode ≤ 0x0C0A))

/-- The module does not hold the role the command needs (R417), or rejoins its ring and has not yet had the key image for a command that names a
key (R420). -/
def lacksRole (s t : State) (o : OpSpec) (x : Req) : Bool :=
  s.ilu.members != 0 &&
  ((masterCmd o t x && !s.ilu.keyMaster) || (x.opcode / 256 == 0x11 && !s.ilu.vaultOwner) || (s.ilu.imageOwed && !(o.keys t x).isEmpty))

/-- Whether local commands and mirrored ones arrive where R409 wants them. -/
def ringKindOk (s : State) (x : Req) : Bool :=
  s.ilu.mirror == .none || (localCmd x.opcode == (x.ring == busRing || (x.fn == 0 && x.ring == (getFn s 0).ringBase)))

/-- Vault records of a key (R257). -/
def vaultHolds (s : State) (p : Nat) (r : BitVec 32) : Bool := (getPart s p).vault.records.any (fun v => v.key == r)

/-- Order 3: circumstances and the opcode's own rules. -/
def ownCheck (s t : State) (o : OpSpec) (x : Req) : Option Status :=
  firstFail
    [ need (!lifeRefuses s x.opcode) stPolicyDenied,
      need (ringKindOk s x) stPolicyDenied,
      need (s.ilu.mirror == .none || !(x.opcode == 0x0106 || x.opcode == 0x0E11)) stPolicyDenied,
      need (!lacksRole s t o x) stNotActive,
      need ((getPart t x.part).state == .active || (x.part == 0 && (getPart t x.part).state == .empty)) stPolicyDenied,
      o.own t x ]

/-- The target of a rewrite or destroy: its form, its vault records, its span and its shadow entry. -/
def targetChecks (t : State) (o : OpSpec) (x : Req) : Option Status :=
  match o.target t x with
  | none => none
  | some r => firstFail
      [ targetCheck t r,
        need (!vaultHolds t x.part r) stPolicyDenied,
        (match o.outAttr t x with
         | none => none
         | some a => need (spanFree t x.part r (algSpan a.alg.toNat a.bits.toNat)) stPolicyDenied),
        rewriteShares t x.part r ]

/-- Check 8 in the order of R460. -/
def check8 (s : State) (o : OpSpec) (x : Req) : Option Status :=
  let t := projected s
  firstFail
    ([ if x.handle = 0 then none else sessionCheck s x.part x.handle,
       quorumCheck s t o x,
       ownCheck s t o x ] ++
     (o.keys t x).map (refCheck t x.part) ++
     [ targetChecks t o x,
       o.attrs t x,
       o.shares t x,
       if o.transient t x then need (nextCtx s x.part).isSome stFlowLimit else none ])

/-! ## Check 9 (R26, R29, R71, R426) -/

/-- The rated figure a command is metered by (R29, R35). R35 rates RSA signing with 2,048-bit keys alone, and of the vault commands the
detokenisation: an RSA signature of any size is metered at 64,000/s, and a vault command other than 0x1102 as one without a figure, at
1,500,000/s. DESIGN CHOICE, log entry 18. -/
def ratedFigure (s : State) (x : Req) : Nat :=
  match x.opcode with
  | 0x0903 => 1200000
  | 0x1102 => 1000000
  | 0x0601 => match (attrFor s x.part (x.key 0)).map (fun a => a.alg.toNat) with
    | some 0x30 => 64000 | some 0x40 => 800000 | some 0x52 => 100000 | _ => 1500000
  | 0x0602 => if pkAlg x = 0x52 then 240000 else 1500000
  | 0x0604 => if pkAlg x = 0x5A then 400000 else 1500000
  | _ => 1500000

/-- Metered time of one command, in ns, at half of the partition's share. -/
def capCost (s : State) (x : Req) : Nat := 2000000000 * pDiv s / ratedFigure s x

/-- Metered time of one payment command in Overcast: 100,000/P per second. -/
def overCost (s : State) : Nat := 10000 * pDiv s

/-- Credit in a bucket of 1 ms, or of one command where that is more. -/
def bucketNow (s : State) (p : Part) (had cost : Nat) : Nat := min (had + (s.clk.ns - p.bucketNs)) (max 1000000 cost)

def paymentGroup (op : Nat) : Bool := decide (0x0800 ≤ op) && decide (op ≤ 0x0AFF)

/-- Item entries a partition holds (R71). -/
def entriesUsed (s : State) (p : Nat) : Nat :=
  (s.prism.cmds.filter (fun c => c.ref.part == p)).foldl (fun n c =>
    n + (c.items.filter (fun it => match it.state with | .waiting => true | .inService _ => true | _ => false)).length) 0

/-- Check 9. -/
def check9 (s : State) (o : OpSpec) (x : Req) : Option Status :=
  let p := getPart s x.part
  let plan := o.items s x
  firstFail
    [ need (!(s.svc.capped && decide (bucketNow s p p.bucketCap (capCost s x) < capCost s x))) stCapped,
      need (!(s.svc.phase == .overcast && paymentGroup x.opcode && decide (bucketNow s p p.bucketOver (overCost s) < overCost s))) stServiceReduced,
      need (plan.all (fun i => servingCount s i.kind != 0)) stServiceReduced,
      need (decide (entriesUsed s x.part + plan.length ≤ 131072 / pDiv s)) stQueueFull ]

/-- Take what check 9 admitted from the buckets. -/
def debit (x : Req) (s : State) : State :=
  modPart x.part (fun p =>
    let cap := bucketNow s p p.bucketCap (capCost s x)
    let ov := bucketNow s p p.bucketOver (overCost s)
    { p with bucketCap := if s.svc.capped then cap - capCost s x else cap
             bucketOver := if s.svc.phase == .overcast && paymentGroup x.opcode then ov - overCost s else ov
             bucketNs := s.clk.ns }) s

/-! ## Acceptance -/

/-- The flow a command's items belong to (R73). -/
def flowOf (o : OpSpec) (x : Req) (r : CmdRef) : Flow :=
  match o.flow with
  | some f => f
  | none => if x.handle = 0 || o.private_ then .own r else .session (handleIndex x.handle)

/-- The items of a plan, each after the one before it; each of its loads goes to a key register of its own. -/
def itemsOf (plan : List ItemPlan) (keys : List (BitVec 32)) (version : BitVec 32 → BitVec 16) : List Item :=
  plan.zipIdx.map (fun e =>
    { kind := e.1.kind, preds := if e.2 = 0 then 0 else 1, succ := if e.2 + 1 < plan.length then [e.2 + 1] else [],
      loads := e.1.loads.zipIdx.filterMap (fun l => (keys[l.1.1]?).map (fun r =>
        { key := r, version := version r, usage := l.1.2, reg := l.2, done := false, source := none, share := [], mask := [], alg := 0,
          keyUsage := 0 })),
      bytes := e.1.bytes, state := .waiting, readyNs := none, unheld := false, aged := false, failedOn := [], startNs := 0,
      redispatch := false, marked := false, fail := none })

/-- The planned items of a request. -/
def planItems (s : State) (o : OpSpec) (x : Req) : List Item := itemsOf (o.items s x) (o.keys s x) (takeVersion s x.part)

/-- The command as accepted at journal index `r`. -/
def newCmd (s : State) (o : OpSpec) (x : Req) (r : CmdRef) (mirror : Bool) : Cmd :=
  let g := getRing s x.ring
  { ref := r, ring := x.ring, fn := x.fn, session := x.session, seq := x.seq, opcode := BitVec.ofNat 16 x.opcode,
    flags := BitVec.ofNat 16 x.flags, handle := x.handle, header := x.header, payload := x.payload, outs := x.outs, frags := x.frags,
    ringGen := g.gen, partGen := (getPart s x.part).gen, flow := flowOf o x r, order := s.prism.order, items := planItems s o x,
    keys := (o.keys s x).map (fun k => (k, takeVersion s x.part k)), released := [], loaded := [], base := none, backing := [],
    out := o.target s x, outAttr := o.outAttr s x,
    shadow := match o.target s x with | none => false | some k => needsShadow s x.part k,
    draw := .none, transient := none, reserved := o.reserve s x, nth := g.accepts + 1, started := false, cut := none, abort := none,
    result := none, wrote := [], durable := !o.persist s x, acked := true, verdict := none, replicated := 0, fromMirror := mirror, fence := x.fence,
    acceptNs := s.clk.ns, policy := (getPart (projected s) x.part).policy, spilled := none, spillFrom := none, told := none, undo := none, replicas := [], ackedBy := [], undoRest := [] }

/-- The journal entry written at acceptance (R61). -/
def newEntry (s : State) (x : Req) (mirror : Bool) : JEntry :=
  { seq := x.seq, horizon := s.hzn.time, opcode := BitVec.ofNat 16 x.opcode, status := 0, partition := BitVec.ofNat 16 x.part,
    ring := BitVec.ofNat 16 x.ring, session := x.handle, done := false, cached := false, fromMirror := mirror, discarded := false,
    gen := if x.ring = busRing then 0 else (getRing s x.ring).gen.setWidth 16, digest := requestDigest x.header x.payload, replyLen := 0,
    claim := s.ilu.claim, lost := false }

/-- Write the entry at `i`; the next command takes the index after it. -/
def writeEntry (p i : Nat) (e : JEntry) (s : State) : State :=
  modPart p (fun y => { y with journal := y.journal.put i e, jnext := BitVec.ofNat 16 (i + 1), jwrapped := y.jwrapped || i == 65535,
                               jlap := y.jlap + b2n (i == 65535) }) s

/-- The rewrite or destroy of a target is pending from here on, with its reservation (R141, R142). -/
def takeTarget (c : Cmd) (s : State) : State :=
  match c.out with
  | none => s
  | some k =>
    let e := getKey s c.ref.part k
    let s := setKey c.ref.part k { e with pending := e.pending ++ [c.ref] } s
    if c.shadow then addReserved c.ref.part 1 s else s

/-- A command takes its transient context (R80). -/
def takeTransient (o : OpSpec) (x : Req) (r : CmdRef) (s : State) : State :=
  if o.transient s x then
    match nextCtx s x.part with
    | none => s
    | some i => modCmd r (fun c => { c with transient := some i }) (allocCtx x.part i 0 true s)
  else s

/-- LAST_SEQ and the count of accepted commands; replies of commands too far back leave the cache (R55, R60). -/
def takeSeq (x : Req) (s : State) : State :=
  if x.ring = busRing then s
  else
    let s := modRing x.ring (fun g => { g with lastSeq := x.seq, accepts := g.accepts + 1 }) s
    let n := (getRing s x.ring).accepts
    { s with replies := s.replies.filter (fun c => !(c.ring == x.ring && decide (c.nth + 4097 ≤ n))) }

/-- The ceremony is consumed in the same step (R267). -/
def consumeLock (o : OpSpec) (x : Req) (s : State) : State :=
  if x.authRef then
    modPart ((o.quorum s x).getD (o.authLock s x)) (fun p => { p with lock := { p.lock with state := .free, signed := [], bad := 0 } }) s
  else s

/-- The active forwards each mirrored command it accepts; one that draws is forwarded with its draw verdict (R410, R411). A module that is
HELD forwards none, and does so once it is ACTIVE again (R408). -/
def forwardOut (r : CmdRef) (x : Req) (s : State) : State :=
  if (s.ilu.mirror == .active || s.ilu.mirror == .held) && !localCmd x.opcode then
    let s := modCmd r (fun c => { c with acked := false }) s
    match findCmd s r with
    | none => s
    | some c => match c.draw with
      | .none => forwardCmd r 0 [] s
      | .failed _ => forwardCmd r 2 [] s
      | _ => s
  else s

/-- The nearest neighbour, eastwards first, that shows less load than the threshold (R421). -/
def spillPort (s : State) : Option Bool :=
  let below (e : Bool) : Bool := (iluPort s e).up && decide (s.ilu.peerLoad.at (b2n e) 100 < s.ilu.spill.toNat)
  if below true then some true else if below false then some false else none

/-- Commands that may be spilled; one that draws is spilled with its seed. -/
def spillable (c : Cmd) : Bool := c.draw != .waiting && !drawFailed c && paymentGroup c.opcode.toNat && c.opcode != 0x0A01 && c.handle == 0 && c.out.isNone

/-- Spill a newly accepted command when the load asks for it. -/
def spillOut (r : CmdRef) (s : State) : State :=
  match findCmd s r, spillPort s with
  | some c, some e =>
    if spillable c && s.ilu.spill != 0 && decide (s.ilu.spill.toNat < s.ilu.loadPct) && s.ilu.mirror != .standby then
      let ks := (c.keys.map (fun k => toLe 4 k.1.toNat ++ toLe 2 k.2.toNat)).flatten
      let sd := match c.draw with | .seed b => b | _ => []
      modCmd r (fun c => { c with spilled := some s.clk.ns }) (sendFrame e 0x40 (nextTo s e) s.ilu.claim (c.header ++ c.payload ++ ks ++ sd) s)
    else s
  | _, _ => s

/-- DRAW_SEED_GENERATE (R217, R218, R219, R421). -/
def execDrawSeedGenerate (p : Fin 256) (s : State) : Res :=
  match frontDraw s p.val with
  | none => .next s
  | some r => .next (spillOut r (drawSeed p.val r s))

/-- What the command accepted next at index `i` of its partition's journal is known by. -/
def nextRef (s : State) (p i : Nat) : CmdRef := { part := p, idx := i, lap := (getPart s p).jlap }

/-- Accept a command at journal index `i`: it is journaled, and all it takes is taken on the finding of its checks. A forwarded command owes
its ring a completion as a fetched one does (R46, R411). -/
def acceptAt (o : OpSpec) (x : Req) (i : Nat) (mirror : Bool) (s : State) : State :=
  let r := nextRef s x.part i
  let c := newCmd s o x r mirror
  let e := newEntry s x mirror
  let draws := o.draws s x
  let s := takeSeq x (writeEntry x.part i e (consumeLock o x (debit x s)))
  let s := c.keys.foldl (fun s k => takeRef x.part k.1 k.2 s) s
  let s := { s with prism := { s.prism with cmds := s.prism.cmds ++ [c], order := s.prism.order + 1 } }
  let s := takeTransient o x r (takeTarget c s)
  let s := modPart x.part (fun p => { p with vault := { p.vault with reserved := p.vault.reserved + c.reserved } }) s
  let s := if x.handle = 0 then s else modSess (handleIndex x.handle) (fun y => { y with outstanding := y.outstanding + 1 }) s
  let s := if mirror && x.ring != busRing then modRing x.ring (fun g => { g with owed := g.owed + 1 }) s else s
  let s := o.accept c s
  let s := if draws then requestDraw r s else s
  stampReady r s

/-- Accept a command in its partition's journal order. -/
def accept (o : OpSpec) (x : Req) (s : State) : State :=
  let i := (getPart s x.part).jnext.toNat
  let r := nextRef s x.part i
  spillOut r (forwardOut r x (acceptAt o x i false s))

end Sys2Proof.Machine
end

