-- ==== Sys2Proof/Machine/KeyBus.lean ====
section
/-! DEFINITION. The private key bus: key loads, their checks against the version loaded, and key-cache misses (R123, R128, R130, R131, R133,
R138, R141, R155). -/

namespace Sys2Proof.Machine

/-! ## What a load finds (R123, R141) -/

/-- Load `k` of item `i` of an accepted command. -/
def loadAt (s : State) (r : CmdRef) (i k : Nat) : Option (Cmd × Item × KeyLoad) :=
  (findCmd s r).bind (fun c => (c.items[i]?).bind (fun it => (it.loads[k]?).map (fun l => (c, it, l))))

/-- The shadow entry a version of a key has moved to. -/
def shadowHold (s : State) (p : Nat) (l : KeyLoad) : Option KeyHold :=
  s.ks.holds.find? (fun h => holdMatch p l.key l.version h && h.shadow.isSome)

/-- The version a load names stands: the rewrites before it have ended (R141). -/
def versionSettled (s : State) (p : Nat) (l : KeyLoad) : Bool :=
  let e := getKey s p l.key
  e.pending.isEmpty || verLe l.version e.version || (shadowHold s p l).isSome

/-- Where the bus takes the version from, once it is there (R123, R133, R138, R142). -/
def loadSource (s : State) (p : Nat) (l : KeyLoad) : Option KeySource :=
  match hotFind s p l.key l.version, shadowHold s p l with
  | some h, _ => some (.hot p h.entry)
  | none, some _ => some (.shadow (physical s p l.key))
  | none, none => if isOnDie l.key then some (.slot (physical s p l.key)) else none

/-- A load may be served now: its item waits, its version stands, and neither the seal nor a destruction has stopped the bus (R154, R155). -/
def loadPending (s : State) (c : Cmd) (it : Item) (l : KeyLoad) : Bool :=
  c.result.isNone && it.state == .waiting && !l.done && versionSettled s c.ref.part l && !s.ks.busStopped && !s.ks.sealed

/-- Its integrity code is known to fail: the slot is FAILED, or was when its version moved to the shadow entry (R130). -/
def loadBad (s : State) (p : Nat) (l : KeyLoad) : Bool :=
  let e := getKey s p l.key
  if e.version == l.version then e.failed else match shadowHold s p l with | none => false | some h => h.bad

/-! ## Checks at the load (R128) -/

/-- The state as a check of a load sees it: each key the command names under the version it took, where that stands, and the policy it
was accepted under. -/
def loadView (s : State) (c : Cmd) : State :=
  c.keys.foldl (fun t k => match versionVal s c.ref.part k.1 k.2 with
    | none => t
    | some v => setKey c.ref.part k.1 { getKey t c.ref.part k.1 with cur := some v, version := k.2, pending := [] } t)
    (modPart c.ref.part (fun p => { p with policy := c.policy }) s)

/-- The verdict on the version a load delivers: the declared usage, then every check of attributes that check 8 would have made
(R128). -/
def loadVerdict (s : State) (c : Cmd) (l : KeyLoad) (v : KeyVal) : Option Status :=
  firstFail
    [ need (l.usage == 0 || l.usage &&& v.attr.usage != 0) stKeyUsage,
      (match opSpec c.opcode.toNat with
       | none => none
       | some o => o.attrs (loadView s c) (reqOf c)) ]

/-- Where the schedule's length depends on the ALG of a key, the version loaded fixes it (R128): the items are formed anew while none has
been dispatched. -/
def replan (s : State) (c : Cmd) : List Item :=
  match opSpec c.opcode.toNat with
  | none => c.items
  | some o =>
    let l := itemsOf (o.items (loadView s c) (reqOf c)) (o.keys s (reqOf c)) (loadVersion c)
    if l.map (fun it => it.kind) = c.items.map (fun it => it.kind) || !c.items.all (fun it => it.state == .waiting && it.failedOn.isEmpty) then c.items
    else l.zipIdx.map (fun e => match c.items[e.2]? with
      | none => e.1
      | some it => if it.kind == e.1.kind && it.loads.map (fun x => x.key) = e.1.loads.map (fun x => x.key) then
          { it with preds := e.1.preds, succ := e.1.succ, bytes := e.1.bytes } else e.1)

/-! ## Delivery (R131, R133) -/

/-- The bus delivers a key as two shares with its ALG and USAGE; the mask word comes from the key store's own stream (R131). The command's
waiting item has one load fewer to wait for (R70). -/
def deliverLoad (r : CmdRef) (i k : Nat) (key : BitVec 32) (src : KeySource) (v : KeyVal) (s : State) : State :=
  let m := Config.maskStream s.ks.maskSeed s.ks.maskUsed v.material.length
  let s := { s with ks := { s.ks with maskUsed := s.ks.maskUsed + v.material.length } }
  let s := modItem r i (fun it => { it with loads := it.loads.modify k (fun l =>
    { l with done := true, source := some src, share := bxor v.material m, mask := m, alg := v.attr.alg, keyUsage := v.attr.usage }) }) s
  stampReady r (modCmd r (fun c => { c with loaded := if c.loaded.any (fun x => x.1 == key) then c.loaded else c.loaded ++ [(key, v)] }) s)

/-- A load that has its version: judged, then delivered; a check that fails delivers nothing and ends the command (R128, R141). -/
def serveLoad (r : CmdRef) (i k : Nat) (c : Cmd) (l : KeyLoad) (src : KeySource) (s : State) : State :=
  match versionVal s r.part l.key l.version with
  | none => failItem r i stKeyNotFound s
  | some v =>
    match loadVerdict s c l v with
    | some st => failItem r i st s
    | none => deliverLoad r i k l.key src v (modCmd r (fun d => { d with items := replan s c }) s)

/-- A load meets an integrity code that fails (R130). -/
def loadFails (r : CmdRef) (i : Nat) (l : KeyLoad) (s : State) : State :=
  let s := if loadBad s r.part l then s
    else if isOnDie l.key && (getKey s r.part l.key).version == l.version then keyFailed r.part l.key s
    else
      let s := setFltCause 8 (bumpPart r.part cKeyIntegrity s)
      { s with ks := { s.ks with holds := s.ks.holds.map (fun h => if holdMatch r.part l.key l.version h then { h with bad := true } else h) } }
  failItem r i stKeyIntegrity s

/-! ## Misses and derived keys (R138, R231) -/

/-- Distinct cached versions a command waits for that have no entry in the hot set. -/
def missesOf (s : State) (c : Cmd) : List (BitVec 32 × BitVec 16) :=
  (((c.items.map (fun it => it.loads)).flatten.filter (fun l => isCached l.key && !l.done && !s.ks.hot.any (hotMatch c.ref.part l.key l.version) &&
      (shadowHold s c.ref.part l).isNone)).map (fun l => (l.key, l.version))).eraseDups

/-- The command derives a key and has no entry for it yet. -/
def derivesYet (s : State) (c : Cmd) : Bool := (derivedKey c).isSome && (hotDerived s c.ref).isNone

/-- Hot-set entries the command has still to take. -/
def hotWanted (s : State) (c : Cmd) : Nat := (missesOf s c).length + b2n (derivesYet s c)

/-- Hot-set entries of a partition that could be taken. -/
def hotRoom (s : State) (p : Nat) : Nat := hotShare s - hotUsed s p + (s.ks.hot.filter (hotIdle s p)).length

/-- The command's misses and its derived key take their entries together (R138, R231). -/
def claimHot (s : State) (c : Cmd) : State :=
  let t := (missesOf s c).foldl (fun s m => hotClaim c.ref.part m.1 m.2 s) s
  if derivesYet s c then hotClaimDerived c.ref t else t

/-- KEY_LOAD_DONE (R130, R131, R133, R138): a slot, a shadow entry, or a hot-set entry that holds the version is loaded; an integrity code that
fails delivers nothing and ends the command with KEY_SLOT_INTEGRITY. The load of a command that derives a key waits until its entries can
be taken together (R231). -/
def execKeyLoadDone (r : CmdRef) (i k : Nat) (codeOk : Bool) (s : State) : Res :=
  match loadAt s r i k with
  | none => .next s
  | some (c, it, l) =>
    guarded (loadPending s c it l && (!derivesYet s c || decide (hotWanted s c ≤ hotRoom s r.part))) (fun s =>
      match versionVal s r.part l.key l.version, loadSource s r.part l with
      | none, _ => failItem r i stKeyNotFound s
      | some _, none => s
      | some _, some src =>
        if codeOk && !loadBad s r.part l then serveLoad r i k c l src (hotReady r.part l.key l.version (if derivesYet s c then claimHot s c else s)) else loadFails r i l s) s

/-- KEY_UNWRAP_DONE (R137, R138): all the command's misses have taken entries together, or wait together; this one's record is unwrapped into
its entry and loaded. A tag that fails, or a record in a poisoned line (R430), ends the command with KEY_SLOT_INTEGRITY. -/
def execKeyUnwrapDone (r : CmdRef) (i k : Nat) (tagOk : Bool) (s : State) : Res :=
  match loadAt s r i k with
  | none => .next s
  | some (c, it, l) =>
    guarded (loadPending s c it l && isCached l.key && (hotFind s r.part l.key l.version).isNone && (shadowHold s r.part l).isNone &&
             decide (hotWanted s c ≤ hotRoom s r.part)) (fun s =>
      let s := claimHot s c
      match versionVal s r.part l.key l.version with
      | none => failItem r i stKeyNotFound (hotDrop r.part l.key l.version s)
      | some _ =>
        if tagOk && !s.ks.poisonedRecs.contains (keyIndex r.part l.key) then
          let s := hotReady r.part l.key l.version s
          match loadSource s r.part l with
          | none => s
          | some src => serveLoad r i k c l src s
        else failItem r i stKeyIntegrity (setFltCause 8 (bumpPart r.part cKeyIntegrity (hotDrop r.part l.key l.version s)))) s

end Sys2Proof.Machine
end

