-- ==== Sys2Proof/Machine/Fetch.lean ====
section
/-! DEFINITION. From the fetch of an entry to its refusal, its answer as a duplicate or its acceptance, and from a command's result to
its completion (R31, R32, R46, R49 to R60, R63, R66, R83, R87, R104 to R109, R113, R132, R175, R352, R353, R360, R408 to R412, R421). -/

namespace Sys2Proof.Machine

/-! ## Source checks and their report (R104, R105) -/

/-- Report a SPOOFED_SOURCE event: the function's counter, the PF's cause bit and the spoof log. -/
def spoofReport (fn cause partField ringField local_ : Nat) (s : State) : State :=
  let r : SpoofRec := { fn := BitVec.ofNat 8 fn, cause := BitVec.ofNat 8 cause, partField := BitVec.ofNat 16 partField,
                        ringField := BitVec.ofNat 16 ringField, localRing := BitVec.ofNat 6 local_, time := s.hzn.time }
  let s := bumpFn fn cSpoof s
  let s := { s with pm := { s.pm with spoof := s.pm.spoof.put s.pm.spoofNext.toNat r, spoofNext := s.pm.spoofNext + 1 } }
  setCause 0 causeSpoof s

/-- The first source check that fails: its cause code. -/
def sourceCause (s : State) (x : Req) (descs : List Desc) : Option Nat :=
  if x.partField != x.part then some 1
  else if x.ringField != x.ring then some 2
  else if x.descCount != 0 && !inWindow s x.part x.descAddr (16 * x.descCount) then some 3
  else if descs.any (fun d => !inWindow s x.part d.addr.toNat d.len.toNat) then some 4
  else none

/-! ## Checks 1, 4 and 7 -/

def headerOk (x : Req) : Bool :=
  x.magic == 0x55474C53 && x.version == 1 && allZero x.reserved && decide (x.flags < 8)

def formOk (x : Req) (descs : List Desc) : Bool :=
  (opSpec x.opcode).isSome && decide (x.descCount ≤ 1024) && (x.descCount == 0 || x.descAddr % 16 == 0) && descs.all descOk

def lengthOk (s : State) (o : OpSpec) (x : Req) : Bool :=
  !x.readError && x.declLen == x.frags.sum && x.declLen == x.len && decide (x.declLen ≤ 8388608) && o.length s x &&
  decide (o.maxReply s x ≤ x.outLen)

/-- The opcode's group, or its own rule, is served in the present phase (R25, R432). -/
def phaseServes (s : State) (o : OpSpec) (op : Nat) : Bool :=
  decide (phaseNum o.phase ≤ phaseNum s.svc.phase) && !(op / 256 == 0x11 && s.flt.rebuilding.isSome)

/-- Rings of a pair's standby side are fetched only to refuse; local ring 0 of the PF is not mirrored (R408, R409). -/
def standbyRing (s : State) (x : Req) : Bool :=
  (s.ilu.mirror == .standby || s.ilu.mirror == .syncTarget || s.ilu.mirror == .detached) && x.ring != busRing &&
  !(x.fn == 0 && x.ring == (getFn s 0).ringBase)

/-! ## Refusal (R52, R66, R87, R271) -/

/-- The counter a refusal raises on its function. -/
def refusalCounter (st : Status) : Option Nat :=
  if st = stBadHeader then some cBadHeader
  else if st = stLength then some cLength
  else if st = stStaleGen then some cStaleGenRefused
  else if st = stQueueFull then some cQueueFull
  else if st = stServiceReduced then some cServiceReduced
  else if st = stCapped then some cCapped
  else if st = stSessionLost then some cSessionLost
  else if st = stFlowLimit then some cFlowLimit
  else none

/-- Count a refusal. -/
def countRefusal (x : Req) (st : Status) (s : State) : State :=
  let s := match refusalCounter st with | none => s | some k => bumpFn x.fn k s
  if st = stQuorum then bumpPart x.part cQuorumIncomplete s else s

/-- The completion of an entry that is not accepted. -/
def postRefusal (x : Req) (st : Status) (s : State) : State :=
  postCompletion { ring := x.ring, seq := x.seq, status := st, gen := (getRing s x.ring).gen, replyLen := 0, reply := none,
                   outs := x.outs, dup := false, suppress := x.irqSuppress } s

def refuse (x : Req) (st : Status) (s : State) : State := postRefusal x st (countRefusal x st s)

/-! ## Duplicates (R55, R56, R58) -/

/-- An entry whose sequence is not above LAST_SEQ. -/
def notFresh (x : Req) (s : State) : State :=
  match jFind s x.part x.ring x.seq with
  | none => postRefusal x stBadHeader (bumpFn x.fn cSeqStale s)
  | some (i, e) =>
    if e.digest != requestDigest x.header x.payload then postRefusal x stBadHeader (bumpFn x.fn cDigestConflict s)
    else if e.done then
      postCompletion { ring := x.ring, seq := x.seq, status := e.status, gen := (getRing s x.ring).gen, replyLen := e.replyLen,
                       reply := dupReply s x.ring x.seq x.outs, outs := x.outs, dup := true, suppress := x.irqSuppress } s
    else
      { s with prism := { s.prism with held := s.prism.held ++
          [{ ref := refAt x.part i (getPart s x.part), ring := x.ring, seq := x.seq, gen := (getRing s x.ring).gen, outs := x.outs,
             suppress := x.irqSuppress }] } }

/-! ## The nine checks (R52) -/

/-- Checks 8 and 9, then acceptance. A session that fails check 2 or 3 of R87 is released; a QUEUE_FULL leaves a trace record, whose FLOW is the
one the command would have had, and whose ITEM and WAIT are 0: R83 does not say. DESIGN CHOICE, log entry 106. -/
def admitEntry (o : OpSpec) (x : Req) (s : State) : State :=
  match check8 s o x with
  | some st => refuse x st (if st = stSessionLost && x.handle != 0 then sessionRelease x.part x.handle s else s)
  | none =>
    match check9 s o x with
    | some st => refuse x st (if st = stQueueFull then
        let r := nextRef s x.part (getPart s x.part).jnext.toNat
        traceRec 4 (unitByte none) x.part 0 (toLe 4 (flowField (flowOf o x r) r)) s else s)
    | none => accept o x s

/-- Checks 4 to 9. -/
def checksFromForm (x : Req) (descs : List Desc) (s : State) : State :=
  match opSpec x.opcode with
  | none => refuse x stBadHeader s
  | some o =>
    if !formOk x descs then refuse x stBadHeader s
    else if !phaseServes s o x.opcode then refuse x stServiceReduced s
    else if standbyRing s x then postRefusal x stNotActive s
    else if x.seq.toNat ≤ (getRing s x.ring).lastSeq.toNat then notFresh x s
    else if !lengthOk s o x then refuse x stLength s
    else admitEntry o x s

/-- Every check, in order. -/
def checks (local_ : Nat) (x : Req) (descs : List Desc) (s : State) : State :=
  if !headerOk x then refuse x stBadHeader s
  else match sourceCause s x descs with
    | some c => postRefusal x stSpoofed (spoofReport x.fn c x.partField x.ringField local_ s)
    | none =>
      if x.genField != (getRing s x.ring).gen.toNat % 65536 then refuse x stStaleGen s
      else checksFromForm x descs s

/-- Whether the module fetches on a ring now (R46, R113, R360). -/
def mayFetch (s : State) (fn local_ : Nat) : Bool :=
  let f := getFn s fn
  let r := getRing s (f.ringBase + local_)
  let st := (getPart s f.partition).state
  s.svc.linkUp && f.mapped && decide (local_ < f.ringCount) && r.enable && r.sqHead != r.sqTail && decide (r.owed < cqFree r) &&
  s.svc.phase != .dark && !s.life.fenced && !(st == .freezing || st == .frozen || st == .exported)

/-- The descriptors of a fetched entry: as many as its header names, none when it names more than 1,024 (R49, R51, R52). -/
def entryDescs (sub : Submission) : List Desc :=
  let n := fld sub.header 0x28 2
  descsOf (if n ≤ 1024 then n else 0) sub.list

/-- The request of a fetched entry. -/
def entryReq (s : State) (fn local_ : Nat) (sub : Submission) : Req :=
  let f := getFn s fn
  { fn := fn, ring := f.ringBase + local_, part := f.partition, header := padTo 64 sub.header, payload := sub.payload,
    frags := inFrags (entryDescs sub), outs := outFrags (entryDescs sub), readError := sub.readError, session := none }

/-- Take the entry at SQ_HEAD: one completion is owed for it (R46). -/
def takeEntry (g : Nat) (s : State) : State :=
  modRing g (fun r => { r with sqHead := BitVec.ofNat 16 ((r.sqHead.toNat + 1) % ringSize r), owed := r.owed + 1 }) s

/-- FETCH_ENTRY (R52). -/
def execFetchEntry (fn : Fin 256) (ring : Fin 64) (sub : Submission) (s : State) : Res :=
  guarded (mayFetch s fn.val ring.val) (fun s =>
    let x := entryReq s fn.val ring.val sub
    checks ring.val x (entryDescs sub) (takeEntry x.ring s)) s

/-! ## Durability (R132) -/

/-- No command accepted earlier has still to write records of a key that this one writes: the devices take rewrites in their order. -/
def backingTurn (s : State) (c : Cmd) : Bool :=
  s.prism.cmds.all (fun d => !(decide (d.order < c.order) && d.result.isSome && !d.durable &&
    d.backing.any (fun a => c.backing.any (backMatch a.part a.key))))

/-- BACKING_DURABLE (R132): the records an ended command has formed stand in both NOR devices, device 0 first. -/
def execBackingDurable (r : CmdRef) (s : State) : Res :=
  match findCmd s r with
  | none => .next s
  | some c => guarded (c.result.isSome && !c.durable && backingTurn s c)
      (fun s => modCmd r (fun c => { c with durable := true, backing := [] }) (c.backing.foldl (fun s b => writeBoth b s) s)) s

/-! ## Completion (R31, R32, R60, R63, R108, R353, R408, R411, R412, R421) -/

/-- Whether the completion is delivered: a ring's generation stands as it was at acceptance. -/
def delivers (s : State) (c : Cmd) : Bool := c.ring == busRing || (getRing s c.ring).gen == c.ringGen

/-- Duplicates held for a command. -/
def heldFor (s : State) (r : CmdRef) : Nat := (s.prism.held.filter (fun h => h.ref == r)).length

/-- The host has released an entry of the completion ring for each completion that is to be written (R46). -/
def cqRoom (s : State) (c : Cmd) : Bool := c.ring == busRing || c.spillFrom.isSome || decide (heldFor s c.ref < cqFree (getRing s c.ring))

/-- A completion may fall due: the result stands, its state is durable, the pair and the ring have acknowledged, in lease mode while may_act holds
(R420), and its completion ring has room. -/
def mayComplete (s : State) (c : Cmd) : Bool :=
  let loc := localCmd c.opcode.toNat
  c.result.isSome && c.durable && c.replicated == 0 && c.replicas.all (fun m => !s.ilu.leaseMode || mayAct s m.1) && (cqRoom s c || !delivers s c) && (c.acked || s.ilu.mirror != .active) &&
  (loc || !(s.ilu.mirror == .held || s.ilu.mirror == .syncTarget || s.ilu.mirror == .detached))

/-- The final update of the journal entry. A reply enters the cache unless 4,097 later commands have been accepted on its ring (R60). -/
def finalUpdate (c : Cmd) (st : Status) (reply : Bytes) (s : State) : State :=
  let cached := decide (reply.length ≤ 1024) && c.ring != busRing && decide ((getRing s c.ring).accepts < c.nth + 4097)
  let gone := !delivers s c
  let s := modJ c.ref (fun e => { e with done := true, status := st, replyLen := reply.length, cached := cached, discarded := gone }) s
  if cached then { s with replies := s.replies ++ [{ ring := c.ring, seq := c.seq, nth := c.nth, reply := reply }] } else s

/-- The 32 bytes of a completion that leaves on the management bus (R352, R54). -/
def busCompletion (s : State) (seq : BitVec 64) (st : Status) (replyLen : Nat) : Bytes :=
  completionBytes { ring := busRing, index := 0, seq := seq, status := st, gen := 0, replyLen := replyLen, duplicate := false,
                    notWritten := false, fromStandby := false, phase := false, claim := claimNow s, horizon := s.hzn.time }

/-- On ports 0 and 1 an in-band interrupt tells the controller that a response is pending (R343). -/
def pendingSignal (n : Nat) (s : State) : State := if n < 2 then emit (.bus n "in-band interrupt") s else s

/-- A message leaves on a management port: a new transfer, with no loss and no retry so far (R346). -/
def busSend (n : Nat) (o : Out) (s : State) : State :=
  emit o <| pendingSignal n { s with mbus := { s.mbus with ports := s.mbus.ports.modify n (fun p => { p with losses := 0, retries := 0 }) } }

/-- Send a VENDOR_DEFINED_RESPONSE in a session. One above the data-transfer size is kept for CHUNK_GET under a fresh handle, and
ERROR LargeResponse names the handle (R349). -/
def sendSession (x : SpdmSession) (completion reply : Bytes) (s : State) : State :=
  if completion.length + reply.length + 11 ≤ 4096 then busSend x.port (.sessionReply x.port x.id completion reply) s
  else
    let h := s.mbus.nextChunk
    let ch : Chunking := { eid := x.eid, handle := h, data := completion ++ reply, next := 0, size := completion.length + reply.length }
    busSend x.port (.spdm x.port x.eid 0x7F [0x0F, 0, h])
      { s with mbus := { s.mbus with nextChunk := h + 1, chunksOut := s.mbus.chunksOut.filter (fun y => !(y.eid == x.eid)) ++ [ch] } }

/-- An established SPDM session. -/
def spdmSession (s : State) (id : BitVec 32) : Option SpdmSession := s.mbus.sessions.find? (fun x => x.id == id && !x.handshake)

/-- Write the completion where the command came from, or discard it. A FORWARD carries no descriptor list (R410): on the standby no payload is
written, and the completion says so. DEDUCED, log entry 120. -/
def deliver (c : Cmd) (st : Status) (reply : Bytes) (s : State) : State :=
  if c.ring = busRing then
    match c.session with
    | none => s
    | some id => match spdmSession s id with
      | none => s
      | some x => sendSession x (busCompletion s c.seq st reply.length) reply s
  else if delivers s c then
    postCompletion { ring := c.ring, seq := c.seq, status := st, gen := c.ringGen, replyLen := reply.length,
                     reply := if c.fromMirror then none else some reply, outs := c.outs, dup := false,
                     suppress := bit c.flags.toNat 0 } s
  else bumpFn c.fn cStaleGenDiscarded s

/-- The two sides of R412: the active sends a REPLY_CHECK, the standby notes its own completion. -/
def lockstep (c : Cmd) (st : Status) (reply : Bytes) (s : State) : State :=
  if localCmd c.opcode.toNat then s
  else match s.ilu.mirror with
    | .active => sendPartner 0x13 (toLe 2 c.ref.part ++ toLe 2 c.ref.idx ++ toLe 2 st.toNat ++ toLe 4 reply.length ++ replyDigest reply) s
    | .standby => compareWith { ref := c.ref, theirs := false, status := st, replyLen := reply.length, digest := replyDigest reply } s
    | _ => s

/-- SPDM sessions end: each lets go of its commands, and a Lens lock it holds breaks (R334, R353). -/
def dropSessions (gone : List SpdmSession) (s : State) : State :=
  let s := { s with mbus := { s.mbus with sessions := s.mbus.sessions.filter (fun x => !gone.any (fun g => g.id == x.id)) } }
  if gone.any (fun x => s.plat.lock == 1 && s.plat.lockOwner == .session x.id) then { s with plat := { s.plat with lock := 3 } } else s

/-- Whether a session owes a response. -/
def owes (s : State) (x : SpdmSession) : Bool := s.prism.cmds.any (fun c => c.session == some x.id)

/-- A session may stay open under the MBUS configuration: its chain ends in an anchor or, opened without authentication, no anchor
stands (R348, R354). -/
def chainStands (s : State) (x : SpdmSession) : Bool :=
  if x.known then (mbusAnchors s.mbus.config).any (fun a => Config.chainVerifies a x.chain) else !mbusAnchorSet s

/-- A new MBUS configuration takes effect: a session it no longer allows ends after the response it owes (R354). -/
def takeMbusConfig (b : Bytes) (s : State) : State :=
  let s := { s with mbus := { s.mbus with config := b } }
  { s with mbus := { s.mbus with sessions := s.mbus.sessions.map (fun x => if x.handshake || chainStands s x then x else { x with ended := true }) } }

/-- Sessions that were to end after a response end once they owe none. -/
def endAfterResponse (s : State) : State := dropSessions (s.mbus.sessions.filter (fun x => x.ended && !owes s x)) s

/-- What follows a completion of these commands when it has status OK (R28, R307, R340, R354, R360, R381). -/
def afterOk (c : Cmd) (s : State) : State :=
  match c.opcode.toNat with
  | 0x0D04 => { s with svc := { s.svc with releaseNs := s.clk.ns } }
  | 0x0D08 => { s with svc := { s.svc with warmAtNs := some (s.clk.ns + 10000000) } }
  | 0x0E11 => { s with svc := { s.svc with warmAtNs := some (s.clk.ns + 10000000) } }
  | 0x1004 => scheduleReboot c s
  | 0x0106 => writeCheckpoint s
  | 0x100B => takeMbusConfig c.payload s
  | _ => s

/-- The whole of a completion that is due. -/
def complete (c : Cmd) (v : Result) (s : State) : State :=
  match c.spillFrom with
  | some n => dropCmd c.ref (sendFrame (nextTo s true == n) 0x41 n s.ilu.claim (toLe 2 v.status.toNat ++ v.reply) s)
  | none =>
    let s := finalUpdate c v.status v.reply s
    let s := deliver c v.status v.reply s
    let s := countStatus c v.status s
    let s := lockstep c v.status v.reply s
    let s := releaseHelds c.ref v.status v.reply.length s
    let s := afterCompletion c s
    endAfterResponse (if v.status = stOk then afterOk c s else s)

/-- COMPLETION_DUE (R108). -/
def execCompletionDue (r : CmdRef) (s : State) : Res :=
  match findCmd s r with
  | none => .next s
  | some c =>
    match c.result with
    | none => .next s
    | some v => guarded (mayComplete s c) (complete c v) s

end Sys2Proof.Machine
end

