-- ==== Sys2Proof/Machine/IluonFwd.lean ====
section
/-! DEFINITION. Forwarded and spilled commands: FORWARD on the standby, and SPILL with its reply (R223, R224, R406, R410, R411, R421). -/

namespace Sys2Proof.Machine

/-! ## FORWARD (R410, R411) -/

/-- A forwarded command as a request: its partition and ring are those of its header. -/
def forwardReq (s : State) (header payload : Bytes) : Req :=
  let h := padTo 64 header
  let g := fld h 0x0C 2
  { fn := (ringFn s g).getD 0, ring := g, part := fld h 0x0A 2, header := h, payload := payload, frags := [payload.length], outs := [],
    readError := false, session := none }

/-- The standby reseeds its partition instance with the material sent, never from its own sources (R223). -/
def mirrorReseed (p : Nat) (material : Bytes) (s : State) : State :=
  if material.isEmpty then s
  else modPart p (fun x => { x with drbg := Config.drbgReseed x.drbg material, drbgCount := 0, drbgTime := s.hzn.time, drbgDue := false }) s

/-- A DRAW_CHECK that differs: none of the command's items runs, and the standby leaves lockstep (R224, R412). -/
def drawDiffers (s : State) : State := diverge { s with rng := { s.rng with drawCheckFail := true } }

/-- Apply the active's draw verdict to a forwarded command (R223, R224). -/
def mirrorDraw (r : CmdRef) (verdict : Nat) (material check : Bytes) (s : State) : State :=
  let s := { s with rng := { s.rng with queue := s.rng.queue.erase r } }
  match verdict with
  | 0 => modCmd r (fun c => { c with draw := .none }) s
  | 1 =>
    let s := giveSeed r (mirrorReseed r.part material s)
    (match findCmd s r with
    | some c => (match c.draw with
      | .seed b => if drawCheck b r.part c.seq == check then s else drawDiffers s
      | _ => s)
    | none => s)
  | 2 => modCmd r (fun c => { c with draw := .failed stRngFailed }) s
  | _ => modCmd r (fun c => { c with draw := .failed stRngNotReady }) s

/-- The standby journals a forwarded command at the active's index, with FROM_MIRROR set, and acknowledges it. It makes no check of its
own: the active has made them. One it has journaled already is acknowledged again. -/
def takeForward (header payload : Bytes) (idx verdict : Nat) (material check : Bytes) (s : State) : State :=
  let x := forwardReq s header payload
  match opSpec x.opcode with
  | none => s
  | some o =>
    let r := nextRef s x.part (idx % 65536)
    let ack := sendPartner 0x11 (toLe 2 idx ++ toLe 8 x.seq.toNat)
    match (getPart s x.part).journal.look (idx % 65536) with
    | some e =>
      if e.seq == x.seq && e.ring.toNat == x.ring && e.fromMirror then ack s
      else mirrorDraw r verdict material check (ack (acceptAt o x (idx % 65536) true s))
    | none => mirrorDraw r verdict material check (ack (acceptAt o x (idx % 65536) true s))

/-- FORWARD (R406, R410, R411): a frame under a claim below the standby's own is refused with LEAVE. -/
def execForward (f : Frame) (header payload : Bytes) (idx : Nat) (draw : BitVec 2) (reseed check : Bytes) (s : State) : Res :=
  .next (receive f 0x10 (fun s =>
    if s.ilu.mirror != .standby then s
    else if f.claim.toNat < s.ilu.claim.toNat then
      sendPartner 0x14 [4] (modIlu (fun i => { i with cntRefused := satAdd 32 i.cntRefused 1 }) s)
    else takeForward header payload idx draw.toNat reseed check s) s)

/-! ## SPILL (R421) -/

/-- The reply towards the member a command was spilled from. -/
def spillAnswer (n : Nat) (payload : Bytes) (s : State) : State := sendFrame (nextTo s true == n) 0x41 n s.ilu.claim payload s

/-- The version a spilled command names for a key. -/
def spillVersion (versions : List (Nat × Nat)) (k : BitVec 32) : BitVec 16 :=
  BitVec.ofNat 16 (((versions.find? (fun v => v.1 == k.toNat)).map (fun v => v.2)).getD 0)

/-- A spilled command as it runs here: it is not journaled and owes no completion, and its keys are those named. -/
def spillCmd (s : State) (o : OpSpec) (x : Req) (n : Nat) (versions : List (Nat × Nat)) (seed : Bytes) : Cmd :=
  let c := newCmd s o x { part := x.part, idx := 65536 + s.prism.order } false
  { c with
    spillFrom := some n
    draw := if seed.isEmpty then .none else .seed seed
    keys := (o.keys s x).map (fun k => (k, spillVersion versions k))
    items := c.items.map (fun it => { it with loads := it.loads.map (fun l => { l with version := spillVersion versions l.key }) }) }

/-- SPILL (R421): the command runs within this module's own share, or goes back unexecuted when a key is not held at its version. -/
def execSpill (f : Frame) (header payload : Bytes) (versions : List (Nat × Nat)) (seed : Bytes) (s : State) : Res :=
  .next (receive f 0x40 (fun s =>
    let x := forwardReq s header payload
    match opSpec x.opcode with
    | none => spillAnswer f.src [] s
    | some o =>
      let c := spillCmd s o x f.src versions seed
      if paymentGroup x.opcode && (getPart s x.part).state == .active && c.keys.all (fun k => (versionVal s x.part k.1 k.2).isSome) then
        let s := c.keys.foldl (fun s k => takeRef x.part k.1 k.2 s) s
        stampReady c.ref { s with prism := { s.prism with cmds := s.prism.cmds ++ [c], order := s.prism.order + 1 } }
      else spillAnswer f.src [] s) s)

/-- SPILL_REPLY (R421): the reply of a command that was executed is its result; one returned runs here. A reply that comes too late is
discarded. -/
def execSpillReply (f : Frame) (r : CmdRef) (executed : Bool) (status : BitVec 16) (reply : Bytes) (s : State) : Res :=
  .next (receive f 0x41 (fun s =>
    match findCmd s r with
    | none => s
    | some c =>
      if c.spilled.isSome && c.result.isNone then
        if executed then endCmd r status reply (modCmd r (fun c => { c with spilled := none }) s)
        else modCmd r (fun c => { c with spilled := none }) s
      else s) s)

/-- SPILL_TIMEOUT (R421): no reply within 200 µs. -/
def execSpillTimeout (r : CmdRef) (s : State) : Res :=
  match findCmd s r with
  | none => .next s
  | some c => guarded (match c.spilled with | none => false | some t => decide (t + 200000 ≤ s.clk.ns))
      (modCmd r (fun c => { c with spilled := none })) s

end Sys2Proof.Machine
end

