-- ==== Sys2Proof/Machine/Registers.lean ====
section
/-! DEFINITION. The registers of BAR0, the doorbells of BAR2 and the MSI-X table of BAR4: what a read returns and what a write does
(R6, R30, R40 to R48, R65, R66, R81, R82, R87, R90, R97 to R99, R104, R105, R110, R156, R187, R211, R228, R258, R271, R314, R342, R355,
R376, R397, R422, R434, R456, R457). -/

namespace Sys2Proof.Machine

/-! ## Halves of 64-bit registers (R41) -/

def loHalf (v : Nat) : Nat := v % 2 ^ 32
def hiHalf (v : Nat) : Nat := v / 2 ^ 32 % 2 ^ 32

/-- A 64-bit register with one half replaced. -/
def putHalf (old : Nat) (high : Bool) (v : Nat) : Nat :=
  if high then loHalf old + 2 ^ 32 * loHalf v else loHalf v + 2 ^ 32 * hiHalf old

/-- One half of a 64-bit register. -/
def half (v : Nat) (high : Bool) : Nat := if high then hiHalf v else loHalf v

/-! ## What registers read -/

/-- The partition a function serves, when it serves one (R97). -/
def fnPart (s : State) (f : Nat) : Option Nat := if (getFn s f).mapped then some (getFn s f).partition else none

/-- The block of local ring `n` (R43); a block without a ring shows BAD_DOORBELL alone (R97). -/
def ringWord (s : State) (f n o : Nat) : Nat :=
  let x := getFn s f
  if x.mapped && decide (n < x.ringCount) then
    let g := x.ringBase + n
    let r := getRing s g
    match o with
    | 0x00 => loHalf (r.sqBase.toNat * 4096)
    | 0x04 => hiHalf (r.sqBase.toNat * 4096)
    | 0x08 => loHalf (r.cqBase.toNat * 4096)
    | 0x0C => hiHalf (r.cqBase.toNat * 4096)
    | 0x10 => b2n r.enable + 2 * r.logSize.toNat + 256 * r.vector.toNat + 65536 * r.coalCount.toNat + 16777216 * r.coalTime.toNat
    | 0x14 => g % 1024 + 65536 * (r.gen.toNat % 65536)
    | 0x18 => r.sqHead.toNat
    | 0x1C => r.cqTail.toNat + 65536 * b2n r.cqPhase
    | 0x20 => loHalf r.lastSeq.toNat
    | 0x24 => hiHalf r.lastSeq.toNat
    | 0x28 => b2n r.dbOverrun + 2 * b2n r.badDoorbell + 4 * b2n (r.enable && r.sqHead != r.sqTail && decide (cqFree r ≤ r.owed))
    | _ => 0
  else if o = 0x28 then 2 * b2n (x.stray.contains n) else 0

/-- Registers that describe the function's own partition (R41, R65, R156, R258, R271). -/
def partWord (s : State) (p o : Nat) : Nat :=
  let x := getPart s p
  match o with
  | 0x0008 => x.gen.toNat % 65536
  | 0x0040 => x.jnext.toNat + 65536 * b2n x.jwrapped
  | 0x2200 => slotsUsed s p
  | 0x2204 => cachedUsed s p
  | 0x2208 => shadowUsed s p + 65536 * hotUsed s p
  | 0x220C => x.counters.at cKeyIntegrity 0
  | 0x2210 => (epochOf s p).toNat
  | 0x2600 => x.vault.capacity
  | 0x2604 => x.vault.records.length
  | 0x2608 => x.counters.at cVaultBlockFull 0
  | 0x260C => x.counters.at cPayVerifyFailed 0
  | 0x2700 =>
    let live := x.lock.state == .collecting || x.lock.state == .authorised
    (match x.lock.state with | .free => 0 | .collecting => 1 | .authorised => 2 | .broken => 3) + 256 * x.lock.signed.length +
    65536 * (if live then (x.lock.expiry.toNat - s.hzn.time.toNat) / 32768 else 0)
  | 0x2704 => x.lock.id.toNat
  | 0x2708 => x.counters.at cQuorumIncomplete 0
  | _ => 0

/-- Registers of every function (R30, R41, R65, R66, R87, R156, R228, R314, R376, R397). -/
def fnWord (s : State) (f o : Nat) : Nat :=
  let x := getFn s f
  match o with
  | 0x0000 => f % 256 + 256 * (fnPart s f).getD 0 + 65536 * x.ringCount
  | 0x0010 => svcStatus s
  | 0x0020 => x.irqCause.toNat
  | 0x0024 => x.irqMask.toNat
  | 0x0044 => s.hzn.epoch.toNat
  | 0x0048 => x.jnlIndex.toNat
  | 0x2214 => s.ks.mwkGen.toNat + 256 * b2n s.ks.prevPresent + 512 * b2n s.ks.rewrap + 1024 * b2n s.ks.sealed
  | 0x2500 => rngStatus s
  | 0x2800 =>
    b2n s.fw.running + 2 * b2n s.fw.fallback + 4 * s.fw.flags.toNat + 16 * s.fw.keysLive.toNat + 256 * s.fw.svnFloor.toNat +
    65536 * s.fw.rotSvn.toNat + 16777216 * s.fw.appSvn.toNat
  | 0x2804 => s.fw.slotA.result.toNat + 16 * s.fw.slotB.result.toNat + 256 * s.fw.runKey.toNat
  | 0x2C00 =>
    lcReport s + 256 * transitions s + 32768 * b2n s.life.certs.isSome + 65536 * seedsUsed s + 1048576 * reopens s
  | 0x2D00 => loHalf s.hzn.time.toNat
  | 0x2D04 => hiHalf s.hzn.time.toNat
  | _ =>
    if 0x80 ≤ o && o < 0xC0 then fld x.jnlWindow (o - 0x80) 4
    else if (0x100 ≤ o && o < 0x128) || o == cSessionLost || o == cFlowLimit || o == cRngFailed || o == cRngNotReady then x.counters.at o 0
    else if 0x1000 ≤ o && o < 0x2000 then ringWord s f ((o - 0x1000) / 64) (o % 64)
    else match fnPart s f with
      | none => 0
      | some p => partWord s p o

/-- A reset class of FAB_CLASS (R90). -/
def fabReset (m : Nat) : BitVec 32 := if m = 0 then 0xAAAA5555 else if m = 4 then 0x014FAAAA else 0xAAAAAAAA
def fabClass (s : State) (m : Nat) : BitVec 32 := s.fabClass.at m (fabReset m)

def unitNum : UnitState → Nat
  | .serving => 0 | .gated => 1 | .retired => 2 | .testing => 3

/-- A word of FACET_STAT (R187). -/
def facetWord (s : State) (n : Nat) : Nat :=
  if h : n < 48 then
    let f := getFacet s n
    unitNum (unitState s (.facet ⟨n, h⟩)) + 256 * f.glitch + 65536 * f.timer + 16777216 * f.retried
  else 0

/-- A word of PKE_STAT (R211). -/
def engineWord (s : State) (n : Nat) : Nat :=
  if h : n < 16 then
    let e := getEngine s n
    unitNum (unitState s (.engine ⟨n, h⟩)) + 4 * b2n e.nttBusy + 8 * b2n (liveReserve s e).isSome + 256 * e.mismatch + 65536 * e.parity +
    16777216 * e.retried
  else 0

def rngFaultWord (s : State) : Nat :=
  s.rng.rctFail.toNat + 16 * s.rng.aptFail.toNat + 256 * s.rng.startFail.toNat + 4096 * b2n s.rng.katFail + 8192 * b2n s.rng.drawCheckFail

/-- A word of a 16-byte log record: two words, then the time. -/
def recWordAt (w0 w1 time k : Nat) : Nat :=
  match k with
  | 0 => w0
  | 4 => w1
  | 8 => loHalf time
  | 12 => hiHalf time
  | _ => 0

/-- The Lens log (R342). -/
def lensLogWord (s : State) (j k : Nat) : Nat :=
  match s.plat.log.look j with
  | none => 0
  | some e => recWordAt (b2n e.master + 2 * e.port + 8 * e.kind.toNat + 256 * e.opcode.toNat + 65536 * e.filled.toNat) e.addr.toNat e.time.toNat k

/-- The debug log (R376). -/
def debugLogWord (s : State) (j k : Nat) : Nat :=
  match s.life.log.look j with
  | none => 0
  | some e => recWordAt (e.kind.toNat + 256 * e.ir.toNat + 65536 * hiHalf e.addr.toNat) (loHalf e.addr.toNat) e.time.toNat k

/-- The tamper log (R397). -/
def tamperLogWord (s : State) (j k : Nat) : Nat :=
  match s.hzn.log.look j with
  | none => 0
  | some e => recWordAt (e.cause.toNat + 16 * e.channel.toNat + 256 * b2n e.battery + 65536 * e.sample.toNat) 0 e.time.toNat k

/-- The fault log (R434). -/
def faultLogWord (s : State) (j k : Nat) : Nat :=
  match s.flt.log.look j with
  | none => 0
  | some e => recWordAt (e.kind.toNat + 16 * e.event.toNat + 256 * e.index.toNat) e.line.toNat e.time.toNat k

/-- The spoof log (R105). -/
def spoofLogWord (s : State) (j k : Nat) : Nat :=
  match s.pm.spoof.look j with
  | none => 0
  | some e => recWordAt (e.fn.toNat + 256 * e.cause.toNat + 65536 * e.partField.toNat) (e.ringField.toNat + 65536 * e.localRing.toNat)
                e.time.toNat k

/-- HZN_STATUS (R397). A battery the module has not sampled gives no warning. -/
def hznStatusWord (s : State) : Nat :=
  let h := s.hzn
  let low (k v : Nat) : Bool := bit h.vbatShown.toNat k && decide (v < 2500)
  b2n h.restored + 2 * b2n h.coldStart + 4 * b2n (low 0 h.vbatA) + 8 * b2n (low 1 h.vbatB) + 16 * b2n h.calDefault + 32 * b2n h.armExt +
  64 * b2n h.armEncl + 256 * h.tampers

def channelWord (s : State) (n : Nat) : Nat :=
  match s.hzn.channels.look n with
  | none => 0
  | some m => m.value.toNat + 4096 * b2n m.warn + 65536 * m.warns

/-- Bits of the fault map: channels `from_` to `from_ + n - 1` of a kind (R427, R434). -/
def mapBits (s : State) (kind from_ n : Nat) : Nat :=
  (List.range n).foldl (fun v k => v + 2 ^ k * b2n (chanRetired s { kind := kind, index := from_ + k })) 0

/-- BUS_PORT.STATE (R355). -/
def busPortState (s : State) (n : Nat) : Nat :=
  if (s.mbus.ports.getD n State.resetPort).retired then 2
  else if !bit (fld s.mbus.config 0 1) n then 3
  else if s.mbus.eid = 0 then 1 else 0

def busPortWord (s : State) (n : Nat) : Nat :=
  let p := s.mbus.ports.getD n State.resetPort
  busPortState s n + 256 * p.arbLost + 65536 * p.pecErr + 16777216 * p.stuck

def busSummaryWord (s : State) : Nat :=
  s.mbus.eid.toNat + 256 * (s.mbus.sessions.filter (fun x => !x.handshake)).length + 65536 * s.mbus.strangers.length

def iluonPortWord (s : State) (e : Bool) : Nat :=
  let p := iluPort s e
  portStateNum s e + 4 * p.lanes + 256 * p.replays + 65536 * p.tagErr + 16777216 * p.retiredLanes.toNat

def mirrorNum : MirrorState → Nat
  | .none => 0 | .active => 1 | .standby => 2 | .held => 3 | .solo => 4 | .syncSource => 5 | .syncTarget => 6 | .detached => 7

def mirrorWord (s : State) : Nat :=
  mirrorNum s.ilu.mirror + 8 * b2n s.ilu.partnerSeen + 16 * b2n s.ilu.partnerLost + 256 * s.ilu.resyncPct

def ringStatWord (s : State) : Nat :=
  b2n (s.ilu.leaseMode && s.ilu.formed) + 2 * b2n s.ilu.formed + 4 * s.ilu.live.length + 1024 * (if s.ilu.formed then s.ilu.position else 0) + 262144 * b2n s.ilu.keyMaster +
  524288 * b2n s.ilu.vaultOwner

/-- A window of a partition as the indirect registers show it (R99). -/
def windowOf (s : State) : Window :=
  (getPart s s.pm.selPart.toNat).windows.at s.pm.selWin.toNat { valid := false, base := 0, limit := 0 }

def winBase (w : Window) : Nat := b2n w.valid + 4096 * w.base.toNat
def winLimit (w : Window) : Nat := 4096 * w.limit.toNat

def partStateNum : PartState → Nat
  | .empty => 0 | .active => 1 | .disabled => 2 | .freezing => 3 | .frozen => 4 | .exported => 5 | .importing => 6

/-- Partitions not in state EMPTY. -/
def created (s : State) : Nat := ((List.range (partCount s)).filter (fun p => (getPart s p).state != .empty)).length

def mapWord (s : State) (f : Nat) : Nat :=
  let x := getFn s f
  (fnPart s f).getD 0 + 256 * x.ringBase + 262144 * x.ringCount + 33554432 * b2n x.mapped

/-- PM_PART_STATE (R98). FUNCTIONS has eight bits and a partition may be served by 256 functions: the field then reads 0. DESIGN CHOICE,
log entry 103. -/
def partStateWord (s : State) (p : Nat) : Nat :=
  if p < partCount s then
    let x := getPart s p
    partStateNum x.state + 256 * ((fnsOf s p).length % 256) + 65536 * (x.gen.toNat % 65536)
  else 0

def traceCtrl (s : State) : Nat :=
  let t := s.prism
  b2n t.trcOn + 2 * t.trcLog.toNat + 256 * t.trcPart.toNat + 65536 * b2n t.trcFilter + 131072 * t.trcMask.toNat

/-- Registers that only the PF has, 0x2000 to 0x2BFF. -/
def pfLow (s : State) (o : Nat) : Nat :=
  match o with
  | 0x2000 => loHalf (s.prism.trcBase.toNat * 4096)
  | 0x2004 => hiHalf (s.prism.trcBase.toNat * 4096)
  | 0x2008 => traceCtrl s
  | 0x200C => s.prism.trcWrite.toNat
  | 0x2010 => s.prism.trcRead.toNat
  | 0x2014 => s.prism.trcLost
  | 0x2504 => rngFaultWord s
  | 0x2808 => s.fw.load.toNat + 8 * b2n s.fw.retained + 16 * s.fw.lastResult.toNat
  | 0x280C => s.fw.stage.length
  | 0x2900 => platStatus s
  | 0x2904 => lensStatus s
  | 0x2908 => s.plat.cntLens
  | 0x290C => min s.plat.passes 65535 + 65536 * b2n s.plat.mismatch
  | 0x2910 => s.plat.brecSeq % 2 ^ 32
  | 0x2914 => brecStatus s
  | 0x2918 => s.plat.brecLost
  | 0x2920 => s.plat.logNext.toNat
  | 0x2B00 => busPortWord s 0
  | 0x2B04 => busPortWord s 1
  | 0x2B08 => busPortWord s 2
  | 0x2B0C => busSummaryWord s
  | 0x2B10 => s.mbus.dropped
  | 0x2B14 => s.mbus.authFail
  | _ =>
    if 0x2100 ≤ o && o < 0x2114 then (fabClass s ((o - 0x2100) / 4)).toNat
    else if 0x2300 ≤ o && o < 0x23C0 then facetWord s ((o - 0x2300) / 4)
    else if 0x2400 ≤ o && o < 0x2440 then engineWord s ((o - 0x2400) / 4)
    else if 0x2940 ≤ o && o < 0x2A40 then lensLogWord s ((o - 0x2940) / 16) (o % 16)
    else 0

/-- Registers that only the PF has, from 0x2C00. -/
def pfHigh (s : State) (o : Nat) : Nat :=
  match o with
  | 0x2C04 => s.life.scope.toNat + 8 * dbgKeysLive s + 32 * b2n (challengeLive s).isSome
  | 0x2C08 => s.life.cntDebug
  | 0x2C10 => s.life.logNext.toNat
  | 0x2D08 => hznStatusWord s
  | 0x2D0C => s.hzn.latched.toNat + 65536 * s.hzn.active.toNat
  | 0x2D10 => b2n (bit s.hzn.vbatShown.toNat 0) * (s.hzn.vbatA % 4096) + 65536 * (b2n (bit s.hzn.vbatShown.toNat 1) * (s.hzn.vbatB % 4096))
  | 0x2D14 => s.hzn.logNext.toNat
  | 0x2E00 => iluonPortWord s false
  | 0x2E04 => iluonPortWord s true
  | 0x2E08 => mirrorWord s
  | 0x2E0C => ringStatWord s
  | 0x2E10 => loHalf s.ilu.claim.toNat
  | 0x2E14 => hiHalf s.ilu.claim.toNat
  | 0x2E18 => rttMax s
  | 0x2E1C => leaseLen s
  | 0x2E20 => s.ilu.cntRefused
  | 0x2E24 => s.ilu.cntDiverge
  | 0x2F00 => s.flt.cause.toNat
  | 0x2F04 => s.flt.mask.toNat
  | 0x2F08 => mapBits s 1 0 32
  | 0x2F0C => mapBits s 1 32 16 + 65536 * mapBits s 2 0 16
  | 0x2F10 => mapBits s 3 0 8 + 256 * mapBits s 4 0 4 + 4096 * mapBits s 5 0 3 + 65536 * mapBits s 6 0 16
  | 0x2F14 => s.flt.corrected
  | 0x2F18 => s.flt.poisoned
  | 0x2F1C => s.flt.vaultLost
  | 0x2F20 => s.flt.logNext.toNat
  | 0x3000 => s.pm.logP.getD 0 + 65536 * created s
  | 0x3010 => s.pm.selPart.toNat + 256 * s.pm.selWin.toNat
  | 0x3018 => loHalf (winBase (windowOf s))
  | 0x301C => hiHalf (winBase (windowOf s))
  | 0x3020 => loHalf (winLimit (windowOf s))
  | 0x3024 => hiHalf (winLimit (windowOf s))
  | 0x3028 => b2n s.pm.refused
  | 0x3100 => s.pm.spoofNext.toNat
  | _ =>
    if 0x2D40 ≤ o && o < 0x2D80 then channelWord s ((o - 0x2D40) / 4)
    else if 0x2D80 ≤ o && o < 0x2E00 then tamperLogWord s ((o - 0x2D80) / 16) (o % 16)
    else if 0x2F80 ≤ o && o < 0x3000 then faultLogWord s ((o - 0x2F80) / 16) (o % 16)
    else if 0x3140 ≤ o && o < 0x3240 then spoofLogWord s ((o - 0x3140) / 16) (o % 16)
    else if 0x3400 ≤ o && o < 0x3800 then mapWord s ((o - 0x3400) / 4)
    else if 0x3800 ≤ o && o < 0x3C00 then partStateWord s ((o - 0x3800) / 4)
    else if 0x3C00 ≤ o && o < 0x3D00 then debugLogWord s ((o - 0x3C00) / 16) (o % 16)
    else 0

/-- The 32-bit word of BAR0 of function `f` at the aligned offset `o`; an offset that no chapter assigns reads 0 (R41). -/
def bar0Word (s : State) (f o : Nat) : Nat :=
  let v := fnWord s f o
  if f != 0 then v else v + (if o < 0x2C00 then pfLow s o else pfHigh s o)

/-- Whether a 64-bit register begins at an offset. -/
def wideReg (f o : Nat) : Bool :=
  (decide (0x1000 ≤ o) && decide (o < 0x2000) && (o % 64 == 0 || o % 64 == 8 || o % 64 == 0x20)) || o == 0x2D00 ||
  (f == 0 && (o == 0x2000 || o == 0x2E10 || o == 0x3018 || o == 0x3020 ||
    ((decide (0x2940 ≤ o) && decide (o < 0x2A40) || decide (0x2D80 ≤ o) && decide (o < 0x2E00) || decide (0x2F80 ≤ o) && decide (o < 0x3000) ||
      decide (0x3140 ≤ o) && decide (o < 0x3240) || decide (0x3C00 ≤ o) && decide (o < 0x3D00)) && o % 16 == 8)))

/-- Sizes of the BARs (R40). -/
def barSize (bar : Nat) : Nat := match bar with | 0 => 65536 | 2 => 262144 | 4 => 16384 | _ => 0

/-- What a 32-bit read of BAR0 returns: the half latched for this offset, or the register as it stands (R41). -/
def readHalf (s : State) (f o : Nat) : Nat :=
  match (getFn s f).latch.look o with
  | some w => w.toNat
  | none => bar0Word s f o

/-- The latched halves after a 32-bit read: the one read is used up, and a low half latches its high half. Each 64-bit register has a
latch of its own (R41). -/
def latchAfter (s : State) (f o : Nat) : Tab (BitVec 32) :=
  let l := Tab.del (getFn s f).latch o
  if wideReg f o then l.put (o + 4) (BitVec.ofNat 32 (bar0Word s f (o + 4))) else l

/-- A word of BAR4: the MSI-X table, and the pending-bit array from 0x2000 (R40). -/
def bar4Word (s : State) (f o : Nat) : Nat :=
  let x := getFn s f
  if o < 16 * 65 then (x.msixTable.at o (if o % 16 = 12 then 1 else 0)).toNat
  else if 0x2000 ≤ o && o < 0x200C then
    (List.range 32).foldl (fun v k => v + 2 ^ k * b2n (x.msixPend.contains (32 * ((o - 0x2000) / 4) + k))) 0
  else 0

/-- What a read of a BAR returns. BAR0 answers aligned reads of 32 and 64 bits and returns 0 to any other; a read of BAR2 returns 0,
its doorbells being write-only (R6, R41, R44). A 64-bit read takes both halves as they stand and leaves the latches alone, and the table
of BAR4 answers the same two widths: DEDUCED, log entry 22. -/
def readBar (s : State) (f bar off size : Nat) : Nat :=
  match bar with
  | 0 => if size = 4 && off % 4 = 0 then readHalf s f off
         else if size = 8 && off % 8 = 0 then bar0Word s f off + 2 ^ 32 * bar0Word s f (off + 4) else 0
  | 4 => if size = 4 && off % 4 = 0 then bar4Word s f off
         else if size = 8 && off % 8 = 0 then bar4Word s f off + 2 ^ 32 * bar4Word s f (off + 4) else 0
  | _ => 0

/-- HALF_READ_LATCH (R6, R40, R41, R44): a read of a BAR. -/
def execHalfReadLatch (f : Fin 256) (w : BarRead) (s : State) : Res :=
  if !s.svc.linkUp then .next s
  else if barSize w.bar ≤ w.off then .fault .outsideBar
  else
    let v := readBar s f.val w.bar w.off w.size
    let s := if w.bar = 0 && w.size = 4 && w.off % 4 = 0 then modFn f.val (fun x => { x with latch := latchAfter s f.val w.off }) s else s
    .next (emit (.readData f.val w.bar w.off w.size (BitVec.ofNat 64 v)) s)

/-! ## Configuration space (R38) -/

/-- The properties of the PCIe endpoint that its configuration space shows. -/
structure PcieConfig where
  classCode   : BitVec 24
  vendor      : BitVec 16
  device      : BitVec 16
  subVendor   : BitVec 16
  subsystem   : BitVec 16
  revision    : BitVec 8
  maxPayload  : Nat
  maxReadReq  : Nat
  tags        : Nat
  vectors     : Nat
  flr         : Bool
  ats         : Bool
  peerToPeer  : Bool
  deriving DecidableEq, Repr

/-- Configuration of function `f`; a VF's device ID stands in the SR-IOV capability (R38). -/
def pcieConfig (f : Fin 256) : PcieConfig :=
  { classCode := 0x108000, vendor := 0x1FA7, device := if f = 0 then 0x9648 else 0x9649, subVendor := 0x1FA7, subsystem := 0x0001,
    revision := 0x01, maxPayload := 512, maxReadReq := 4096, tags := 768, vectors := 65, flr := true, ats := false, peerToPeer := false }

/-! ## Writes of the function's registers -/

/-- FN_IRQ_MASK: clearing a mask bit over a set cause bit raises vector 0 (R41). SPOOF_REPORT is the PF's alone. -/
def writeIrqMask (f v : Nat) (s : State) : State :=
  let x := getFn s f
  let m : BitVec 5 := BitVec.ofNat 5 v &&& (if f = 0 then 0x1F else 0x0F)
  let s := setFn s f { x with irqMask := m }
  if x.irqCause &&& x.irqMask &&& ~~~m = 0 then s else raiseVector f 0 s

/-- FLT_MASK (R434). -/
def writeFltMask (v : Nat) (s : State) : State :=
  let m : BitVec 9 := BitVec.ofNat 9 v
  let old := s.flt.mask
  let s := { s with flt := { s.flt with mask := m } }
  if s.flt.cause &&& old &&& ~~~m = 0 then s else raiseVector 0 0 s

/-- JNL_INDEX: the entry of the function's own partition is copied into JNL_WINDOW as one snapshot (R65). -/
def writeJnlIndex (f v : Nat) (s : State) : State :=
  let i := v % 65536
  let w := match fnPart s f with
    | none => zeros 64
    | some p => match (getPart s p).journal.look i with | none => zeros 64 | some e => jBytes e
  modFn f (fun x => { x with jnlIndex := BitVec.ofNat 16 i, jnlWindow := w }) s

/-! ## Rings (R43, R104, R106, R110) -/

/-- Start a ring: both indices at 0, phase 1, nothing owed. -/
def startRing (g : Nat) (s : State) : State :=
  modRing g (fun r => { r with enable := true, sqHead := 0, sqTail := 0, cqHead := 0, cqTail := 0, cqPhase := true, owed := 0,
                               unsignalled := 0, coalNs := none }) s

def ringFits (s : State) (p : Nat) (r : Ring) : Bool :=
  inWindow s p (r.sqBase.toNat * 4096) (64 * ringSize r) && inWindow s p (r.cqBase.toNat * 4096) (32 * ringSize r)

/-- ENABLE written to 1 while it is 0 (R42, R43, R104 cause 0x05, R110). -/
def tryEnable (f n : Nat) (s : State) : State :=
  let x := getFn s f
  let g := x.ringBase + n
  let r := getRing s g
  if !(decide (6 ≤ r.logSize.toNat) && decide (r.logSize.toNat ≤ 16) && decide (1 ≤ r.vector.toNat) && decide (r.vector.toNat ≤ 64)) then s
  else if (getPart s x.partition).state == .disabled then s
  else if ringFits s x.partition r then startRing g s
  else spoofReport f 5 x.partition g n s

/-- The stored fields of RING_CTRL: while ENABLE is 1 the size stays, and the vector takes only a value from 1 to 64. -/
def storeRingCtrl (v : Nat) (r : Ring) : Ring :=
  let vec := bits v 15 8
  { r with vector := if !r.enable || (decide (1 ≤ vec) && decide (vec ≤ 64)) then BitVec.ofNat 8 vec else r.vector,
           logSize := if r.enable then r.logSize else BitVec.ofNat 5 (bits v 5 1),
           coalCount := BitVec.ofNat 8 (bits v 23 16), coalTime := BitVec.ofNat 8 (bits v 31 24) }

/-- RING_CTRL of local ring `n`: every write of ENABLE 0 raises the generation, on a ring that is off too; ENABLE 1 starts a ring that is
off (R43, R106). -/
def writeRingCtrl (f n v : Nat) (s : State) : State :=
  let x := getFn s f
  let g := x.ringBase + n
  if x.mapped && decide (n < x.ringCount) then
    let on := (getRing s g).enable
    let s := modRing g (storeRingCtrl v) s
    if !bit v 0 then changeRingGen g s
    else if !on then tryEnable f n s
    else s
  else s

/-- A word of a ring block. -/
def writeRingWord (f n o v : Nat) (s : State) : State :=
  let x := getFn s f
  let g := x.ringBase + n
  if !(x.mapped && decide (n < x.ringCount)) then
    if o == 0x28 && bit v 1 then setFn s f { x with stray := x.stray.filter (· != n) } else s
  else
    let r := getRing s g
    let base (old : BitVec 52) : BitVec 52 := BitVec.ofNat 52 (putHalf (old.toNat * 4096) (o % 8 == 4) v / 4096)
    match o with
    | 0x10 => writeRingCtrl f n v s
    | 0x28 => setRing s g { r with dbOverrun := r.dbOverrun && !bit v 0, badDoorbell := r.badDoorbell && !bit v 1 }
    | _ =>
      if r.enable then s
      else if o < 8 then setRing s g { r with sqBase := base r.sqBase }
      else if o < 16 then setRing s g { r with cqBase := base r.cqBase }
      else s

/-! ## Trace registers (R81, R82) -/

/-- TRC_CTRL. -/
def writeTraceCtrl (v : Nat) (s : State) : State :=
  let t := s.prism
  let size := if t.trcOn then t.trcLog.toNat else bits v 5 1
  let t := { t with trcLog := BitVec.ofNat 5 size, trcPart := BitVec.ofNat 8 (bits v 15 8), trcFilter := bit v 16,
                    trcMask := BitVec.ofNat 8 (bits v 24 17) }
  let t :=
    if !bit v 0 then { t with trcOn := false }
    else if t.trcOn then t
    else if 12 ≤ size && size ≤ 24 then { t with trcOn := true, trcWrite := 0, trcRead := 0, trcFull := false }
    else t
  { s with prism := t }

/-- TRC_READ: host software has consumed the records before it. Written equal to WRITE_INDEX over a full buffer it releases them
all: DESIGN CHOICE, log entry 100. -/
def writeTraceRead (v : Nat) (s : State) : State := { s with prism := { s.prism with trcRead := BitVec.ofNat 24 v, trcFull := false } }

/-! ## Windows (R99) -/

/-- One half of PM_WIN_BASE or PM_WIN_LIMIT; refused while a ring of the selected partition is enabled. -/
def writeWindow (limit high : Bool) (v : Nat) (s : State) : State :=
  let p := s.pm.selPart.toNat
  if (partRings s p).any (fun g => (getRing s g).enable) then { s with pm := { s.pm with refused := true } }
  else
    let w := windowOf s
    let w :=
      if limit then { w with limit := BitVec.ofNat 52 (putHalf (winLimit w) high v / 4096) }
      else
        let b := putHalf (winBase w) high v
        { w with valid := bit b 0, base := BitVec.ofNat 52 (b / 4096) }
    modPart p (fun x => { x with windows := x.windows.put s.pm.selWin.toNat w }) s

/-! ## Writes of the PF's registers -/

/-- Bits of a field cleared by the ones of `v` (R6). -/
def clear1 {w : Nat} (old : BitVec w) (v : Nat) : BitVec w := old &&& ~~~(BitVec.ofNat w v)

def writeRngFault (v : Nat) (s : State) : State :=
  { s with rng := { s.rng with rctFail := clear1 s.rng.rctFail v, aptFail := clear1 s.rng.aptFail (v / 16),
                               startFail := clear1 s.rng.startFail (v / 256), katFail := s.rng.katFail && !bit v 12,
                               drawCheckFail := s.rng.drawCheckFail && !bit v 13 } }

/-- A word of the PF alone. -/
def writePfWord (o v : Nat) (s : State) : State :=
  match o with
  | 0x2000 => if s.prism.trcOn then s else { s with prism := { s.prism with trcBase := BitVec.ofNat 52 (putHalf (s.prism.trcBase.toNat * 4096) false v / 4096) } }
  | 0x2004 => if s.prism.trcOn then s else { s with prism := { s.prism with trcBase := BitVec.ofNat 52 (putHalf (s.prism.trcBase.toNat * 4096) true v / 4096) } }
  | 0x2008 => writeTraceCtrl v s
  | 0x2010 => writeTraceRead v s
  | 0x2504 => writeRngFault v s
  | 0x290C => { s with plat := { s.plat with mismatch := s.plat.mismatch && !bit v 16 } }
  | 0x2D08 => { s with hzn := { s.hzn with restored := s.hzn.restored && !bit v 0, coldStart := s.hzn.coldStart && !bit v 1 } }
  | 0x2D0C => { s with hzn := { s.hzn with latched := clear1 s.hzn.latched v } }
  | 0x2E08 => { s with ilu := { s.ilu with partnerLost := s.ilu.partnerLost && !bit v 4 } }
  | 0x2F00 => { s with flt := { s.flt with cause := clear1 s.flt.cause v } }
  | 0x2F04 => writeFltMask v s
  | 0x3010 => { s with pm := { s.pm with selPart := BitVec.ofNat 8 v, selWin := BitVec.ofNat 4 (v / 256) } }
  | 0x3018 => writeWindow false false v s
  | 0x301C => writeWindow false true v s
  | 0x3020 => writeWindow true false v s
  | 0x3024 => writeWindow true true v s
  | 0x3028 => { s with pm := { s.pm with refused := s.pm.refused && !bit v 0 } }
  | _ =>
    if 0x2100 ≤ o && o < 0x2114 then
      let m := (o - 0x2100) / 4
      { s with fabClass := s.fabClass.put m (BitVec.ofNat 32 v &&& (if m = 4 then 0x0FFFFFFF else 0xFFFFFFFF)) }
    else if 0x2D40 ≤ o && o < 0x2D80 && bit v 12 then
      { s with hzn := { s.hzn with channels := s.hzn.channels.map (fun e => if e.1 == (o - 0x2D40) / 4 then (e.1, { e.2 with warn := false }) else e) } }
    else s

/-- An aligned 32-bit write of BAR0; a read-only or reserved word ignores it (R6). -/
def writeWord (f o v : Nat) (s : State) : State :=
  match o with
  | 0x20 => modFn f (fun x => { x with irqCause := clear1 x.irqCause v }) s
  | 0x24 => writeIrqMask f v s
  | 0x48 => writeJnlIndex f v s
  | _ =>
    if 0x1000 ≤ o && o < 0x2000 then writeRingWord f ((o - 0x1000) / 64) (o % 64) v s
    else if f = 0 then writePfWord o v s
    else s

/-- A write of BAR0: of 32 or 64 bits and aligned, or without effect (R41). A 64-bit write acts on the low word first and then on the
high word, so one at 0x0020 clears causes before it sets the mask. DESIGN CHOICE, log entry 104. -/
def writeBar0 (f o size v : Nat) (s : State) : State :=
  if size = 4 && o % 4 = 0 then writeWord f o (loHalf v) s
  else if size = 8 && o % 8 = 0 then writeWord f (o + 4) (hiHalf v) (writeWord f o (loHalf v) s)
  else s

/-! ## Doorbells (R44, R45, R97, R456) -/

/-- A doorbell that cannot be acted on sets BAD_DOORBELL and DB_ERROR. -/
def badDoorbell (f g : Nat) (s : State) : State := setCause f causeDb (modRing g (fun r => { r with badDoorbell := true }) s)

/-- SQ_TAIL (R45). -/
def sqTail (f g t : Nat) (s : State) : State :=
  let r := getRing s g
  let n := ringSize r
  let new := BitVec.ofNat 16 t
  if ringDiff n new r.sqHead < ringDiff n r.sqTail r.sqHead then
    setCause f causeDb (bumpFn f cQueueFull (setRing s g { r with dbOverrun := true }))
  else setRing s g { r with sqTail := new }

/-- CQ_HEAD (R456). -/
def cqHead (f g h : Nat) (s : State) : State :=
  let r := getRing s g
  let n := ringSize r
  let new := BitVec.ofNat 16 h
  if ringDiff n r.cqTail r.cqHead < ringDiff n new r.cqHead then badDoorbell f g s
  else setRing s g { r with cqHead := new }

/-- A doorbell write to local ring `n`: one without a ring, of a wrong size, to a ring that is off, or with an index at or above the
ring size sets BAD_DOORBELL. -/
def doorbell (head : Bool) (f n size v : Nat) (s : State) : State :=
  let x := getFn s f
  if !(x.mapped && decide (n < x.ringCount)) then
    setCause f causeDb (setFn s f { x with stray := if x.stray.contains n then x.stray else x.stray ++ [n] })
  else
    let g := x.ringBase + n
    let r := getRing s g
    let i := v % 65536
    if size != 4 || !r.enable || decide (ringSize r ≤ i) then badDoorbell f g s
    else if head then cqHead f g i s
    else sqTail f g i s

/-- A write of BAR2. -/
def writeBar2 (f o size v : Nat) (s : State) : State :=
  let n := o / 4096
  let k := o % 4096
  if size != 4 || k = 0 then doorbell false f n size v s
  else if k = 4 then doorbell true f n size v s
  else if (getFn s f).mapped && decide (n < (getFn s f).ringCount) then s
  else doorbell false f n size v s

/-! ## The MSI-X table (R40, R41) -/

/-- Store a word of the table; a vector control that clears its mask sends the message that waits. -/
def writeMsixWord (f o v : Nat) (s : State) : State :=
  if o < 16 * 65 then
    let x := getFn s f
    let s := setFn s f { x with msixTable := x.msixTable.put o (BitVec.ofNat 32 v) }
    let k := o / 16
    if o % 16 = 12 && !bit v 0 && x.msixPend.contains k then
      emit (.msix f k (msixWrite (getFn s f) k)) (modFn f (fun x => { x with msixPend := x.msixPend.filter (· != k) }) s)
    else s
  else s

/-- A write of BAR4: the table takes aligned 32-bit and 64-bit writes; the pending-bit array is read-only. -/
def writeBar4 (f o size v : Nat) (s : State) : State :=
  if size = 4 && o % 4 = 0 then writeMsixWord f o (loHalf v) s
  else if size = 8 && o % 8 = 0 then writeMsixWord f (o + 4) (hiHalf v) (writeMsixWord f o (loHalf v) s)
  else s

/-! ## The rows -/

/-- A write that reaches the module: not while the link is down (R457), and not beyond the BAR. -/
def hostWrite (bar off : Nat) (act : State → State) (s : State) : Res :=
  if !s.svc.linkUp then .next s
  else if barSize bar ≤ off then .fault .outsideBar
  else .next (act s)

/-- REGISTER_WRITE (R6, R41). -/
def execRegisterWrite (f : Fin 256) (bar off size : Nat) (v : BitVec 64) (s : State) : Res :=
  hostWrite bar off (match bar with
    | 0 => writeBar0 f.val off size v.toNat
    | 2 => writeBar2 f.val off size v.toNat
    | _ => writeBar4 f.val off size v.toNat) s

/-- FN_IRQ_MASK_WRITE (R41). -/
def execFnIrqMaskWrite (f : Fin 256) (v : BitVec 32) (s : State) : Res := guarded s.svc.linkUp (writeIrqMask f.val v.toNat) s

/-- FLT_MASK_WRITE (R434). -/
def execFltMaskWrite (v : BitVec 32) (s : State) : Res := guarded s.svc.linkUp (writeFltMask v.toNat) s

/-- SQ_TAIL_WRITE (R45). -/
def execSqTailWrite (f : Fin 256) (n : Fin 64) (size : Nat) (v : BitVec 32) (s : State) : Res :=
  guarded s.svc.linkUp (doorbell false f.val n.val size v.toNat) s

/-- CQ_HEAD_WRITE (R456). -/
def execCqHeadWrite (f : Fin 256) (n : Fin 64) (size : Nat) (v : BitVec 32) (s : State) : Res :=
  guarded s.svc.linkUp (doorbell true f.val n.val size v.toNat) s

/-- RING_ENABLE (R43): RING_CTRL is written with ENABLE at 1. -/
def execRingEnable (f : Fin 256) (n : Fin 64) (v : BitVec 32) (s : State) : Res :=
  guarded s.svc.linkUp (writeRingCtrl f.val n.val (v ||| 1).toNat) s

/-- RING_DISABLE (R43, R106): RING_CTRL is written with ENABLE at 0. -/
def execRingDisable (f : Fin 256) (n : Fin 64) (v : BitVec 32) (s : State) : Res :=
  guarded s.svc.linkUp (writeRingCtrl f.val n.val (v &&& 0xFFFFFFFE).toNat) s

/-- JNL_INDEX_WRITE (R65). -/
def execJnlIndexWrite (f : Fin 256) (v : BitVec 32) (s : State) : Res := guarded s.svc.linkUp (writeJnlIndex f.val v.toNat) s

/-- TRC_ENABLE_WRITE (R82): a write of TRC_CTRL. -/
def execTrcEnableWrite (v : BitVec 32) (s : State) : Res := guarded s.svc.linkUp (writeTraceCtrl v.toNat) s

/-- TRC_READ_WRITE (R81). -/
def execTrcReadWrite (v : BitVec 32) (s : State) : Res := guarded s.svc.linkUp (writeTraceRead v.toNat) s

/-- PM_WIN_WRITE (R99): a write at byte `off` of PM_WIN_BASE or PM_WIN_LIMIT. -/
def execPmWinWrite (limit : Bool) (off size : Nat) (v : BitVec 64) (s : State) : Res :=
  guarded (s.svc.linkUp && decide (off < 8)) (writeBar0 0 ((if limit then 0x3020 else 0x3018) + off) size v.toNat) s

/-- MSIX_TABLE_WRITE (R41). -/
def execMsixTableWrite (f : Fin 256) (off size : Nat) (v : BitVec 64) (s : State) : Res :=
  hostWrite 4 off (writeBar4 f.val off size v.toNat) s

end Sys2Proof.Machine
end

