-- ==== Sys2Proof/Machine/Mbus.lean ====
section
/-! DEFINITION. The management bus: ports, MCTP, SPDM and the commands a session carries (R343 to R354).

The spec names MCTP and SPDM 1.3 and restates neither. Where a message of these standards is parsed or formed here, its layout is
PRESUMED from the standards; so are the error codes an SPDM ERROR carries, where the spec does not name one. -/

namespace Sys2Proof.Machine

def modMbus (g : Mbus → Mbus) (s : State) : State := { s with mbus := g s.mbus }
def modBus (n : Nat) (g : BusPort → BusPort) (s : State) : State := modMbus (fun m => { m with ports := m.ports.modify n g }) s
def busPort (s : State) (n : Nat) : BusPort := s.mbus.ports.getD n State.resetPort

/-- A port serves: it is enabled, not retired, and the module has left Dark (R347, R354). -/
def portServes (s : State) (n : Nat) : Bool := s.svc.phase != .dark && !(busPort s n).retired && bit (fld s.mbus.config 0 1) n

/-- One transient fault of a port (R346). -/
def busFault (n : Nat) (s : State) : State := transient { kind := 5, index := n } s

def countArb (n : Nat) (s : State) : State := modBus n (fun p => { p with arbLost := satAdd 8 p.arbLost 1 }) s
def countPec (n : Nat) (s : State) : State := modBus n (fun p => { p with pecErr := satAdd 8 p.pecErr 1 }) s
def countStuck (n : Nat) (s : State) : State := modBus n (fun p => { p with stuck := satAdd 8 p.stuck 1 }) s

/-! ## MCTP control (R344) -/

/-- A control response: its command, then its body. -/
def control (port cmd : Nat) (body : Bytes) (s : State) : State := busSend port (.mctp port 0 (toLe 1 cmd ++ body)) s

/-- Set Endpoint ID, for all three ports. The null and the broadcast EID name no endpoint: completion code 2. -/
def setEid (port : Nat) (eid : BitVec 8) (s : State) : State :=
  if eid = 0 || eid = 0xFF then control port 1 [2] s
  else control port 1 [0, 0, eid, 0] (modMbus (fun m => { m with eid := eid }) s)

def getEid (port : Nat) (s : State) : State := control port 2 [0, s.mbus.eid, 0, 0] s
def getUuid (port : Nat) (s : State) : State := control port 3 ([0] ++ padTo 16 Config.endpointUuid) s
def getMctpVersions (port : Nat) (s : State) : State := control port 4 ([0] ++ Config.mctpVersions) s
/-- Message types 5 and 6, beside control itself. -/
def getTypes (port : Nat) (s : State) : State := control port 5 [0, 2, 5, 6] s

/-! ## SPDM: who is answered (R348) -/

def dialogOf (s : State) (eid : BitVec 8) : Option Dialog := s.mbus.dialogs.find? (fun d => d.eid == eid)
def logOf (s : State) (eid : BitVec 8) : Bytes := ((dialogOf s eid).map (fun d => d.log)).getD []
def setDialog (d : Dialog) (s : State) : State :=
  modMbus (fun m => { m with dialogs := m.dialogs.filter (fun e => !(e.eid == d.eid)) ++ [d] }) s
def agreed (s : State) (eid : BitVec 8) : Bool := match dialogOf s eid with | none => false | some d => d.agreed

/-- Answer a request; request and response enter the dialog. -/
def answer (src : SpdmSource) (req : Bytes) (code : Nat) (payload : Bytes) (s : State) : State :=
  let s := modMbus (fun m => { m with dialogs := m.dialogs.map (fun d => if d.eid == src.eid then { d with log := d.log ++ req ++ payload } else d) }) s
  busSend src.port.val (.spdm src.port.val src.eid code payload) s

/-- Answer with an ERROR. -/
def spdmError (src : SpdmSource) (code : Byte) (s : State) : State := busSend src.port.val (.spdm src.port.val src.eid 0x7F [code, 0]) s

def errInvalid : Byte := 0x01
def errBusy : Byte := 0x03
def errUnexpected : Byte := 0x04
def errDecrypt : Byte := 0x06
def errUnsupported : Byte := 0x07
def errSessions : Byte := 0x0A

/-- The endpoint is known: it holds a session it opened with mutual authentication. -/
def knownEid (s : State) (eid : BitVec 8) : Bool := s.mbus.sessions.any (fun x => x.eid == eid && x.known && !x.handshake)

/-- UNKNOWN_RATE, 0 standing for 10. -/
def unknownRate (s : State) : Nat := if fld s.mbus.config 4 1 = 0 then 10 else fld s.mbus.config 4 1

/-- One request, in the unit of a bucket. -/
def oneRequest : Nat := 1000000000

/-- The entry of a stranger, new and full when it is not tracked. -/
def strangerOf (s : State) (eid : BitVec 8) : Stranger :=
  (s.mbus.strangers.find? (fun x => x.eid == eid)).getD { eid := eid, bucket := 4 * oneRequest, heard := s.clk.ns, busyNs := none }

/-- Track up to 32 strangers, oldest heard first. -/
def track (x : Stranger) (s : State) : State :=
  let rest := s.mbus.strangers.filter (fun y => !(y.eid == x.eid))
  modMbus (fun m => { m with strangers := (if 32 ≤ rest.length then rest.drop 1 else rest) ++ [x] }) s

/-- Meter a stranger's request: whether it is served, and the state after. -/
def meter (src : SpdmSource) (s : State) : Bool × State :=
  let x := strangerOf s src.eid
  let b := min (4 * oneRequest) (x.bucket + (s.clk.ns - x.heard) * unknownRate s)
  if oneRequest ≤ b then (true, track { x with bucket := b - oneRequest, heard := s.clk.ns } s)
  else
    let late := match x.busyNs with | none => true | some t => decide (t + 1000000000 ≤ s.clk.ns)
    if late then (false, spdmError src errBusy (track { x with bucket := b, heard := s.clk.ns, busyNs := some s.clk.ns } s))
    else (false, modMbus (fun m => { m with dropped := satAdd 32 m.dropped 1 }) (track { x with bucket := b, heard := s.clk.ns } s))

/-- Whom a request is served for: anyone, known endpoints alone, established sessions alone, or a handshake's own session. -/
inductive Audience where
  | anyone | known | session | handshake
  deriving DecidableEq, Repr

/-- Whether the audience takes in a sender: its session, where the message is secured. -/
def serves (a : Audience) (known : Bool) (x : Option SpdmSession) : Bool :=
  match a, x with
  | .anyone, none => true
  | .anyone, some y => !y.handshake && y.known
  | .known, none => known
  | .known, some y => !y.handshake && y.known
  | .session, none => false
  | .session, some y => !y.handshake
  | .handshake, none => false
  | .handshake, some y => y.handshake

/-- The session a secured message names. -/
def sourceSession (s : State) (src : SpdmSource) : Option SpdmSession :=
  match src.session with | none => none | some id => s.mbus.sessions.find? (fun x => x.id == id)

def modSpdm (id : BitVec 32) (g : SpdmSession → SpdmSession) (s : State) : State :=
  modMbus (fun m => { m with sessions := m.sessions.map (fun x => if x.id == id then g x else x) }) s

/-- A secured message for no session the module holds. -/
def strayMessage (s : State) : State := modMbus (fun m => { m with authFail := satAdd 32 m.authFail 1 }) s

/-- Serve an SPDM request under R348. -/
def serve (src : SpdmSource) (a : Audience) (act : State → State) (s : State) : State :=
  if !portServes s src.port.val then s
  else if src.session.isSome && (sourceSession s src).isNone then strayMessage s
  else
    let x := sourceSession s src
    let s := match x with
      | none => s
      | some y => modSpdm y.id (fun y => { y with lastNs := s.clk.ns, port := src.port.val }) s
    let known := match x with | none => knownEid s src.eid | some y => y.known && !y.handshake
    let (ok, s) := if known then (true, s) else meter src s
    if !ok then s
    else if serves a known x && !(x.any (fun y => y.ended)) then act s
    else spdmError src errUnexpected s

/-! ## SPDM: negotiation (R349) -/

/-- GET_VERSION begins a dialog anew. -/
def versionReply : Bytes := [0, 0, 0, 2, 0x00, 0x12, 0x00, 0x13]
def doGetVersion (src : SpdmSource) (s : State) : State :=
  answer src [0x84] 0x04 versionReply (setDialog { eid := src.eid, log := [], agreed := false } s)

/-- CERT, CHAL, MEAS with signature, MEAS_FRESH, ENCRYPT, MAC, MUT_AUTH, KEY_EX, HBEAT, KEY_UPD and CHUNK. -/
def capFlags : Nat := 0x02 + 0x04 + 0x10 + 0x20 + 0x40 + 0x80 + 0x100 + 0x200 + 0x2000 + 0x4000 + 0x20000
def capsReply : Bytes := [0, 0, 0, 20, 0, 0] ++ toLe 4 capFlags ++ toLe 4 4096 ++ toLe 4 65536
def doCapabilities (src : SpdmSource) (flags : BitVec 32) (s : State) : State :=
  if (dialogOf s src.eid).isSome then answer src ([0xE1] ++ toLe 4 flags.toNat) 0x61 capsReply s else spdmError src errUnexpected s

/-- What NEGOTIATE_ALGORITHMS offers. -/
structure AlgOffer where
  baseAsym : Nat
  baseHash : Nat
  measHash : Nat
  dhe      : Nat
  aead     : Nat
  reqAsym  : Nat
  keySched : Nat
  deriving DecidableEq, Repr

/-- The values of R349, by their bits in the standard. -/
def ownAlgs : AlgOffer := { baseAsym := 0x80, baseHash := 0x02, measHash := 0x40, dhe := 0x10, aead := 0x02, reqAsym := 0x80, keySched := 1 }

/-- Every item offers the module's value; the measurement hash is the responder's own choice. -/
def offerFits (o : AlgOffer) : Bool :=
  o.baseAsym &&& ownAlgs.baseAsym != 0 && o.baseHash &&& ownAlgs.baseHash != 0 && o.dhe &&& ownAlgs.dhe != 0 &&
  o.aead &&& ownAlgs.aead != 0 && o.reqAsym &&& ownAlgs.reqAsym != 0 && o.keySched &&& ownAlgs.keySched != 0

/-- The algorithm structures of the standard: type, count, value, for DHE, AEAD, the requester's signatures and the key schedule. -/
def algStructs (o : AlgOffer) : Bytes :=
  [2, 0x20] ++ toLe 2 o.dhe ++ [3, 0x20] ++ toLe 2 o.aead ++ [4, 0x20] ++ toLe 2 o.reqAsym ++ [5, 0x20] ++ toLe 2 o.keySched

/-- NEGOTIATE_ALGORITHMS from its first parameter on, in the order of DSP0274, without external algorithms (R3). -/
def offerBytes (o : AlgOffer) : Bytes :=
  [4, 0] ++ toLe 2 48 ++ [1, 0] ++ toLe 4 o.baseAsym ++ toLe 4 o.baseHash ++ zeros 16 ++ algStructs o

/-- ALGORITHMS from its first parameter on, in the order of DSP0274 (R3). -/
def algorithmsReply (o : AlgOffer) : Bytes :=
  [4, 0] ++ toLe 2 52 ++ [1, 0] ++ toLe 4 o.measHash ++ toLe 4 o.baseAsym ++ toLe 4 o.baseHash ++ zeros 16 ++ algStructs o

def doNegotiate (src : SpdmSource) (o : AlgOffer) (s : State) : State :=
  match dialogOf s src.eid with
  | none => spdmError src errUnexpected s
  | some d =>
    if offerFits o then answer src ([0xE3] ++ offerBytes o) 0x63 (algorithmsReply ownAlgs) (setDialog { d with agreed := true } s)
    else spdmError src errUnsupported s

/-- A request that needs negotiated algorithms. -/
def whenAgreed (src : SpdmSource) (act : State → State) (s : State) : State :=
  if agreed s src.eid || src.session.isSome then act s else spdmError src errUnexpected s

/-! ## SPDM: certificates, challenge, measurements (R350, R351) -/

/-- The chain of slot 0, from the root to the signing key. -/
def busChain (s : State) : Bytes := caCerts s ++ attestChain s 0
def sha384 (m : Bytes) : Bytes := hashOf 0x03 m

def doDigests (src : SpdmSource) (s : State) : State :=
  whenAgreed src (fun s => answer src [0x81] 0x01 ([0, 1] ++ sha384 (busChain s)) s) s

/-- A portion of the chain; every slot but 0 is empty. -/
def certPortion (s : State) (offset length : Nat) : Bytes := bsub (busChain s) offset (min length 4088)
def doCertificate (src : SpdmSource) (slot offset length : Nat) (s : State) : State :=
  whenAgreed src (fun s =>
    if slot = 0 && offset < (busChain s).length then
      let p := certPortion s offset length
      answer src ([0x82] ++ toLe 1 slot ++ toLe 2 offset ++ toLe 2 length) 0x02
        ([0, 0] ++ toLe 2 p.length ++ toLe 2 ((busChain s).length - offset - p.length) ++ p) s
    else spdmError src errInvalid s) s

/-- Sign a response under the P-384 half of the signing key, over the dialog and the response. -/
def signed (src : SpdmSource) (req body : Bytes) (s : State) : Bytes × State :=
  let (rnd, s) := islandDraw 48 s
  (Config.spdmSign (attestKey s 0) (logOf s src.eid ++ req) body rnd, s)

def doChallenge (src : SpdmSource) (slot : Nat) (nonce : Bytes) (s : State) : State :=
  whenAgreed src (fun s =>
    if slot = 0 then
      let req : Bytes := [0x83] ++ toLe 1 slot ++ padTo 32 nonce
      let (n, s) := islandDraw 32 s
      let body := [0, 1] ++ sha384 (busChain s) ++ n ++ zeros 2
      let (sig, s) := signed src req body s
      answer src req 0x03 (body ++ padTo 96 sig) s
    else spdmError src errInvalid s) s

/-- The newest boot record, and the newest of kind 1 or 4 (R337, R351). -/
def recordsDown (s : State) : List Bytes :=
  ((List.range (min 8192 s.plat.brecSeq)).map (fun k => recordAt s (s.plat.brecSeq - k))).filterMap id
def newestRecord (s : State) : Option Bytes := (recordsDown s).head?
def regionRecord (s : State) : Option Bytes := (recordsDown s).find? (fun b => fld b 6 1 == 1 || fld b 6 1 == 4)

/-- The blocks that have content: index, DMTF type, value (R351). -/
def measurementBlocks (s : State) : List (Nat × Nat × Bytes) :=
  let regions := match regionRecord s with
    | none => []
    | some b => (List.range (min 64 (fld b 7 1))).map (fun r => (0x10 + r, 3, bsub b (0x200 + 72 * r + 8) 64))
  let newest := match newestRecord s with
    | none => []
    | some b => [(6, 3, bsub b 0x130 64)]
  [(1, 0, padTo 64 Config.romMeasurement), (2, 1, rotMeasurement s), (3, 1, padTo 64 s.fw.appMeas),
   (4, 7, [s.fw.rotSvn, s.fw.appSvn]), (5, 5, toLe 1 (lcReport s) ++ toLe 4 (svcStatus s))] ++ newest ++
  [(7, 2, sha3_512 (bankImage (activeBank s)))] ++ (if s.plat.brecSeq = 0 then [] else [(8, 9, padTo 64 s.plat.prevHash)]) ++ regions

def blockBytes (b : Nat × Nat × Bytes) : Bytes :=
  toLe 1 b.1 ++ [1] ++ toLe 2 (b.2.2.length + 3) ++ toLe 1 b.2.1 ++ toLe 2 b.2.2.length ++ b.2.2

/-- A large response waits for CHUNK_GET; a smaller one is answered at once (R349). -/
def answerLarge (src : SpdmSource) (req : Bytes) (code : Nat) (payload : Bytes) (s : State) : State :=
  if payload.length + 2 ≤ 4096 then answer src req code payload s
  else
    let h := s.mbus.nextChunk
    let ch : Chunking := { eid := src.eid, handle := h, data := toLe 1 code ++ payload, next := 0, size := payload.length + 1 }
    busSend src.port.val (.spdm src.port.val src.eid 0x7F [0x0F, 0, h])
      (modMbus (fun m => { m with nextChunk := h + 1, chunksOut := m.chunksOut.filter (fun y => !(y.eid == src.eid)) ++ [ch] }) s)

/-- Index 0 asks for the count, 0xFF for every block. -/
def doMeasurements (src : SpdmSource) (index : BitVec 8) (nonce : Bytes) (s : State) : State :=
  whenAgreed src (fun s =>
    let all := measurementBlocks s
    let sel := if index = 0 then [] else if index = 0xFF then all else all.filter (fun b => b.1 == index.toNat)
    if index != 0 && sel.isEmpty then spdmError src errInvalid s
    else
      let req : Bytes := [0xE0, index] ++ padTo 32 nonce
      let (n, s) := islandDraw 32 s
      let recs := (sel.map blockBytes).flatten
      let body := [BitVec.ofNat 8 (if index = 0 then all.length else 0), 0] ++ toLe 1 sel.length ++ toLe 3 recs.length ++ recs ++ n ++ zeros 2
      let (sig, s) := signed src req body s
      answerLarge src req 0x60 (body ++ padTo 96 sig) s) s

/-! ## SPDM: sessions (R348, R349, R353) -/

/-- KEY_EXCHANGE: up to four sessions, mutual authentication asked for while an anchor stands. -/
def doKeyExchange (src : SpdmSource) (reqSession : BitVec 16) (exchange : Bytes) (s : State) : State :=
  whenAgreed src (fun s =>
    if 4 ≤ s.mbus.sessions.length then spdmError src errSessions s
    else
      let rsp := s.mbus.nextSession
      let id : BitVec 32 := rsp ++ reqSession
      let req : Bytes := [0xE4] ++ toLe 2 reqSession.toNat ++ exchange
      let (sec, s) := islandDraw 48 s
      let (rnd, s) := islandDraw 32 s
      let body := [60, 0] ++ toLe 2 rsp.toNat ++ [if mbusAnchorSet s then 1 else 0, 0] ++ rnd ++ (Config.publicOf 0x41 sec).drop 1 ++ zeros 2
      let (sig, s) := signed src req body s
      let x : SpdmSession := { id := id, eid := src.eid, port := src.port.val, handshake := true, known := false, chain := [], reqKey := 0,
                               rspKey := 0, lastNs := s.clk.ns, lastSeq := 0, ended := false }
      let s := modMbus (fun m => { m with sessions := m.sessions ++ [x], nextSession := m.nextSession + 1 }) s
      answer src req 0x64 (body ++ padTo 96 sig ++ Config.spdmMac (logOf s src.eid ++ req) body) s) s

/-- Whether a FINISH authenticates: its verify data stands and, while an anchor stands, its chain ends in one and its signature
verifies under the leaf. -/
def finishOk (s : State) (eid : BitVec 8) (chain signature verify : Bytes) : Bool :=
  verify == Config.spdmMac (logOf s eid) (chain ++ signature) &&
  (!mbusAnchorSet s || ((mbusAnchors s.mbus.config).any (fun a => Config.chainVerifies a chain) &&
                        Config.spdmVerify (Config.chainKey chain) (logOf s eid) signature))

def doFinish (src : SpdmSource) (chain signature verify : Bytes) (s : State) : State :=
  match sourceSession s src with
  | none => s
  | some x =>
    if finishOk s x.eid chain signature verify then
      let known := mbusAnchorSet s
      let s := modSpdm x.id (fun y => { y with handshake := false, known := known, chain := if known then chain else [] }) s
      let s := if known then modMbus (fun m => { m with strangers := m.strangers.filter (fun y => !(y.eid == x.eid)) }) s else s
      answer src ([0xE5] ++ chain ++ signature ++ verify) 0x65 (zeros 2) s
    else
      let s := modMbus (fun m => { m with authFail := satAdd 32 m.authFail 1 }) (dropSessions [x] s)
      spdmError src errDecrypt s

def doHeartbeat (src : SpdmSource) (s : State) : State := busSend src.port.val (.spdm src.port.val src.eid 0x68 (zeros 2)) s

/-- KEY_UPDATE: 1 the requester's key, 2 both keys, 3 verifies the new key. -/
def doKeyUpdate (src : SpdmSource) (op tag : BitVec 8) (s : State) : State :=
  if op = 0 || 3 < op.toNat then spdmError src errInvalid s
  else
    let s := match src.session with
      | none => s
      | some id => modSpdm id (fun x => { x with reqKey := x.reqKey + (if op = 3 then 0 else 1), rspKey := x.rspKey + (if op = 2 then 1 else 0) }) s
    busSend src.port.val (.spdm src.port.val src.eid 0x69 [op, tag]) s

/-- END_SESSION. -/
def doEndSession (src : SpdmSource) (s : State) : State :=
  match sourceSession s src with
  | none => s
  | some x => dropSessions [x] (busSend src.port.val (.spdm src.port.val src.eid 0x6C (zeros 2)) s)

/-! ## Commands over a session (R352, R353) -/

def pciSig : BitVec 16 := 3
/-- The module's PCIe Vendor ID (R38). -/
def ownVendor : BitVec 16 := 0x1FA7

/-- The request a session carries. -/
def busReq (x : SpdmSession) (header payload : Bytes) : Req :=
  { fn := 0, ring := busRing, part := 0, header := header, payload := payload, frags := [payload.length], outs := [(0, 8388608)],
    readError := false, session := some x.id }

/-- The header R352 asks for. -/
def busHeaderOk (x : SpdmSession) (r : Req) : Bool :=
  headerOk r && r.partField == 0 && r.ringField == busRing && r.genField == 0 && r.descCount == 0 && decide (x.lastSeq.toNat < r.seq.toNat)

/-- A refusal over the session: it raises the partition's quorum counter, and no function's. -/
def busRefuse (x : SpdmSession) (r : Req) (st : Status) (s : State) : State :=
  let s := if st = stQuorum then bumpPart 0 cQuorumIncomplete s else s
  sendSession x (busCompletion s r.seq st 0) [] s

/-- What a session opened without authentication may run (R348). -/
def openList : List Nat := [0x1001, 0x1002, 0x1003, 0x100B, 0x100C, 0x0101]

/-- Which check refuses the command, or how it is admitted. None is accepted before the rank that holds the journals is trained (R27);
what answers it then is a DESIGN CHOICE, log entry 121. -/
def busCheck (x : SpdmSession) (r : Req) (s : State) : Option Status :=
  if !busHeaderOk x r then some stBadHeader
  else match opSpec r.opcode with
    | none => some stBadHeader
    | some o => firstFail
        [ need (phaseServes s o r.opcode && s.svc.rank0) stServiceReduced,
          need (lengthOk s o r) stLength,
          need (o.onBus && (x.known || openList.contains r.opcode)) stPolicyDenied,
          check8 s o r,
          check9 s o r ]

/-- VENDOR_DEFINED_REQUEST: nothing is accepted once a life-cycle intent stands (R360). -/
def doVendor (src : SpdmSource) (standard vendor : BitVec 16) (header payload : Bytes) (s : State) : State :=
  match sourceSession s src with
  | none => s
  | some x =>
    if standard != pciSig || vendor != ownVendor || header.length != 64 then spdmError src errInvalid s
    else if s.life.fenced then s
    else
      let r := busReq x header payload
      match busCheck x r s with
      | some st => busRefuse x r st s
      | none => match opSpec r.opcode with
        | none => s
        | some o => accept o r (modSpdm x.id (fun y => { y with lastSeq := r.seq }) s)

/-! ## Chunks (R349) -/

/-- CHUNK_GET: the next part of a large response. The first part carries the whole size. -/
def doChunkGet (src : SpdmSource) (handle : BitVec 8) (seqNo : BitVec 16) (s : State) : State :=
  match s.mbus.chunksOut.find? (fun c => c.eid == src.eid && c.handle == handle) with
  | none => spdmError src errInvalid s
  | some c =>
    if seqNo.toNat != c.next then spdmError src errInvalid s
    else
      let n := if c.next = 0 then 4080 else 4084
      let part := c.data.take n
      let rest := c.data.drop n
      let body := toLe 1 (b2n rest.isEmpty) ++ [handle] ++ toLe 2 c.next ++ zeros 2 ++ toLe 4 part.length ++
                  (if c.next = 0 then toLe 4 c.size else []) ++ part
      let c' : Chunking := { c with data := rest, next := c.next + 1 }
      let keep := s.mbus.chunksOut.filter (fun y => !(y.eid == src.eid && y.handle == handle))
      busSend src.port.val (.spdm src.port.val src.eid 0x06 body)
        (modMbus (fun m => { m with chunksOut := keep ++ (if rest.isEmpty then [] else [c']) }) s)

/-- Serve one whole SPDM request, by its code; a code of no request of R349 is unsupported. -/
def serveMessage (src : SpdmSource) (m : Bytes) (s : State) : State :=
  match fld m 1 1 with
  | 0x84 => serve src .anyone (doGetVersion src) s
  | 0xE1 => serve src .anyone (doCapabilities src (BitVec.ofNat 32 (fld m 8 4))) s
  | 0xE3 =>
    let at_ (i : Nat) : Nat := 32 + 4 * (fld m 28 1 + fld m 29 1 + i)
    let t (k : Nat) : Nat := (((List.range (fld m 2 1)).filter (fun i => fld m (at_ i) 1 == k)).map (fun i => fld m (at_ i + 2) 2)).headD 0
    serve src .anyone (doNegotiate src { baseAsym := fld m 8 4, baseHash := fld m 12 4, measHash := 0, dhe := t 2, aead := t 3, reqAsym := t 4, keySched := t 5 }) s
  | 0x81 => serve src .anyone (doDigests src) s
  | 0x82 => serve src .anyone (doCertificate src (fld m 2 1 % 16) (fld m 4 2) (fld m 6 2)) s
  | 0x83 => serve src .known (doChallenge src (fld m 2 1) (bsub m 4 32)) s
  | 0xE0 => serve src .known (doMeasurements src (BitVec.ofNat 8 (fld m 3 1)) (bsub m 4 32)) s
  | 0xE4 => serve src .anyone (doKeyExchange src (BitVec.ofNat 16 (fld m 4 2)) (bsub m 40 96)) s
  | 0xE8 => serve src .session (doHeartbeat src) s
  | 0xE9 => serve src .session (doKeyUpdate src (BitVec.ofNat 8 (fld m 2 1)) (BitVec.ofNat 8 (fld m 3 1))) s
  | 0xEC => serve src .session (doEndSession src) s
  | 0xFE => serve src .session (doVendor src (BitVec.ofNat 16 (fld m 4 2)) (BitVec.ofNat 16 (fld m 7 2)) (bsub m 11 64) (bsub m 75 (fld m 9 2 - 64))) s
  | _ => serve src .known (spdmError src errUnsupported) s

/-- CHUNK_SEND: the parts of one request in order; the last one serves it. -/
def doChunkSend (src : SpdmSource) (handle : BitVec 8) (seqNo : BitVec 16) (last : Bool) (size : Nat) (data : Bytes) (s : State) : State :=
  let old := s.mbus.chunksIn.find? (fun c => c.eid == src.eid && c.handle == handle)
  let c : Chunking := if seqNo = 0 then { eid := src.eid, handle := handle, data := [], next := 0, size := size }
    else old.getD { eid := src.eid, handle := handle, data := [], next := 0, size := 0 }
  let whole := c.data ++ data
  let s := modMbus (fun m => { m with chunksIn := m.chunksIn.filter (fun y => !(y.eid == src.eid && y.handle == handle)) }) s
  if seqNo.toNat != c.next || 4096 < data.length + 12 || 65536 < c.size || c.size < whole.length || (last && whole.length != c.size) then
    spdmError src errInvalid s
  else
    let s := busSend src.port.val (.spdm src.port.val src.eid 0x05 ([0, handle] ++ toLe 2 seqNo.toNat)) s
    if last then serveMessage src whole s
    else modMbus (fun m => { m with chunksIn := m.chunksIn ++ [{ c with data := whole, next := c.next + 1 }] }) s

/-! ## MCTP packets (R344, R345) -/

/-- A complete message, by its type. A secured message's content is the row that follows it; here only its session is looked up. -/
def mctpMessage (port : Fin 3) (src : BitVec 8) (m : Bytes) (s : State) : State :=
  match fld m 0 1 with
  | 0 => match fld m 2 1 with
    | 1 => if 2 ≤ fld m 3 1 then control port.val 1 [2] s else setEid port.val (BitVec.ofNat 8 (fld m 4 1)) s
    | 2 => getEid port.val s
    | 3 => getUuid port.val s
    | 4 => getMctpVersions port.val s
    | 5 => getTypes port.val s
    | c => control port.val c [5] s
  | 5 =>
    let x : SpdmSource := { port := port, eid := src, session := none }
    let b := m.drop 1
    if fld b 1 1 = 0x85 then
      let first := fld b 4 2 == 0
      serve x .known (doChunkSend x (BitVec.ofNat 8 (fld b 3 1)) (BitVec.ofNat 16 (fld b 4 2)) (bit (fld b 2 1) 0)
        (if first then fld b 12 4 else 0) (bsub b (if first then 16 else 12) (fld b 8 4))) s
    else if fld b 1 1 = 0x86 then serve x .known (doChunkGet x (BitVec.ofNat 8 (fld b 3 1)) (BitVec.ofNat 16 (fld b 4 2))) s
    else serveMessage x b s
  | _ => if s.mbus.sessions.any (fun x => x.id.toNat == fld m 1 4) then s else strayMessage s

def typeKnown (b : Bytes) : Bool := fld b 0 1 == 0 || fld b 0 1 == 5 || fld b 0 1 == 6

/-- The buffer of a message under way, and the lowest free one. -/
def bufferOf (s : State) (port : Nat) (src : BitVec 8) (tag : BitVec 4) : Option Nat :=
  (List.range 8).find? (fun k => match s.mbus.buffers.look k with
    | none => false | some b => b.port == port && b.src == src && b.tag == tag)
def freeBuffer (s : State) : Option Nat := (List.range 8).find? (fun k => (s.mbus.buffers.look k).isNone)

def dropBuffer (k : Nat) (s : State) : State := modMbus (fun m => { m with buffers := m.buffers.del k }) s

/-- Put a packet's bytes into a buffer, and serve the message when it is whole. -/
def takePacket (port : Fin 3) (k : Nat) (b : Reasm) (eom : Bool) (s : State) : State :=
  if 4096 < b.data.length then dropBuffer k s
  else if eom then mctpMessage port b.src b.data (dropBuffer k s)
  else modMbus (fun m => { m with buffers := m.buffers.put k b }) s

/-- A first packet. -/
def startMessage (port : Fin 3) (src : BitVec 8) (tag : BitVec 4) (seq : BitVec 2) (eom : Bool) (body : Bytes) (s : State) : State :=
  let s := match bufferOf s port.val src tag with | none => s | some k => dropBuffer k s
  if !typeKnown body then busFault port.val (countPec port.val s)
  else match freeBuffer s with
    | none => countArb port.val s
    | some k => takePacket port k { port := port.val, src := src, tag := tag, next := seq + 1, data := body, lastNs := s.clk.ns } eom s

/-- 100 ms, in nanoseconds. -/
def packetGap : Nat := 100000000

/-- A later packet. -/
def nextPacket (port : Fin 3) (src : BitVec 8) (tag : BitVec 4) (seq : BitVec 2) (eom : Bool) (body : Bytes) (s : State) : State :=
  match bufferOf s port.val src tag with
  | none => s
  | some k => match s.mbus.buffers.look k with
    | none => s
    | some b =>
      if b.next != seq || b.lastNs + packetGap < s.clk.ns then dropBuffer k s
      else takePacket port k { b with next := seq + 1, data := b.data ++ body, lastNs := s.clk.ns } eom s

/-- MCTP_PACKET (R344, R345). -/
def execMctpPacket (port : Fin 3) (src dst : BitVec 8) (som eom : Bool) (seq : BitVec 2) (tag : BitVec 4) (body : Bytes) (s : State) : Res :=
  guarded (portServes s port.val && decide (body.length ≤ 64) && (dst == s.mbus.eid || dst == 0 || dst == 0xFF))
    (fun s => if som then startMessage port src tag seq eom body s else nextPacket port src tag seq eom body s) s

/-- MCTP_REASSEMBLY_TIMEOUT (R345). -/
def execMctpReassemblyTimeout (k : Fin 8) (s : State) : Res :=
  match s.mbus.buffers.look k.val with
  | none => .next s
  | some b => guarded (decide (b.lastNs + packetGap < s.clk.ns)) (dropBuffer k.val) s

/-! ## The rows of MCTP and SPDM -/

/-- SET_ENDPOINT_ID (R344). -/
def execSetEndpointId (port : Fin 3) (eid : BitVec 8) (s : State) : Res := guarded (portServes s port.val) (setEid port.val eid) s
/-- GET_ENDPOINT_ID (R344). -/
def execGetEndpointId (port : Fin 3) (s : State) : Res := guarded (portServes s port.val) (getEid port.val) s
/-- GET_ENDPOINT_UUID (R344). -/
def execGetEndpointUuid (port : Fin 3) (s : State) : Res := guarded (portServes s port.val) (getUuid port.val) s
/-- GET_MCTP_VERSION_SUPPORT (R344). -/
def execGetMctpVersionSupport (port : Fin 3) (s : State) : Res := guarded (portServes s port.val) (getMctpVersions port.val) s
/-- GET_MESSAGE_TYPE_SUPPORT (R344). -/
def execGetMessageTypeSupport (port : Fin 3) (s : State) : Res := guarded (portServes s port.val) (getTypes port.val) s

/-- GET_VERSION (R349). -/
def execGetVersion (src : SpdmSource) (s : State) : Res := .next (serve src .anyone (doGetVersion src) s)
/-- GET_CAPABILITIES (R349). -/
def execGetCapabilities (src : SpdmSource) (flags : BitVec 32) (s : State) : Res := .next (serve src .anyone (doCapabilities src flags) s)
/-- NEGOTIATE_ALGORITHMS (R349). -/
def execNegotiateAlgorithms (src : SpdmSource) (baseAsym baseHash measHash dhe aead reqAsym keySched : BitVec 32) (s : State) : Res :=
  let o : AlgOffer := { baseAsym := baseAsym.toNat, baseHash := baseHash.toNat, measHash := measHash.toNat, dhe := dhe.toNat,
                        aead := aead.toNat, reqAsym := reqAsym.toNat, keySched := keySched.toNat }
  .next (serve src .anyone (doNegotiate src o) s)
/-- GET_DIGESTS (R350). -/
def execGetDigests (src : SpdmSource) (s : State) : Res := .next (serve src .anyone (doDigests src) s)
/-- GET_CERTIFICATE (R350). -/
def execGetCertificate (src : SpdmSource) (slot offset length : Nat) (s : State) : Res :=
  .next (serve src .anyone (doCertificate src slot offset length) s)
/-- CHALLENGE (R348, R349). -/
def execChallenge (src : SpdmSource) (slot : Nat) (nonce : Bytes) (s : State) : Res := .next (serve src .known (doChallenge src slot nonce) s)
/-- GET_MEASUREMENTS (R351). -/
def execGetMeasurements (src : SpdmSource) (index : BitVec 8) (nonce : Bytes) (s : State) : Res :=
  .next (serve src .known (doMeasurements src index nonce) s)
/-- KEY_EXCHANGE (R348, R349). -/
def execKeyExchange (src : SpdmSource) (reqSession : BitVec 16) (exchange : Bytes) (s : State) : Res :=
  .next (serve src .anyone (doKeyExchange src reqSession exchange) s)
/-- FINISH (R348). -/
def execFinish (src : SpdmSource) (chain signature verify : Bytes) (s : State) : Res :=
  .next (serve src .handshake (doFinish src chain signature verify) s)
/-- SPDM_HEARTBEAT (R349). -/
def execSpdmHeartbeat (src : SpdmSource) (s : State) : Res := .next (serve src .session (doHeartbeat src) s)
/-- KEY_UPDATE (R349). -/
def execKeyUpdate (src : SpdmSource) (op tag : BitVec 8) (s : State) : Res := .next (serve src .session (doKeyUpdate src op tag) s)
/-- END_SESSION (R353). -/
def execEndSession (src : SpdmSource) (s : State) : Res := .next (serve src .session (doEndSession src) s)
/-- VENDOR_DEFINED_REQUEST (R352). -/
def execVendorDefinedRequest (src : SpdmSource) (standard vendor : BitVec 16) (header payload : Bytes) (s : State) : Res :=
  .next (serve src .session (doVendor src standard vendor header payload) s)

/-- Who may use chunks: a known endpoint, or an established session. -/
def chunkAudience (src : SpdmSource) : Audience := if src.session.isSome then .session else .known
/-- CHUNK_SEND (R349). -/
def execChunkSend (src : SpdmSource) (handle : BitVec 8) (seqNo : BitVec 16) (last : Bool) (size : Nat) (data : Bytes) (s : State) : Res :=
  .next (serve src (chunkAudience src) (doChunkSend src handle seqNo last size data) s)
/-- CHUNK_GET (R349). -/
def execChunkGet (src : SpdmSource) (handle : BitVec 8) (seqNo : BitVec 16) (s : State) : Res :=
  .next (serve src (chunkAudience src) (doChunkGet src handle seqNo) s)

/-- SPDM_HEARTBEAT_TIMEOUT (R349): 60 s without a message. -/
def execSpdmHeartbeatTimeout (id : BitVec 32) (s : State) : Res :=
  match s.mbus.sessions.find? (fun x => x.id == id) with
  | none => .next s
  | some x => guarded (decide (x.lastNs + 60000000000 ≤ s.clk.ns)) (dropSessions [x]) s

/-! ## Bus events (R343, R346) -/

/-- BUS_ARB_LOST (R346): the island's mask stream picks the delay in 0 to 2^a × 64 µs; the eighth loss is one transient failure. `used` bytes
of the stream have gone to the island's own masks since its last draw. -/
def arbLost (n used : Nat) (s : State) : State :=
  let s := countArb n s
  let a := (busPort s n).losses + 1
  if 8 ≤ a then busFault n (modBus n (fun p => { p with losses := 0, backoff := none }) s)
  else
    let (b, s) := islandMask 8 (islandMask used s).2
    modBus n (fun p => { p with losses := a, backoff := some (s.clk.ns + leNat b % (2 ^ a * 64000 + 1)) }) s
def execBusArbLost (port : Fin 3) (used : Nat) (s : State) : Res := guarded (portServes s port.val) (arbLost port.val used) s

/-- BUS_BACKOFF_END (R346): the transfer is tried again. -/
def execBusBackoffEnd (port : Fin 3) (s : State) : Res :=
  match (busPort s port.val).backoff with
  | none => .next s
  | some t => guarded (decide (t ≤ s.clk.ns)) (fun s => emit (.bus port.val "retry") (modBus port.val (fun p => { p with backoff := none }) s)) s

/-- BUS_PEC_ERROR (R346): the packet is discarded. -/
def execBusPecError (port : Fin 3) (s : State) : Res :=
  guarded (portServes s port.val) (fun s => busFault port.val (countPec port.val s)) s

/-- A failed packet is sent again, three times at most (R346). -/
def resend (n : Nat) (s : State) : State :=
  if (busPort s n).retries < 3 then emit (.bus n "resend") (modBus n (fun p => { p with retries := p.retries + 1 }) s)
  else modBus n (fun p => { p with retries := 0 }) s

/-- BUS_NO_ACK (R346). -/
def execBusNoAck (port : Fin 3) (s : State) : Res :=
  guarded (portServes s port.val && port.val == 2) (fun s => busFault port.val (resend port.val (countStuck port.val s))) s

/-- BUS_SCL_STUCK (R346). -/
def execBusSclStuck (port : Fin 3) (s : State) : Res :=
  guarded (portServes s port.val && port.val == 2) (fun s => busFault port.val (emit (.bus port.val "release") (countStuck port.val s))) s

/-- BUS_SDA_STUCK (R346): nine clocks and a STOP; `freed` tells whether SDA is high then, and if not the transfer fails. -/
def execBusSdaStuck (port : Fin 3) (freed : Bool) (s : State) : Res :=
  guarded (portServes s port.val && port.val == 2) (fun s =>
    let s := emit (.bus port.val "nine clocks and STOP") (countStuck port.val s)
    busFault port.val (if freed then s else emit (.bus port.val "transfer failed") (modBus port.val (fun p => { p with retries := 0 }) s))) s

/-- I3C_SDA_STUCK (R346). -/
def execI3cSdaStuck (port : Fin 3) (s : State) : Res :=
  guarded (portServes s port.val && decide (port.val < 2)) (fun s => busFault port.val (emit (.bus port.val "release") (countStuck port.val s))) s

/-- I3C_TARGET_RESET (R343): the logic of that port alone: its address, its backoff and its partial messages. -/
def resetPortLogic (n : Nat) (s : State) : State :=
  modMbus (fun m => { m with buffers := m.buffers.filter (fun e => e.2.port != n) })
    (modBus n (fun p => { p with losses := 0, backoff := none, retries := 0, dynAddr := none }) s)
def execI3cTargetReset (port : Fin 3) (s : State) : Res := guarded (portServes s port.val && decide (port.val < 2)) (resetPortLogic port.val) s

/-- ENTDAA (R343). -/
def execEntdaa (port : Fin 3) (addr : BitVec 7) (s : State) : Res :=
  guarded (portServes s port.val && decide (port.val < 2)) (modBus port.val (fun p => { p with dynAddr := some addr })) s

/-! ## Configuration (R354) -/

/-- MBUS_CONFIG_SET (R354): it takes effect when it completes. -/
def execMbusConfigSet (r : CmdRef) (s : State) : Res := runAccepted 0x100B (adminRun ownMbusSet (fun _ s => s) zeroReply) noReply r s

def runMbusGet : Effect := fun _ s => ends s stOk (padTo 144 s.mbus.config)
/-- MBUS_CONFIG_GET (R354). -/
def execMbusConfigGet (r : CmdRef) (s : State) : Res := runAccepted 0x100C runMbusGet noReply r s

end Sys2Proof.Machine
end

