-- ==== Sys2Proof/Machine/Dispatch.lean ====
section
/-! DEFINITION. The meaning of every command: one direct call per row of spec/opcode_table.json. -/

namespace Sys2Proof.Machine

def exec (i : Instr) (s : State) : Host.Outcome State Fault Refusal :=
  match i with
  | .powerOn feedA feedB => Sys2Proof.Machine.execPowerOn feedA feedB s
  | .pllLock => Sys2Proof.Machine.execPllLock s
  | .pllLockTimeout => Sys2Proof.Machine.execPllLockTimeout s
  | .islandClockSwitch => Sys2Proof.Machine.execIslandClockSwitch s
  | .clockCheck count lockLost => Sys2Proof.Machine.execClockCheck count lockLost s
  | .lcRollForward => Sys2Proof.Machine.execLcRollForward s
  | .tamperCompletion => Sys2Proof.Machine.execTamperCompletion s
  | .romBoot readableA readableB => Sys2Proof.Machine.execRomBoot readableA readableB s
  | .dawnEntry badRecords => Sys2Proof.Machine.execDawnEntry badRecords s
  | .rankTrained ok => Sys2Proof.Machine.execRankTrained ok s
  | .retainedAppRecheck => Sys2Proof.Machine.execRetainedAppRecheck s
  | .appStartReport => Sys2Proof.Machine.execAppStartReport s
  | .appStartTimeout => Sys2Proof.Machine.execAppStartTimeout s
  | .enterClear => Sys2Proof.Machine.execEnterClear s
  | .clearTimeout => Sys2Proof.Machine.execClearTimeout s
  | .warmReset cause => Sys2Proof.Machine.execWarmReset cause s
  | .powerFail => Sys2Proof.Machine.execPowerFail s
  | .feedChange feedA feedB => Sys2Proof.Machine.execFeedChange feedA feedB s
  | .perstNAssert => Sys2Proof.Machine.execPerstNAssert s
  | .perstNDeassert => Sys2Proof.Machine.execPerstNDeassert s
  | .functionLevelReset fn => Sys2Proof.Machine.execFunctionLevelReset fn s
  | .vfEnableClear => Sys2Proof.Machine.execVfEnableClear s
  | .halfReadLatch fn word => Sys2Proof.Machine.execHalfReadLatch fn word s
  | .registerWrite fn bar off size val => Sys2Proof.Machine.execRegisterWrite fn bar off size val s
  | .fnIrqMaskWrite fn val => Sys2Proof.Machine.execFnIrqMaskWrite fn val s
  | .fltMaskWrite val => Sys2Proof.Machine.execFltMaskWrite val s
  | .sqTailWrite fn ring size val => Sys2Proof.Machine.execSqTailWrite fn ring size val s
  | .cqHeadWrite fn ring size val => Sys2Proof.Machine.execCqHeadWrite fn ring size val s
  | .ringEnable fn ring val => Sys2Proof.Machine.execRingEnable fn ring val s
  | .ringDisable fn ring val => Sys2Proof.Machine.execRingDisable fn ring val s
  | .jnlIndexWrite fn val => Sys2Proof.Machine.execJnlIndexWrite fn val s
  | .trcEnableWrite val => Sys2Proof.Machine.execTrcEnableWrite val s
  | .trcReadWrite val => Sys2Proof.Machine.execTrcReadWrite val s
  | .pmWinWrite limit off size val => Sys2Proof.Machine.execPmWinWrite limit off size val s
  | .fetchEntry fn ring sub => Sys2Proof.Machine.execFetchEntry fn ring sub s
  | .drawSeedGenerate part => Sys2Proof.Machine.execDrawSeedGenerate part s
  | .unitFreeDispatch unit => Sys2Proof.Machine.execUnitFreeDispatch unit s
  | .itemHoldLapse cmd item => Sys2Proof.Machine.execItemHoldLapse cmd item s
  | .itemReady2us cmd item => Sys2Proof.Machine.execItemReady2us cmd item s
  | .creditTick => Sys2Proof.Machine.execCreditTick s
  | .keyLoadDone cmd item load codeOk => Sys2Proof.Machine.execKeyLoadDone cmd item load codeOk s
  | .keyUnwrapDone cmd item load tagOk => Sys2Proof.Machine.execKeyUnwrapDone cmd item load tagOk s
  | .itemEnd cmd item outcome => Sys2Proof.Machine.execItemEnd cmd item outcome s
  | .versionZeroise part key version => Sys2Proof.Machine.execVersionZeroise part key version s
  | .backingDurable cmd => Sys2Proof.Machine.execBackingDurable cmd s
  | .completionDue cmd => Sys2Proof.Machine.execCompletionDue cmd s
  | .coalTimer ring => Sys2Proof.Machine.execCoalTimer ring s
  | .traceTimeMark => Sys2Proof.Machine.execTraceTimeMark s
  | .sessionIdleTimeout index => Sys2Proof.Machine.execSessionIdleTimeout index s
  | .domainDrainDone domain => Sys2Proof.Machine.execDomainDrainDone domain s
  | .domainDrainTimeout domain => Sys2Proof.Machine.execDomainDrainTimeout domain s
  | .domainKatDone domain failed => Sys2Proof.Machine.execDomainKatDone domain failed s
  | .rngStartupVerdict lower upper => Sys2Proof.Machine.execRngStartupVerdict lower upper s
  | .rngHealthFail source samples => Sys2Proof.Machine.execRngHealthFail source samples s
  | .seedReady samples => Sys2Proof.Machine.execSeedReady samples s
  | .moduleInstanceReseed => Sys2Proof.Machine.execModuleInstanceReseed s
  | .maskReseed => Sys2Proof.Machine.execMaskReseed s
  | .rngReadTimeout part => Sys2Proof.Machine.execRngReadTimeout part s
  | .slotScrub failed => Sys2Proof.Machine.execSlotScrub failed s
  | .mwkRewrapEnd => Sys2Proof.Machine.execMwkRewrapEnd s
  | .patrolScrub lines => Sys2Proof.Machine.execPatrolScrub lines s
  | .rankRetrain rank ok => Sys2Proof.Machine.execRankRetrain rank ok s
  | .vaultRebuildEnd unreadable => Sys2Proof.Machine.execVaultRebuildEnd unreadable s
  | .horizonCheckpoint => Sys2Proof.Machine.execHorizonCheckpoint s
  | .crystalCheck deviationPpm stopped => Sys2Proof.Machine.execCrystalCheck deviationPpm stopped s
  | .meshSample loop ohms crossed => Sys2Proof.Machine.execMeshSample loop ohms crossed s
  | .channelSample ch value => Sys2Proof.Machine.execChannelSample ch value s
  | .tamperCauseFire cause loop => Sys2Proof.Machine.execTamperCauseFire cause loop s
  | .tamperResponseEnd => Sys2Proof.Machine.execTamperResponseEnd s
  | .envelopeRecompute loads => Sys2Proof.Machine.execEnvelopeRecompute loads s
  | .calibrationDone point meanTemp => Sys2Proof.Machine.execCalibrationDone point meanTemp s
  | .platformBoot => Sys2Proof.Machine.execPlatformBoot s
  | .pgInRise n => Sys2Proof.Machine.execPgInRise n s
  | .pgWaitTimeout => Sys2Proof.Machine.execPgWaitTimeout s
  | .seqDelayEnd => Sys2Proof.Machine.execSeqDelayEnd s
  | .manifestReadDone alternate bytes => Sys2Proof.Machine.execManifestReadDone alternate bytes s
  | .regionHashDone bmc digests sources rereads => Sys2Proof.Machine.execRegionHashDone bmc digests sources rereads s
  | .bootRecordDurable => Sys2Proof.Machine.execBootRecordDurable s
  | .hostRelease => Sys2Proof.Machine.execHostRelease s
  | .platformResetAssert => Sys2Proof.Machine.execPlatformResetAssert s
  | .remeasureRegionDone region digest => Sys2Proof.Machine.execRemeasureRegionDone region digest s
  | .lensTransaction txn => Sys2Proof.Machine.execLensTransaction txn s
  | .lensTransactionEnd master port => Sys2Proof.Machine.execLensTransactionEnd master port s
  | .loaderHelloTimer => Sys2Proof.Machine.execLoaderHelloTimer s
  | .loaderBegin length crcOk => Sys2Proof.Machine.execLoaderBegin length crcOk s
  | .loaderData offset data crcOk => Sys2Proof.Machine.execLoaderData offset data crcOk s
  | .loaderEnd crcOk => Sys2Proof.Machine.execLoaderEnd crcOk s
  | .loaderFrameTimeout => Sys2Proof.Machine.execLoaderFrameTimeout s
  | .mctpPacket port src dst som eom seq tag body => Sys2Proof.Machine.execMctpPacket port src dst som eom seq tag body s
  | .mctpReassemblyTimeout buffer => Sys2Proof.Machine.execMctpReassemblyTimeout buffer s
  | .setEndpointId port eid => Sys2Proof.Machine.execSetEndpointId port eid s
  | .getEndpointId port => Sys2Proof.Machine.execGetEndpointId port s
  | .getEndpointUuid port => Sys2Proof.Machine.execGetEndpointUuid port s
  | .getMctpVersionSupport port => Sys2Proof.Machine.execGetMctpVersionSupport port s
  | .getMessageTypeSupport port => Sys2Proof.Machine.execGetMessageTypeSupport port s
  | .getVersion src => Sys2Proof.Machine.execGetVersion src s
  | .getCapabilities src flags => Sys2Proof.Machine.execGetCapabilities src flags s
  | .negotiateAlgorithms src baseAsym baseHash measHash dhe aead reqAsym keySched => Sys2Proof.Machine.execNegotiateAlgorithms src baseAsym baseHash measHash dhe aead reqAsym keySched s
  | .getDigests src => Sys2Proof.Machine.execGetDigests src s
  | .getCertificate src slot offset length => Sys2Proof.Machine.execGetCertificate src slot offset length s
  | .challenge src slot nonce => Sys2Proof.Machine.execChallenge src slot nonce s
  | .getMeasurements src index nonce => Sys2Proof.Machine.execGetMeasurements src index nonce s
  | .keyExchange src reqSession exchange => Sys2Proof.Machine.execKeyExchange src reqSession exchange s
  | .finish src chain signature verify => Sys2Proof.Machine.execFinish src chain signature verify s
  | .spdmHeartbeat src => Sys2Proof.Machine.execSpdmHeartbeat src s
  | .keyUpdate src op tag => Sys2Proof.Machine.execKeyUpdate src op tag s
  | .endSession src => Sys2Proof.Machine.execEndSession src s
  | .vendorDefinedRequest src standard vendor header payload => Sys2Proof.Machine.execVendorDefinedRequest src standard vendor header payload s
  | .busArbLost port used => Sys2Proof.Machine.execBusArbLost port used s
  | .busBackoffEnd port => Sys2Proof.Machine.execBusBackoffEnd port s
  | .busPecError port => Sys2Proof.Machine.execBusPecError port s
  | .busNoAck port => Sys2Proof.Machine.execBusNoAck port s
  | .busSclStuck port => Sys2Proof.Machine.execBusSclStuck port s
  | .busSdaStuck port freed => Sys2Proof.Machine.execBusSdaStuck port freed s
  | .i3cSdaStuck port => Sys2Proof.Machine.execI3cSdaStuck port s
  | .i3cTargetReset port => Sys2Proof.Machine.execI3cTargetReset port s
  | .entdaa port addr => Sys2Proof.Machine.execEntdaa port addr s
  | .tapReset => Sys2Proof.Machine.execTapReset s
  | .idcode => Sys2Proof.Machine.execIdcode s
  | .bypass => Sys2Proof.Machine.execBypass s
  | .samplePreload contacts => Sys2Proof.Machine.execSamplePreload contacts s
  | .extest scan => Sys2Proof.Machine.execExtest scan s
  | .clamp => Sys2Proof.Machine.execClamp s
  | .highz => Sys2Proof.Machine.execHighz s
  | .dbgStatus => Sys2Proof.Machine.execDbgStatus s
  | .dbgChallenge => Sys2Proof.Machine.execDbgChallenge s
  | .dbgResponse header keyBlock signature => Sys2Proof.Machine.execDbgResponse header keyBlock signature s
  | .debugChallengeExpiry => Sys2Proof.Machine.execDebugChallengeExpiry s
  | .dapAccess write region addr data => Sys2Proof.Machine.execDapAccess write region addr data s
  | .coreDebug core op data => Sys2Proof.Machine.execCoreDebug core op data s
  | .islandDebug op data => Sys2Proof.Machine.execIslandDebug op data s
  | .memTest op data => Sys2Proof.Machine.execMemTest op data s
  | .otpProg addr bits => Sys2Proof.Machine.execOtpProg addr bits s
  | .iluonLinkUp port lanes => Sys2Proof.Machine.execIluonLinkUp port lanes s
  | .iluonLinkDown port => Sys2Proof.Machine.execIluonLinkDown port s
  | .heartbeatSend port => Sys2Proof.Machine.execHeartbeatSend port s
  | .heartbeat f roles load => Sys2Proof.Machine.execHeartbeat f roles load s
  | .timeMarkSend => Sys2Proof.Machine.execTimeMarkSend s
  | .timeMark f measuredNs => Sys2Proof.Machine.execTimeMark f measuredNs s
  | .forward f header payload idx draw reseed check => Sys2Proof.Machine.execForward f header payload idx draw reseed check s
  | .forwardAck f cmd => Sys2Proof.Machine.execForwardAck f cmd s
  | .event f e => Sys2Proof.Machine.execEvent f e s
  | .replyCheck f cmd status replyLen digest => Sys2Proof.Machine.execReplyCheck f cmd status replyLen digest s
  | .leave f cause => Sys2Proof.Machine.execLeave f cause s
  | .partnerLost => Sys2Proof.Machine.execPartnerLost s
  | .lease f role term holder lengthNs votes => Sys2Proof.Machine.execLease f role term holder lengthNs votes s
  | .leaseRenewal role => Sys2Proof.Machine.execLeaseRenewal role s
  | .leaseWindowEnd role => Sys2Proof.Machine.execLeaseWindowEnd role s
  | .leaseRecordExpiry role => Sys2Proof.Machine.execLeaseRecordExpiry role s
  | .leaseTakeover role => Sys2Proof.Machine.execLeaseTakeover role s
  | .replicate f role seq change => Sys2Proof.Machine.execReplicate f role seq change s
  | .replicateAck f cmd refusal => Sys2Proof.Machine.execReplicateAck f cmd refusal s
  | .spill f header payload versions seed => Sys2Proof.Machine.execSpill f header payload versions seed s
  | .spillReply f cmd executed status reply => Sys2Proof.Machine.execSpillReply f cmd executed status reply s
  | .spillTimeout cmd => Sys2Proof.Machine.execSpillTimeout cmd s
  | .resync f phase percent state => Sys2Proof.Machine.execResync f phase percent state s
  | .resyncFinalPass dirtyBytes => Sys2Proof.Machine.execResyncFinalPass dirtyBytes s
  | .linkAck port seq => Sys2Proof.Machine.execLinkAck port seq s
  | .linkNak port seq => Sys2Proof.Machine.execLinkNak port seq s
  | .ringFormed live position rk => Sys2Proof.Machine.execRingFormed live position rk s
  | .ceremonyExpiry part => Sys2Proof.Machine.execCeremonyExpiry part s
  | .offerExpiry part restore => Sys2Proof.Machine.execOfferExpiry part restore s
  | .tr34NonceExpiry part nonceId => Sys2Proof.Machine.execTr34NonceExpiry part nonceId s
  | .backupSnapshotExpiry part => Sys2Proof.Machine.execBackupSnapshotExpiry part s
  | .freezeDrained part => Sys2Proof.Machine.execFreezeDrained part s
  | .freezeTimeout part => Sys2Proof.Machine.execFreezeTimeout part s
  | .importIdleTimeout part => Sys2Proof.Machine.execImportIdleTimeout part s
  | .deviceStatus cmd => Sys2Proof.Machine.execDeviceStatus cmd s
  | .deviceAbort cmd => Sys2Proof.Machine.execDeviceAbort cmd s
  | .deviceDomain cmd => Sys2Proof.Machine.execDeviceDomain cmd s
  | .deviceRequalify cmd pass => Sys2Proof.Machine.execDeviceRequalify cmd pass s
  | .deviceCalibrate cmd => Sys2Proof.Machine.execDeviceCalibrate cmd s
  | .deviceProvision cmd => Sys2Proof.Machine.execDeviceProvision cmd s
  | .deviceTamperArm cmd => Sys2Proof.Machine.execDeviceTamperArm cmd s
  | .sessionOpen cmd => Sys2Proof.Machine.execSessionOpen cmd s
  | .sessionClose cmd => Sys2Proof.Machine.execSessionClose cmd s
  | .sessionQuery cmd => Sys2Proof.Machine.execSessionQuery cmd s
  | .keyGenerate cmd => Sys2Proof.Machine.execKeyGenerate cmd s
  | .keyImport cmd => Sys2Proof.Machine.execKeyImport cmd s
  | .keyExport cmd => Sys2Proof.Machine.execKeyExport cmd s
  | .keyTranslate cmd => Sys2Proof.Machine.execKeyTranslate cmd s
  | .keyDestroy cmd => Sys2Proof.Machine.execKeyDestroy cmd s
  | .keyQuery cmd => Sys2Proof.Machine.execKeyQuery cmd s
  | .keyTokenLoad cmd => Sys2Proof.Machine.execKeyTokenLoad cmd s
  | .keyTokenReissue cmd => Sys2Proof.Machine.execKeyTokenReissue cmd s
  | .keyTokenRevoke cmd => Sys2Proof.Machine.execKeyTokenRevoke cmd s
  | .keyProve cmd => Sys2Proof.Machine.execKeyProve cmd s
  | .keyMwkChange cmd => Sys2Proof.Machine.execKeyMwkChange cmd s
  | .keyMwkClearPrevious cmd => Sys2Proof.Machine.execKeyMwkClearPrevious cmd s
  | .keyTr34Nonce cmd => Sys2Proof.Machine.execKeyTr34Nonce cmd s
  | .keyTr34Export cmd => Sys2Proof.Machine.execKeyTr34Export cmd s
  | .keyTr34Import cmd => Sys2Proof.Machine.execKeyTr34Import cmd s
  | .keyBackup cmd => Sys2Proof.Machine.execKeyBackup cmd s
  | .keyBackupChunk cmd => Sys2Proof.Machine.execKeyBackupChunk cmd s
  | .keyRestoreOffer cmd => Sys2Proof.Machine.execKeyRestoreOffer cmd s
  | .keyRestore cmd => Sys2Proof.Machine.execKeyRestore cmd s
  | .keyRestoreChunk cmd => Sys2Proof.Machine.execKeyRestoreChunk cmd s
  | .keyRestoreEnd cmd => Sys2Proof.Machine.execKeyRestoreEnd cmd s
  | .symEncrypt cmd => Sys2Proof.Machine.execSymEncrypt cmd s
  | .symDecrypt cmd => Sys2Proof.Machine.execSymDecrypt cmd s
  | .digest cmd => Sys2Proof.Machine.execDigest cmd s
  | .digestVerify cmd => Sys2Proof.Machine.execDigestVerify cmd s
  | .macGenerate cmd => Sys2Proof.Machine.execMacGenerate cmd s
  | .macVerify cmd => Sys2Proof.Machine.execMacVerify cmd s
  | .pkSign cmd => Sys2Proof.Machine.execPkSign cmd s
  | .pkVerify cmd => Sys2Proof.Machine.execPkVerify cmd s
  | .pkAgree cmd => Sys2Proof.Machine.execPkAgree cmd s
  | .pkEncapsulate cmd => Sys2Proof.Machine.execPkEncapsulate cmd s
  | .pkDecapsulate cmd => Sys2Proof.Machine.execPkDecapsulate cmd s
  | .pkRsaEncrypt cmd => Sys2Proof.Machine.execPkRsaEncrypt cmd s
  | .pkRsaDecrypt cmd => Sys2Proof.Machine.execPkRsaDecrypt cmd s
  | .pkPublic cmd => Sys2Proof.Machine.execPkPublic cmd s
  | .rngGenerate cmd => Sys2Proof.Machine.execRngGenerate cmd s
  | .rngKat cmd conditioner expander => Sys2Proof.Machine.execRngKat cmd conditioner expander s
  | .rngRestart cmd => Sys2Proof.Machine.execRngRestart cmd s
  | .rngRaw cmd samples => Sys2Proof.Machine.execRngRaw cmd samples s
  | .pinTranslate cmd => Sys2Proof.Machine.execPinTranslate cmd s
  | .pinVerifyOffset cmd => Sys2Proof.Machine.execPinVerifyOffset cmd s
  | .pinVerifyPvv cmd => Sys2Proof.Machine.execPinVerifyPvv cmd s
  | .pinOffsetGenerate cmd => Sys2Proof.Machine.execPinOffsetGenerate cmd s
  | .pinPvvGenerate cmd => Sys2Proof.Machine.execPinPvvGenerate cmd s
  | .cvvGenerate cmd => Sys2Proof.Machine.execCvvGenerate cmd s
  | .cvvVerify cmd => Sys2Proof.Machine.execCvvVerify cmd s
  | .arqcVerify cmd => Sys2Proof.Machine.execArqcVerify cmd s
  | .scriptMacGenerate cmd => Sys2Proof.Machine.execScriptMacGenerate cmd s
  | .dukptDeriveInitial cmd => Sys2Proof.Machine.execDukptDeriveInitial cmd s
  | .dukptMacGenerate cmd => Sys2Proof.Machine.execDukptMacGenerate cmd s
  | .dukptMacVerify cmd => Sys2Proof.Machine.execDukptMacVerify cmd s
  | .dukptDecrypt cmd => Sys2Proof.Machine.execDukptDecrypt cmd s
  | .journalRead cmd => Sys2Proof.Machine.execJournalRead cmd s
  | .journalFind cmd => Sys2Proof.Machine.execJournalFind cmd s
  | .partitionCreate cmd => Sys2Proof.Machine.execPartitionCreate cmd s
  | .partitionEnable cmd => Sys2Proof.Machine.execPartitionEnable cmd s
  | .partitionDisable cmd => Sys2Proof.Machine.execPartitionDisable cmd s
  | .partitionDestroy cmd => Sys2Proof.Machine.execPartitionDestroy cmd s
  | .functionMap cmd => Sys2Proof.Machine.execFunctionMap cmd s
  | .policySet cmd => Sys2Proof.Machine.execPolicySet cmd s
  | .policyGet cmd => Sys2Proof.Machine.execPolicyGet cmd s
  | .officerEnrol cmd => Sys2Proof.Machine.execOfficerEnrol cmd s
  | .officerRemove cmd => Sys2Proof.Machine.execOfficerRemove cmd s
  | .officerList cmd => Sys2Proof.Machine.execOfficerList cmd s
  | .ceremonyOpen cmd => Sys2Proof.Machine.execCeremonyOpen cmd s
  | .ceremonySign cmd => Sys2Proof.Machine.execCeremonySign cmd s
  | .ceremonyCancel cmd => Sys2Proof.Machine.execCeremonyCancel cmd s
  | .ceremonyQuery cmd => Sys2Proof.Machine.execCeremonyQuery cmd s
  | .migrateFreeze cmd => Sys2Proof.Machine.execMigrateFreeze cmd s
  | .migrateThaw cmd => Sys2Proof.Machine.execMigrateThaw cmd s
  | .migrateOffer cmd => Sys2Proof.Machine.execMigrateOffer cmd s
  | .migrateExport cmd => Sys2Proof.Machine.execMigrateExport cmd s
  | .migrateExportChunk cmd => Sys2Proof.Machine.execMigrateExportChunk cmd s
  | .migrateImport cmd => Sys2Proof.Machine.execMigrateImport cmd s
  | .migrateImportChunk cmd => Sys2Proof.Machine.execMigrateImportChunk cmd s
  | .migrateImportEnd cmd => Sys2Proof.Machine.execMigrateImportEnd cmd s
  | .migrateCommit cmd => Sys2Proof.Machine.execMigrateCommit cmd s
  | .fwAppBegin cmd => Sys2Proof.Machine.execFwAppBegin cmd s
  | .fwAppChunk cmd => Sys2Proof.Machine.execFwAppChunk cmd s
  | .fwAppVerify cmd => Sys2Proof.Machine.execFwAppVerify cmd s
  | .fwAppRelease cmd katPass => Sys2Proof.Machine.execFwAppRelease cmd katPass s
  | .fwRotBegin cmd => Sys2Proof.Machine.execFwRotBegin cmd s
  | .fwRotChunk cmd => Sys2Proof.Machine.execFwRotChunk cmd s
  | .fwRotCommit cmd readBackOk => Sys2Proof.Machine.execFwRotCommit cmd readBackOk s
  | .fwWarmReset cmd => Sys2Proof.Machine.execFwWarmReset cmd s
  | .attestQuote cmd => Sys2Proof.Machine.execAttestQuote cmd s
  | .attestChain cmd => Sys2Proof.Machine.execAttestChain cmd s
  | .lcInfo cmd => Sys2Proof.Machine.execLcInfo cmd s
  | .lcRequest cmd => Sys2Proof.Machine.execLcRequest cmd s
  | .idCertStore cmd => Sys2Proof.Machine.execIdCertStore cmd s
  | .idCertRead cmd => Sys2Proof.Machine.execIdCertRead cmd s
  | .ringStatus cmd => Sys2Proof.Machine.execRingStatus cmd s
  | .ringConfig cmd sameP => Sys2Proof.Machine.execRingConfig cmd sameP s
  | .mirrorPair cmd fits agreed => Sys2Proof.Machine.execMirrorPair cmd fits agreed s
  | .mirrorUnpair cmd => Sys2Proof.Machine.execMirrorUnpair cmd s
  | .mirrorSwitchover cmd => Sys2Proof.Machine.execMirrorSwitchover cmd s
  | .ringSpill cmd => Sys2Proof.Machine.execRingSpill cmd s
  | .platformStatus cmd => Sys2Proof.Machine.execPlatformStatus cmd s
  | .platformConfigSet cmd => Sys2Proof.Machine.execPlatformConfigSet cmd s
  | .platformConfigGet cmd => Sys2Proof.Machine.execPlatformConfigGet cmd s
  | .platformReboot cmd => Sys2Proof.Machine.execPlatformReboot cmd s
  | .lensLock cmd => Sys2Proof.Machine.execLensLock cmd s
  | .lensStage cmd => Sys2Proof.Machine.execLensStage cmd s
  | .lensSwap cmd => Sys2Proof.Machine.execLensSwap cmd s
  | .lensRead cmd => Sys2Proof.Machine.execLensRead cmd s
  | .bootRecordRead cmd => Sys2Proof.Machine.execBootRecordRead cmd s
  | .bootRecordAck cmd => Sys2Proof.Machine.execBootRecordAck cmd s
  | .mbusConfigSet cmd => Sys2Proof.Machine.execMbusConfigSet cmd s
  | .mbusConfigGet cmd => Sys2Proof.Machine.execMbusConfigGet cmd s
  | .vaultTokenise cmd => Sys2Proof.Machine.execVaultTokenise cmd s
  | .vaultDetokenise cmd => Sys2Proof.Machine.execVaultDetokenise cmd s
  | .vaultDelete cmd => Sys2Proof.Machine.execVaultDelete cmd s
  | .vaultReload cmd => Sys2Proof.Machine.execVaultReload cmd s
  | .msixTableWrite fn off size val => Sys2Proof.Machine.execMsixTableWrite fn off size val s
  | .memoryPortsTrained => Sys2Proof.Machine.execMemoryPortsTrained s
  | .pmbusWriteDone ok => Sys2Proof.Machine.execPmbusWriteDone ok s
  | .flashStatusPollTimeout port => Sys2Proof.Machine.execFlashStatusPollTimeout port s
  | .tamperCauseClear cause => Sys2Proof.Machine.execTamperCauseClear cause s
  | .syncHeaderError port lane => Sys2Proof.Machine.execSyncHeaderError port lane s
  | .iluonFrameCrcError port arrived => Sys2Proof.Machine.execIluonFrameCrcError port arrived s
  | .cutThroughFrame f typ => Sys2Proof.Machine.execCutThroughFrame f typ s
  | .trainFrameArrival f typ => Sys2Proof.Machine.execTrainFrameArrival f typ s
  | .chunkSend src handle seqNo last size data => Sys2Proof.Machine.execChunkSend src handle seqNo last size data s
  | .chunkGet src handle seqNo => Sys2Proof.Machine.execChunkGet src handle seqNo s
  | .spdmHeartbeatTimeout session => Sys2Proof.Machine.execSpdmHeartbeatTimeout session s
  | .rngStartupKatEnd pass => Sys2Proof.Machine.execRngStartupKatEnd pass s
  | .rankEvacuationEnd unreadable => Sys2Proof.Machine.execRankEvacuationEnd unreadable s

end Sys2Proof.Machine
end

