-- ==== Sys2Proof/Machine/Time.lean ====
section
/-! DEFINITION. What the passing of time does of itself: the clock of every timer, Horizon time, the return of the PCIe link, the
load measure, the end of the generator's start-up sequence, and the island's own flash accesses (R221, R328, R380, R399, R421, R445, R447, R452). Every other timed effect is a command of the table. -/

namespace Sys2Proof.Machine

/-- Horizon time over one microsecond: 64,000 parts of a tick of 1,953,125 parts (1/32,768 s, in 1/64 ns) (R380). -/
def hznPass (h : Horizon) : Horizon :=
  if !h.powered then h
  else
    let f := h.frac + 64000
    if 1953125 ≤ f then { h with frac := f - 1953125, time := h.time + 1 } else { h with frac := f }

/-- The link trains again once PERST_N has been high for 20 ms and the module's rank is trained (R292, R452). -/
def linkPass (ns : Nat) (v : Service) : Service :=
  if linkReady ns v && !v.linkUp && v.rank0 && v.phase != .dark then { v with linkUp := true } else v

/-- Control cores that serve an item now. -/
def busyCores (s : State) : Nat := ((allUnits .core).filter (fun u => (itemOn s u).isSome)).length

/-- The load over the last 100 µs, in per cent of the serving cores' capacity (R399, R421). -/
def loadPass (s : State) : State :=
  let l := (busyCores s :: s.ilu.busy).take 100
  { s with ilu := { s.ilu with busy := l, loadPct := l.sum / max 1 (servingCount s .core) } }

/-- One microsecond passes. -/
def passTime (s : State) : State :=
  let ns := s.clk.ns + 1000
  islePass (rngPass (loadPass { s with clk := { s.clk with ns := ns }, hzn := hznPass s.hzn, svc := linkPass ns s.svc }))

end Sys2Proof.Machine
end

