-- ==== Sys2Proof/Safety.lean ====
section
/-! DEFINITION. What claims call a safe step, a sound state and the end of a command. -/

namespace Sys2Proof.Safety

open Sys2Proof.Machine

/-- The step does not stop. -/
def runs (s : State) : Prop := ∃ t, step s = .next t

/-- The only stop of the model: an access outside its BAR. -/
def stopsAtBar (s : State) : Prop := step s = .fault .outsideBar

/-- Every OTP bit that is programmed in `s` is programmed in `t`: OTP bits are never cleared (R365). -/
def otpGrows (s t : State) : Prop := ∀ a, otpRead s.life.otp a &&& otpRead t.life.otp a = otpRead s.life.otp a

/-- The OTP is held in its one canonical form. -/
def otpSound (s : State) : Prop := Memory.wf s.life.otp = true

/-- No byte of the OTP differs between two states. -/
def otpSame (s t : State) : Prop := ∀ a, otpRead t.life.otp a = otpRead s.life.otp a

/-- `c` is the accepted command `r`, of opcode `op`, and its turn to run has come: its items have ended, no earlier command of its
flow lacks its result, and neither its draw nor an item has failed nor has it been cut short. -/
structure AtWork (op : Nat) (s : State) (r : CmdRef) (c : Cmd) : Prop where
  found : findCmd s r = some c
  ready : ready op s c = true
  clean : failStatus c = none

/-- The command `r` has its result in `t`: the status and the reply. -/
def endedWith (t : State) (r : CmdRef) (st : Status) (reply : Bytes) : Prop :=
  (findCmd t r).bind (fun c => c.result) = some { status := st, reply := reply }

/-- The command `r` has its result in `t`, with that status. -/
def endedStatus (t : State) (r : CmdRef) (st : Status) : Prop :=
  (findCmd t r).bind (fun c => c.result.map (fun x => x.status)) = some st

/-- The command `r` has begun its effect in `t` and has no result yet. -/
def underWay (t : State) (r : CmdRef) : Prop :=
  (findCmd t r).map (fun c => (c.started, c.result)) = some (true, none)

/-- `c` is the accepted command `r`, of opcode `op`, and its turn to end has come with the status `st` in place of its own effect: it
was cut short, an item of it failed, or its draw did. -/
structure AtEnd (op : Nat) (s : State) (r : CmdRef) (c : Cmd) (st : Status) : Prop where
  found  : findCmd s r = some c
  ready  : ready op s c = true
  failed : failStatus c = some st

/-- Everything a digest or MAC command computes over: what its stream has absorbed, then its own data (R177, R181). -/
abbrev message (s : State) (c : Cmd) : Bytes := (if stream23 (reqOf c) then (baseOf s c).absorbed else []) ++ macData (reqOf c)

/-- The module hears `src` outside any session: its port serves, and it is a known endpoint or its bucket holds a request (R348). -/
abbrev heard (src : SpdmSource) (s : State) : Prop :=
  portServes s src.port.val = true ∧ src.session = none ∧ (knownEid s src.eid = true ∨ (meter src s).1 = true)

/-- `src` speaks in the established session `x`, which it opened with mutual authentication and which serves. -/
abbrev inSession (src : SpdmSource) (x : SpdmSession) (s : State) : Prop :=
  portServes s src.port.val = true ∧ sourceSession s src = some x ∧ x.handshake = false ∧ x.known = true ∧ x.ended = false

/-- The session `src` names has been heard now, over the port of `src`. -/
def heardIn (src : SpdmSource) (x : SpdmSession) (s : State) : State :=
  modSpdm x.id (fun y => { y with lastNs := s.clk.ns, port := src.port.val }) s

/-- A frame has come in the order of its link, with a tag that verifies, on a port that is up, and is one this module acts on (R399, R401 to
R403). -/
abbrev delivered (f : Frame) (typ : Nat) (s : State) : Prop :=
  (iluPort s f.port).up = true ∧ f.linkSeq = (iluPort s f.port).recvSeq ∧ f.tagOk = true ∧ acts s f typ = true

/-- A frame has been taken off its port: it is acknowledged. -/
def frameTaken (f : Frame) (s : State) : State :=
  sendHop f.port 0x60 f.linkSeq (modPort f.port (fun p => { p with recvSeq := p.recvSeq + 1 }) s)

/-- The message of a TYPE is over on its port. -/
def trainOver (f : Frame) (typ : Nat) (s : State) : State :=
  modPort f.port (fun p => { p with train := p.train.filter (fun t => t.1 != typ) }) s

/-- The state in which a delivered frame acts: it is acknowledged, its claim is heard, and so is the partner, where it sends. -/
def arrived (f : Frame) (typ : Nat) (s : State) : State := trainOver f typ (heardFrom f typ (frameTaken f s))

/-- What becomes of a frame that has been acted on: a broadcast goes on. -/
abbrev settled (f : Frame) (typ : Nat) (s : State) : State := goOn f typ s

/-- The ring of the module that is local ring `n` of function `f`. -/
abbrev fetchRing (s : State) (f n : Nat) : Nat := (getFn s f).ringBase + n

/-- The state after the entry at SQ_HEAD of that ring has been taken. -/
abbrev taken (s : State) (f n : Nat) : State := takeEntry (fetchRing s f n) s

/-- The entry `x`, fetched now on local ring `n` of function `f`, passes checks 1 to 3: its header, its source and its generation (R52). -/
abbrev pastSource (s : State) (f n : Nat) (x : Submission) : Prop :=
  mayFetch s f n = true ∧ headerOk (entryReq s f n x) = true ∧ sourceCause (taken s f n) (entryReq s f n x) (entryDescs x) = none ∧
  (entryReq s f n x).genField = (getRing s (fetchRing s f n)).gen.toNat % 65536

/-- It also passes check 4, so that it is an entry of opcode `o`, and the phase serves that opcode (R52). -/
abbrev pastForm (s : State) (f n : Nat) (x : Submission) (o : OpSpec) : Prop :=
  pastSource s f n x ∧ opSpec (entryReq s f n x).opcode = some o ∧ formOk (entryReq s f n x) (entryDescs x) = true ∧
  phaseServes (taken s f n) o (entryReq s f n x).opcode = true

/-- It also is for this module, fresh and of a fitting length: checks 5 to 7 (R52). -/
abbrev pastLength (s : State) (f n : Nat) (x : Submission) (o : OpSpec) : Prop :=
  pastForm s f n x o ∧ standbyRing (taken s f n) (entryReq s f n x) = false ∧
  (getRing s (fetchRing s f n)).lastSeq.toNat < (entryReq s f n x).seq.toNat ∧ lengthOk (taken s f n) o (entryReq s f n x) = true

/-! ## Frames -/

/-- The parts of State. -/
inductive Area where
  | clk | svc | fns | rings | replies | pm | parts | ks | sess | prism | facets | engines | domains | fabClass | rng | fw | plat | mbus
  | life | hzn | ilu | flt | free | out
  deriving DecidableEq, Repr

/-- A part of State is the same in both. -/
def sameIn : Area → State → State → Prop
  | .clk, s, t => t.clk = s.clk
  | .svc, s, t => t.svc = s.svc
  | .fns, s, t => t.fns = s.fns
  | .rings, s, t => t.rings = s.rings
  | .replies, s, t => t.replies = s.replies
  | .pm, s, t => t.pm = s.pm
  | .parts, s, t => t.parts = s.parts
  | .ks, s, t => t.ks = s.ks
  | .sess, s, t => t.sess = s.sess
  | .prism, s, t => t.prism = s.prism
  | .facets, s, t => t.facets = s.facets
  | .engines, s, t => t.engines = s.engines
  | .domains, s, t => t.domains = s.domains
  | .fabClass, s, t => t.fabClass = s.fabClass
  | .rng, s, t => t.rng = s.rng
  | .fw, s, t => t.fw = s.fw
  | .plat, s, t => t.plat = s.plat
  | .mbus, s, t => t.mbus = s.mbus
  | .life, s, t => t.life = s.life
  | .hzn, s, t => t.hzn = s.hzn
  | .ilu, s, t => t.ilu = s.ilu
  | .flt, s, t => t.flt = s.flt
  | .free, s, t => t.free = s.free
  | .out, s, t => t.out = s.out

/-- A port has sent: its next LINK_SEQ, its replay buffer and the time it last sent may differ. -/
def portSent (p q : IluonPort) : Prop := ∃ a b c, q = { p with sendSeq := a, unacked := b, idleNs := c }

/-- Frames have been sent: the ports may have sent, and the frame counter and the count of changes may differ. -/
def iluSent (i j : Iluon) : Prop :=
  ∃ w e k a, portSent i.west w ∧ portSent i.east e ∧ j = { i with west := w, east := e, counter := k, applied := a }

/-- The same, but for what the end of a command may change anywhere: the commands in flight and what is sent, the vault places its
partition reserved, its draw request, what sending a change on the link moves, the model's count of free values (RANDOM of a backing record), and, in
the key store, what the command held or was rewriting. -/
def keptIn : Area → State → State → Prop
  | .prism, _, _ => True
  | .out, _, _ => True
  | .ks, _, _ => True
  | .free, _, _ => True
  | .parts, s, t => ∀ p, ∃ n, getPart t p = { getPart s p with vault := { (getPart s p).vault with reserved := n } }
  | .rng, s, t => ∃ q, t.rng = { s.rng with queue := q }
  | .ilu, s, t => iluSent s.ilu t.ilu
  | a, s, t => sameIn a s t

/-- Nothing but the parts listed differs. -/
def touchesOnly (l : List Area) (s t : State) : Prop := ∀ a, a ∉ l → sameIn a s t

/-- Nothing differs but the parts listed and what the end of a command may change. -/
def endsTouching (l : List Area) (s t : State) : Prop := ∀ a, a ∉ l → keptIn a s t

/-- A host command's row: its opcode and the accepted command it runs. -/
def hostRow : Instr → Option (Nat × CmdRef)
  | .deviceStatus r => some (0x0101, r)
  | .deviceAbort r => some (0x0102, r)
  | .deviceDomain r => some (0x0103, r)
  | .deviceRequalify r _ => some (0x0104, r)
  | .deviceCalibrate r => some (0x0105, r)
  | .deviceProvision r => some (0x0106, r)
  | .deviceTamperArm r => some (0x0107, r)
  | .sessionOpen r => some (0x0201, r)
  | .sessionClose r => some (0x0202, r)
  | .sessionQuery r => some (0x0203, r)
  | .keyGenerate r => some (0x0301, r)
  | .keyImport r => some (0x0302, r)
  | .keyExport r => some (0x0303, r)
  | .keyTranslate r => some (0x0304, r)
  | .keyDestroy r => some (0x0305, r)
  | .keyQuery r => some (0x0306, r)
  | .keyTokenLoad r => some (0x0307, r)
  | .keyTokenReissue r => some (0x0308, r)
  | .keyTokenRevoke r => some (0x0309, r)
  | .keyProve r => some (0x030A, r)
  | .keyMwkChange r => some (0x030B, r)
  | .keyMwkClearPrevious r => some (0x030C, r)
  | .keyTr34Nonce r => some (0x0310, r)
  | .keyTr34Export r => some (0x0311, r)
  | .keyTr34Import r => some (0x0312, r)
  | .keyBackup r => some (0x0318, r)
  | .keyBackupChunk r => some (0x0319, r)
  | .keyRestoreOffer r => some (0x031A, r)
  | .keyRestore r => some (0x031B, r)
  | .keyRestoreChunk r => some (0x031C, r)
  | .keyRestoreEnd r => some (0x031D, r)
  | .symEncrypt r => some (0x0401, r)
  | .symDecrypt r => some (0x0402, r)
  | .digest r => some (0x0501, r)
  | .digestVerify r => some (0x0502, r)
  | .macGenerate r => some (0x0503, r)
  | .macVerify r => some (0x0504, r)
  | .pkSign r => some (0x0601, r)
  | .pkVerify r => some (0x0602, r)
  | .pkAgree r => some (0x0603, r)
  | .pkEncapsulate r => some (0x0604, r)
  | .pkDecapsulate r => some (0x0605, r)
  | .pkRsaEncrypt r => some (0x0606, r)
  | .pkRsaDecrypt r => some (0x0607, r)
  | .pkPublic r => some (0x0608, r)
  | .rngGenerate r => some (0x0701, r)
  | .rngKat r _ _ => some (0x0702, r)
  | .rngRestart r => some (0x0703, r)
  | .rngRaw r _ => some (0x0704, r)
  | .pinTranslate r => some (0x0801, r)
  | .pinVerifyOffset r => some (0x0802, r)
  | .pinVerifyPvv r => some (0x0803, r)
  | .pinOffsetGenerate r => some (0x0804, r)
  | .pinPvvGenerate r => some (0x0805, r)
  | .cvvGenerate r => some (0x0901, r)
  | .cvvVerify r => some (0x0902, r)
  | .arqcVerify r => some (0x0903, r)
  | .scriptMacGenerate r => some (0x0904, r)
  | .dukptDeriveInitial r => some (0x0A01, r)
  | .dukptMacGenerate r => some (0x0A02, r)
  | .dukptMacVerify r => some (0x0A03, r)
  | .dukptDecrypt r => some (0x0A04, r)
  | .journalRead r => some (0x0B01, r)
  | .journalFind r => some (0x0B02, r)
  | .partitionCreate r => some (0x0C01, r)
  | .partitionEnable r => some (0x0C02, r)
  | .partitionDisable r => some (0x0C03, r)
  | .partitionDestroy r => some (0x0C04, r)
  | .functionMap r => some (0x0C05, r)
  | .policySet r => some (0x0C06, r)
  | .policyGet r => some (0x0C07, r)
  | .officerEnrol r => some (0x0C08, r)
  | .officerRemove r => some (0x0C09, r)
  | .officerList r => some (0x0C0A, r)
  | .ceremonyOpen r => some (0x0C10, r)
  | .ceremonySign r => some (0x0C11, r)
  | .ceremonyCancel r => some (0x0C12, r)
  | .ceremonyQuery r => some (0x0C13, r)
  | .migrateFreeze r => some (0x0C20, r)
  | .migrateThaw r => some (0x0C21, r)
  | .migrateOffer r => some (0x0C22, r)
  | .migrateExport r => some (0x0C23, r)
  | .migrateExportChunk r => some (0x0C24, r)
  | .migrateImport r => some (0x0C25, r)
  | .migrateImportChunk r => some (0x0C26, r)
  | .migrateImportEnd r => some (0x0C27, r)
  | .migrateCommit r => some (0x0C28, r)
  | .fwAppBegin r => some (0x0D01, r)
  | .fwAppChunk r => some (0x0D02, r)
  | .fwAppVerify r => some (0x0D03, r)
  | .fwAppRelease r _ => some (0x0D04, r)
  | .fwRotBegin r => some (0x0D05, r)
  | .fwRotChunk r => some (0x0D06, r)
  | .fwRotCommit r _ => some (0x0D07, r)
  | .fwWarmReset r => some (0x0D08, r)
  | .attestQuote r => some (0x0E01, r)
  | .attestChain r => some (0x0E02, r)
  | .lcInfo r => some (0x0E10, r)
  | .lcRequest r => some (0x0E11, r)
  | .idCertStore r => some (0x0E20, r)
  | .idCertRead r => some (0x0E21, r)
  | .ringStatus r => some (0x0F01, r)
  | .ringConfig r _ => some (0x0F02, r)
  | .mirrorPair r _ _ => some (0x0F03, r)
  | .mirrorUnpair r => some (0x0F04, r)
  | .mirrorSwitchover r => some (0x0F05, r)
  | .ringSpill r => some (0x0F06, r)
  | .platformStatus r => some (0x1001, r)
  | .platformConfigSet r => some (0x1002, r)
  | .platformConfigGet r => some (0x1003, r)
  | .platformReboot r => some (0x1004, r)
  | .lensLock r => some (0x1005, r)
  | .lensStage r => some (0x1006, r)
  | .lensSwap r => some (0x1007, r)
  | .lensRead r => some (0x1008, r)
  | .bootRecordRead r => some (0x1009, r)
  | .bootRecordAck r => some (0x100A, r)
  | .mbusConfigSet r => some (0x100B, r)
  | .mbusConfigGet r => some (0x100C, r)
  | .vaultTokenise r => some (0x1101, r)
  | .vaultDetokenise r => some (0x1102, r)
  | .vaultDelete r => some (0x1103, r)
  | .vaultReload r => some (0x1104, r)
  | _ => none

/-- The parts of State that a host command changes by its effect, beside what its end changes. -/
def hostTouches : Instr → Option (List Area)
  | .deviceStatus .. | .sessionQuery .. | .keyExport .. | .keyTranslate .. | .keyQuery .. | .keyTokenReissue .. | .keyProve ..
  | .keyTr34Export .. | .pkSign .. | .pkVerify .. | .pkRsaEncrypt .. | .pkRsaDecrypt .. | .pkPublic .. | .rngGenerate ..
  | .rngRaw .. | .pinTranslate .. | .pinVerifyOffset .. | .pinVerifyPvv .. | .pinOffsetGenerate .. | .pinPvvGenerate ..
  | .cvvGenerate .. | .cvvVerify .. | .arqcVerify .. | .scriptMacGenerate .. | .dukptMacGenerate .. | .dukptMacVerify ..
  | .dukptDecrypt .. | .journalRead .. | .journalFind .. | .policyGet .. | .officerList .. | .ceremonyQuery ..
  | .migrateExportChunk .. | .attestChain .. | .lcInfo .. | .idCertRead .. | .ringStatus .. | .platformStatus ..
  | .platformConfigGet .. | .platformReboot .. | .lensRead .. | .bootRecordRead .. | .mbusConfigSet .. | .mbusConfigGet ..
    => some []
  | .fwAppBegin .. | .fwAppChunk .. | .fwAppVerify .. | .fwRotBegin .. | .fwRotChunk .. | .fwRotCommit .. => some [.fw]
  | .keyGenerate .. | .keyImport .. | .keyDestroy .. | .keyTokenLoad .. | .keyTokenRevoke .. | .keyMwkChange ..
  | .keyMwkClearPrevious .. | .pkAgree .. | .pkEncapsulate .. | .pkDecapsulate .. | .dukptDeriveInitial .. => some [.ks]
  | .deviceCalibrate .. | .deviceTamperArm .. => some [.hzn]
  | .ringConfig .. | .mirrorPair .. | .ringSpill .. => some [.ilu]
  | .fwWarmReset .. => some [.svc]
  | .lcRequest .. | .idCertStore .. => some [.life]
  | .platformConfigSet .. | .lensLock .. | .lensStage .. | .bootRecordAck .. => some [.plat]
  | .sessionOpen .. | .symEncrypt .. | .symDecrypt .. | .digest .. | .digestVerify .. | .macGenerate ..
  | .macVerify .. => some [.sess]
  | .keyTr34Nonce .. | .keyBackup .. | .keyBackupChunk .. | .keyRestore .. | .keyRestoreChunk .. | .partitionEnable ..
  | .policySet .. | .officerEnrol .. | .officerRemove .. | .ceremonyOpen .. | .ceremonySign .. | .ceremonyCancel ..
  | .migrateFreeze .. | .migrateImport .. | .migrateImportChunk .. => some [.parts]
  | .sessionClose .. => some [.sess, .facets]
  | .mirrorSwitchover .. => some [.ilu, .out]
  | .keyTr34Import .. => some [.parts, .ks]
  | .keyRestoreOffer .. | .migrateOffer .. | .migrateExport .. => some [.pm, .parts]
  | .attestQuote .. => some [.rng, .free]
  | .partitionCreate .. | .vaultTokenise .. | .vaultDetokenise .. | .vaultDelete .. | .vaultReload .. => some [.parts, .flt]
  | .rngRestart .. => some [.parts, .rng]
  | .lensSwap .. => some [.plat, .free]
  | .keyRestoreEnd .. => some [.parts, .ks, .prism]
  | _ => none

/-- The same for the host commands that act on units, partitions or functions as a whole. -/
def hostTouchesMany : Instr → Option (List Area)
  | .deviceDomain .. => some [.prism, .domains, .hzn]
  | .deviceProvision .. => some [.pm, .parts, .ks, .rng, .flt]
  | .fwAppRelease .. => some [.svc, .domains, .fw, .plat, .life]
  | .deviceAbort .. => some [.prism, .sess, .facets, .engines, .rng, .out]
  | .partitionDestroy .. => some [.replies, .parts, .ks, .sess, .prism, .facets, .rng]
  | .partitionDisable .. => some [.fns, .rings, .parts, .sess, .prism, .facets, .rng, .out]
  | .rngKat .. => some [.fns, .parts, .ks, .prism, .rng, .ilu, .flt, .out]
  | .migrateThaw .. | .migrateImportEnd .. | .migrateCommit ..
    => some [.fns, .rings, .replies, .parts, .ks, .sess, .prism, .facets, .rng, .out]
  | .mirrorUnpair .. => some [.rings, .replies, .parts, .ks, .sess, .prism, .facets, .engines, .rng, .ilu, .out]
  | .deviceRequalify .. => some [.fns, .prism, .facets, .engines, .domains, .plat, .mbus, .hzn, .ilu, .flt, .out]
  | .functionMap ..
    => some [.fns, .rings, .pm, .parts, .sess, .prism, .facets, .engines, .fabClass, .rng, .fw, .plat, .life, .hzn, .ilu, .flt, .out]
  | _ => none

/-- A register or table access of the link, and whether its offset lies inside its BAR (R40). -/
def barAccess : Instr → Option Bool
  | .halfReadLatch _ w => some (decide (w.off < barSize w.bar))
  | .registerWrite _ bar off _ _ => some (decide (off < barSize bar))
  | .msixTableWrite _ off _ _ => some (decide (off < barSize 4))
  | _ => none

/-- The parts of State that an event may change: every row of the opcode table but the host commands' is listed. -/
def eventTouches : Instr → Option (List Area)
  | .clearTimeout .. => some []
  | .pllLock .. | .feedChange .. => some [.clk]
  | .perstNDeassert .. | .memoryPortsTrained .. => some [.svc]
  | .jnlIndexWrite .. => some [.fns]
  | .ceremonyExpiry .. | .offerExpiry .. | .tr34NonceExpiry .. | .backupSnapshotExpiry .. => some [.parts]
  | .mwkRewrapEnd .. => some [.ks]
  | .trcEnableWrite .. | .trcReadWrite .. | .itemHoldLapse .. | .creditTick .. | .spillTimeout .. => some [.prism]
  | .seedReady .. | .moduleInstanceReseed .. => some [.rng]
  | .loaderFrameTimeout .. => some [.fw]
  | .pgWaitTimeout .. | .manifestReadDone .. | .regionHashDone .. | .hostRelease .. | .lensTransactionEnd .. => some [.plat]
  | .mctpReassemblyTimeout .. | .i3cTargetReset .. | .entdaa .. => some [.mbus]
  | .tapReset .. | .extest .. | .debugChallengeExpiry .. | .otpProg .. => some [.life]
  | .horizonCheckpoint .. | .envelopeRecompute .. | .tamperCauseClear .. => some [.hzn]
  | .leaseWindowEnd .. | .leaseRecordExpiry .. | .linkAck .. => some [.ilu]
  | .iluonFrameCrcError .. => some [.out]
  | .romBoot .. => some [.svc, .fw]
  | .halfReadLatch .. | .fnIrqMaskWrite .. | .msixTableWrite .. => some [.fns, .out]
  | .backingDurable .. => some [.ks, .prism]
  | .versionZeroise .. => some [.ks, .facets]
  | .itemReady2us .. => some [.prism, .engines]
  | .traceTimeMark .. => some [.prism, .out]
  | .loaderHelloTimer .. | .loaderBegin .. | .loaderData .. => some [.fw, .out]
  | .spdmHeartbeatTimeout .. => some [.plat, .mbus]
  | .platformBoot .. | .pgInRise .. | .seqDelayEnd .. | .platformResetAssert .. | .lensTransaction .. | .pmbusWriteDone ..
    => some [.plat, .out]
  | .setEndpointId .. | .getEndpointId .. | .getEndpointUuid .. | .getMctpVersionSupport .. | .getMessageTypeSupport ..
  | .getVersion .. | .getCapabilities .. | .negotiateAlgorithms .. | .getDigests .. | .getCertificate .. | .spdmHeartbeat ..
  | .keyUpdate .. | .busBackoffEnd .. | .chunkGet .. => some [.mbus, .out]
  | .idcode .. | .bypass .. | .samplePreload .. | .clamp .. | .highz .. | .dbgStatus .. => some [.life, .out]
  | .iluonLinkUp .. | .iluonLinkDown .. | .heartbeatSend .. | .timeMarkSend .. | .leaseRenewal .. | .leaseTakeover ..
    => some [.ilu, .out]
  | .powerOn .. => some [.clk, .domains, .hzn]
  | .islandClockSwitch .. => some [.clk, .rng, .life]
  | .loaderEnd .. => some [.svc, .fw, .out]
  | .sqTailWrite .. | .cqHeadWrite .. | .coalTimer .. => some [.fns, .rings, .out]
  | .fltMaskWrite .. => some [.fns, .flt, .out]
  | .sessionIdleTimeout .. => some [.sess, .prism, .facets]
  | .bootRecordDurable .. => some [.rng, .plat, .free]
  | .ringFormed .. => some [.rng, .ilu, .free]
  | .resyncFinalPass .. => some [.rng, .ilu, .out]
  | .finish .. | .endSession .. => some [.plat, .mbus, .out]
  | .dapAccess .. | .coreDebug .. | .islandDebug .. | .memTest .. => some [.life, .free, .out]
  | .remeasureRegionDone .. => some [.fns, .plat, .flt, .out]
  | .crystalCheck .. => some [.fns, .hzn, .flt, .out]
  | .linkNak .. => some [.fns, .ilu, .flt, .out]
  | .maskReseed .. => some [.ks, .facets, .engines, .rng]
  | .rngReadTimeout .. => some [.prism, .rng, .ilu, .out]
  | .challenge .. | .getMeasurements .. | .keyExchange .. => some [.rng, .mbus, .free, .out]
  | .enterClear .. => some [.svc, .fns, .parts, .flt, .out]
  | .appStartReport .. => some [.svc, .fns, .domains, .hzn, .out]
  | .retainedAppRecheck .. => some [.domains, .fw]
  | .slotScrub .. => some [.fns, .parts, .ks, .flt, .out]
  | .partnerLost .. => some [.fns, .rng, .ilu, .flt, .out]
  | .drawSeedGenerate .. => some [.parts, .prism, .rng, .ilu, .out]
  | .dbgResponse .. => some [.ks, .rng, .life, .ilu, .out]
  | .dbgChallenge .. => some [.ks, .life, .out]
  | .ringEnable .. | .ringDisable .. => some [.fns, .rings, .pm, .prism, .ilu, .out]
  | .keyLoadDone .. | .keyUnwrapDone .. => some [.fns, .parts, .ks, .prism, .flt, .out]
  | .freezeTimeout .. => some [.parts, .ks, .prism, .rng, .free, .out]
  | .freezeDrained .. => some [.parts, .ks, .prism, .rng, .ilu, .free, .out]
  | .unitFreeDispatch .. => some [.ks, .sess, .prism, .facets, .engines, .out]
  | .importIdleTimeout .. => some [.replies, .parts, .ks, .sess, .prism, .facets, .rng]
  | .meshSample .. | .tamperCauseFire .. => some [.ks, .facets, .engines, .rng, .hzn, .ilu, .out]
  | .calibrationDone .. => some [.svc, .fns, .parts, .ks, .prism, .rng, .hzn, .free, .out]
  | .rngStartupVerdict .. | .rngHealthFail .. | .rngStartupKatEnd ..
    => some [.fns, .parts, .ks, .prism, .rng, .ilu, .flt, .free, .out]
  | .rankEvacuationEnd .. => some [.replies, .parts, .ks, .sess, .prism, .facets, .fw, .flt, .out]
  | .vaultRebuildEnd .. => some [.fns, .replies, .parts, .ks, .sess, .prism, .facets, .fw, .flt, .out]
  | .channelSample .. => some [.fns, .ks, .prism, .facets, .engines, .rng, .hzn, .ilu, .flt, .out]
  | .vendorDefinedRequest .. => some [.rings, .replies, .parts, .ks, .sess, .prism, .rng, .mbus, .ilu, .out]
  | .domainDrainDone .. | .domainDrainTimeout .. => some [.parts, .ks, .prism, .facets, .engines, .domains, .rng, .ilu, .free, .out]
  | .rankRetrain .. | .busPecError .. | .busNoAck .. | .busSclStuck .. | .busSdaStuck .. | .i3cSdaStuck ..
  | .flashStatusPollTimeout .. | .syncHeaderError ..
    => some [.fns, .prism, .facets, .engines, .domains, .plat, .mbus, .hzn, .ilu, .flt, .out]
  | .rankTrained .. => some [.svc, .fns, .prism, .facets, .engines, .domains, .plat, .mbus, .hzn, .ilu, .flt, .out]
  | .fetchEntry .. => some [.fns, .rings, .replies, .pm, .parts, .ks, .sess, .prism, .facets, .rng, .ilu, .out]
  | .registerWrite .. | .pmWinWrite .. => some [.fns, .rings, .pm, .parts, .prism, .fabClass, .rng, .plat, .hzn, .ilu, .flt, .out]
  | .busArbLost .. => some [.fns, .ks, .prism, .facets, .engines, .domains, .plat, .mbus, .hzn, .ilu, .flt, .out]
  | .chunkSend .. => some [.rings, .replies, .parts, .ks, .sess, .prism, .rng, .plat, .mbus, .ilu, .free, .out]
  | .heartbeat .. | .timeMark .. | .forwardAck .. | .replyCheck .. | .lease .. | .spill .. | .spillReply .. | .cutThroughFrame .. | .trainFrameArrival .. => some [.fns, .rings, .parts, .ks, .sess, .prism, .facets, .engines, .rng, .ilu, .flt, .free, .out]
  | .replicateAck .. => some [.fns, .rings, .replies, .parts, .ks, .sess, .prism, .facets, .engines, .rng, .ilu, .flt, .free, .out]
  | .event .. => some [.fns, .rings, .replies, .parts, .ks, .sess, .prism, .facets, .engines, .rng, .ilu, .flt, .free, .out]
  | .itemEnd .. => some [.fns, .ks, .sess, .prism, .facets, .engines, .domains, .plat, .mbus, .hzn, .ilu, .flt, .out]
  | .dawnEntry .. => some [.svc, .fns, .parts, .ks, .prism, .domains, .rng, .fw, .plat, .life, .hzn, .ilu, .free, .out]
  | .forward .. | .leave .. | .replicate ..
    => some [.fns, .rings, .replies, .parts, .ks, .sess, .prism, .facets, .engines, .rng, .ilu, .flt, .free, .out]
  | .resync .. => some [.fns, .rings, .replies, .pm, .parts, .ks, .sess, .prism, .facets, .engines, .rng, .ilu, .flt, .free, .out]
  | .domainKatDone ..
    => some [.svc, .fns, .parts, .ks, .prism, .facets, .engines, .domains, .rng, .fw, .plat, .mbus, .life, .hzn, .ilu, .flt, .free, .out]
  | .patrolScrub ..
    => some [.fns, .replies, .parts, .ks, .sess, .prism, .facets, .engines, .domains, .fw, .plat, .mbus, .hzn, .ilu, .flt, .out]
  | .completionDue ..
    => some [.svc, .fns, .rings, .replies, .parts, .ks, .sess, .prism, .facets, .engines, .rng, .plat, .mbus, .hzn, .ilu, .free,
      .out]
  | .mctpPacket ..
    => some [.fns, .rings, .replies, .parts, .ks, .sess, .prism, .facets, .engines, .domains, .rng, .plat, .mbus, .hzn, .ilu,
      .flt, .free, .out]
  | .functionLevelReset .. | .vfEnableClear ..
    => some [.fns, .rings, .pm, .parts, .ks, .sess, .prism, .facets, .engines, .fabClass, .rng, .fw, .plat, .life, .hzn, .ilu,
      .flt, .out]
  | .lcRollForward .. | .tamperCompletion ..
    => some [.svc, .fns, .rings, .replies, .pm, .parts, .ks, .sess, .prism, .facets, .engines, .rng, .fw, .plat, .mbus, .life,
      .hzn, .ilu, .free]
  | .perstNAssert ..
    => some [.svc, .fns, .rings, .pm, .parts, .ks, .sess, .prism, .facets, .engines, .fabClass, .rng, .fw, .plat, .life, .hzn,
      .ilu, .flt, .out]
  | .pllLockTimeout .. | .clockCheck .. | .appStartTimeout .. | .warmReset ..
    => some [.clk, .svc, .fns, .rings, .pm, .parts, .ks, .sess, .prism, .facets, .engines, .domains, .fabClass, .rng, .fw, .plat,
      .mbus, .life, .hzn, .ilu, .flt, .free]
  | .tamperResponseEnd ..
    => some [.clk, .svc, .fns, .rings, .replies, .pm, .parts, .ks, .sess, .prism, .facets, .engines, .domains, .fabClass, .rng,
      .fw, .plat, .mbus, .life, .hzn, .ilu, .flt, .free]
  | .powerFail ..
    => some [.clk, .svc, .fns, .rings, .replies, .pm, .parts, .ks, .sess, .prism, .facets, .engines, .domains, .fabClass, .rng,
      .fw, .plat, .mbus, .life, .hzn, .ilu, .flt, .free, .out]
  | _ => none

end Sys2Proof.Safety
end

