-- ==== Sys2Proof/Certificates/Slice0/Obligations.lean ====
section
/-! DEFINITION. The statements for the provers. Each says in its docstring which rules it formalises. -/

open Sys2Proof Sys2Proof.Machine Sys2Proof.Safety

/-- Power-on, power-fail, feed and clock events, when they are due, have the effect the spec gives them. Rests also on the choices of the model in log entries 30. That an event which is not due changes nothing is the choice of the model, log entry 124. (R18, R19, R292, R389, R440, R441) -/
def Obligations.SupplyAndClockEventsTakeEffect : Prop :=
  (∀ (s : State) (a b : Nat), (s.clk.powered = false) → (10500 < a ∨ 10500 < b) →
     ∃ t, exec (.powerOn a b) s = .next t ∧
       t.clk = { s.clk with feedA := a, feedB := b, powered := true, porNs := s.clk.ns, pllEnabled := true, pllLocked := false, islandClock := false, faults := [], holdDark := false } ∧
       t.hzn.powered = true ∧ t.svc = s.svc ∧
       (s.hzn.lost = false → s.ks.mwkGen ≠ 0 → s.ks.regCrcOk = false → t.hzn.latch = true)) ∧
  (∀ (s : State) (a b : Nat),
     exec (.feedChange a b) s = .next { s with clk := { s.clk with feedA := a, feedB := b } }) ∧
  (∀ (s : State), (s.clk.powered = true) → (s.clk.feedA < 10000) → (s.clk.feedB < 10000) →
     ∃ t, exec .powerFail s = .next t ∧ t.clk.powered = false ∧ t.svc.phase = .dark ∧ t.prism.cmds = [] ∧ t.rings = [] ∧
       t.life.otp = (cutIntent s).life.otp ∧ t.clk.ns = s.clk.ns) ∧
  (∀ (s : State), (starting s = true) → (s.clk.pllEnabled = true) → (s.clk.pllLocked = false) →
     exec .pllLock s = .next { s with clk := { s.clk with pllLocked := true, pllLockNs := s.clk.ns } }) ∧
  (∀ (s : State), (starting s = true) → (s.clk.pllEnabled = true) → (s.clk.pllLocked = false) → (s.clk.porNs + 2000000 ≤ s.clk.ns) →
     ∃ t, exec .pllLockTimeout s = .next t ∧ t.svc.phase = .dark ∧ t.svc.warmCount = s.svc.warmCount + 1 ∧ t.clk.pllLocked = false ∧
       t.clk.faults = s.clk.faults.filter (fun x => decide (s.clk.ns < x + 1000000000)) ++ [s.clk.ns] ∧
       t.clk.holdDark = decide (3 ≤ t.clk.faults.length)) ∧
  (∀ (s : State), (starting s = true) → (s.clk.pllLocked = true) → (s.clk.islandClock = false) → (s.clk.pllLockNs + 100000 ≤ s.clk.ns) →
     ∃ t, exec .islandClockSwitch s = .next t ∧ t.clk = { s.clk with islandClock := true } ∧ t.rng.state = .testing ∧ t.rng.running = true ∧
       t.rng.startNs = s.clk.ns ∧ t.svc = s.svc ∧ t.fns = s.fns ∧ t.parts = s.parts ∧ t.ks = s.ks) ∧
  (∀ (s : State) (count : Nat) (lost : Bool), (s.clk.powered = true) → (s.clk.pllLocked = true) → (lost = true ∨ 108 * 1024 < 100 * count ∨ 100 * count < 92 * 1024) →
     ∃ t, exec (.clockCheck count lost) s = .next t ∧ t.svc.phase = .dark ∧ t.svc.warmCount = s.svc.warmCount + 1 ∧ t.clk.pllLocked = false ∧
       t.clk.faults = s.clk.faults.filter (fun x => decide (s.clk.ns < x + 1000000000)) ++ [s.clk.ns] ∧
       t.clk.holdDark = decide (3 ≤ t.clk.faults.length)) ∧
  (∀ (s : State) (count : Nat), (100 * count ≤ 108 * 1024) → (92 * 1024 ≤ 100 * count) →
     exec (.clockCheck count false) s = .next s) ∧
  (∀ (feedA : Nat) (feedB : Nat) (s : State), ((!s.clk.powered && (decide (10500 < feedA) || decide (10500 < feedB))) = false) →
     exec (.powerOn feedA feedB) s = .next s) ∧
  (∀ (s : State), ((s.clk.powered && decide (s.clk.feedA < 10000) && decide (s.clk.feedB < 10000)) = false) →
     exec .powerFail s = .next s) ∧
  (∀ (s : State), ((starting s && s.clk.pllEnabled && !s.clk.pllLocked) = false) →
     exec .pllLock s = .next s) ∧
  (∀ (s : State), ((starting s && s.clk.pllEnabled && !s.clk.pllLocked && decide (s.clk.porNs + 2000000 ≤ s.clk.ns)) = false) →
     exec .pllLockTimeout s = .next s) ∧
  (∀ (s : State), ((starting s && s.clk.pllLocked && !s.clk.islandClock && decide (s.clk.pllLockNs + 100000 ≤ s.clk.ns)) = false) →
     exec .islandClockSwitch s = .next s)

/-- Transitions left open, the tamper latch, the ROM boot, Dawn entry and the first rank are acted on at a start, each in its turn. Rests also on the choices of the model in log entries 28, 32, 34. That an event which is not due changes nothing is the choice of the model, log entry 124. (R27, R292, R299, R301, R305, R311, R364, R390, R391) -/
def Obligations.StartEventsRunTheRom : Prop :=
  (∀ (s : State) (i : Nat), (openRecord s = some i) → (recIntent s i = none) → (romActs s = true) → (s.hzn.latch = false) →
     ∃ t, exec .lcRollForward s = .next t ∧ t.life.otp = otpProgramBytes s.life.otp (0x400 + 16 * i) (List.replicate 8 0xFF) ∧
       t.life.fenced = false ∧ t.life.rolling = false ∧ t.svc = s.svc ∧ t.ks = s.ks) ∧
  (∀ (s : State) (i : Nat) (l : LifeCycle), (openRecord s = some i) → (recIntent s i = some l) → (romActs s = true) → (s.hzn.latch = false) →
     ∃ t, exec .lcRollForward s = .next t ∧ t = finishTransition i l (destroyTenants s) ∧ t.life.fenced = false ∧ t.life.rolling = false) ∧
  (∀ (i : Nat) (l : LifeCycle) (s : State),
     (destroyTenants s).ks.keys = [] ∧ (destroyTenants s).ks.nor0 = [] ∧ (destroyTenants s).ks.nor1 = [] ∧ (destroyTenants s).ks.mwkGen = 0 ∧
       (destroyTenants s).pm.logP = none ∧ (destroyTenants s).replies = [] ∧ (destroyTenants s).prism.cmds = [] ∧
       (finishTransition i l s).fw.stage = [] ∧ (finishTransition i l s).fw.stageLen = 0) ∧
  (∀ (s : State), (openRecord s = none ∨ romActs s = false ∨ s.hzn.latch = true) →
     exec .lcRollForward s = .next s) ∧
  (∀ (s : State), (romActs s = true) → (s.hzn.latch = true) → (openIntent s = none) →
     ∃ t, exec .tamperCompletion s = .next t ∧ t.hzn.latch = false ∧ t.ks.keys = [] ∧ t.ks.nor0 = [] ∧ t.ks.nor1 = [] ∧ t.ks.mwkGen = 0 ∧
       t.ks.mwk = zeros 32 ∧ t.prism.cmds = [] ∧ t.replies = [] ∧ t.pm.logP = none ∧ t.svc.jnlLost = true ∧ t.hzn.epoch = s.hzn.epoch + 1) ∧
  (∀ (s : State) (i : Nat) (l : LifeCycle), (romActs s = true) → (s.hzn.latch = true) → (openIntent s = some (i, l)) →
     ∃ t, exec .tamperCompletion s = .next t ∧ t.hzn.latch = false ∧
       t = finishTransition i l { destroyTenants s with hzn := { (destroyTenants s).hzn with latch := false } }) ∧
  (∀ (s : State), (romActs s = false ∨ s.hzn.latch = false) →
     exec .tamperCompletion s = .next s) ∧
  (∀ (s : State) (ra rb : Bool), (starting s = true) → (s.clk.islandClock = true) → (s.svc.romStarted = false) → (openRecord s = none) → (s.hzn.latch = false) → (lifeCycle s ≠ .scrap) →
     (let a := (trialOrder s ra rb).1; let r := fun b => imageCheck s (slotOf s b).image 1 0 (if b then rb else ra);
       ∃ t, exec (.romBoot ra rb) s = .next t ∧ t.svc.romStarted = true ∧ t.fw.flags = (trialOrder s ra rb).2 ∧ (slotOf t a).result = BitVec.ofNat 4 (r a) ∧
       (r a = 1 → t.svc.phase = .dawn ∧ t.svc.romFound = true ∧ t.fw.running = a ∧ t.fw.fallback = false) ∧
       (r a ≠ 1 → r (!a) = 1 → t.svc.phase = .dawn ∧ t.svc.romFound = true ∧ t.fw.running = !a ∧ t.fw.fallback = true) ∧
       (r a ≠ 1 → r (!a) ≠ 1 → t.svc.phase = .dark ∧ t.svc.recovery = true))) ∧
  (∀ (s : State) (ra rb : Bool), (starting s = false ∨ s.clk.islandClock = false ∨ s.svc.romStarted = true ∨ openRecord s ≠ none ∨ s.hzn.latch = true ∨ lifeCycle s = .scrap) →
     exec (.romBoot ra rb) s = .next s) ∧
  (∀ (s : State) (bad : BadRecords), (s.svc.phase = .dawn) → (s.svc.dawnDone = false) → (islandStalls s = false) →
     ∃ t, exec (.dawnEntry bad) s = .next t ∧ t.svc.dawnDone = true ∧ t.svc.jnlLost = false ∧
       t = (let u := drawStartKeys (deriveAliases (writeCheckpoint (restoreHorizon (settleSlots (applyFloor s)))));
       let v := platformAtStart (mirrorAtStart (domainsAtStart (loadMapping (finaliseJournals (reloadKeys bad u)))));
       reportLoss (flushDebugLog { v with svc := { v.svc with dawnDone := true } }))) ∧
  (∀ (s : State) (bad : BadRecords), (s.svc.phase ≠ .dawn ∨ s.svc.dawnDone = true ∨ islandStalls s = true) →
     exec (.dawnEntry bad) s = .next s) ∧
  (∀ (s : State), (s.svc.phase = .dawn) → (s.svc.dawnDone = true) → (s.svc.rank0 = false) →
     exec (.rankTrained true) s = .next { s with svc := { s.svc with rank0 := true, linkUp := linkReady s.clk.ns s.svc } }) ∧
  (∀ (s : State), (s.svc.phase = .dawn) → (s.svc.dawnDone = true) → (s.svc.rank0 = false) →
     exec (.rankTrained false) s = .next (transient { kind := 6, index := 0 } s)) ∧
  (∀ (s : State) (b : Bool), (s.svc.phase ≠ .dawn ∨ s.svc.dawnDone = false ∨ s.svc.rank0 = true) →
     exec (.rankTrained b) s = .next s) ∧
  (∀ (s : State), (s.svc.phase = .dawn) → (s.svc.rank0 = true) → (s.fw.load = 0) → (s.fw.stage ≠ []) →
     ∃ t, exec .retainedAppRecheck s = .next t ∧ t.fw.lastResult = BitVec.ofNat 4 (stageCheck s) ∧ t.svc = s.svc ∧
       (stageCheck s = 1 → t.fw.load = 2 ∧ t.fw.stage = s.fw.stage ∧ (getDomain t 2).testing = true ∧ (getDomain t 2).katPass = false) ∧
       (stageCheck s ≠ 1 → t.fw.load = 0 ∧ t.fw.stage = [] ∧ t.fw.stageLen = 0 ∧ t.domains = s.domains)) ∧
  (∀ (s : State), (s.svc.phase = .dawn) → (s.fw.load = 2) → ((getDomain s 2).on = true) → ((getDomain s 2).testing = true) →
     ∃ t, exec (.domainKatDone 2 []) s = .next t ∧ t = releaseApp true s ∧ t.fw.load = 3 ∧ t.fw.retained = true ∧ t.fw.stage = s.fw.stage ∧ t.svc.releaseNs = s.clk.ns ∧
       (getDomain t 2).katPass = true ∧ (getDomain t 2).testing = false) ∧
  (∀ (s : State) (l : List Nat), (s.svc.phase = .dawn) → (s.fw.load = 2) → ((getDomain s 2).on = true) → ((getDomain s 2).testing = true) → (l ≠ []) →
     exec (.domainKatDone 2 l) s = .next (setDomain s 2 { getDomain s 2 with testing := false })) ∧
  (∀ (s : State), (s.svc.phase ≠ .dawn ∨ s.svc.rank0 = false ∨ s.fw.load ≠ 0 ∨ s.fw.stage = []) →
     exec .retainedAppRecheck s = .next s) ∧
  (∀ (d : Fin 32) (failed : List Nat) (s : State), ((((getDomain s d.val).on && (getDomain s d.val).testing) || (!(getDomain s d.val).on && domainWants s d.val true)) = false) →
     exec (.domainKatDone d failed) s = .next s)

/-- The application start, the trained memory ports and the entry to Clear move the service phase; timeouts act as written. Rests also on the choices of the model in log entries 29, 60. That an event which is not due changes nothing is the choice of the model, log entry 124. (R25, R28, R29, R30, R309, R310) -/
def Obligations.PhaseEventsReachOvercastAndClear : Prop :=
  (∀ (s : State), (s.svc.phase = .dawn) → (s.fw.load = 3) → (releaseWritten s = true) →
     ∃ t, exec .appStartReport s = .next t ∧ t.svc.phase = .overcast ∧ t.svc.calLoaded = true ∧ t.svc.calFull = calGood s.hzn.calFull ∧
       t.hzn.calDefault = !calGood s.hzn.calLight ∧ t.parts = s.parts ∧ t.ks = s.ks ∧ t.rings = s.rings ∧ t.life = s.life) ∧
  (∀ (s : State), (s.svc.phase = .dawn) → (s.fw.load = 3) → (releaseWritten s = true) → (s.svc.releaseNs + 500000000 ≤ s.clk.ns) →
     ∃ t, exec .appStartTimeout s = .next t ∧ t.svc.phase = .dark ∧ t.svc.warmCount = s.svc.warmCount + 1 ∧ t.fw.lastResult = 10 ∧ t.fw.load = 0 ∧ t.fw.stage = []) ∧
  (∀ (s : State), (s.svc.phase = .overcast) →
     exec .memoryPortsTrained s = .next { s with svc := { s.svc with memTrained := true } }) ∧
  (∀ (s : State), (s.svc.phase = .overcast) → (s.svc.memTrained = true) → (s.svc.calLoaded = true) → (katDone s = true) →
     ∃ t, exec .enterClear s = .next t ∧ t.svc.phase = .clear ∧ t.svc.capped = (!s.svc.calFull) ∧ t.ks = s.ks ∧ t.life = s.life ∧ t.prism = s.prism) ∧
  (∀ (s : State),
     exec .clearTimeout s = .next s) ∧
  (∀ (s : State), ((s.svc.phase == .dawn && s.fw.load == 3 && releaseWritten s) = false) →
     exec .appStartReport s = .next s) ∧
  (∀ (s : State), ((s.svc.phase == .dawn && s.fw.load == 3 && releaseWritten s && decide (s.svc.releaseNs + 500000000 ≤ s.clk.ns)) = false) →
     exec .appStartTimeout s = .next s) ∧
  (∀ (s : State), ((s.svc.phase == .overcast) = false) →
     exec .memoryPortsTrained s = .next s) ∧
  (∀ (s : State), ((s.svc.phase == .overcast && s.svc.memTrained && s.svc.calLoaded && katDone s) = false) →
     exec .enterClear s = .next s)

/-- A warm reset, PERST_N, a function-level reset and the clearing of VF Enable act as the spec says. Rests also on the choices of the model in log entries 24, 27, 28. That an event which is not due changes nothing is the choice of the model, log entry 124. (R8, R106, R111, R112, R293, R452) -/
def Obligations.ResetEventsTakeEffect : Prop :=
  (∀ (s : State) (w : WarmCause), (s.clk.powered = true) → (w ≠ .other ∨ warmDue s = true) →
     ∃ t, exec (.warmReset w) s = .next t ∧ t.svc.phase = .dark ∧ t.svc.warmCount = s.svc.warmCount + 1 ∧ t.prism.cmds = [] ∧
       t.prism.cutOff = s.prism.cutOff ++ s.prism.cmds ∧ t.ks.mwk = s.ks.mwk ∧ t.ks.mwkGen = s.ks.mwkGen ∧ t.ks.epochs = s.ks.epochs ∧
       (∀ g, g < 1024 → (getRing t g).enable = false ∧ (getRing t g).gen = (getRing s g).gen + 1) ∧ t.life.otp = (cutIntent s).life.otp ∧ t.pending = s.pending) ∧
  (∀ (s : State), (s.svc.perst = false) →
     exec .perstNAssert s = .next (resetVfs (hostReset 0 { s with svc := { s.svc with perst := true, linkUp := false } }))) ∧
  (∀ (s : State), (s.svc.perst = true) →
     exec .perstNDeassert s = .next { s with svc := { s.svc with perst := false, perstNs := s.clk.ns } }) ∧
  (∀ (s : State) (f : Fin 256), (s.svc.linkUp = true) →
     exec (.functionLevelReset f) s = .next (changeGens f.val (functionClear f.val s))) ∧
  (∀ (s : State), (s.svc.linkUp = true) →
     exec .vfEnableClear s = .next ((List.range 255).foldl (fun u f => hostReset (f + 1) u) s)) ∧
  (∀ (cause : WarmCause) (s : State), ((s.clk.powered && (cause != .other || warmDue s)) = false) →
     exec (.warmReset cause) s = .next s) ∧
  (∀ (s : State), ((!s.svc.perst) = false) →
     exec .perstNAssert s = .next s) ∧
  (∀ (s : State), ((s.svc.perst) = false) →
     exec .perstNDeassert s = .next s) ∧
  (∀ (f : Fin 256) (s : State), ((s.svc.linkUp) = false) →
     exec (.functionLevelReset f) s = .next s) ∧
  (∀ (s : State), ((s.svc.linkUp) = false) →
     exec .vfEnableClear s = .next s)

/-- A read of a BAR answers its word; a 32-bit read of a low half latches the high half; an offset outside the BAR stops. Rests also on the choices of the model in log entries 14, 22, 103. (R6, R40, R41, R44, R457) -/
def Obligations.RegisterReadsAnswerTheirWord : Prop :=
  (∀ (s : State) (f : Fin 256) (off : Nat), (s.svc.linkUp = true) → (off < 65536) → (off % 4 = 0) → (wideReg f.val off = true) →
     exec (.halfReadLatch f ⟨0, off, 4⟩) s = .next (emit (.readData f.val 0 off 4 (BitVec.ofNat 64 (match (getFn s f.val).latch.look off with | some w => w.toNat | none => bar0Word s f.val off)))
       (setFn s f.val { getFn s f.val with latch := (Tab.del (getFn s f.val).latch off).put (off + 4) (BitVec.ofNat 32 (bar0Word s f.val (off + 4))) }))) ∧
  (∀ (s : State) (f : Fin 256) (off : Nat), (s.svc.linkUp = true) → (off < 65536) → (off % 4 = 0) → (wideReg f.val off = false) →
     exec (.halfReadLatch f ⟨0, off, 4⟩) s = .next (emit (.readData f.val 0 off 4 (BitVec.ofNat 64 (match (getFn s f.val).latch.look off with | some w => w.toNat | none => bar0Word s f.val off)))
       (setFn s f.val { getFn s f.val with latch := Tab.del (getFn s f.val).latch off }))) ∧
  (∀ (s : State) (f : Fin 256) (off : Nat), (s.svc.linkUp = true) → (off < 65536) → (off % 8 = 0) →
     exec (.halfReadLatch f ⟨0, off, 8⟩) s = .next (emit (.readData f.val 0 off 8 (BitVec.ofNat 64 (bar0Word s f.val off + 2 ^ 32 * bar0Word s f.val (off + 4)))) s)) ∧
  (∀ (s : State) (f : Fin 256) (off size : Nat), (s.svc.linkUp = true) → (off < 65536) → ((size ≠ 4 ∨ off % 4 ≠ 0) ∧ (size ≠ 8 ∨ off % 8 ≠ 0)) →
     exec (.halfReadLatch f ⟨0, off, size⟩) s = .next (emit (.readData f.val 0 off size 0) s)) ∧
  (∀ (s : State) (f : Fin 256) (off size : Nat), (s.svc.linkUp = true) → (off < 262144) →
     exec (.halfReadLatch f ⟨2, off, size⟩) s = .next (emit (.readData f.val 2 off size 0) s)) ∧
  (∀ (s : State) (f : Fin 256) (off : Nat), (s.svc.linkUp = true) → (off < 16384) → (off % 4 = 0) →
     exec (.halfReadLatch f ⟨4, off, 4⟩) s = .next (emit (.readData f.val 4 off 4 (BitVec.ofNat 64 (bar4Word s f.val off))) s)) ∧
  (∀ (s : State) (f : Fin 256) (bar off size : Nat), (s.svc.linkUp = true) → (barSize bar ≤ off) →
     exec (.halfReadLatch f ⟨bar, off, size⟩) s = .fault .outsideBar) ∧
  (∀ (s : State) (f : Fin 256) (bar off size : Nat), (s.svc.linkUp = false) →
     exec (.halfReadLatch f ⟨bar, off, size⟩) s = .next s)

/-- Writes of the BARs, of causes, masks, the journal index, trace registers, windows and the MSI-X table store what the spec says. Rests also on the choices of the model in log entries 8, 14, 100, 104. That an event which is not due changes nothing is the choice of the model, log entry 124. (R6, R40, R41, R65, R81, R82, R99, R434, R457) -/
def Obligations.RegisterWritesTakeEffect : Prop :=
  (∀ (s : State) (f : Fin 256) (bar off size : Nat) (v : BitVec 64), (s.svc.linkUp = true) → (off < barSize bar) →
     exec (.registerWrite f bar off size v) s = .next (match bar with | 0 => writeBar0 f.val off size v.toNat s | 2 => writeBar2 f.val off size v.toNat s | _ => writeBar4 f.val off size v.toNat s)) ∧
  (∀ (s : State) (f : Fin 256) (off size : Nat) (v : BitVec 64), (s.svc.linkUp = true) → (off < 65536) →
     ∃ t, exec (.registerWrite f 0 off size v) s = .next t ∧ (size = 4 → off % 4 = 0 → t = writeWord f.val off (loHalf v.toNat) s) ∧
       (size = 8 → off % 8 = 0 → t = writeWord f.val (off + 4) (hiHalf v.toNat) (writeWord f.val off (loHalf v.toNat) s)) ∧
       ((size ≠ 4 ∨ off % 4 ≠ 0) → (size ≠ 8 ∨ off % 8 ≠ 0) → t = s)) ∧
  (∀ (s : State) (f : Fin 256) (bar off size : Nat) (v : BitVec 64), (s.svc.linkUp = false) →
     exec (.registerWrite f bar off size v) s = .next s) ∧
  (∀ (s : State) (f : Fin 256) (v : BitVec 64), (s.svc.linkUp = true) →
     exec (.registerWrite f 0 0x20 4 v) s = .next (setFn s f.val { getFn s f.val with irqCause := (getFn s f.val).irqCause &&& ~~~(v.setWidth 5) })) ∧
  (∀ (s : State) (f : Fin 256) (v : BitVec 64), (s.svc.linkUp = true) →
     exec (.registerWrite f 0 0 4 v) s = .next s) ∧
  (∀ (s : State) (f : Fin 256) (bar off size : Nat) (v : BitVec 64), (s.svc.linkUp = true) → (barSize bar ≤ off) →
     exec (.registerWrite f bar off size v) s = .fault .outsideBar) ∧
  (∀ (s : State) (f : Fin 256) (v : BitVec 32), (s.svc.linkUp = true) →
     ∃ t, exec (.fnIrqMaskWrite f v) s = .next t ∧
       t = (let m := v.setWidth 5 &&& (if f.val = 0 then 0x1F else 0x0F); let u := setFn s f.val { getFn s f.val with irqMask := m };
       if (getFn s f.val).irqCause &&& (getFn s f.val).irqMask &&& ~~~m = 0 then u else raiseVector f.val 0 u)) ∧
  (∀ (s : State) (v : BitVec 32), (s.svc.linkUp = true) →
     ∃ t, exec (.fltMaskWrite v) s = .next t ∧ t.flt = { s.flt with mask := v.setWidth 9 } ∧
       (s.flt.cause &&& s.flt.mask &&& ~~~(v.setWidth 9) = 0 → t.out = s.out ∧ t.fns = s.fns)) ∧
  (∀ (s : State) (f : Fin 256) (v : BitVec 32) (p : Nat), (s.svc.linkUp = true) → (fnPart s f.val = some p) →
     exec (.jnlIndexWrite f v) s = .next (setFn s f.val { getFn s f.val with jnlIndex := v.setWidth 16, jnlWindow := ((getPart s p).journal.look (v.toNat % 65536)).elim (zeros 64) jBytes })) ∧
  (∀ (s : State) (f : Fin 256) (v : BitVec 32), (s.svc.linkUp = true) → (fnPart s f.val = none) →
     exec (.jnlIndexWrite f v) s = .next (setFn s f.val { getFn s f.val with jnlIndex := v.setWidth 16, jnlWindow := zeros 64 })) ∧
  (∀ (s : State) (v : BitVec 32), (s.svc.linkUp = true) → (s.prism.trcOn = false) → (bit v.toNat 0 = true) → (12 ≤ bits v.toNat 5 1) → (bits v.toNat 5 1 ≤ 24) →
     ∃ t, exec (.trcEnableWrite v) s = .next t ∧ t.prism.trcOn = true ∧ t.prism.trcWrite = 0 ∧ t.prism.trcRead = 0 ∧
       t.prism.trcLog = BitVec.ofNat 5 (bits v.toNat 5 1) ∧ t.prism.trcPart = BitVec.ofNat 8 (bits v.toNat 15 8) ∧
       t.prism.trcFilter = bit v.toNat 16 ∧ t.prism.trcMask = BitVec.ofNat 8 (bits v.toNat 24 17) ∧ t.prism.cmds = s.prism.cmds) ∧
  (∀ (s : State) (v : BitVec 32), (s.svc.linkUp = true) → (bit v.toNat 0 = false) →
     ∃ t, exec (.trcEnableWrite v) s = .next t ∧ t.prism.trcOn = false ∧ t.prism.trcWrite = s.prism.trcWrite) ∧
  (∀ (s : State) (v : BitVec 32), (s.svc.linkUp = true) → (bit v.toNat 0 = true) → (s.prism.trcOn = true) →
     ∃ t, exec (.trcEnableWrite v) s = .next t ∧ t.prism = { s.prism with trcPart := BitVec.ofNat 8 (bits v.toNat 15 8), trcFilter := bit v.toNat 16, trcMask := BitVec.ofNat 8 (bits v.toNat 24 17) }) ∧
  (∀ (s : State) (v : BitVec 32), (s.svc.linkUp = true) → (s.prism.trcOn = false) → (bits v.toNat 5 1 < 12 ∨ 24 < bits v.toNat 5 1) →
     ∃ t, exec (.trcEnableWrite v) s = .next t ∧ t.prism = { s.prism with trcLog := BitVec.ofNat 5 (bits v.toNat 5 1), trcPart := BitVec.ofNat 8 (bits v.toNat 15 8), trcFilter := bit v.toNat 16, trcMask := BitVec.ofNat 8 (bits v.toNat 24 17) }) ∧
  (∀ (s : State) (v : BitVec 32), (s.svc.linkUp = true) →
     exec (.trcReadWrite v) s = .next { s with prism := { s.prism with trcRead := v.setWidth 24, trcFull := false } }) ∧
  (∀ (s : State) (v : BitVec 64) (limit : Bool), (s.svc.linkUp = true) → ((partRings s s.pm.selPart.toNat).any (fun g => (getRing s g).enable) = true) →
     exec (.pmWinWrite limit 0 4 v) s = .next { s with pm := { s.pm with refused := true } }) ∧
  (∀ (s : State) (v : BitVec 64), (s.svc.linkUp = true) → ((partRings s s.pm.selPart.toNat).any (fun g => (getRing s g).enable) = false) →
     (let b := putHalf (winBase (windowOf s)) false (loHalf v.toNat);
       exec (.pmWinWrite false 0 4 v) s = .next (modPart s.pm.selPart.toNat (fun x => { x with windows := x.windows.put s.pm.selWin.toNat { windowOf s with valid := bit b 0, base := BitVec.ofNat 52 (b / 4096) } }) s))) ∧
  (∀ (s : State) (limit : Bool) (off size : Nat) (v : BitVec 64), (s.svc.linkUp = true) → (off < 8) →
     exec (.pmWinWrite limit off size v) s = exec (.registerWrite 0 0 ((if limit then 0x3020 else 0x3018) + off) size v) s) ∧
  (∀ (s : State) (f : Fin 256) (off : Nat) (v : BitVec 64), (s.svc.linkUp = true) → (off < 1040) → (off % 4 = 0) → (off % 16 ≠ 12) →
     exec (.msixTableWrite f off 4 v) s = .next (setFn s f.val { getFn s f.val with msixTable := (getFn s f.val).msixTable.put off (v.setWidth 32) })) ∧
  (∀ (s : State) (f : Fin 256) (off size : Nat) (v : BitVec 64), (s.svc.linkUp = true) → (16384 ≤ off) →
     exec (.msixTableWrite f off size v) s = .fault .outsideBar) ∧
  (∀ (s : State) (f : Fin 256) (k : Nat) (v : BitVec 64), (s.svc.linkUp = true) → (k < 65) →
     (let u := setFn s f.val { getFn s f.val with msixTable := (getFn s f.val).msixTable.put (16 * k + 12) (v.setWidth 32) };
       exec (.msixTableWrite f (16 * k + 12) 4 v) s = .next (if bit v.toNat 0 = false ∧ (getFn s f.val).msixPend.contains k = true
       then emit (.msix f.val k (msixWrite (getFn u f.val) k)) (setFn u f.val { getFn u f.val with msixPend := (getFn u f.val).msixPend.filter (· != k) }) else u))) ∧
  (∀ (s : State) (f : Fin 256) (off size : Nat) (v : BitVec 64), (s.svc.linkUp = true) → (off < 16384) →
     ∃ t, exec (.msixTableWrite f off size v) s = .next t ∧ (size = 8 → off % 8 = 0 → t = writeMsixWord f.val (off + 4) (hiHalf v.toNat) (writeMsixWord f.val off (loHalf v.toNat) s)) ∧
       ((size ≠ 4 ∨ off % 4 ≠ 0) → (size ≠ 8 ∨ off % 8 ≠ 0) → t = s) ∧ (1040 ≤ off → t = s)) ∧
  (∀ (s : State) (f : Fin 256) (off size : Nat) (v : BitVec 64), (s.svc.linkUp = false) →
     exec (.msixTableWrite f off size v) s = .next s) ∧
  (∀ (f : Fin 256) (v : BitVec 32) (s : State), ((s.svc.linkUp) = false) →
     exec (.fnIrqMaskWrite f v) s = .next s) ∧
  (∀ (v : BitVec 32) (s : State), ((s.svc.linkUp) = false) →
     exec (.fltMaskWrite v) s = .next s) ∧
  (∀ (f : Fin 256) (v : BitVec 32) (s : State), ((s.svc.linkUp) = false) →
     exec (.jnlIndexWrite f v) s = .next s) ∧
  (∀ (v : BitVec 32) (s : State), ((s.svc.linkUp) = false) →
     exec (.trcEnableWrite v) s = .next s) ∧
  (∀ (v : BitVec 32) (s : State), ((s.svc.linkUp) = false) →
     exec (.trcReadWrite v) s = .next s) ∧
  (∀ (limit : Bool) (off : Nat) (size : Nat) (v : BitVec 64) (s : State), ((s.svc.linkUp && decide (off < 8)) = false) →
     exec (.pmWinWrite limit off size v) s = .next s)

/-- SQ_TAIL and CQ_HEAD take an index that does not move backwards; other doorbells set BAD_DOORBELL or DB_OVERRUN. That an event which is not due changes nothing is the choice of the model, log entry 124. (R44, R45, R97, R456) -/
def Obligations.DoorbellsMoveTheRingIndices : Prop :=
  (∀ (s : State) (f : Fin 256) (n : Fin 64) (v : BitVec 32), (s.svc.linkUp = true) → ((getFn s f.val).mapped = true) → (n.val < (getFn s f.val).ringCount) → ((getRing s ((getFn s f.val).ringBase + n.val)).enable = true) → (v.toNat % 65536 < ringSize (getRing s ((getFn s f.val).ringBase + n.val))) →
     (let g := (getFn s f.val).ringBase + n.val; let r := getRing s g; let i := BitVec.ofNat 16 (v.toNat % 65536);
       ∃ t, exec (.sqTailWrite f n 4 v) s = .next t ∧
       (ringDiff (ringSize r) r.sqTail r.sqHead ≤ ringDiff (ringSize r) i r.sqHead → t = setRing s g { r with sqTail := i }) ∧
       (ringDiff (ringSize r) i r.sqHead < ringDiff (ringSize r) r.sqTail r.sqHead →
       t = setCause f.val causeDb (bumpFn f.val cQueueFull (setRing s g { r with dbOverrun := true }))))) ∧
  (∀ (s : State) (f : Fin 256) (n : Fin 64) (v : BitVec 32), (s.svc.linkUp = true) → ((getFn s f.val).mapped = true) → (n.val < (getFn s f.val).ringCount) → ((getRing s ((getFn s f.val).ringBase + n.val)).enable = true) → (v.toNat % 65536 < ringSize (getRing s ((getFn s f.val).ringBase + n.val))) →
     (let g := (getFn s f.val).ringBase + n.val; let r := getRing s g; let i := BitVec.ofNat 16 (v.toNat % 65536);
       ∃ t, exec (.cqHeadWrite f n 4 v) s = .next t ∧
       (ringDiff (ringSize r) i r.cqHead ≤ ringDiff (ringSize r) r.cqTail r.cqHead → t = setRing s g { r with cqHead := i }) ∧
       (ringDiff (ringSize r) r.cqTail r.cqHead < ringDiff (ringSize r) i r.cqHead → t = setCause f.val causeDb (setRing s g { r with badDoorbell := true })))) ∧
  (∀ (s : State) (f : Fin 256) (n : Fin 64) (size : Nat) (v : BitVec 32), (s.svc.linkUp = true) → ((getFn s f.val).mapped = true) → (n.val < (getFn s f.val).ringCount) → (size ≠ 4 ∨ (getRing s ((getFn s f.val).ringBase + n.val)).enable = false ∨ ringSize (getRing s ((getFn s f.val).ringBase + n.val)) ≤ v.toNat % 65536) →
     (let g := (getFn s f.val).ringBase + n.val; let u := setCause f.val causeDb (setRing s g { getRing s g with badDoorbell := true });
       exec (.sqTailWrite f n size v) s = .next u ∧ exec (.cqHeadWrite f n size v) s = .next u)) ∧
  (∀ (s : State) (f : Fin 256) (n : Fin 64) (size : Nat) (v : BitVec 32), (s.svc.linkUp = true) → ((getFn s f.val).mapped = false ∨ (getFn s f.val).ringCount ≤ n.val) →
     ∃ t, exec (.sqTailWrite f n size v) s = .next t ∧ exec (.cqHeadWrite f n size v) s = .next t ∧ t.rings = s.rings ∧ n.val ∈ (getFn t f.val).stray) ∧
  (∀ (f : Fin 256) (n : Fin 64) (size : Nat) (v : BitVec 32) (s : State), ((s.svc.linkUp) = false) →
     exec (.sqTailWrite f n size v) s = .next s) ∧
  (∀ (f : Fin 256) (n : Fin 64) (size : Nat) (v : BitVec 32) (s : State), ((s.svc.linkUp) = false) →
     exec (.cqHeadWrite f n size v) s = .next s)

/-- RING_CTRL with ENABLE at 1 starts a ring that is in order, and with ENABLE at 0 stops it and raises its generation. Rests also on the choices of the model in log entries 21, 105. That an event which is not due changes nothing is the choice of the model, log entry 124. (R42, R43, R99, R104, R106, R410) -/
def Obligations.RingControlStartsAndStopsRings : Prop :=
  (∀ (s : State) (f : Fin 256) (n : Fin 64) (v : BitVec 32) (g : Nat), (s.svc.linkUp = true) → ((getFn s f.val).mapped = true) → (n.val < (getFn s f.val).ringCount) → (g = (getFn s f.val).ringBase + n.val) → ((getRing s g).enable = false) → (6 ≤ bits (v ||| 1).toNat 5 1 ∧ bits (v ||| 1).toNat 5 1 ≤ 16) → (1 ≤ bits (v ||| 1).toNat 15 8 ∧ bits (v ||| 1).toNat 15 8 ≤ 64) → ((getPart s (getFn s f.val).partition).state ≠ .disabled) → (ringFits s (getFn s f.val).partition { getRing s g with logSize := BitVec.ofNat 5 (bits (v ||| 1).toNat 5 1) } = true) →
     ∃ t, exec (.ringEnable f n v) s = .next t ∧ (getRing t g).enable = true ∧ (getRing t g).sqHead = 0 ∧ (getRing t g).sqTail = 0 ∧ (getRing t g).cqHead = 0 ∧
       (getRing t g).cqTail = 0 ∧ (getRing t g).cqPhase = true ∧ (getRing t g).gen = (getRing s g).gen ∧
       (getRing t g).logSize = BitVec.ofNat 5 (bits (v ||| 1).toNat 5 1) ∧ (getRing t g).vector = BitVec.ofNat 8 (bits (v ||| 1).toNat 15 8)) ∧
  (∀ (s : State) (f : Fin 256) (n : Fin 64) (v : BitVec 32) (g : Nat), (s.svc.linkUp = true) → ((getFn s f.val).mapped = true) → (n.val < (getFn s f.val).ringCount) → (g = (getFn s f.val).ringBase + n.val) → ((getRing s g).enable = true) →
     exec (.ringEnable f n v) s = .next (setRing s g (storeRingCtrl (v ||| 1).toNat (getRing s g)))) ∧
  (∀ (s : State) (f : Fin 256) (n : Fin 64) (v : BitVec 32) (g : Nat), (s.svc.linkUp = true) → ((getFn s f.val).mapped = true) → (n.val < (getFn s f.val).ringCount) → (g = (getFn s f.val).ringBase + n.val) → ((getRing s g).enable = false) → (bits (v ||| 1).toNat 5 1 < 6 ∨ 16 < bits (v ||| 1).toNat 5 1 ∨ bits (v ||| 1).toNat 15 8 = 0 ∨ 64 < bits (v ||| 1).toNat 15 8 ∨ (getPart s (getFn s f.val).partition).state = .disabled) →
     exec (.ringEnable f n v) s = .next (setRing s g (storeRingCtrl (v ||| 1).toNat (getRing s g)))) ∧
  (∀ (s : State) (f : Fin 256) (n : Fin 64) (v : BitVec 32) (g : Nat), (s.svc.linkUp = true) → ((getFn s f.val).mapped = true) → (n.val < (getFn s f.val).ringCount) → (g = (getFn s f.val).ringBase + n.val) → ((getRing s g).enable = false) → (6 ≤ bits (v ||| 1).toNat 5 1 ∧ bits (v ||| 1).toNat 5 1 ≤ 16) → (1 ≤ bits (v ||| 1).toNat 15 8 ∧ bits (v ||| 1).toNat 15 8 ≤ 64) → ((getPart s (getFn s f.val).partition).state ≠ .disabled) → (ringFits s (getFn s f.val).partition { getRing s g with logSize := BitVec.ofNat 5 (bits (v ||| 1).toNat 5 1) } = false) →
     exec (.ringEnable f n v) s = .next (spoofReport f.val 5 (getFn s f.val).partition g n.val (setRing s g (storeRingCtrl (v ||| 1).toNat (getRing s g))))) ∧
  (∀ (s : State) (f : Fin 256) (n : Fin 64) (v : BitVec 32), (s.svc.linkUp = true) → ((getFn s f.val).mapped = false ∨ (getFn s f.val).ringCount ≤ n.val) →
     exec (.ringEnable f n v) s = .next s ∧ exec (.ringDisable f n v) s = .next s) ∧
  (∀ (s : State) (f : Fin 256) (n : Fin 64) (v : BitVec 32) (g : Nat), (s.svc.linkUp = true) → ((getFn s f.val).mapped = true) → (n.val < (getFn s f.val).ringCount) → (g = (getFn s f.val).ringBase + n.val) →
     exec (.ringDisable f n v) s = .next (changeRingGen g (setRing s g (storeRingCtrl (v &&& 0xFFFFFFFE).toNat (getRing s g))))) ∧
  (∀ (s : State) (f : Fin 256) (n : Fin 64) (v : BitVec 32) (g : Nat), (s.svc.linkUp = true) → ((getFn s f.val).mapped = true) → (n.val < (getFn s f.val).ringCount) → (g = (getFn s f.val).ringBase + n.val) → (s.ilu.mirror = .none) →
     ∃ t, exec (.ringDisable f n v) s = .next t ∧ (getRing t g).enable = false ∧ (getRing t g).gen = (getRing s g).gen + 1 ∧ (getRing t g).logSize = (storeRingCtrl (v &&& 0xFFFFFFFE).toNat (getRing s g)).logSize) ∧
  (∀ (f : Fin 256) (n : Fin 64) (v : BitVec 32) (s : State), ((s.svc.linkUp) = false) →
     exec (.ringEnable f n v) s = .next s) ∧
  (∀ (f : Fin 256) (n : Fin 64) (v : BitVec 32) (s : State), ((s.svc.linkUp) = false) →
     exec (.ringDisable f n v) s = .next s)

/-- Fetching takes the entry at SQ_HEAD, owes a completion for it and runs the nine checks in their order. Rests also on the choices of the model in log entries 15 to 20, 101, 106, 111, 112. (R46, R49, R52, R54, R66, R81, R87, R104, R105, R106, R109) -/
def Obligations.FetchedEntriesAreTakenAndJudged : Prop :=
  (∀ (s : State) (f : Fin 256) (n : Fin 64) (x : Submission), (mayFetch s f.val n.val = true) →
     ((getRing (taken s f.val n.val) (fetchRing s f.val n.val)).sqHead = BitVec.ofNat 16 (((getRing s (fetchRing s f.val n.val)).sqHead.toNat + 1) % ringSize (getRing s (fetchRing s f.val n.val))) ∧
       (getRing (taken s f.val n.val) (fetchRing s f.val n.val)).owed = (getRing s (fetchRing s f.val n.val)).owed + 1 ∧ ∃ t, exec (.fetchEntry f n x) s = .next t ∧ t = checks n.val (entryReq s f.val n.val x) (entryDescs x) (taken s f.val n.val))) ∧
  (∀ (s : State) (f : Fin 256) (n : Fin 64) (x : Submission), (mayFetch s f.val n.val = true) → (headerOk (entryReq s f.val n.val x) = false) →
     exec (.fetchEntry f n x) s = .next (postRefusal (entryReq s f.val n.val x) stBadHeader (bumpFn f.val cBadHeader (taken s f.val n.val)))) ∧
  (∀ (s : State) (f : Fin 256) (n : Fin 64) (x : Submission) (k : Nat), (mayFetch s f.val n.val = true) → (headerOk (entryReq s f.val n.val x) = true) → (sourceCause (taken s f.val n.val) (entryReq s f.val n.val x) (entryDescs x) = some k) →
     exec (.fetchEntry f n x) s = .next (postRefusal (entryReq s f.val n.val x) stSpoofed (spoofReport f.val k (entryReq s f.val n.val x).partField (entryReq s f.val n.val x).ringField n.val (taken s f.val n.val)))) ∧
  (∀ (s : State) (f : Fin 256) (n : Fin 64) (x : Submission), (mayFetch s f.val n.val = true) → (headerOk (entryReq s f.val n.val x) = true) → (sourceCause (taken s f.val n.val) (entryReq s f.val n.val x) (entryDescs x) = none) → ((entryReq s f.val n.val x).genField ≠ (getRing s (fetchRing s f.val n.val)).gen.toNat % 65536) →
     exec (.fetchEntry f n x) s = .next (postRefusal (entryReq s f.val n.val x) stStaleGen (bumpFn f.val cStaleGenRefused (taken s f.val n.val)))) ∧
  (∀ (s : State) (f : Fin 256) (n : Fin 64) (x : Submission), (pastSource s f.val n.val x) → (opSpec (entryReq s f.val n.val x).opcode = none) →
     exec (.fetchEntry f n x) s = .next (postRefusal (entryReq s f.val n.val x) stBadHeader (bumpFn f.val cBadHeader (taken s f.val n.val)))) ∧
  (∀ (s : State) (f : Fin 256) (n : Fin 64) (x : Submission) (o : OpSpec), (pastSource s f.val n.val x) → (opSpec (entryReq s f.val n.val x).opcode = some o) → (formOk (entryReq s f.val n.val x) (entryDescs x) = false) →
     exec (.fetchEntry f n x) s = .next (postRefusal (entryReq s f.val n.val x) stBadHeader (bumpFn f.val cBadHeader (taken s f.val n.val)))) ∧
  (∀ (s : State) (f : Fin 256) (n : Fin 64) (x : Submission) (o : OpSpec), (pastSource s f.val n.val x) → (opSpec (entryReq s f.val n.val x).opcode = some o) → (formOk (entryReq s f.val n.val x) (entryDescs x) = true) → (phaseServes (taken s f.val n.val) o (entryReq s f.val n.val x).opcode = false) →
     exec (.fetchEntry f n x) s = .next (postRefusal (entryReq s f.val n.val x) stServiceReduced (bumpFn f.val cServiceReduced (taken s f.val n.val)))) ∧
  (∀ (s : State) (f : Fin 256) (n : Fin 64) (x : Submission) (o : OpSpec), (pastForm s f.val n.val x o) → (standbyRing (taken s f.val n.val) (entryReq s f.val n.val x) = true) →
     exec (.fetchEntry f n x) s = .next (postRefusal (entryReq s f.val n.val x) stNotActive (taken s f.val n.val))) ∧
  (∀ (s : State) (f : Fin 256) (n : Fin 64) (x : Submission) (o : OpSpec), (pastForm s f.val n.val x o) → (standbyRing (taken s f.val n.val) (entryReq s f.val n.val x) = false) → ((entryReq s f.val n.val x).seq.toNat ≤ (getRing s (fetchRing s f.val n.val)).lastSeq.toNat) →
     exec (.fetchEntry f n x) s = .next (notFresh (entryReq s f.val n.val x) (taken s f.val n.val))) ∧
  (∀ (s : State) (f : Fin 256) (n : Fin 64) (x : Submission) (o : OpSpec), (pastForm s f.val n.val x o) → (standbyRing (taken s f.val n.val) (entryReq s f.val n.val x) = false) → ((getRing s (fetchRing s f.val n.val)).lastSeq.toNat < (entryReq s f.val n.val x).seq.toNat) → (lengthOk (taken s f.val n.val) o (entryReq s f.val n.val x) = false) →
     exec (.fetchEntry f n x) s = .next (postRefusal (entryReq s f.val n.val x) stLength (bumpFn f.val cLength (taken s f.val n.val)))) ∧
  (∀ (s : State) (f : Fin 256) (n : Fin 64) (x : Submission) (o : OpSpec) (st : Status), (pastLength s f.val n.val x o) → (check8 (taken s f.val n.val) o (entryReq s f.val n.val x) = some st) →
     exec (.fetchEntry f n x) s = .next (refuse (entryReq s f.val n.val x) st (if st = stSessionLost && (entryReq s f.val n.val x).handle != 0 then sessionRelease (entryReq s f.val n.val x).part (entryReq s f.val n.val x).handle (taken s f.val n.val) else taken s f.val n.val))) ∧
  (∀ (s : State) (f : Fin 256) (n : Fin 64) (x : Submission) (o : OpSpec) (st : Status), (pastLength s f.val n.val x o) → (check8 (taken s f.val n.val) o (entryReq s f.val n.val x) = none) → (check9 (taken s f.val n.val) o (entryReq s f.val n.val x) = some st) → (st ≠ stQueueFull) →
     exec (.fetchEntry f n x) s = .next (refuse (entryReq s f.val n.val x) st (taken s f.val n.val))) ∧
  (∀ (s : State) (f : Fin 256) (n : Fin 64) (x : Submission) (o : OpSpec), (pastLength s f.val n.val x o) → (check8 (taken s f.val n.val) o (entryReq s f.val n.val x) = none) → (check9 (taken s f.val n.val) o (entryReq s f.val n.val x) = some stQueueFull) →
     exec (.fetchEntry f n x) s = .next (refuse (entryReq s f.val n.val x) stQueueFull (let r := nextRef (taken s f.val n.val) (entryReq s f.val n.val x).part (getPart (taken s f.val n.val) (entryReq s f.val n.val x).part).jnext.toNat; traceRec 4 (unitByte none) (entryReq s f.val n.val x).part 0 (toLe 4 (flowField (flowOf o (entryReq s f.val n.val x) r) r)) (taken s f.val n.val)))) ∧
  (∀ (s : State) (f : Fin 256) (n : Fin 64) (x : Submission) (o : OpSpec), (pastLength s f.val n.val x o) → (check8 (taken s f.val n.val) o (entryReq s f.val n.val x) = none) → (check9 (taken s f.val n.val) o (entryReq s f.val n.val x) = none) →
     exec (.fetchEntry f n x) s = .next (accept o (entryReq s f.val n.val x) (taken s f.val n.val))) ∧
  (∀ (s : State) (f : Fin 256) (n : Fin 64) (x : Submission), (mayFetch s f.val n.val = false) →
     exec (.fetchEntry f n x) s = .next s)

/-- A durable result becomes due: backing records are written first, then the journal entry is final, the completion leaves, and the command with it. Rests also on the choices of the model in log entries 19, 101, 109, 120. (R31, R32, R46, R60, R63, R108, R132, R412, R421) -/
def Obligations.CompletionsEndCommands : Prop :=
  (∀ (s : State) (r : CmdRef) (c : Cmd), (findCmd s r = some c) → (c.result.isSome = true) → (c.durable = false) → (backingTurn s c = true) →
     ∃ t, exec (.backingDurable r) s = .next t ∧ (findCmd t r).map (fun d => (d.durable, d.backing)) = some (true, []) ∧ t.life = s.life ∧ t.parts = s.parts ∧
       t.ks = (c.backing.foldl (fun s b => writeBoth b s) s).ks ∧ t.ks.keys = s.ks.keys) ∧
  (∀ (s : State) (r : CmdRef) (c : Cmd) (v : Result), (findCmd s r = some c) → (c.result = some v) → (mayComplete s c = true) → (c.spillFrom = none) →
     ∃ t, exec (.completionDue r) s = .next t ∧ findCmd t r = none ∧
       (let u := afterCompletion c (releaseHelds c.ref v.status v.reply.length (lockstep c v.status v.reply (countStatus c v.status (deliver c v.status v.reply (finalUpdate c v.status v.reply s)))));
       t = endAfterResponse (if v.status = stOk then afterOk c u else u))) ∧
  (∀ (s : State) (r : CmdRef) (c : Cmd) (v : Result) (n : Nat), (findCmd s r = some c) → (c.result = some v) → (mayComplete s c = true) → (c.spillFrom = some n) →
     ∃ t, exec (.completionDue r) s = .next t ∧ findCmd t r = none ∧
       t = dropCmd c.ref (sendFrame (nextTo s true == n) 0x41 n s.ilu.claim (toLe 2 v.status.toNat ++ v.reply) s)) ∧
  (∀ (s : State) (r : CmdRef) (c : Cmd), (findCmd s r = some c) → (c.result = none ∨ mayComplete s c = false) →
     exec (.completionDue r) s = .next s) ∧
  (∀ (s : State) (r : CmdRef), (findCmd s r = none) →
     exec (.backingDurable r) s = .next s ∧ exec (.completionDue r) s = .next s)

/-- Items become ready, are held, aged, given to units and charged as Prism does it; key loads are judged and delivered. Rests also on the choices of the model in log entries 36 to 39, 106, 113 to 115. That an event which is not due changes nothing is the choice of the model, log entry 124. (R72, R75, R79, R101, R128, R130, R133, R138, R142, R170, R177, R182) -/
def Obligations.ItemsAreReadiedAndDispatched : Prop :=
  (∀ (s : State) (u : UnitId) (x : Candidate) (b : Bool), (unitServes s u = true) → (choose s u = some (x, b)) → (restoreFails s u x = false) → ((chains x.cmd x.item && x.cmd.base.isNone) = false) →
     ∃ t, exec (.unitFreeDispatch u) s = .next t ∧ t = dispatch u x b s ∧ t.prism.chosen.look (kindNum (unitKind u)) = some x.cmd.ref.part ∧
       (x.cmd.flow, u) ∈ t.prism.affinity ∧ t.ks = s.ks ∧ t.parts = s.parts) ∧
  (∀ (s : State) (u : UnitId) (x : Candidate) (b : Bool), (unitServes s u = true) → (choose s u = some (x, b)) → (restoreFails s u x = false) → ((chains x.cmd x.item && x.cmd.base.isNone) = true) → (streamVerdict s x.cmd = none) →
     exec (.unitFreeDispatch u) s = .next (dispatch u x b (startStream x.cmd s))) ∧
  (∀ (s : State) (u : UnitId) (x : Candidate) (b : Bool) (k : Nat), (unitServes s u = true) → (choose s u = some (x, b)) → (restoreFails s u x = false) → ((chains x.cmd x.item && x.cmd.base.isNone) = true) → (streamVerdict s x.cmd = some k) →
     exec (.unitFreeDispatch u) s = .next (refuseStream k x.cmd s)) ∧
  (∀ (s : State) (u : UnitId) (x : Candidate) (b : Bool), (unitServes s u = true) → (choose s u = some (x, b)) → (restoreFails s u x = true) →
     exec (.unitFreeDispatch u) s = .next (failRestore x.cmd s)) ∧
  (∀ (s : State) (u : UnitId), (choose s u = none) →
     exec (.unitFreeDispatch u) s = .next s) ∧
  (∀ (s : State) (r : CmdRef) (i : Nat) (it : Item) (at_ : Nat), ((findCmd s r).bind (fun c => c.items[i]?) = some it) → (it.state = .waiting) → (it.readyNs = some at_) → (at_ + 400 ≤ s.clk.ns) →
     exec (.itemHoldLapse r i) s = .next (modItem r i (fun it => { it with unheld := true }) s)) ∧
  (∀ (s : State) (r : CmdRef) (i : Nat) (it : Item), ((findCmd s r).bind (fun c => c.items[i]?) = some it) → (it.state ≠ .waiting ∨ it.readyNs = none ∨ (∃ a, it.readyNs = some a ∧ s.clk.ns < a + 400)) →
     exec (.itemHoldLapse r i) s = .next s) ∧
  (∀ (s : State) (r : CmdRef) (c : Cmd) (i : Nat) (it : Item) (at_ : Nat), (findCmd s r = some c) → (c.items[i]? = some it) → (it.state = .waiting) → (it.readyNs = some at_) → (at_ + 2000 ≤ s.clk.ns) → (it.kind ≠ .engine ∨ needsWhole (engineShare (modItem r i (fun it => { it with aged := true }) s) c i) = false) →
     exec (.itemReady2us r i) s = .next (modItem r i (fun it => { it with aged := true }) s)) ∧
  (∀ (s : State) (r : CmdRef) (c : Cmd) (i : Nat) (it : Item) (at_ n : Nat), (findCmd s r = some c) → (c.items[i]? = some it) → (it.state = .waiting) → (it.readyNs = some at_) → (at_ + 2000 ≤ s.clk.ns) → (it.kind = .engine) → ((let u := modItem r i (fun it => { it with aged := true }) s; needsWhole (engineShare u c i) = true ∧ mayStart u c i it = true ∧ (∀ m : Fin 16, unitServes u (.engine m) = true → engineLanes u m.val c i = none) ∧
  (∀ m, m < 16 → liveReserve u (getEngine u m) ≠ some (r, i)) ∧ reserveFor u it = some n)) →
     exec (.itemReady2us r i) s = .next (modEngine n (fun e => { e with reserved := some (r, i) }) (modItem r i (fun it => { it with aged := true }) s))) ∧
  (∀ (s : State) (r : CmdRef) (c : Cmd) (i : Nat) (it : Item), (findCmd s r = some c) → (c.items[i]? = some it) → (it.state ≠ .waiting ∨ it.readyNs = none ∨ (∃ a, it.readyNs = some a ∧ s.clk.ns < a + 2000)) →
     exec (.itemReady2us r i) s = .next s) ∧
  (∀ (s : State) (p : Nat), (p < pDiv s) → (p < 256) →
     ∃ t, exec .creditTick s = .next t ∧ credit t .core p = (let a : Int := servingCount s .core * 256000 / pDiv s; min (credit s .core p + a) (50 * a)) ∧
       credit t .facet p = (let a : Int := servingCount s .facet * 256000 / pDiv s; min (credit s .facet p + a) (50 * a)) ∧
       credit t .engine p = (let a : Int := servingCount s .engine * 256000 / pDiv s; min (credit s .engine p + a) (50 * a)) ∧
       t.clk = s.clk ∧ t.parts = s.parts ∧ t.prism.cmds = s.prism.cmds) ∧
  (∀ (s : State) (r : CmdRef) (i k : Nat) (c : Cmd) (it : Item) (l : KeyLoad) (v : KeyVal) (src : KeySource), (loadAt s r i k = some (c, it, l)) → (loadPending s c it l = true) → (derivesYet s c = false ∨ hotWanted s c ≤ hotRoom s r.part) → (versionVal s r.part l.key l.version = some v) → (loadSource s r.part l = some src) → (loadBad s r.part l = false) →
     exec (.keyLoadDone r i k true) s = .next (serveLoad r i k c l src (hotReady r.part l.key l.version (if derivesYet s c then claimHot s c else s)))) ∧
  (∀ (s : State) (r : CmdRef) (i k : Nat) (c : Cmd) (it : Item) (l : KeyLoad) (ok : Bool) (v : KeyVal) (src : KeySource), (loadAt s r i k = some (c, it, l)) → (loadPending s c it l = true) → (derivesYet s c = false ∨ hotWanted s c ≤ hotRoom s r.part) → (versionVal s r.part l.key l.version = some v) → (loadSource s r.part l = some src) → (ok = false ∨ loadBad s r.part l = true) →
     exec (.keyLoadDone r i k ok) s = .next (loadFails r i l s)) ∧
  (∀ (s : State) (r : CmdRef) (i k : Nat) (c : Cmd) (it : Item) (l : KeyLoad) (ok : Bool), (loadAt s r i k = some (c, it, l)) → (loadPending s c it l = true) → (derivesYet s c = false ∨ hotWanted s c ≤ hotRoom s r.part) → (versionVal s r.part l.key l.version = none) →
     exec (.keyLoadDone r i k ok) s = .next (failItem r i stKeyNotFound s)) ∧
  (∀ (s : State) (r : CmdRef) (i k : Nat) (c : Cmd) (it : Item) (l : KeyLoad) (ok : Bool) (v : KeyVal), (loadAt s r i k = some (c, it, l)) → (loadPending s c it l = true) → (derivesYet s c = false ∨ hotWanted s c ≤ hotRoom s r.part) → (versionVal s r.part l.key l.version = some v) → (loadSource s r.part l = none) →
     exec (.keyLoadDone r i k ok) s = .next s) ∧
  (∀ (s : State) (r : CmdRef) (i k : Nat) (c : Cmd) (it : Item) (l : KeyLoad) (ok : Bool), (loadAt s r i k = some (c, it, l)) → (loadPending s c it l = false ∨ (derivesYet s c = true ∧ hotRoom s r.part < hotWanted s c)) →
     exec (.keyLoadDone r i k ok) s = .next s) ∧
  (∀ (s : State) (r : CmdRef) (i k : Nat) (c : Cmd) (it : Item) (l : KeyLoad) (v : KeyVal) (src : KeySource), (loadAt s r i k = some (c, it, l)) → (loadPending s c it l = true) → (isCached l.key = true) → (hotFind s r.part l.key l.version = none) → (shadowHold s r.part l = none) → (hotWanted s c ≤ hotRoom s r.part) → (versionVal (claimHot s c) r.part l.key l.version = some v) → (keyIndex r.part l.key ∉ (claimHot s c).ks.poisonedRecs) → (loadSource (hotReady r.part l.key l.version (claimHot s c)) r.part l = some src) →
     exec (.keyUnwrapDone r i k true) s = .next (serveLoad r i k c l src (hotReady r.part l.key l.version (claimHot s c)))) ∧
  (∀ (s : State) (r : CmdRef) (i k : Nat) (c : Cmd) (it : Item) (l : KeyLoad) (v : KeyVal) (ok : Bool), (loadAt s r i k = some (c, it, l)) → (loadPending s c it l = true) → (isCached l.key = true) → (hotFind s r.part l.key l.version = none) → (shadowHold s r.part l = none) → (hotWanted s c ≤ hotRoom s r.part) → (versionVal (claimHot s c) r.part l.key l.version = some v) → (ok = false ∨ keyIndex r.part l.key ∈ (claimHot s c).ks.poisonedRecs) →
     exec (.keyUnwrapDone r i k ok) s = .next (failItem r i stKeyIntegrity (setFltCause 8 (bumpPart r.part cKeyIntegrity (hotDrop r.part l.key l.version (claimHot s c)))))) ∧
  (∀ (s : State) (r : CmdRef) (i k : Nat) (c : Cmd) (it : Item) (l : KeyLoad) (ok : Bool), (loadAt s r i k = some (c, it, l)) → (loadPending s c it l = true) → (isCached l.key = true) → (hotFind s r.part l.key l.version = none) → (shadowHold s r.part l = none) → (hotWanted s c ≤ hotRoom s r.part) → (versionVal (claimHot s c) r.part l.key l.version = none) →
     exec (.keyUnwrapDone r i k ok) s = .next (failItem r i stKeyNotFound (hotDrop r.part l.key l.version (claimHot s c)))) ∧
  (∀ (s : State) (r : CmdRef) (i k : Nat) (c : Cmd) (it : Item) (l : KeyLoad) (ok : Bool), (loadAt s r i k = some (c, it, l)) → (loadPending s c it l = false ∨ isCached l.key = false ∨ (hotFind s r.part l.key l.version).isSome = true ∨ (shadowHold s r.part l).isSome = true ∨ hotRoom s r.part < hotWanted s c) →
     exec (.keyUnwrapDone r i k ok) s = .next s) ∧
  (∀ (s : State) (r : CmdRef) (i : Nat) (o : ItemOutcome) (c : Cmd) (it : Item) (u : UnitId), (findCmd s r = some c) → (c.items[i]? = some it) → (it.state = .inService u) → (endFits u o = true) →
     exec (.itemEnd r i o) s = .next (endOutcome u c i it o (leaveUnit u r i (charge u r i it s)))) ∧
  (∀ (s : State) (r : CmdRef) (i : Nat) (o : ItemOutcome) (c : Cmd) (it : Item) (u : UnitId), (findCmd s r = some c) → (c.items[i]? = some it) → (it.state = .inService u) → (endFits u o = false) →
     exec (.itemEnd r i o) s = .next s) ∧
  (∀ (s : State) (r : CmdRef) (i : Nat) (o : ItemOutcome), ((findCmd s r).bind (fun c => c.items[i]?) = none ∨ (∃ it, (findCmd s r).bind (fun c => c.items[i]?) = some it ∧ ∀ u, it.state ≠ .inService u)) →
     exec (.itemEnd r i o) s = .next s) ∧
  (∀ (s : State) (r : CmdRef) (i k : Nat) (ok : Bool), ((findCmd s r).bind (fun c => c.items[i]?) = none) →
     exec (.itemHoldLapse r i) s = .next s ∧ exec (.itemReady2us r i) s = .next s ∧ exec (.keyLoadDone r i k ok) s = .next s ∧ exec (.keyUnwrapDone r i k ok) s = .next s) ∧
  (∀ (s : State) (p : Fin 256) (key : BitVec 32) (v : BitVec 16), (holdCount s p.val key v = 0) → ((getKey s p.val key).version ≠ v ∨ (∃ h ∈ s.ks.holds, holdMatch p.val key v h = true ∧ h.shadow.isSome = true)) →
     ∃ t, exec (.versionZeroise p key v) s = .next t ∧ t.ks.holds = s.ks.holds.filter (fun h => !(holdMatch p.val key v h)) ∧
       t.ks.hot = s.ks.hot.filter (fun h => !(hotMatch p.val key v h)) ∧ t.ks.keys = s.ks.keys ∧ t.ks.nor0 = s.ks.nor0 ∧ t.ks.nor1 = s.ks.nor1 ∧
       (∀ e ∈ t.facets, ∀ x ∈ e.2.cache, ¬(x.part = p.val ∧ x.key = key ∧ x.version = v))) ∧
  (∀ (u : UnitId) (s : State), ((unitServes s u) = false) →
     exec (.unitFreeDispatch u) s = .next s) ∧
  (∀ (p : Fin 256) (key : BitVec 32) (v : BitVec 16) (s : State), ((holdCount s p.val key v == 0 && (s.ks.holds.any (fun h => holdMatch p.val key v h && h.shadow.isSome) || (getKey s p.val key).version != v)) = false) →
     exec (.versionZeroise p key v) s = .next s)

/-- Every partition below P earns its own share of credit whatever the others do, and a unit serves only a partition with credit. (R102) -/
def Obligations.CapacityIsNeverLent : Prop :=
  (∀ (s : State) (k : UnitKind) (n p : Nat), (s.pm.logP = some n) → (n ≤ 8) → (p < 2 ^ n) →
     ∃ t, exec .creditTick s = .next t ∧
       credit t k p = min (credit s k p + (servingCount s k * 256000 / 2 ^ n : Nat)) (50 * (servingCount s k * 256000 / 2 ^ n : Nat))) ∧
  (∀ (s t : State) (k : UnitKind) (n p : Nat), (s.pm.logP = some n) → (t.pm.logP = some n) → (n ≤ 8) → (p < 2 ^ n) → (servingCount s k = servingCount t k) → (credit s k p = credit t k p) →
     ∃ u v, exec .creditTick s = .next u ∧ exec .creditTick t = .next v ∧ credit u k p = credit v k p) ∧
  (∀ (s : State) (u : UnitId) (x : Candidate) (b : Bool), (choose s u = some (x, b)) →
     0 < credit s (unitKind u) x.cmd.ref.part)

/-- A coalescing timer, a time mark and an idle session take effect when due, and a draining or tested domain ends its change. Rests also on the choices of the model in log entries 40, 100, 106, 110. That an event which is not due changes nothing is the choice of the model, log entry 124. (R48, R75, R83, R86, R88, R21, R22, R285, R463) -/
def Obligations.TimersAndDomainChangesEnd : Prop :=
  (∀ (s : State) (g : Fin 1024) (at_ : Nat), ((getRing s g.val).coalNs = some at_) → (at_ ≤ s.clk.ns) →
     ∃ t, exec (.coalTimer g) s = .next t ∧ (getRing t g.val).unsignalled = 0 ∧ (getRing t g.val).coalNs = none ∧
       (∀ f, ringFn s g.val = some f → t = raiseVector f (getRing s g.val).vector.toNat (setRing s g.val { getRing s g.val with unsignalled := 0, coalNs := none })) ∧
       (ringFn s g.val = none → t = setRing s g.val { getRing s g.val with unsignalled := 0, coalNs := none })) ∧
  (∀ (s : State), (s.prism.trcMark < marksDue s) →
     ∃ t, exec .traceTimeMark s = .next t ∧ t = traceRec 7 (unitByte none) 0 0 (toLe 8 s.hzn.time.toNat) { s with prism := { s.prism with trcMark := marksDue s } } ∧
       t.prism.trcMark = marksDue s ∧ t.prism.cmds = s.prism.cmds) ∧
  (∀ (s : State) (i : Nat), ((getSess s i).allocated = true) → ((getSess s i).transient = false) → (idlePassed s (getSess s i) = true) →
     ∃ t, exec (.sessionIdleTimeout i) s = .next t ∧ (getSess t i).allocated = false ∧ (getSess t i).tag = nextTag (getSess s i).tag ∧ (getSess t i).save = saveReset ∧
       freedOf t (getSess s i).part = freedOf s (getSess s i).part ++ [i] ∧ t.prism.affinity = s.prism.affinity.filter (fun a => !(a.1 == .session i)) ∧ t.parts = s.parts ∧ t.ks = s.ks) ∧
  (∀ (s : State) (d : Fin 32), ((getDomain s d.val).draining.isSome = true) → ((getDomain s d.val).on = true) → (domainWork s d.val = []) →
     ∃ t, exec (.domainDrainDone d) s = .next t ∧ t = endDomainCmd d.val stOk (switchOff d.val s)) ∧
  (∀ (s : State) (d : Fin 32), ((getDomain s d.val).draining.isSome = true ∨ domainWants s d.val false = true) → ((getDomain s d.val).on = false) → (domainWork s d.val = []) →
     exec (.domainDrainDone d) s = .next (endDomainCmd d.val stOk s)) ∧
  (∀ (s : State) (d : Fin 32) (at_ : Nat), ((getDomain s d.val).draining = some at_) → (at_ + 50000 ≤ s.clk.ns) → (domainWork s d.val ≠ []) →
     exec (.domainDrainTimeout d) s = .next (endDomainCmd d.val stOk (switchOff d.val ((domainWork s d.val).foldl forceOff s)))) ∧
  (∀ (s : State) (d : Fin 32), ((getDomain s d.val).draining = none ∨ domainWork s d.val = [] ∨ (∃ a, (getDomain s d.val).draining = some a ∧ s.clk.ns < a + 50000)) →
     exec (.domainDrainTimeout d) s = .next s) ∧
  (∀ (s : State) (d : Fin 32), ((getDomain s d.val).on = true) → ((getDomain s d.val).testing = true) → (retainedWaits s d.val = false) →
     ∃ t, exec (.domainKatDone d []) s = .next t ∧ t = endDomainCmd d.val stOk (setDomain s d.val { getDomain s d.val with testing := false, katPass := true })) ∧
  (∀ (s : State) (d : Fin 32) (l : List Nat), ((getDomain s d.val).on = true) → ((getDomain s d.val).testing = true) → (retainedWaits s d.val = false) → (l ≠ []) →
     exec (.domainKatDone d l) s = .next (endDomainCmd d.val stFault (domainFail d.val s))) ∧
  (∀ (s : State) (d : Fin 32) (l : List Nat), ((getDomain s d.val).on = false) → (domainWants s d.val true = true) →
     exec (.domainKatDone d l) s = .next (endDomainCmd d.val stFault s)) ∧
  (∀ (ring : Fin 1024) (s : State), ((match (getRing s ring.val).coalNs with | none => false | some t => decide (t ≤ s.clk.ns)) = false) →
     exec (.coalTimer ring) s = .next s) ∧
  (∀ (s : State), ((decide (s.prism.trcMark < marksDue s)) = false) →
     exec .traceTimeMark s = .next s) ∧
  (∀ (i : Nat) (s : State), (((getSess s i).allocated && !(getSess s i).transient && idlePassed s (getSess s i)) = false) →
     exec (.sessionIdleTimeout i) s = .next s) ∧
  (∀ (d : Fin 32) (s : State), ((((getDomain s d.val).draining.isSome || (!(getDomain s d.val).on && domainWants s d.val false)) && (domainWork s d.val).isEmpty) = false) →
     exec (.domainDrainDone d) s = .next s)

/-- The generator starts, admits sources, fails, takes seeds, reseeds and times requests out as its rules say. Rests also on the choices of the model in log entries 42, 43, 126, 127. That an event which is not due changes nothing is the choice of the model, log entry 124. (R131, R164, R197, R213, R214, R215, R216, R217, R219, R220, R221, R223) -/
def Obligations.GeneratorEventsFollowItsStates : Prop :=
  (∀ (s : State), (s.rng.running = true) → (s.rng.state = .testing) → (s.rng.katKnown = false) → (s.rng.startNs + 15000 ≤ s.clk.ns) →
     exec (.rngStartupKatEnd true) s = .next { s with rng := { s.rng with katKnown := true, katPassed := true } }) ∧
  (∀ (s : State), (s.rng.running = true) → (s.rng.state = .testing) → (s.rng.katKnown = false) → (s.rng.startNs + 15000 ≤ s.clk.ns) →
     ∃ t, exec (.rngStartupKatEnd false) s = .next t ∧ t = enterFailed { s with rng := { s.rng with katKnown := true, katPassed := false, katFail := true } }) ∧
  (∀ (s : State) (a b : List (List Bool)), (s.rng.running = true) → (s.rng.state = .testing) → (s.rng.katKnown = true) → (s.rng.verdict = false) → (s.rng.startNs + 102400 ≤ s.clk.ns) → (sampled (a ++ b) = true) → (((a ++ b).headD []).length = 1024) → (admitted (~~~ (failMask (a ++ b) { s.rng with tests := List.replicate 4 State.resetTest, cond := [] })) < 2) →
     (let bad := failMask (a ++ b) { s.rng with tests := List.replicate 4 State.resetTest, cond := [] };
       exec (.rngStartupVerdict a b) s = .next (enterFailed { s with rng := { s.rng with verdict := true, tests := testAll (a ++ b) { s.rng with tests := List.replicate 4 State.resetTest, cond := [] }, cond := [], srcOk := ~~~bad, startFail := s.rng.startFail ||| bad } }))) ∧
  (∀ (s : State) (a b : List (List Bool)), (s.rng.running = true) → (s.rng.state = .testing) → (s.rng.katKnown = true) → (s.rng.verdict = false) → (s.rng.startNs + 102400 ≤ s.clk.ns) → (sampled (a ++ b) = true) → (((a ++ b).headD []).length = 1024) → (2 ≤ admitted (~~~ (failMask (a ++ b) { s.rng with tests := List.replicate 4 State.resetTest, cond := [] }))) →
     (let bad := failMask (a ++ b) { s.rng with tests := List.replicate 4 State.resetTest, cond := [] }; let g := { s.rng with verdict := true, tests := testAll (a ++ b) { s.rng with tests := List.replicate 4 State.resetTest, cond := [] }, cond := [], srcOk := ~~~bad, startFail := s.rng.startFail ||| bad };
       exec (.rngStartupVerdict a b) s = .next (seedModule { s with rng := condition (condition (absorb (a ++ b) g)) }))) ∧
  (∀ (s : State) (k : Fin 4) (l : List (List Bool)), (s.rng.running = true) → (s.rng.verdict = true) → (sampled l = true) → (bit (failMask l s.rng).toNat k.val = true) → (failMask l s.rng &&& s.rng.srcOk = 0) →
     ∃ t, exec (.rngHealthFail k l) s = .next t ∧ t = { s with rng := condition (absorb l { s.rng with tests := testAll l s.rng, rctFail := s.rng.rctFail ||| rctMask l s.rng, aptFail := s.rng.aptFail ||| aptMask l s.rng }) }) ∧
  (∀ (s : State) (k : Fin 4) (l : List (List Bool)), (s.rng.running = true) → (s.rng.verdict = true) → (sampled l = true) → (bit (failMask l s.rng).toNat k.val = true) → (failMask l s.rng &&& s.rng.srcOk ≠ 0) → (2 ≤ admitted (s.rng.srcOk &&& ~~~ (failMask l s.rng &&& s.rng.srcOk)) ∨ s.rng.state = .failed) →
     ∃ t, exec (.rngHealthFail k l) s = .next t ∧ t.rng.srcOk = s.rng.srcOk &&& ~~~ (failMask l s.rng &&& s.rng.srcOk) ∧ t.rng.pool = [] ∧ t.rng.cond = [] ∧ t.rng.state = s.rng.state ∧
       t.rng.tests = testAll l s.rng ∧ t.rng.aptFail = s.rng.aptFail ||| aptMask l s.rng ∧ t.rng.rctFail = s.rng.rctFail ||| rctMask l s.rng ∧ t.prism = s.prism) ∧
  (∀ (s : State) (k : Fin 4) (l : List (List Bool)), (s.rng.running = true) → (s.rng.verdict = true) → (sampled l = true) → (bit (failMask l s.rng).toNat k.val = true) → (failMask l s.rng &&& s.rng.srcOk ≠ 0) → (admitted (s.rng.srcOk &&& ~~~ (failMask l s.rng &&& s.rng.srcOk)) < 2) → (s.rng.state ≠ .failed) →
     ∃ t, exec (.rngHealthFail k l) s = .next t ∧ t = enterFailed { s with rng := { s.rng with srcOk := s.rng.srcOk &&& ~~~ (failMask l s.rng &&& s.rng.srcOk), pool := [], cond := [], tests := testAll l s.rng, aptFail := s.rng.aptFail ||| aptMask l s.rng, rctFail := s.rng.rctFail ||| rctMask l s.rng } }) ∧
  (∀ (s : State) (l : List (List Bool)), (s.rng.state = .healthy) → (sampled l = true) → (failMask l s.rng &&& s.rng.srcOk = 0) → (1536 ≤ (absorb l s.rng).cond.length) → ((absorb l s.rng).cond.length < 3072) → (s.rng.pool.length < 64) →
     ∃ t, exec (.seedReady l) s = .next t ∧ t.rng.pool = s.rng.pool ++ [sha3_384 (packBits 192 ((absorb l s.rng).cond.take 1536))] ∧ t.rng.cond = (absorb l s.rng).cond.drop 1536 ∧
       t.rng.tests = testAll l s.rng ∧ t.rng.state = s.rng.state ∧ t.rng.srcOk = s.rng.srcOk ∧ t.rng.aptFail = s.rng.aptFail ||| aptMask l s.rng ∧ t.rng.rctFail = s.rng.rctFail ||| rctMask l s.rng) ∧
  (∀ (s : State) (l : List (List Bool)), (s.rng.state = .healthy) → (sampled l = true) → (failMask l s.rng &&& s.rng.srcOk = 0) → (1536 ≤ (absorb l s.rng).cond.length) → ((absorb l s.rng).cond.length < 3072) → (64 ≤ s.rng.pool.length) →
     ∃ t, exec (.seedReady l) s = .next t ∧ t.rng.pool = s.rng.pool ∧ t.rng.cond = (absorb l s.rng).cond.drop 1536 ∧ t.rng.tests = testAll l s.rng ∧ t.rng.state = s.rng.state ∧ t.rng.srcOk = s.rng.srcOk ∧
       t.rng.aptFail = s.rng.aptFail ||| aptMask l s.rng ∧ t.rng.rctFail = s.rng.rctFail ||| rctMask l s.rng) ∧
  (∀ (s : State) (x : Bytes) (l : List Bytes), (s.rng.pool = x :: l) → (s.rng.state = .healthy) → (s.rng.moduleNs + 1000000 ≤ s.clk.ns) →
     exec .moduleInstanceReseed s = .next { s with rng := { s.rng with pool := l, module := Config.drbgReseed s.rng.module x, moduleNs := s.clk.ns } }) ∧
  (∀ (s : State), (s.rng.pool = [] ∨ s.rng.state ≠ .healthy ∨ s.clk.ns < s.rng.moduleNs + 1000000) →
     exec .moduleInstanceReseed s = .next s) ∧
  (∀ (s : State), (s.rng.state = .healthy) → (s.rng.maskNs + 1000000 ≤ s.clk.ns) →
     ∃ t, exec .maskReseed s = .next t ∧ t.rng.maskNs = s.clk.ns ∧ t.ks.maskSeed = (drbgGen s.rng.module 48).1 ∧ t.ks.maskUsed = 0 ∧ t.ks.keys = s.ks.keys ∧ t.parts = s.parts ∧
       (getFacet t 0).mask = (drbgGen (drbgGen s.rng.module 48).2 48).1 ∧ (∀ n < 16, (getEngine t n).maskUsed = 0)) ∧
  (∀ (s : State) (p : Fin 256) (r : CmdRef), (frontDraw s p.val = some r) → (waitSince s r + 5000000 ≤ s.clk.ns) →
     ∃ t, exec (.rngReadTimeout p) s = .next t ∧ t = popDraw r (forwardCmd r 3 [] (modCmd r (fun c => { c with draw := .failed stRngNotReady }) s))) ∧
  (∀ (s : State) (p : Fin 256), (frontDraw s p.val = none ∨ (∃ r, frontDraw s p.val = some r ∧ s.clk.ns < waitSince s r + 5000000)) →
     exec (.rngReadTimeout p) s = .next s) ∧
  (∀ (s : State) (p : Fin 256) (r : CmdRef), (frontDraw s p.val = some r) → (s.rng.state = .healthy) → ((reseedDue s p.val && !(s.rng.shared && s.ilu.mirror == .standby)) = false) →
     exec (.drawSeedGenerate p) s = .next (spillOut r (forwardCmd r 1 [] (giveSeed r s)))) ∧
  (∀ (s : State) (p : Fin 256) (r : CmdRef) (x : Bytes) (l : List Bytes), (frontDraw s p.val = some r) → (s.rng.state = .healthy) → ((reseedDue s p.val && !(s.rng.shared && s.ilu.mirror == .standby)) = true) → (s.rng.pool = x :: l) →
     exec (.drawSeedGenerate p) s = .next (spillOut r (forwardCmd r 1 x (giveSeed r (reseedPart p.val x s))))) ∧
  (∀ (s : State) (p : Fin 256) (r : CmdRef), (frontDraw s p.val = some r) → (s.rng.state ≠ .healthy ∨ ((reseedDue s p.val && !(s.rng.shared && s.ilu.mirror == .standby)) = true ∧ s.rng.pool = [])) →
     exec (.drawSeedGenerate p) s = .next (spillOut r s)) ∧
  (∀ (s : State) (p : Fin 256), (frontDraw s p.val = none) →
     exec (.drawSeedGenerate p) s = .next s) ∧
  (∀ (pass : Bool) (s : State), ((s.rng.running && s.rng.state == .testing && !s.rng.katKnown && decide (s.rng.startNs + 15000 ≤ s.clk.ns)) = false) →
     exec (.rngStartupKatEnd pass) s = .next s) ∧
  (∀ (s : State), ((s.rng.state == .healthy && decide (s.rng.maskNs + 1000000 ≤ s.clk.ns)) = false) →
     exec .maskReseed s = .next s)

/-- The background scrub, the rewrap, the memory patrol and rank retirement do what the spec says at their times. Rests also on the choices of the model in log entries 90, 92, 109, 117, 119. That an event which is not due changes nothing is the choice of the model, log entry 124. (R129, R130, R149, R424, R429, R430, R432, R433) -/
def Obligations.KeyStoreAndMemoryBackgroundWork : Prop :=
  (∀ (s : State) (l : List Nat), (s.svc.phase ≠ .dark) → (s.ks.scrubNs + 100000000 ≤ s.clk.ns) →
     exec (.slotScrub l) s = .next (l.foldl (fun u k => if isOnDie (BitVec.ofNat 32 k) then keyFailed (k / 2 ^ 32) (BitVec.ofNat 32 k) u else u) { s with ks := { s.ks with scrubNs := s.clk.ns } })) ∧
  (∀ (s : State), (s.ks.rewrap = true) → (s.svc.phase ≠ .dark) →
     ∃ t, exec .mwkRewrapEnd s = .next t ∧ t.ks.rewrap = false ∧ t.ks.mwk = s.ks.mwk ∧ t.ks.mwkGen = s.ks.mwkGen ∧
       (∀ b ∈ t.ks.nor0 ++ t.ks.nor1, ∀ v, b.val = some v → v.mwkGen = s.ks.mwkGen) ∧ (∀ e ∈ t.ks.keys, ∀ v, e.2.cur = some v → v.mwkGen = s.ks.mwkGen)) ∧
  (∀ (s : State) (l : List LineRead), (s.clk.powered = true) →
     exec (.patrolScrub l) s = .next (l.foldl patrolLine s)) ∧
  (∀ (s : State) (l : LineRead), (s.clk.powered = true) → (l.corrected = true) →
     exec (.patrolScrub [l]) s = .next (correctedBurst (lineRank l.line) s)) ∧
  (∀ (s : State) (l : LineRead), (s.clk.powered = true) → (l.corrected = false) → (l.line ∉ s.flt.poisonedLines) →
     exec (.patrolScrub [l]) s = .next (transient { kind := 6, index := lineRank l.line } (regionPoison l.region (countPoison l.line s)))) ∧
  (∀ (s : State) (l : LineRead), (s.clk.powered = true) → (l.corrected = false) → (l.line ∈ s.flt.poisonedLines) →
     exec (.patrolScrub [l]) s = .next s) ∧
  (∀ (s : State) (r : Fin 16), (s.svc.rank0 = true) → (r.val ∉ s.flt.offRanks) →
     exec (.rankRetrain r false) s = .next (transient { kind := 6, index := r.val } s)) ∧
  (∀ (s : State) (r : Nat) (l : List (Nat × Bytes)), (s.flt.rebuilding = some r) → (s.flt.evacuating = true) →
     (let u := l.foldl (fun s u => regionPoison (.vault u.1 u.2) s) s;
       exec (.vaultRebuildEnd l) s = .next (setFltCause 0x100 (relayVaults { u with flt := { u.flt with rebuilding := none, offRanks := u.flt.offRanks ++ [r] } })))) ∧
  (∀ (s : State) (r : Nat) (l : List (Nat × Bytes)), (s.flt.rebuilding = some r) → (s.flt.evacuating = false) →
     (let u := l.foldl (fun s u => regionPoison (.vault u.1 u.2) s) s;
       let v := setFltCause 0x100 (relayVaults { u with flt := { u.flt with rebuilding := none, offRanks := u.flt.offRanks ++ [r] } });
       exec (.vaultRebuildEnd l) s = .next (nextRank (if v.svc.phase = .clear then setCapacity v else v)))) ∧
  (∀ (s : State) (l : List (Nat × Bytes)), (s.flt.rebuilding = none) →
     exec (.vaultRebuildEnd l) s = .next s) ∧
  (∀ (s : State) (l : List MemRegion), (s.flt.evacuating = true) → (s.flt.rebuilding = none) →
     (let u := l.foldl (fun s u => regionPoison u s) s; let v := { u with flt := { u.flt with evacuating := false } };
       exec (.rankEvacuationEnd l) s = .next (nextRank (if v.svc.phase = .clear then setCapacity v else v)))) ∧
  (∀ (failed : List Nat) (s : State), ((s.svc.phase != .dark && decide (s.ks.scrubNs + 100000000 ≤ s.clk.ns)) = false) →
     exec (.slotScrub failed) s = .next s) ∧
  (∀ (s : State), ((s.ks.rewrap && s.svc.phase != .dark) = false) →
     exec .mwkRewrapEnd s = .next s) ∧
  (∀ (lines : List LineRead) (s : State), ((s.clk.powered) = false) →
     exec (.patrolScrub lines) s = .next s) ∧
  (∀ (rank : Fin 16) (ok : Bool) (s : State), ((s.svc.rank0 && !s.flt.offRanks.contains rank.val && !ok) = false) →
     exec (.rankRetrain rank ok) s = .next s) ∧
  (∀ (unreadable : List MemRegion) (s : State), ((s.flt.evacuating && s.flt.rebuilding.isNone) = false) →
     exec (.rankEvacuationEnd unreadable) s = .next s)

/-- Ceremonies, offers, nonces, backups, freezes and imports end at their times. Rests also on the choices of the model in log entries 57. That an event which is not due changes nothing is the choice of the model, log entry 124. (R113, R115, R119, R120, R265, R279, R280) -/
def Obligations.CeremonyAndTransferExpiries : Prop :=
  (∀ (s : State) (p : Fin 256), ((getPart s p.val).lock.state = .collecting ∨ (getPart s p.val).lock.state = .authorised) → ((getPart s p.val).lock.expiry.toNat ≤ s.hzn.time.toNat) →
     ∃ t, exec (.ceremonyExpiry p) s = .next t ∧ getPart t p.val = { getPart s p.val with lock := { (getPart s p.val).lock with state := .free, signed := [], bad := 0 } }) ∧
  (∀ (s : State) (p : Fin 256) (o : Offer), ((getPart s p.val).moveOffer = some o) → (o.expiry.toNat ≤ s.hzn.time.toNat) →
     exec (.offerExpiry p false) s = .next (setPart s p.val { getPart s p.val with moveOffer := none })) ∧
  (∀ (s : State) (p : Fin 256) (o : Offer), ((getPart s p.val).keyOffer = some o) → (o.expiry.toNat ≤ s.hzn.time.toNat) →
     exec (.offerExpiry p true) s = .next (setPart s p.val { getPart s p.val with keyOffer := none })) ∧
  (∀ (s : State) (p : Fin 256) (n : Nonce), (n ∈ (getPart s p.val).nonces) → (n.issued.toNat + secTicks 600 ≤ s.hzn.time.toNat) →
     ∃ t, exec (.tr34NonceExpiry p n.id) s = .next t ∧ t = setPart s p.val { getPart s p.val with nonces := (getPart s p.val).nonces.filter (fun m => m.id != n.id) } ∧ (∀ m ∈ (getPart t p.val).nonces, m.id ≠ n.id)) ∧
  (∀ (s : State) (p : Fin 256) (b : Blob), ((getPart s p.val).backup = some b) → (b.issued.toNat + secTicks 600 ≤ s.hzn.time.toNat ∨ b.chunks.length ≤ b.nextRead) →
     exec (.backupSnapshotExpiry p) s = .next (setPart s p.val { getPart s p.val with backup := none })) ∧
  (∀ (s : State) (p : Fin 256) (r : CmdRef) (c : Cmd), ((getPart s p.val).freezeCmd = some r) → ((getPart s p.val).state = .freezing) → (owedOf s p.val = 0) → (findCmd s r = some c) → (c.result = none) →
     ∃ t, exec (.freezeDrained p) s = .next t ∧ t = replicateOut c stOk s (endCmd r stOk (toLe 4 (getPart s p.val).drained ++ zeros 4) (setPart s p.val { getPart s p.val with state := .frozen, freezeCmd := none })) ∧
       endedWith t r stOk (toLe 4 (getPart s p.val).drained ++ zeros 4) ∧ (getPart t p.val).state = .frozen ∧ (getPart t p.val).freezeCmd = none) ∧
  (∀ (s : State) (p : Fin 256) (r : CmdRef) (c : Cmd), ((getPart s p.val).freezeCmd = some r) → ((getPart s p.val).state = .freezing) → ((getPart s p.val).freezeNs ≤ s.clk.ns) → (owedOf s p.val ≠ 0) → (findCmd s r = some c) → (c.result = none) →
     ∃ t, exec (.freezeTimeout p) s = .next t ∧ t = endCmd r stAborted (toLe 4 (getPart s p.val).drained ++ toLe 4 (owedOf s p.val)) (setPart s p.val { getPart s p.val with state := .active, freezeCmd := none }) ∧
       endedWith t r stAborted (toLe 4 (getPart s p.val).drained ++ toLe 4 (owedOf s p.val)) ∧ (getPart t p.val).state = .active ∧ (getPart t p.val).gen = (getPart s p.val).gen) ∧
  (∀ (s : State) (p : Fin 256), ((getPart s p.val).freezeCmd = none ∨ (getPart s p.val).state ≠ .freezing ∨ owedOf s p.val ≠ 0) →
     exec (.freezeDrained p) s = .next s) ∧
  (∀ (s : State) (p : Fin 256), ((getPart s p.val).freezeCmd = none ∨ (getPart s p.val).state ≠ .freezing ∨ s.clk.ns < (getPart s p.val).freezeNs ∨ owedOf s p.val = 0) →
     exec (.freezeTimeout p) s = .next s) ∧
  (∀ (s : State) (p : Fin 256) (g : Staging), ((getPart s p.val).state = .importing) → ((getPart s p.val).staging = some g) → (g.last.toNat + secTicks 600 ≤ s.hzn.time.toNat) →
     ∃ t, exec (.importIdleTimeout p) s = .next t ∧ t = emptyPart p.val s ∧ (getPart t p.val).state = .empty ∧ (getPart t p.val).policy = [] ∧ (getPart t p.val).officers = [] ∧
       (getPart t p.val).staging = none ∧ (getPart t p.val).windows = (getPart s p.val).windows ∧ (∀ c ∈ t.prism.cmds, c.ref.part ≠ p.val)) ∧
  (∀ (part : Fin 256) (s : State), ((let l := (getPart s part.val).lock; (l.state == .collecting || l.state == .authorised) && decide (l.expiry.toNat ≤ s.hzn.time.toNat)) = false) →
     exec (.ceremonyExpiry part) s = .next s) ∧
  (∀ (part : Fin 256) (nonceId : BitVec 32) (s : State), (((getPart s part.val).nonces.any (fun n => n.id == nonceId && tenMinutes s n.issued)) = false) →
     exec (.tr34NonceExpiry part nonceId) s = .next s) ∧
  (∀ (part : Fin 256) (s : State), ((match (getPart s part.val).backup with | none => false | some b => tenMinutes s b.issued || decide (b.chunks.length ≤ b.nextRead)) = false) →
     exec (.backupSnapshotExpiry part) s = .next s) ∧
  (∀ (part : Fin 256) (s : State), ((let x := getPart s part.val; x.state == .importing && (match x.staging with | none => false | some g => tenMinutes s g.last)) = false) →
     exec (.importIdleTimeout part) s = .next s)

/-- Mesh, channel and comparator samples, the response, calibration, checkpoints and the crystal act as the spec says. Rests also on the choices of the model in log entries 31, 82 to 84. That an event which is not due changes nothing is the choice of the model, log entry 124. (R29, R286, R381, R382, R384, R386, R388, R389, R390, R393, R394, R447) -/
def Obligations.TamperAndHorizonEventsTakeEffect : Prop :=
  (∀ (s : State) (l : Fin 4) (ohms : Nat) (x : Bool), (s.hzn.powered = true) → (s.clk.powered = false) → (meshVerdict s l.val ohms x = none) →
     exec (.meshSample l ohms x) s = .next { s with hzn := { s.hzn with meshBad := s.hzn.meshBad.filter (· != l.val) } }) ∧
  (∀ (s : State) (l : Fin 4) (ohms c : Nat) (x : Bool), (s.hzn.powered = true) → (s.clk.powered = false) → (meshVerdict s l.val ohms x = some c) →
     ∃ t, exec (.meshSample l ohms x) s = .next t ∧ (l.val ∉ s.hzn.meshBad → t = { s with hzn := { s.hzn with meshBad := s.hzn.meshBad ++ [l.val] } }) ∧
       (l.val ∈ s.hzn.meshBad → t = comparator c l.val s)) ∧
  (∀ (s : State) (c : Fin 9) (l : Fin 4), (s.hzn.powered = true) → (causeArmed s c.val l.val = true) → (s.hzn.active &&& causeBit c.val = 0) → (s.clk.powered = true) → (s.hzn.latch = false) →
     (let u := noteCondition c.val l.val s; let v := { u with hzn := { u.hzn with active := s.hzn.active ||| causeBit c.val } }; ∃ t, exec (.tamperCauseFire c l) s = .next t ∧ t = responseStart (tamperBegin c.val (causeChannel c.val l.val) false 0 v) ∧
       t.hzn.latch = true ∧ t.hzn.responding = true ∧ t.ks.keys = [] ∧ t.ks.holds = [] ∧ t.ks.hot = [] ∧ t.ks.mwk = zeros 32 ∧ t.ks.mwkGen = 0 ∧
       t.hzn.latched = s.hzn.latched ||| (1#12 <<< c.val) ∧ t.hzn.tampers = satAdd 8 s.hzn.tampers 1)) ∧
  (∀ (s : State) (c : Fin 9) (l : Fin 4), (s.hzn.powered = true) → (causeArmed s c.val l.val = true) → (s.hzn.active &&& causeBit c.val = 0) → (s.clk.powered = false) → (s.hzn.latch = false) →
     (let u := noteCondition c.val l.val s; let v := { u with hzn := { u.hzn with active := s.hzn.active ||| causeBit c.val } }; ∃ t, exec (.tamperCauseFire c l) s = .next t ∧ t = zeroiseRegister (tamperBegin c.val (causeChannel c.val l.val) true 0 v) ∧ t.hzn.latch = true ∧ t.ks.mwk = zeros 32)) ∧
  (∀ (s : State) (c : Fin 9) (l : Fin 4), (s.hzn.powered = true) → (causeArmed s c.val l.val = true) → (s.hzn.active &&& causeBit c.val = 0) → (s.hzn.latch = true) →
     (let u := noteCondition c.val l.val s; let v := { u with hzn := { u.hzn with active := s.hzn.active ||| causeBit c.val } }; exec (.tamperCauseFire c l) s = .next (tamperRecord c.val (causeChannel c.val l.val) (!s.clk.powered) 0 v))) ∧
  (∀ (s : State) (c : Fin 9) (l : Fin 4), (s.hzn.powered = true) → (causeArmed s c.val l.val = false ∨ s.hzn.active &&& causeBit c.val ≠ 0) →
     exec (.tamperCauseFire c l) s = .next (noteCondition c.val l.val s)) ∧
  (∀ (s : State) (c l : Nat),
     (noteCondition c l s).hzn.enclOpen = (s.hzn.enclOpen || c == 7) ∧
       (∀ e, e ∈ (noteCondition c l s).hzn.meshTrue ↔ e ∈ s.hzn.meshTrue ∨ (e = (c, l) ∧ c ≤ 1 ∧ causeArmed s c l = true))) ∧
  (∀ (s : State) (c : Fin 9),
     exec (.tamperCauseClear c) s = .next { s with hzn := { s.hzn with active := s.hzn.active &&& ~~~(causeBit c.val), enclOpen := s.hzn.enclOpen && c.val != 7, meshTrue := s.hzn.meshTrue.filter (fun e => e.1 != c.val) } }) ∧
  (∀ (s : State), (s.clk.powered = true) → (s.hzn.latch = true) → (s.hzn.responding = true) →
     ∃ t, exec .tamperResponseEnd s = .next t ∧ t = (let u := destroyTenants s; warmReset { u with hzn := { u.hzn with latch := false, responding := false } }) ∧
       t.svc.phase = .dark ∧ t.hzn.latch = false ∧ t.hzn.responding = false ∧ t.ks.keys = [] ∧ t.ks.nor1 = [] ∧ t.ks.mwkGen = 0 ∧
       t.pm.logP = none ∧ t.replies = [] ∧ t.hzn.epoch = s.hzn.epoch + 1) ∧
  (∀ (s : State) (ch : Fin 16) (v : BitVec 12), (s.clk.powered = true) → (warnLimit (noteBattery ch.val v.toNat s) ch.val v.toNat = false) → (tamperLimit s ch.val v.toNat = false) →
     (let m := s.hzn.channels.at ch.val chanReset; let u := noteBattery ch.val v.toNat s;
       exec (.channelSample ch v) s = .next { u with hzn := { u.hzn with channels := u.hzn.channels.put ch.val { m with value := v, crossed := false, fired := false } } })) ∧
  (∀ (s : State) (ch : Fin 16) (v : BitVec 12), (s.clk.powered = true) → (warnLimit (noteBattery ch.val v.toNat s) ch.val v.toNat = true) → (tamperLimit s ch.val v.toNat = false) →
     (let m := s.hzn.channels.at ch.val chanReset; let u := noteBattery ch.val v.toNat s;
       exec (.channelSample ch v) s = .next (channelWarn ch.val { u with hzn := { u.hzn with channels := u.hzn.channels.put ch.val { m with value := v, crossed := false, fired := false } } }))) ∧
  (∀ (s : State) (ch : Fin 16) (v : BitVec 12), (s.clk.powered = true) → (tamperLimit s ch.val v.toNat = true) → ((s.hzn.channels.at ch.val chanReset).crossed = false ∨ (s.hzn.channels.at ch.val chanReset).fired = true) →
     (let m := s.hzn.channels.at ch.val chanReset; let u := noteBattery ch.val v.toNat s; let w := { u with hzn := { u.hzn with channels := u.hzn.channels.put ch.val { m with value := v, crossed := true, fired := m.fired } } };
       exec (.channelSample ch v) s = .next (if warnLimit w ch.val v.toNat then channelWarn ch.val w else w))) ∧
  (∀ (s : State) (ch : Fin 16) (v : BitVec 12), (s.clk.powered = true) → (tamperLimit s ch.val v.toNat = true) → ((s.hzn.channels.at ch.val chanReset).crossed = true) → ((s.hzn.channels.at ch.val chanReset).fired = false) →
     (let m := s.hzn.channels.at ch.val chanReset; let u := noteBattery ch.val v.toNat s; let w := { u with hzn := { u.hzn with channels := u.hzn.channels.put ch.val { m with value := v, crossed := true, fired := true } } };
       exec (.channelSample ch v) s = .next (fireTamper 9 ch.val v.toNat (if warnLimit w ch.val v.toNat then channelWarn ch.val w else w)))) ∧
  (∀ (s : State) (p : CalPoint) (m : Int) (r : CmdRef) (c : Cmd), (s.hzn.calCmd = some r) → (s.hzn.calNs + 40000000000 ≤ s.clk.ns) → (findCmd s r = some c) → (c.result = none) →
     (let u := { s with hzn := { s.hzn with calFull := some { p with crcOk := true }, calCmd := none }, svc := { s.svc with calFull := true, capped := false } };
       ∃ t, exec (.calibrationDone p m) s = .next t ∧ t = endCmd r stOk (calReply m) (if s.svc.capped = true then setCauseAll causePhase u else u) ∧
       endedWith t r stOk (calReply m) ∧ t.hzn.calFull = some { p with crcOk := true } ∧ t.hzn.calCmd = none ∧ t.svc.calFull = true ∧ t.svc.capped = false)) ∧
  (∀ (s : State) (p : CalPoint) (m : Int), (s.hzn.calCmd = none ∨ s.clk.ns < s.hzn.calNs + 40000000000) →
     exec (.calibrationDone p m) s = .next s) ∧
  (∀ (s : State) (l : List (Nat × Nat)), (s.clk.powered = true) → (s.svc.calLoaded = true) →
     exec (.envelopeRecompute l) s = .next { s with hzn := { s.hzn with envelopes := l.filterMap (fun x => envelope s x.1 x.2) } }) ∧
  (∀ (s : State), (s.clk.powered = true) → (s.svc.dawnDone = true) → (s.hzn.checkNs + 3600000000000 ≤ s.clk.ns) →
     ∃ t, exec .horizonCheckpoint s = .next t ∧ t.hzn.check = { time := s.hzn.time, epoch := s.hzn.epoch, armExt := s.hzn.armExt, armEncl := s.hzn.armEncl, baselines := s.hzn.baselines, mwkGen := s.ks.mwkGen, claim := s.ilu.claim } ∧
       t.hzn.checkNs = s.clk.ns ∧ t.hzn.time = s.hzn.time) ∧
  (∀ (s : State) (d : Nat), (s.clk.powered = true) → (d ≤ 500) →
     exec (.crystalCheck d false) s = .next { s with hzn := { s.hzn with goodSecs := s.hzn.goodSecs + 1, skyTicks := s.hzn.skyTicks && decide (s.hzn.goodSecs + 1 < 10) } }) ∧
  (∀ (s : State) (d : Nat), (s.clk.powered = true) → (500 < d) → (d ≤ 1000) →
     exec (.crystalCheck d false) s = .next { s with hzn := { s.hzn with goodSecs := 0 } }) ∧
  (∀ (s : State) (d : Nat) (st : Bool), (s.clk.powered = true) → (st = true ∨ 1000 < d) → (s.hzn.skyTicks = true) →
     exec (.crystalCheck d st) s = .next { s with hzn := { s.hzn with skyTicks := true, goodSecs := 0 } }) ∧
  (∀ (s : State) (d : Nat) (st : Bool), (s.clk.powered = true) → (st = true ∨ 1000 < d) → (s.hzn.skyTicks = false) →
     exec (.crystalCheck d st) s = .next (setFltCause 1 (faultLog 0 1 0 0 { s with hzn := { s.hzn with skyTicks := true, goodSecs := 0 } }))) ∧
  (∀ (loop : Fin 4) (ohms : Nat) (crossed : Bool) (s : State), ((s.hzn.powered && !mains s) = false) →
     exec (.meshSample loop ohms crossed) s = .next s) ∧
  (∀ (cause : Fin 9) (loop : Fin 4) (s : State), ((s.hzn.powered) = false) →
     exec (.tamperCauseFire cause loop) s = .next s) ∧
  (∀ (s : State), ((mains s && s.hzn.latch && s.hzn.responding) = false) →
     exec .tamperResponseEnd s = .next s) ∧
  (∀ (ch : Fin 16) (value : BitVec 12) (s : State), ((mains s) = false) →
     exec (.channelSample ch value) s = .next s) ∧
  (∀ (s : State), ((mains s && s.svc.dawnDone && decide (s.hzn.checkNs + 3600000000000 ≤ s.clk.ns)) = false) →
     exec .horizonCheckpoint s = .next s) ∧
  (∀ (deviationPpm : Nat) (stopped : Bool) (s : State), ((mains s) = false) →
     exec (.crystalCheck deviationPpm stopped) s = .next s)

/-- The power sequence waits for its inputs, delays and writes, goes on when they come and fails when they do not. Rests also on the choices of the model in log entries 69, 70, 128. That an event which is not due changes nothing is the choice of the model, log entry 124. (R317, R318, R319, R325, R326, R336, R340) -/
def Obligations.PlatformSequenceAdvances : Prop :=
  (∀ (s : State), (s.svc.dawnDone = true) → (drives s = true) → (s.plat.bootWanted ≠ 0) → (s.plat.booting = 0) → (s.plat.wait = .idle) → (pcMagic (pcfgUse { s with plat := { s.plat with used := s.plat.pcfg, bootWanted := 0 } }) = false) →
     exec .platformBoot s = .next { s with plat := { s.plat with used := s.plat.pcfg, bootWanted := 0 } }) ∧
  (∀ (s : State), (s.svc.dawnDone = true) → (drives s = true) → (s.plat.bootWanted ≠ 0) → (s.plat.booting = 0) → (s.plat.wait = .idle) → (pcMagic (pcfgUse { s with plat := { s.plat with used := s.plat.pcfg, bootWanted := 0 } }) = true) →
     ∃ t, exec .platformBoot s = .next t ∧ t.plat.used = s.plat.pcfg ∧ t.plat.bootWanted = 0 ∧ t.life = s.life ∧ t.ks = s.ks) ∧
  (∀ (s : State) (n : Fin 8) (d : Nat), (s.plat.wait = .pg n.val d) →
     exec (.pgInRise n) s = .next (resume { s with plat := { s.plat with pgIn := s.plat.pgIn ||| 1#8 <<< n.val } })) ∧
  (∀ (s : State) (n : Fin 8), (∀ d, s.plat.wait ≠ .pg n.val d) →
     exec (.pgInRise n) s = .next { s with plat := { s.plat with pgIn := s.plat.pgIn ||| 1#8 <<< n.val } }) ∧
  (∀ (s : State) (n d : Nat), (s.plat.wait = .pg n d) → (d ≤ s.clk.ns) →
     exec .pgWaitTimeout s = .next (seqFail s)) ∧
  (∀ (s : State), (∀ n d, s.plat.wait = .pg n d → s.clk.ns < d) →
     exec .pgWaitTimeout s = .next s) ∧
  (∀ (s : State) (d : Nat), (s.plat.wait = .delay d) → (d ≤ s.clk.ns) →
     exec .seqDelayEnd s = .next (resume s)) ∧
  (∀ (s : State) (d : Nat) (l : List Bytes), (s.plat.wait = .down d l) → (d ≤ s.clk.ns) →
     exec .seqDelayEnd s = .next (downSeq l s)) ∧
  (∀ (s : State), (∀ d l, s.plat.wait = .delay d ∨ s.plat.wait = .down d l → s.clk.ns < d) →
     exec .seqDelayEnd s = .next s) ∧
  (∀ (s : State), (s.plat.wait = .pmbus) →
     exec (.pmbusWriteDone true) s = .next (resume s) ∧ exec (.pmbusWriteDone false) s = .next (seqFail s)) ∧
  (∀ (s : State) (b : Bool), (s.plat.wait ≠ .pmbus) →
     exec (.pmbusWriteDone b) s = .next s) ∧
  (∀ (s : State), (wantsHost s = true) → (wantsBmc s = false) →
     (seqFail s).plat.host = .heldFailed ∧ (seqFail s).plat.hostOutcome = 3 ∧ (seqFail s).plat.wait = .idle ∧ (seqFail s).plat.bmc = s.plat.bmc) ∧
  (∀ (s : State), (wantsBmc s = true) →
     (seqFail s).plat.bmc = .heldFailed ∧ (seqFail s).plat.bmcOutcome = 3 ∧ (seqFail s).plat.wait = .idle ∧ (wantsHost s = true → (seqFail s).plat.host = .heldFailed ∧ (seqFail s).plat.hostOutcome = 3)) ∧
  (∀ (s : State), (wantsHost s = true) → (s.plat.pwrgd = true) → (s.plat.kind1Durable = true) → (s.plat.pwrgdNs + 1000000 ≤ s.clk.ns) →
     exec .hostRelease s = .next { s with plat := { s.plat with hostReset := false, host := .released, booting := s.plat.booting &&& 2 } }) ∧
  (∀ (s : State) (d : Nat) (m : BitVec 2), (s.plat.rebootAt = some (d, m, false)) → (d ≤ s.clk.ns) →
     ∃ t, exec .platformResetAssert s = .next t ∧ t.plat.rebootAt = none ∧ t.plat.bootWanted = s.plat.bootWanted ||| m ∧ t.plat.hostReset = (s.plat.hostReset || bit m.toNat 0) ∧
       t.plat.bmcReset = (s.plat.bmcReset || bit m.toNat 1) ∧ t.plat.records = s.plat.records ∧ t.ks = s.ks) ∧
  (∀ (s : State) (d : Nat) (m : BitVec 2), (s.plat.rebootAt = some (d, m, true)) → (d ≤ s.clk.ns) →
     exec .platformResetAssert s = .next (powerDown (resetMasters m true { s with plat := { s.plat with rebootAt := none, wait := .idle } }))) ∧
  (∀ (s : State), (∀ r, s.plat.rebootAt = some r → s.clk.ns < r.1) →
     exec .platformResetAssert s = .next s) ∧
  (∀ (s : State), ((s.svc.dawnDone && drives s && s.plat.bootWanted != 0 && s.plat.booting == 0 && s.plat.wait == .idle) = false) →
     exec .platformBoot s = .next s) ∧
  (∀ (s : State), ((wantsHost s && s.plat.pwrgd && s.plat.kind1Durable && decide (s.plat.pwrgdNs + 1000000 ≤ s.clk.ns)) = false) →
     exec .hostRelease s = .next s)

/-- Manifests, region hashes, boot records and re-measurements are judged and kept as the spec says. Rests also on the choices of the model in log entries 69, 71, 73, 128. That an event which is not due changes nothing is the choice of the model, log entry 124. (R324, R325, R326, R328, R335, R336, R424, R434) -/
def Obligations.ManifestAndRecordsAreKept : Prop :=
  (∀ (s : State) (alt : Bool) (b : Bytes), (s.plat.booting ≠ 0) → (1 ≤ s.plat.stage) → (s.plat.manifestDone = false) → (s.plat.manFailed = alt) → (manifestRead s alt b.length = true) →
     (let ok := manifestOk s b && (swapFault (bankAt b (32 + 80 * mfRegions b) 0 .inactive)).isNone;
       ∃ t, exec (.manifestReadDone alt b) s = .next t ∧ (ok = true → t = acceptManifest b s) ∧
       (ok = false → alt = false → pc s 0x31 1 ≠ 0xFF → t = { s with plat := { s.plat with manFailed := true } }) ∧
       (ok = false → alt = true ∨ pc s 0x31 1 = 0xFF → t = manifestFail s))) ∧
  (∀ (s : State) (d src rr : List (Nat × Bytes)), (bit s.plat.booting.toNat 1 = true) → (s.plat.manifestOk = true) → (ownerRead s true = true) → (toRecover s true d = false) → (recoveryFree s true d = true) → (s.plat.bmcHashed = none) →
     (let l := s.plat.regions.zipIdx.map (fun e => if e.1.bmc == true then judge s d src rr e.2 e.1 else e.1); let o := regionOutcome (l.filter (fun r : Region => r.bmc == true));
       let u := { s with plat := { s.plat with regions := l, failedRegs := (l.filter (fun r : Region => r.result == 3)).length, readDone := s.plat.readDone.filter (fun i => !(ownedIdx s true).contains i) } }; exec (.regionHashDone true d src rr) s = .next (if o = 2 then holdBmc 2 { u with plat := { u.plat with bmcHashed := some false } } else advance (setBmc .verifying o { u with plat := { u.plat with bmcHashed := some true } })))) ∧
  (∀ (s : State) (d src rr : List (Nat × Bytes)), (bit s.plat.booting.toNat 0 = true) → (s.plat.manifestOk = true) → (ownerRead s false = true) → (toRecover s false d = false) → (recoveryFree s false d = true) → (s.plat.hostHashed = none) → (s.plat.bmcHashed ≠ none ∨ wantsBmc s = false) →
     (let l := s.plat.regions.zipIdx.map (fun e => if e.1.bmc == false then judge s d src rr e.2 e.1 else e.1); let o := regionOutcome (l.filter (fun r : Region => r.bmc == false));
       let u := { s with plat := { s.plat with regions := l, failedRegs := (l.filter (fun r : Region => r.result == 3)).length, readDone := s.plat.readDone.filter (fun i => !(ownedIdx s false).contains i) } }; exec (.regionHashDone false d src rr) s = .next (if o = 2 then holdHost 2 { u with plat := { u.plat with hostHashed := some false } } else advance (setHost .verifying o { u with plat := { u.plat with hostHashed := some true } })))) ∧
  (∀ (s : State) (d src rr : List (Nat × Bytes)), (bit s.plat.booting.toNat 1 = true) → (s.plat.manifestOk = true) → (ownerRead s true = true) → (toRecover s true d = true) → (s.plat.bmcHashed = none) →
     exec (.regionHashDone true d src rr) s = .next { s with plat := { s.plat with bmc := .recovering } }) ∧
  (∀ (s : State) (d src rr : List (Nat × Bytes)), (bit s.plat.booting.toNat 0 = true) → (s.plat.manifestOk = true) → (ownerRead s false = true) → (toRecover s false d = true) → (s.plat.hostHashed = none) → (s.plat.bmcHashed ≠ none ∨ wantsBmc s = false) →
     exec (.regionHashDone false d src rr) s = .next { s with plat := { s.plat with host := .recovering } }) ∧
  (∀ (s : State) (b : Bytes), (nextDue s = some b) → (s.svc.dawnDone = true) →
     ∃ t, exec .bootRecordDurable s = .next t ∧ t = writeRecord (fld b 0 1) (fld b 1 4) { s with plat := { s.plat with recordDue := s.plat.recordDue.erase b } } ∧ t.plat.brecSeq = s.plat.brecSeq + 1) ∧
  (∀ (s : State), (nextDue s = none ∨ s.svc.dawnDone = false) →
     exec .bootRecordDurable s = .next s) ∧
  (∀ (s : State) (i : Fin 64) (r : Region), (s.plat.regions[i.val]? = some r) → (i.val ∈ measuredIdx s) → (s.svc.dawnDone = true) → (i.val ∈ s.plat.readDone) →
     (let p := if s.plat.passDone.contains i.val then s.plat.passDone else s.plat.passDone ++ [i.val];
       let u := { s with plat := { s.plat with readDone := s.plat.readDone.filter (· != i.val), passDone := p } };
       let u := if (measuredIdx u).all (fun i => p.contains i) then { u with plat := { u.plat with passes := satAdd 16 s.plat.passes 1, passDone := [] } } else u; exec (.remeasureRegionDone i r.digest) s = .next u)) ∧
  (∀ (s : State) (i : Fin 64) (r : Region) (d : Bytes), (s.plat.regions[i.val]? = some r) → (i.val ∈ measuredIdx s) → (s.svc.dawnDone = true) → (i.val ∈ s.plat.readDone) → (d ≠ r.digest) →
     (let p := if s.plat.passDone.contains i.val then s.plat.passDone else s.plat.passDone ++ [i.val];
       let u := { s with plat := { s.plat with readDone := s.plat.readDone.filter (· != i.val), passDone := p } };
       let u := if (measuredIdx u).all (fun i => p.contains i) then { u with plat := { u.plat with passes := satAdd 16 s.plat.passes 1, passDone := [] } } else u;
       ∃ t, exec (.remeasureRegionDone i d) s = .next t ∧ t = mismatch i.val r d u ∧ t.plat.mismatch = true ∧ t.flt.cause = s.flt.cause ||| 0x20 ∧ (t.plat.regions[i.val]?).map (fun x => (x.result, x.measured)) = some (4, d))) ∧
  (∀ (s : State) (i : Fin 64) (d : Bytes), (s.plat.regions[i.val]? = none ∨ i.val ∉ measuredIdx s ∨ s.svc.dawnDone = false ∨ i.val ∉ s.plat.readDone) →
     exec (.remeasureRegionDone i d) s = .next s) ∧
  (∀ (s : State) (k : Fin 4), (s.svc.dawnDone = true) →
     exec (.flashStatusPollTimeout k) s = .next (transient { kind := 4, index := k.val } { s with plat := { s.plat with polls := s.plat.polls + 1, isle := s.plat.isle.del k.val } })) ∧
  (∀ (alternate : Bool) (bytes : Bytes) (s : State), ((s.plat.booting != 0 && decide (1 ≤ s.plat.stage) && !s.plat.manifestDone && alternate == s.plat.manFailed && manifestRead s alternate bytes.length) = false) →
     exec (.manifestReadDone alternate bytes) s = .next s) ∧
  (∀ (port : Fin 4) (s : State), ((s.svc.dawnDone) = false) →
     exec (.flashStatusPollTimeout port) s = .next s)

/-- A flash transaction is judged under the active bank and counted as in flight, and its end drains the other bank. Rests also on the choices of the model in log entries 73, 128. That an event which is not due changes nothing is the choice of the model, log entry 124. (R327, R328, R329, R330, R331, R332) -/
def Obligations.LensTransactionsAreJudged : Prop :=
  (∀ (s : State) (x : LensTxn), (s.clk.powered = true) →
     (let j := judgeTxn x s; exec (.lensTransaction x) s = .next { j with plat := { j.plat with isle := j.plat.isle.del x.port.val, inflight := j.plat.inflight ++ [{ master := x.master, port := x.port.val, bank := activeIdx j }] } })) ∧
  (∀ (s : State) (x : LensTxn), (portMaster (activeBank s) x.port.val ≠ masterNum x.master ∨ portBusy s x = true) →
     judgeTxn x s = flashOut x false 0 (txnClass s x) (lensLog 5 0 x (txnClass s x) s)) ∧
  (∀ (s : State) (x : LensTxn), (portMaster (activeBank s) x.port.val = masterNum x.master) → (portBusy s x = false) → ((let a := if x.master then (activeBank s).allowBmc else (activeBank s).allowHost; (txnClass s x = 0 ∨ bit (a.getD (x.opcode.toNat / 8) 0).toNat (x.opcode.toNat % 8) = false))) →
     judgeTxn x s = flashOut x false 0 (txnClass s x) (lensLog 4 0 x (txnClass s x) s)) ∧
  (∀ (s : State) (x : LensTxn), (portMaster (activeBank s) x.port.val = masterNum x.master) → (portBusy s x = false) → ((let a := if x.master then (activeBank s).allowBmc else (activeBank s).allowHost; bit (a.getD (x.opcode.toNat / 8) 0).toNat (x.opcode.toNat % 8) = true)) → (4 ≤ txnClass s x) →
     judgeTxn x s = flashOut x true 0 (txnClass s x) s) ∧
  (∀ (s : State) (x : LensTxn) (n ok : Nat), (portMaster (activeBank s) x.port.val = masterNum x.master) → (portBusy s x = false) → ((let a := if x.master then (activeBank s).allowBmc else (activeBank s).allowHost; bit (a.getD (x.opcode.toNat / 8) 0).toNat (x.opcode.toNat % 8) = true)) → (0 < txnClass s x) → (txnClass s x < 4) → (touched s (activeBank s) x (txnClass s x) = (n, ok)) →
     (n ≤ ok → judgeTxn x s = flashOut x true 0 (txnClass s x) s) ∧
       (ok < n → txnClass s x = 1 → judgeTxn x s = flashOut x true (n - ok) 1 (lensLog 1 (n - ok) x 1 s)) ∧
       (ok < n → txnClass s x ≠ 1 → judgeTxn x s = (let u := flashOut x false 0 (txnClass s x) (lensLog (if txnClass s x = 2 then 2 else 3) 0 x (txnClass s x) s); emit (.flash x.port.val (BitVec.ofNat 8 (pc u (portAt x.port.val + 5) 1)) 0 true 0 0 0) u))) ∧
  (∀ (s : State) (m : Bool) (k : Fin 4) (i : InFlight), (s.plat.inflight.find? (fun i => i.master == m && i.port == k.val) = some i) →
     (let u := { s with plat := { s.plat with inflight := s.plat.inflight.erase i } }; let d := !activeIdx u;
       ∃ t, exec (.lensTransactionEnd m k) s = .next t ∧ t.plat.inflight = s.plat.inflight.erase i ∧
       ((bankOf s d).state = .draining → (∀ j ∈ s.plat.inflight.erase i, j.bank ≠ d) → t = setBank d { bankOf u d with state := .inactive } u) ∧
       ((bankOf s d).state ≠ .draining ∨ (∃ j ∈ s.plat.inflight.erase i, j.bank = d) → t = u))) ∧
  (∀ (s : State) (m : Bool) (k : Fin 4), (s.plat.inflight.find? (fun i => i.master == m && i.port == k.val) = none) →
     exec (.lensTransactionEnd m k) s = .next s) ∧
  (∀ (t : LensTxn) (s : State), ((s.clk.powered) = false) →
     exec (.lensTransaction t) s = .next s)

/-- The recovery loader answers HELLO, BEGIN, DATA and END as the frame rules say. Rests also on the choices of the model in log entries 93. That an event which is not due changes nothing is the choice of the model, log entry 124. (R302, R305, R306) -/
def Obligations.RecoveryLoaderFollowsItsFrames : Prop :=
  (∀ (typ : Nat) (p : Bytes) (s : State),
     loaderSend typ p s = emit (.uart ([0xC3] ++ toLe 1 typ ++ toLe 2 p.length ++ p ++ toLe 4 (crc32 (toLe 1 typ ++ toLe 2 p.length ++ p)).toNat)) s) ∧
  (∀ (s : State), (s.svc.recovery = true) → (s.fw.loaderLen = none) → (s.fw.loaderNs + 1000000000 ≤ s.clk.ns) →
     exec .loaderHelloTimer s = .next (loaderSend 0x01 (padTo 8 (unitSerial s) ++ toLe 1 (svnCount s) ++ toLe 1 (keysLive s) ++ toLe 1 s.fw.slotA.result.toNat ++ toLe 1 s.fw.slotB.result.toNat) { s with fw := { s.fw with loaderNs := s.clk.ns } })) ∧
  (∀ (s : State) (n : BitVec 32), (s.svc.recovery = true) → (n.toNat ≤ 1048576) →
     exec (.loaderBegin n true) s = .next (loaderSend 0x10 (toLe 4 0 ++ toLe 1 0) { s with fw := { s.fw with loaderNs := s.clk.ns, loaderLen := some n.toNat, loaderBuf := [] } })) ∧
  (∀ (s : State) (n : BitVec 32), (s.svc.recovery = true) → (1048576 < n.toNat) →
     exec (.loaderBegin n true) s = .next (loaderSend 0x11 (toLe 4 0 ++ toLe 1 0x82) { s with fw := { s.fw with loaderNs := s.clk.ns, loaderLen := none, loaderBuf := [] } })) ∧
  (∀ (s : State) (n : BitVec 32), (s.svc.recovery = true) →
     (let u := { s with fw := { s.fw with loaderNs := s.clk.ns } }; exec (.loaderBegin n false) s = .next (loaderSend 0x11 (toLe 4 s.fw.loaderBuf.length ++ toLe 1 0x80) u))) ∧
  (∀ (s : State) (o : BitVec 32) (d : Bytes) (n : Nat), (s.svc.recovery = true) → (s.fw.loaderLen = some n) → (d ≠ []) → (d.length ≤ 4096) → (o.toNat = s.fw.loaderBuf.length) → (s.fw.loaderBuf.length + d.length ≤ n) →
     exec (.loaderData o d true) s = .next (loaderSend 0x10 (toLe 4 (s.fw.loaderBuf ++ d).length ++ toLe 1 0) { s with fw := { s.fw with loaderNs := s.clk.ns, loaderBuf := s.fw.loaderBuf ++ d } })) ∧
  (∀ (s : State) (o : BitVec 32) (d : Bytes) (n : Nat), (s.svc.recovery = true) → (s.fw.loaderLen = some n) → (d ≠ []) → (d.length ≤ 4096) → (o.toNat ≠ s.fw.loaderBuf.length) →
     (let u := { s with fw := { s.fw with loaderNs := s.clk.ns } }; exec (.loaderData o d true) s = .next (loaderSend 0x11 (toLe 4 s.fw.loaderBuf.length ++ toLe 1 0x81) u))) ∧
  (∀ (s : State) (o : BitVec 32) (d : Bytes) (ok : Bool), (s.svc.recovery = true) → (s.fw.loaderLen = none ∨ ok = false ∨ d = [] ∨ 4096 < d.length ∨ (o.toNat = s.fw.loaderBuf.length ∧ ∃ n, s.fw.loaderLen = some n ∧ n < s.fw.loaderBuf.length + d.length)) →
     (let u := { s with fw := { s.fw with loaderNs := s.clk.ns } }; exec (.loaderData o d ok) s = .next (loaderSend 0x11 (toLe 4 s.fw.loaderBuf.length ++ toLe 1 0x80) u))) ∧
  (∀ (s : State), (s.svc.recovery = true) → (s.fw.loaderLen.isSome = true) →
     (let u := { s with fw := { s.fw with loaderNs := s.clk.ns } }; let r := imageCheck u s.fw.loaderBuf 1 0 true; let v := loaderAck 1 (loaderStore s.fw.loaderBuf u);
       ∃ t, exec (.loaderEnd true) s = .next t ∧ (r = 1 → t = { v with svc := { v.svc with warmAtNs := some (v.clk.ns + 10000000) } } ∧ t.fw.slotA.image = s.fw.loaderBuf ∧ t.fw.slotB.image = s.fw.loaderBuf) ∧
       (r ≠ 1 → t = loaderSend 0x11 (toLe 4 s.fw.loaderBuf.length ++ toLe 1 r) { u with fw := { u.fw with loaderLen := none, loaderBuf := [] } }))) ∧
  (∀ (s : State) (ok : Bool), (s.svc.recovery = true) → (ok = false ∨ s.fw.loaderLen = none) →
     (let u := { s with fw := { s.fw with loaderNs := s.clk.ns } }; exec (.loaderEnd ok) s = .next (loaderSend 0x11 (toLe 4 s.fw.loaderBuf.length ++ toLe 1 0x80) u))) ∧
  (∀ (s : State), (s.svc.recovery = true) → (s.fw.loaderLen.isSome = true) → (s.fw.loaderNs + 2000000000 < s.clk.ns) →
     exec .loaderFrameTimeout s = .next { s with fw := { s.fw with loaderNs := s.clk.ns, loaderLen := none, loaderBuf := [] } }) ∧
  (∀ (s : State), ((s.svc.recovery && s.fw.loaderLen.isNone && decide (s.fw.loaderNs + 1000000000 ≤ s.clk.ns)) = false) →
     exec .loaderHelloTimer s = .next s) ∧
  (∀ (length : BitVec 32) (crcOk : Bool) (s : State), ((s.svc.recovery) = false) →
     exec (.loaderBegin length crcOk) s = .next s) ∧
  (∀ (offset : BitVec 32) (data : Bytes) (crcOk : Bool) (s : State), ((s.svc.recovery) = false) →
     exec (.loaderData offset data crcOk) s = .next s) ∧
  (∀ (crcOk : Bool) (s : State), ((s.svc.recovery) = false) →
     exec (.loaderEnd crcOk) s = .next s) ∧
  (∀ (s : State), ((s.svc.recovery && s.fw.loaderLen.isSome && decide (s.fw.loaderNs + 2000000000 < s.clk.ns)) = false) →
     exec .loaderFrameTimeout s = .next s)

/-- MCTP packets and control messages are served on a serving port. Rests also on the choices of the model in log entries 75, 76. That an event which is not due changes nothing is the choice of the model, log entry 124. (R344, R345) -/
def Obligations.MctpControlIsServed : Prop :=
  (∀ (s : State) (port : Fin 3) (src : BitVec 8) (seq : BitVec 2) (tag : BitVec 4) (body : Bytes) (k : Nat), (portServes s port.val = true) → (body.length ≤ 64) → (typeKnown body = true) → (bufferOf s port.val src tag = none) → (freeBuffer s = some k) →
     exec (.mctpPacket port src s.mbus.eid true false seq tag body) s =
       .next { s with mbus := { s.mbus with buffers := s.mbus.buffers.put k { port := port.val, src := src, tag := tag, next := seq + 1, data := body, lastNs := s.clk.ns } } }) ∧
  (∀ (s : State) (port : Fin 3) (src : BitVec 8) (seq : BitVec 2) (tag : BitVec 4) (eom : Bool) (body : Bytes), (portServes s port.val = true) → (body.length ≤ 64) → (typeKnown body = false) → (bufferOf s port.val src tag = none) →
     exec (.mctpPacket port src s.mbus.eid true eom seq tag body) s = .next (busFault port.val (countPec port.val s))) ∧
  (∀ (s : State) (port : Fin 3) (src : BitVec 8) (seq : BitVec 2) (tag : BitVec 4) (eom : Bool) (body : Bytes), (portServes s port.val = true) → (body.length ≤ 64) → (typeKnown body = true) → (bufferOf s port.val src tag = none) → (freeBuffer s = none) →
     exec (.mctpPacket port src s.mbus.eid true eom seq tag body) s = .next (countArb port.val s)) ∧
  (∀ (s : State) (k : Fin 8) (b : Reasm), (s.mbus.buffers.look k.val = some b) → (b.lastNs + 100000000 < s.clk.ns) →
     exec (.mctpReassemblyTimeout k) s = .next { s with mbus := { s.mbus with buffers := s.mbus.buffers.del k.val } }) ∧
  (∀ (s : State) (port : Fin 3) (src dst : BitVec 8) (eom : Bool) (seq : BitVec 2) (tag : BitVec 4) (body : Bytes), (portServes s port.val = true) → (body.length ≤ 64) → (dst = s.mbus.eid ∨ dst = 0 ∨ dst = 0xFF) →
     (let u := match bufferOf s port.val src tag with | none => s | some k => dropBuffer k s;
       (typeKnown body = false → exec (.mctpPacket port src dst true eom seq tag body) s = .next (busFault port.val (countPec port.val u))) ∧
       (typeKnown body = true → freeBuffer u = none → exec (.mctpPacket port src dst true eom seq tag body) s = .next (countArb port.val u)) ∧
       (∀ k, typeKnown body = true → freeBuffer u = some k → exec (.mctpPacket port src dst true eom seq tag body) s =
       .next (if eom then mctpMessage port src body (dropBuffer k u) else { u with mbus := { u.mbus with buffers := u.mbus.buffers.put k { port := port.val, src := src, tag := tag, next := seq + 1, data := body, lastNs := u.clk.ns } } })))) ∧
  (∀ (s : State) (port : Fin 3) (src dst : BitVec 8) (eom : Bool) (seq : BitVec 2) (tag : BitVec 4) (body : Bytes), (portServes s port.val = true) → (body.length ≤ 64) → (dst = s.mbus.eid ∨ dst = 0 ∨ dst = 0xFF) →
     (bufferOf s port.val src tag = none → exec (.mctpPacket port src dst false eom seq tag body) s = .next s) ∧
       (∀ k b, bufferOf s port.val src tag = some k → s.mbus.buffers.look k = some b → b.next ≠ seq ∨ b.lastNs + 100000000 < s.clk.ns ∨ 4096 < b.data.length + body.length →
       exec (.mctpPacket port src dst false eom seq tag body) s = .next (dropBuffer k s)) ∧
       (∀ k b, bufferOf s port.val src tag = some k → s.mbus.buffers.look k = some b → b.next = seq → s.clk.ns ≤ b.lastNs + 100000000 → b.data.length + body.length ≤ 4096 →
       exec (.mctpPacket port src dst false eom seq tag body) s = .next (if eom then mctpMessage port b.src (b.data ++ body) (dropBuffer k s)
       else { s with mbus := { s.mbus with buffers := s.mbus.buffers.put k { b with next := seq + 1, data := b.data ++ body, lastNs := s.clk.ns } } }))) ∧
  (∀ (s : State) (k : Fin 8), (∀ b, s.mbus.buffers.look k.val = some b → s.clk.ns ≤ b.lastNs + 100000000) →
     exec (.mctpReassemblyTimeout k) s = .next s) ∧
  (∀ (n : Nat) (s : State),
     (pendingSignal n s).out = s.out ++ (if n < 2 then [.bus n "in-band interrupt"] else [])) ∧
  (∀ (s : State) (port : Fin 3) (eid : BitVec 8), (portServes s port.val = true) → (eid = 0 ∨ eid = 0xFF) →
     ∃ t, exec (.setEndpointId port eid) s = .next t ∧ t.mbus.eid = s.mbus.eid ∧ t.out = (pendingSignal port.val s).out ++ [.mctp port.val 0 ([1, 2])] ∧ t.mbus.sessions = s.mbus.sessions) ∧
  (∀ (s : State) (port : Fin 3) (eid : BitVec 8), (portServes s port.val = true) → (eid ≠ 0) → (eid ≠ 0xFF) →
     ∃ t, exec (.setEndpointId port eid) s = .next t ∧ t.mbus.eid = eid ∧ t.out = (pendingSignal port.val s).out ++ [.mctp port.val 0 ([1, 0, 0, eid, 0])] ∧ t.mbus.sessions = s.mbus.sessions ∧ t.life = s.life) ∧
  (∀ (s : State) (port : Fin 3), (portServes s port.val = true) →
     ∃ t, exec (.getEndpointId port) s = .next t ∧ t.out = (pendingSignal port.val s).out ++ [.mctp port.val 0 ([2, 0, s.mbus.eid, 0, 0])] ∧ t.mbus.eid = s.mbus.eid ∧ t.mbus.sessions = s.mbus.sessions) ∧
  (∀ (s : State) (port : Fin 3), (portServes s port.val = true) →
     ∃ t, exec (.getEndpointUuid port) s = .next t ∧ t.out = (pendingSignal port.val s).out ++ [.mctp port.val 0 ([3, 0] ++ padTo 16 Config.endpointUuid)] ∧ t.mbus.eid = s.mbus.eid ∧ t.mbus.sessions = s.mbus.sessions) ∧
  (∀ (s : State) (port : Fin 3), (portServes s port.val = true) →
     ∃ t, exec (.getMctpVersionSupport port) s = .next t ∧ t.out = (pendingSignal port.val s).out ++ [.mctp port.val 0 ([4, 0] ++ Config.mctpVersions)] ∧ t.mbus.eid = s.mbus.eid ∧ t.mbus.sessions = s.mbus.sessions) ∧
  (∀ (s : State) (port : Fin 3), (portServes s port.val = true) →
     ∃ t, exec (.getMessageTypeSupport port) s = .next t ∧ t.out = (pendingSignal port.val s).out ++ [.mctp port.val 0 ([5, 0, 2, 5, 6])] ∧ t.mbus.eid = s.mbus.eid ∧ t.mbus.sessions = s.mbus.sessions) ∧
  (∀ (port : Fin 3) (src : BitVec 8) (dst : BitVec 8) (som : Bool) (eom : Bool) (seq : BitVec 2) (tag : BitVec 4) (body : Bytes) (s : State), ((portServes s port.val && decide (body.length ≤ 64) && (dst == s.mbus.eid || dst == 0 || dst == 0xFF)) = false) →
     exec (.mctpPacket port src dst som eom seq tag body) s = .next s) ∧
  (∀ (port : Fin 3) (eid : BitVec 8) (s : State), ((portServes s port.val) = false) →
     exec (.setEndpointId port eid) s = .next s) ∧
  (∀ (port : Fin 3) (s : State), ((portServes s port.val) = false) →
     exec (.getEndpointId port) s = .next s) ∧
  (∀ (port : Fin 3) (s : State), ((portServes s port.val) = false) →
     exec (.getEndpointUuid port) s = .next s) ∧
  (∀ (port : Fin 3) (s : State), ((portServes s port.val) = false) →
     exec (.getMctpVersionSupport port) s = .next s) ∧
  (∀ (port : Fin 3) (s : State), ((portServes s port.val) = false) →
     exec (.getMessageTypeSupport port) s = .next s)

/-- Version, capabilities, algorithms, digests, certificates and key exchange are served to any endpoint whose bucket allows it. Rests also on the choices of the model in log entries 75, 77. (R348, R349, R350) -/
def Obligations.SpdmNegotiationIsServedToAnyone : Prop :=
  (∀ (s : State) (src : SpdmSource) (a b c d e f g : BitVec 32) (slot offset length : Nat) (q : BitVec 16) (x y z : Bytes),
     exec (.getVersion src) s = .next (serve src .anyone (doGetVersion src) s) ∧ exec (.getCapabilities src f) s = .next (serve src .anyone (doCapabilities src f) s) ∧
       exec (.negotiateAlgorithms src a b c d e f g) s = .next (serve src .anyone (doNegotiate src ⟨a.toNat, b.toNat, c.toNat, d.toNat, e.toNat, f.toNat, g.toNat⟩) s) ∧
       exec (.getDigests src) s = .next (serve src .anyone (doDigests src) s) ∧ exec (.getCertificate src slot offset length) s = .next (serve src .anyone (doCertificate src slot offset length) s) ∧
       exec (.keyExchange src q x) s = .next (serve src .anyone (doKeyExchange src q x) s) ∧ exec (.finish src x y z) s = .next (serve src .handshake (doFinish src x y z) s)) ∧
  (∀ (s : State) (src : SpdmSource) (a : Audience) (act : State → State), (portServes s src.port.val = false) →
     serve src a act s = s) ∧
  (∀ (s : State) (src : SpdmSource) (a : Audience) (act : State → State), (portServes s src.port.val = true) → (src.session.isSome = true) → (sourceSession s src = none) →
     serve src a act s = { s with mbus := { s.mbus with authFail := satAdd 32 s.mbus.authFail 1 } }) ∧
  (∀ (s : State) (src : SpdmSource) (a : Audience) (act : State → State), (portServes s src.port.val = true) → (src.session = none) →
     (let known := knownEid s src.eid; let u := if known then s else (meter src s).2;
       (known = false → (meter src s).1 = false → serve src a act s = u) ∧ (known = true ∨ (meter src s).1 = true → serve src a act s = if serves a known none then act u else spdmError src errUnexpected u))) ∧
  (∀ (s : State) (src : SpdmSource) (a : Audience) (act : State → State) (x : SpdmSession), (portServes s src.port.val = true) → (sourceSession s src = some x) →
     (let known := x.known && !x.handshake; let h := heardIn src x s; let u := if known then h else (meter src h).2;
       (known = false → (meter src h).1 = false → serve src a act s = u) ∧ (known = true ∨ (meter src h).1 = true → serve src a act s = if serves a known (some x) && !x.ended then act u else spdmError src errUnexpected u))) ∧
  (∀ (s : State) (src : SpdmSource),
     (let x := strangerOf s src.eid; let b := min (4 * oneRequest) (x.bucket + (s.clk.ns - x.heard) * unknownRate s);
       (oneRequest ≤ b → meter src s = (true, track { x with bucket := b - oneRequest, heard := s.clk.ns } s)) ∧
       (b < oneRequest → x.busyNs = none ∨ (∃ n, x.busyNs = some n ∧ n + 1000000000 ≤ s.clk.ns) → meter src s = (false, spdmError src errBusy (track { x with bucket := b, heard := s.clk.ns, busyNs := some s.clk.ns } s))) ∧
       (b < oneRequest → (∃ n, x.busyNs = some n ∧ s.clk.ns < n + 1000000000) → (meter src s).1 = false ∧ (meter src s).2.mbus.dropped = satAdd 32 s.mbus.dropped 1 ∧ (meter src s).2.out = s.out))) ∧
  (∀ (s : State) (src : SpdmSource), (heard src s) →
     ∃ t, exec (.getVersion src) s = .next t ∧ t.out = (pendingSignal src.port.val s).out ++ [.spdm src.port.val src.eid 0x04 [0, 0, 0, 2, 0x00, 0x12, 0x00, 0x13]] ∧
       (dialogOf t src.eid).isSome = true ∧ agreed t src.eid = false ∧ t.mbus.sessions = s.mbus.sessions) ∧
  (∀ (s : State) (src : SpdmSource) (flags : BitVec 32), (heard src s) → ((dialogOf s src.eid).isSome = true) →
     ∃ t, exec (.getCapabilities src flags) s = .next t ∧ t.out = (pendingSignal src.port.val s).out ++ [.spdm src.port.val src.eid 0x61 capsReply] ∧ t.mbus.sessions = s.mbus.sessions) ∧
  (∀ (s : State) (src : SpdmSource) (a b c d e f g : BitVec 32), (heard src s) → ((dialogOf s src.eid).isSome = true) → (offerFits ⟨a.toNat, b.toNat, c.toNat, d.toNat, e.toNat, f.toNat, g.toNat⟩ = true) →
     ∃ t, exec (.negotiateAlgorithms src a b c d e f g) s = .next t ∧ t.out = (pendingSignal src.port.val s).out ++ [.spdm src.port.val src.eid 0x63 (algorithmsReply ownAlgs)] ∧ agreed t src.eid = true) ∧
  (∀ (s : State) (src : SpdmSource) (a b c d e f g : BitVec 32), (heard src s) → ((dialogOf s src.eid).isSome = true) → (offerFits ⟨a.toNat, b.toNat, c.toNat, d.toNat, e.toNat, f.toNat, g.toNat⟩ = false) →
     ∃ t, exec (.negotiateAlgorithms src a b c d e f g) s = .next t ∧ t.out = (pendingSignal src.port.val s).out ++ [.spdm src.port.val src.eid 0x7F [0x07, 0]] ∧ t.mbus.dialogs = s.mbus.dialogs) ∧
  (∀ (s : State) (src : SpdmSource), (heard src s) → (agreed s src.eid = true) →
     ∃ t, exec (.getDigests src) s = .next t ∧ t.out = (pendingSignal src.port.val s).out ++ [.spdm src.port.val src.eid 0x01 ([0, 1] ++ sha384 (busChain s))]) ∧
  (∀ (s : State) (src : SpdmSource) (offset length : Nat), (heard src s) → (agreed s src.eid = true) →
     ∃ t, exec (.getCertificate src 0 offset length) s = .next t ∧
       (offset < (busChain s).length → t.out = (pendingSignal src.port.val s).out ++ [.spdm src.port.val src.eid 0x02 ([0, 0] ++ toLe 2 (certPortion s offset length).length ++ toLe 2 ((busChain s).length - offset - (certPortion s offset length).length) ++ certPortion s offset length)]) ∧
       ((busChain s).length ≤ offset → t.out = (pendingSignal src.port.val s).out ++ [.spdm src.port.val src.eid 0x7F [0x01, 0]])) ∧
  (∀ (s : State) (src : SpdmSource) (slot offset length : Nat), (heard src s) → (agreed s src.eid = true) → (slot ≠ 0) →
     ∃ t, exec (.getCertificate src slot offset length) s = .next t ∧ t.out = (pendingSignal src.port.val s).out ++ [.spdm src.port.val src.eid 0x7F [0x01, 0]]) ∧
  (∀ (s : State) (src : SpdmSource) (q : BitVec 16) (x : Bytes), (heard src s) → (agreed s src.eid = true) → (s.mbus.sessions.length < 4) →
     ∃ t, exec (.keyExchange src q x) s = .next t ∧ t.mbus.nextSession = s.mbus.nextSession + 1 ∧ t.mbus.sessions = s.mbus.sessions ++
       [{ id := s.mbus.nextSession ++ q, eid := src.eid, port := src.port.val, handshake := true, known := false, chain := [], reqKey := 0, rspKey := 0, lastNs := s.clk.ns, lastSeq := 0, ended := false }]) ∧
  (∀ (s : State) (src : SpdmSource) (q : BitVec 16) (x : Bytes), (heard src s) → (agreed s src.eid = true) → (4 ≤ s.mbus.sessions.length) →
     ∃ t, exec (.keyExchange src q x) s = .next t ∧ t.out = (pendingSignal src.port.val s).out ++ [.spdm src.port.val src.eid 0x7F [0x0A, 0]] ∧ t.mbus.sessions = s.mbus.sessions) ∧
  (∀ (s : State) (src : SpdmSource) (f : BitVec 32) (a b c d e g h : BitVec 32), (heard src s) → (dialogOf s src.eid = none) →
     (∃ t, exec (.getCapabilities src f) s = .next t ∧ t.out = (pendingSignal src.port.val s).out ++ [.spdm src.port.val src.eid 0x7F [0x04, 0]]) ∧ (∃ t, exec (.negotiateAlgorithms src a b c d e g h) s = .next t ∧ t.out = (pendingSignal src.port.val s).out ++ [.spdm src.port.val src.eid 0x7F [0x04, 0]])) ∧
  (∀ (s : State) (src : SpdmSource) (slot offset length : Nat) (q : BitVec 16) (x : Bytes), (heard src s) → (agreed s src.eid = false) →
     (∃ t, exec (.getDigests src) s = .next t ∧ t.out = (pendingSignal src.port.val s).out ++ [.spdm src.port.val src.eid 0x7F [0x04, 0]]) ∧ (∃ t, exec (.getCertificate src slot offset length) s = .next t ∧ t.out = (pendingSignal src.port.val s).out ++ [.spdm src.port.val src.eid 0x7F [0x04, 0]]) ∧ (∃ t, exec (.keyExchange src q x) s = .next t ∧ t.out = (pendingSignal src.port.val s).out ++ [.spdm src.port.val src.eid 0x7F [0x04, 0]])) ∧
  (∀ (s : State) (src : SpdmSource) (x : SpdmSession) (chain signature verify : Bytes), (portServes s src.port.val = true) → (sourceSession s src = some x) → (x.handshake = true) → (x.ended = false) → ((meter src (heardIn src x s)).1 = true) →
     ∃ t, exec (.finish src chain signature verify) s = .next t ∧
       (finishOk s x.eid chain signature verify = true → t.out = (pendingSignal src.port.val s).out ++ [.spdm src.port.val src.eid 0x65 (zeros 2)] ∧
       (∀ y ∈ t.mbus.sessions, y.id = x.id → y.handshake = false ∧ y.known = mbusAnchorSet s)) ∧
       (finishOk s x.eid chain signature verify = false → t.mbus.authFail = satAdd 32 s.mbus.authFail 1 ∧ (∀ y ∈ t.mbus.sessions, y.id ≠ x.id)))

/-- Challenge, measurements, heartbeat, key update, chunks, end of session and commands are served in an established session. Rests also on the choices of the model in log entries 75, 77, 78, 80, 121. (R348, R349, R351, R352, R353, R360) -/
def Obligations.SecuredRequestsAreServed : Prop :=
  (∀ (s : State) (src : SpdmSource) (slot : Nat) (nonce data : Bytes) (op tag : BitVec 8) (std ven seqNo : BitVec 16) (last : Bool),
     exec (.challenge src slot nonce) s = .next (serve src .known (doChallenge src slot nonce) s) ∧ exec (.getMeasurements src op nonce) s = .next (serve src .known (doMeasurements src op nonce) s) ∧
       exec (.spdmHeartbeat src) s = .next (serve src .session (doHeartbeat src) s) ∧ exec (.keyUpdate src op tag) s = .next (serve src .session (doKeyUpdate src op tag) s) ∧
       exec (.endSession src) s = .next (serve src .session (doEndSession src) s) ∧ exec (.vendorDefinedRequest src std ven nonce data) s = .next (serve src .session (doVendor src std ven nonce data) s) ∧
       exec (.chunkSend src op seqNo last slot data) s = .next (serve src (if src.session.isSome then .session else .known) (doChunkSend src op seqNo last slot data) s) ∧
       exec (.chunkGet src op seqNo) s = .next (serve src (if src.session.isSome then .session else .known) (doChunkGet src op seqNo) s)) ∧
  (∀ (s : State) (src : SpdmSource) (x : SpdmSession) (nonce : Bytes), (inSession src x s) →
     ∃ t, exec (.challenge src 0 nonce) s = .next t ∧ (∃ body, t.out = (pendingSignal src.port.val s).out ++ [.spdm src.port.val src.eid 0x03 ([0, 1] ++ sha384 (busChain s) ++ body)]) ∧ t.life = s.life ∧ t.prism.cmds = s.prism.cmds) ∧
  (∀ (s : State) (src : SpdmSource) (x : SpdmSession) (slot : Nat) (nonce : Bytes), (inSession src x s) → (slot ≠ 0) →
     ∃ t, exec (.challenge src slot nonce) s = .next t ∧ t.out = (pendingSignal src.port.val s).out ++ [.spdm src.port.val src.eid 0x7F [0x01, 0]] ∧ t.life = s.life) ∧
  (∀ (s : State) (src : SpdmSource) (x : SpdmSession) (i : BitVec 8) (nonce : Bytes), (inSession src x s) → (i ≠ 0) → (i = 0xFF ∨ (∃ b ∈ measurementBlocks s, b.1 = i.toNat)) →
     (let sel := if i = 0xFF then measurementBlocks s else (measurementBlocks s).filter (fun b => b.1 == i.toNat); let recs := (sel.map blockBytes).flatten;
       ∃ t, exec (.getMeasurements src i nonce) s = .next t ∧ t.life = s.life ∧
       (recs.length + 140 < 4096 → ∃ rest, t.out = (pendingSignal src.port.val s).out ++ [.spdm src.port.val src.eid 0x60 ([0, 0] ++ toLe 1 sel.length ++ toLe 3 recs.length ++ recs ++ rest)]) ∧
       (4096 < recs.length + 138 → t.out = (pendingSignal src.port.val s).out ++ [.spdm src.port.val src.eid 0x7F [0x0F, 0, s.mbus.nextChunk]] ∧ (∃ d ∈ t.mbus.chunksOut, d.eid = src.eid ∧ d.handle = s.mbus.nextChunk ∧ d.next = 0)))) ∧
  (∀ (s : State) (src : SpdmSource) (x : SpdmSession) (i : BitVec 8) (nonce : Bytes), (inSession src x s) → (i ≠ 0) → (i ≠ 0xFF) → (∀ b ∈ measurementBlocks s, b.1 ≠ i.toNat) →
     ∃ t, exec (.getMeasurements src i nonce) s = .next t ∧ t.out = (pendingSignal src.port.val s).out ++ [.spdm src.port.val src.eid 0x7F [0x01, 0]] ∧ t.life = s.life) ∧
  (∀ (s : State) (src : SpdmSource) (x : SpdmSession) (nonce : Bytes), (inSession src x s) →
     ∃ t, exec (.getMeasurements src 0 nonce) s = .next t ∧
       (∃ rest, t.out = (pendingSignal src.port.val s).out ++ [.spdm src.port.val src.eid 0x60 ([BitVec.ofNat 8 (measurementBlocks s).length, 0, 0, 0, 0, 0] ++ rest)]) ∧ t.life = s.life) ∧
  (∀ (s : State) (src : SpdmSource) (x : SpdmSession), (inSession src x s) →
     ∃ t, exec (.spdmHeartbeat src) s = .next t ∧ t.out = (pendingSignal src.port.val s).out ++ [.spdm src.port.val src.eid 0x68 (zeros 2)] ∧ t.life = s.life) ∧
  (∀ (s : State) (src : SpdmSource) (x : SpdmSession) (op tag : BitVec 8), (inSession src x s) → (op = 1 ∨ op = 2 ∨ op = 3) →
     ∃ t, exec (.keyUpdate src op tag) s = .next t ∧ t.out = (pendingSignal src.port.val s).out ++ [.spdm src.port.val src.eid 0x69 [op, tag]] ∧
       (∀ y ∈ s.mbus.sessions, y.id = x.id → ∃ z ∈ t.mbus.sessions, z.id = y.id ∧ z.reqKey = y.reqKey + (if op = 3 then 0 else 1) ∧ z.rspKey = y.rspKey + (if op = 2 then 1 else 0))) ∧
  (∀ (s : State) (src : SpdmSource) (x : SpdmSession) (op tag : BitVec 8), (inSession src x s) → (op = 0 ∨ 3 < op.toNat) →
     ∃ t, exec (.keyUpdate src op tag) s = .next t ∧ t.out = (pendingSignal src.port.val s).out ++ [.spdm src.port.val src.eid 0x7F [0x01, 0]] ∧ t.mbus.sessions = (heardIn src x s).mbus.sessions) ∧
  (∀ (s : State) (src : SpdmSource) (x : SpdmSession), (inSession src x s) →
     ∃ t, exec (.endSession src) s = .next t ∧ t.out = (pendingSignal src.port.val s).out ++ [.spdm src.port.val src.eid 0x6C (zeros 2)] ∧ (∀ y ∈ t.mbus.sessions, y.id ≠ x.id) ∧ t.life = s.life) ∧
  (∀ (s : State) (src : SpdmSource) (x : SpdmSession) (h : BitVec 8) (size : Nat) (data : Bytes), (inSession src x s) → (data.length ≤ 4084) → (data.length ≤ size) → (size ≤ 65536) →
     ∃ t, exec (.chunkSend src h 0 false size data) s = .next t ∧ t.out = (pendingSignal src.port.val s).out ++ [.spdm src.port.val src.eid 0x05 [0, h, 0, 0]] ∧ { eid := src.eid, handle := h, data := data, next := 1, size := size } ∈ t.mbus.chunksIn) ∧
  (∀ (s : State) (src : SpdmSource) (x : SpdmSession) (h : BitVec 8) (n : BitVec 16) (last : Bool) (size : Nat) (data : Bytes), (inSession src x s) → ((let c : Chunking := if n = 0 then { eid := src.eid, handle := h, data := [], next := 0, size := size } else (s.mbus.chunksIn.find? (fun c => c.eid == src.eid && c.handle == h)).getD { eid := src.eid, handle := h, data := [], next := 0, size := 0 };
  n.toNat ≠ c.next ∨ 4084 < data.length ∨ 65536 < c.size ∨ c.size < c.data.length + data.length ∨ (last = true ∧ c.data.length + data.length ≠ c.size))) →
     ∃ t, exec (.chunkSend src h n last size data) s = .next t ∧ t.out = (pendingSignal src.port.val s).out ++ [.spdm src.port.val src.eid 0x7F [0x01, 0]] ∧ (∀ d ∈ t.mbus.chunksIn, ¬(d.eid = src.eid ∧ d.handle = h))) ∧
  (∀ (s : State) (src : SpdmSource) (x : SpdmSession) (h : BitVec 8) (n : BitVec 16) (last : Bool) (size : Nat) (data : Bytes), (inSession src x s) → ((let c : Chunking := if n = 0 then { eid := src.eid, handle := h, data := [], next := 0, size := size } else (s.mbus.chunksIn.find? (fun c => c.eid == src.eid && c.handle == h)).getD { eid := src.eid, handle := h, data := [], next := 0, size := 0 };
  n.toNat = c.next ∧ data.length ≤ 4084 ∧ c.size ≤ 65536 ∧ c.data.length + data.length ≤ c.size ∧ (last = true → c.data.length + data.length = c.size))) →
     (let c : Chunking := if n = 0 then { eid := src.eid, handle := h, data := [], next := 0, size := size } else (s.mbus.chunksIn.find? (fun c => c.eid == src.eid && c.handle == h)).getD { eid := src.eid, handle := h, data := [], next := 0, size := 0 };
       let g := heardIn src x s; let u := { g with mbus := { g.mbus with chunksIn := g.mbus.chunksIn.filter (fun y => !(y.eid == src.eid && y.handle == h)) } };
       let u := busSend src.port.val (.spdm src.port.val src.eid 0x05 ([0, h] ++ toLe 2 n.toNat)) u;
       exec (.chunkSend src h n last size data) s = .next (if last then serveMessage src (c.data ++ data) u else { u with mbus := { u.mbus with chunksIn := u.mbus.chunksIn ++ [{ c with data := c.data ++ data, next := c.next + 1 }] } }))) ∧
  (∀ (s : State) (src : SpdmSource) (x : SpdmSession) (h : BitVec 8) (n : BitVec 16), (inSession src x s) → (∀ c, s.mbus.chunksOut.find? (fun d => d.eid == src.eid && d.handle == h) = some c → n.toNat ≠ c.next) →
     ∃ t, exec (.chunkGet src h n) s = .next t ∧ t.out = (pendingSignal src.port.val s).out ++ [.spdm src.port.val src.eid 0x7F [0x01, 0]] ∧ t.mbus.chunksOut = s.mbus.chunksOut) ∧
  (∀ (s : State) (src : SpdmSource) (x : SpdmSession) (c : Chunking) (n : BitVec 16), (inSession src x s) → (s.mbus.chunksOut.find? (fun d => d.eid == src.eid && d.handle == c.handle) = some c) → (c.next = n.toNat) →
     (let k := if c.next = 0 then 4080 else 4084; let part := c.data.take k; let rest := c.data.drop k;
       ∃ t, exec (.chunkGet src c.handle n) s = .next t ∧ t.out = (pendingSignal src.port.val s).out ++ [.spdm src.port.val src.eid 0x06 (toLe 1 (b2n rest.isEmpty) ++ [c.handle] ++ toLe 2 c.next ++ zeros 2 ++ toLe 4 part.length ++ (if c.next = 0 then toLe 4 c.size else []) ++ part)] ∧
       t.mbus.chunksOut = s.mbus.chunksOut.filter (fun d => !(d.eid == src.eid && d.handle == c.handle)) ++ (if rest.isEmpty then [] else [{ c with data := rest, next := c.next + 1 }]))) ∧
  (∀ (s : State) (src : SpdmSource) (x : SpdmSession) (c : Chunking), (inSession src x s) → (s.mbus.chunksOut.find? (fun d => d.eid == src.eid && d.handle == c.handle) = some c) → (c.next = 0) → (c.data.length ≤ 4080) →
     ∃ t, exec (.chunkGet src c.handle 0) s = .next t ∧ t.out = (pendingSignal src.port.val s).out ++ [.spdm src.port.val src.eid 0x06 ([1, c.handle, 0, 0, 0, 0] ++ toLe 4 c.data.length ++ toLe 4 c.size ++ c.data)] ∧
       (∀ d ∈ t.mbus.chunksOut, d.eid = src.eid → d.handle ≠ c.handle)) ∧
  (∀ (s : State) (src : SpdmSource) (x : SpdmSession) (header payload : Bytes), (inSession src x s) → (header.length = 64) → (s.life.fenced = false) →
     ∃ t, exec (.vendorDefinedRequest src 3 0x1FA7 header payload) s = .next t ∧
       (∀ st, busCheck { x with lastNs := s.clk.ns, port := src.port.val } (busReq x header payload) (heardIn src x s) = some st →
       t = busRefuse { x with lastNs := s.clk.ns, port := src.port.val } (busReq x header payload) st (heardIn src x s)) ∧
       (∀ o, busCheck { x with lastNs := s.clk.ns, port := src.port.val } (busReq x header payload) (heardIn src x s) = none → opSpec (busReq x header payload).opcode = some o →
       t = accept o (busReq x header payload) (modSpdm x.id (fun y => { y with lastSeq := (busReq x header payload).seq }) (heardIn src x s)))) ∧
  (∀ (s : State) (src : SpdmSource) (x : SpdmSession) (std ven : BitVec 16) (header payload : Bytes), (inSession src x s) → (std ≠ 3 ∨ ven ≠ 0x1FA7 ∨ header.length ≠ 64) →
     ∃ t, exec (.vendorDefinedRequest src std ven header payload) s = .next t ∧ t.out = (pendingSignal src.port.val s).out ++ [.spdm src.port.val src.eid 0x7F [0x01, 0]] ∧ t.prism = s.prism ∧ t.life = s.life) ∧
  (∀ (s : State) (src : SpdmSource) (x : SpdmSession) (header payload : Bytes), (inSession src x s) → (header.length = 64) → (s.life.fenced = true) →
     exec (.vendorDefinedRequest src 3 0x1FA7 header payload) s = .next (heardIn src x s)) ∧
  (∀ (s : State) (i : BitVec 32), (∀ x, s.mbus.sessions.find? (fun y => y.id == i) = some x → s.clk.ns < x.lastNs + 60000000000) →
     exec (.spdmHeartbeatTimeout i) s = .next s) ∧
  (∀ (s : State) (x : SpdmSession), (s.mbus.sessions.find? (fun y => y.id == x.id) = some x) → (x.lastNs + 60000000000 ≤ s.clk.ns) →
     ∃ t, exec (.spdmHeartbeatTimeout x.id) s = .next t ∧ (∀ y ∈ t.mbus.sessions, y.id ≠ x.id) ∧ t.life = s.life ∧ t.out = s.out)

/-- Arbitration losses, errors and stuck lines of the management ports are handled as the table of R346 says. Rests also on the choices of the model in log entries 79, 123. That an event which is not due changes nothing is the choice of the model, log entry 124. (R343, R346) -/
def Obligations.BusEventsAreCountedAndRetried : Prop :=
  (∀ (s : State) (port : Fin 3) (used : Nat), (portServes s port.val = true) → ((busPort s port.val).losses < 7) → (s.mbus.ports.length = 3) →
     (let a := (busPort s port.val).losses + 1; let n := leNat (islandMask 8 (islandMask used s).2).1 % (2 ^ a * 64000 + 1);
       ∃ t, exec (.busArbLost port used) s = .next t ∧ (busPort t port.val).losses = a ∧ (busPort t port.val).arbLost = satAdd 8 (busPort s port.val).arbLost 1 ∧
       (busPort t port.val).backoff = some (s.clk.ns + n) ∧ n ≤ 2 ^ a * 64000 ∧ t.ks = (islandMask 8 (islandMask used s).2).2.ks ∧ t.flt = s.flt)) ∧
  (∀ (s : State) (port : Fin 3) (used : Nat), (portServes s port.val = true) → (7 ≤ (busPort s port.val).losses) → (s.mbus.ports.length = 3) →
     exec (.busArbLost port used) s = .next (busFault port.val (modBus port.val (fun p => { p with losses := 0, backoff := none }) (countArb port.val s)))) ∧
  (∀ (s : State) (port : Fin 3), (∀ n, (busPort s port.val).backoff = some n → s.clk.ns < n) →
     exec (.busBackoffEnd port) s = .next s) ∧
  (∀ (s : State) (port : Fin 3) (n : Nat), ((busPort s port.val).backoff = some n) → (n ≤ s.clk.ns) → (s.mbus.ports.length = 3) →
     ∃ t, exec (.busBackoffEnd port) s = .next t ∧ (busPort t port.val).backoff = none ∧ t.out = s.out ++ [.bus port.val "retry"]) ∧
  (∀ (s : State) (port : Fin 3), (portServes s port.val = true) →
     exec (.busPecError port) s = .next (busFault port.val (countPec port.val s))) ∧
  (∀ (s : State), (portServes s 2 = true) → ((busPort s 2).retries < 3) →
     exec (.busNoAck 2) s = .next (busFault 2 (emit (.bus 2 "resend") (modBus 2 (fun p => { p with retries := p.retries + 1 }) (countStuck 2 s))))) ∧
  (∀ (s : State), (portServes s 2 = true) → (3 ≤ (busPort s 2).retries) →
     exec (.busNoAck 2) s = .next (busFault 2 (modBus 2 (fun p => { p with retries := 0 }) (countStuck 2 s)))) ∧
  (∀ (s : State), (portServes s 2 = true) →
     exec (.busSclStuck 2) s = .next (busFault 2 (emit (.bus 2 "release") (countStuck 2 s)))) ∧
  (∀ (s : State), (portServes s 2 = true) →
     exec (.busSdaStuck 2 true) s = .next (busFault 2 (emit (.bus 2 "nine clocks and STOP") (countStuck 2 s)))) ∧
  (∀ (s : State), (portServes s 2 = true) →
     exec (.busSdaStuck 2 false) s = .next (busFault 2 (emit (.bus 2 "transfer failed") (modBus 2 (fun p => { p with retries := 0 }) (emit (.bus 2 "nine clocks and STOP") (countStuck 2 s)))))) ∧
  (∀ (s : State) (port : Fin 3), (portServes s port.val = true) → (port.val < 2) →
     exec (.i3cSdaStuck port) s = .next (busFault port.val (emit (.bus port.val "release") (countStuck port.val s)))) ∧
  (∀ (s : State) (port : Fin 3), (portServes s port.val = true) → (port.val < 2) → (s.mbus.ports.length = 3) →
     ∃ t, exec (.i3cTargetReset port) s = .next t ∧ (busPort t port.val).dynAddr = none ∧ (busPort t port.val).backoff = none ∧ (∀ n, n ≠ port.val → busPort t n = busPort s n) ∧
       t.mbus.sessions = s.mbus.sessions ∧ t.mbus.eid = s.mbus.eid) ∧
  (∀ (s : State) (port : Fin 3) (a : BitVec 7), (portServes s port.val = true) → (port.val < 2) → (s.mbus.ports.length = 3) →
     ∃ t, exec (.entdaa port a) s = .next t ∧ (busPort t port.val).dynAddr = some a ∧ (∀ n, n ≠ port.val → busPort t n = busPort s n) ∧ t.mbus.sessions = s.mbus.sessions) ∧
  (∀ (port : Fin 3) (used : Nat) (s : State), ((portServes s port.val) = false) →
     exec (.busArbLost port used) s = .next s) ∧
  (∀ (port : Fin 3) (s : State), ((portServes s port.val) = false) →
     exec (.busPecError port) s = .next s) ∧
  (∀ (port : Fin 3) (s : State), ((portServes s port.val && port.val == 2) = false) →
     exec (.busNoAck port) s = .next s) ∧
  (∀ (port : Fin 3) (s : State), ((portServes s port.val && port.val == 2) = false) →
     exec (.busSclStuck port) s = .next s) ∧
  (∀ (port : Fin 3) (freed : Bool) (s : State), ((portServes s port.val && port.val == 2) = false) →
     exec (.busSdaStuck port freed) s = .next s) ∧
  (∀ (port : Fin 3) (s : State), ((portServes s port.val && decide (port.val < 2)) = false) →
     exec (.i3cSdaStuck port) s = .next s) ∧
  (∀ (port : Fin 3) (s : State), ((portServes s port.val && decide (port.val < 2)) = false) →
     exec (.i3cTargetReset port) s = .next s) ∧
  (∀ (port : Fin 3) (addr : BitVec 7) (s : State), ((portServes s port.val && decide (port.val < 2)) = false) →
     exec (.entdaa port addr) s = .next s)

/-- Each instruction of the debug port that the life-cycle state permits is selected and acts, and one it does not permit acts as BYPASS. Rests also on the choices of the model in log entries 13, 65 to 68. That an event which is not due changes nothing is the choice of the model, log entry 124. (R194, R365, R370, R371, R372, R373, R374, R375, R376, R450) -/
def Obligations.DebugPortInstructionsAct : Prop :=
  (∀ (s : State) (b kb sig : Bytes) (w : Bool) (g : DapRegion) (a : BitVec 40) (d : BitVec 64) (c : Fin 8) (op : BitVec 8) (n : Nat) (x : Byte), (s.clk.powered = false) →
     exec .idcode s = .next s ∧
       exec .bypass s = .next s ∧
       exec (.samplePreload b) s = .next s ∧
       exec (.extest b) s = .next s ∧
       exec .clamp s = .next s ∧
       exec .highz s = .next s ∧
       exec .dbgStatus s = .next s ∧
       exec .dbgChallenge s = .next s ∧
       exec (.dbgResponse b kb sig) s = .next s ∧
       exec (.dapAccess w g a d) s = .next s ∧
       exec (.coreDebug c op d) s = .next s ∧
       exec (.islandDebug op d) s = .next s ∧
       exec (.memTest op d) s = .next s ∧
       exec (.otpProg n x) s = .next s) ∧
  (∀ (s : State) (b kb sig : Bytes) (w : Bool) (g : DapRegion) (a : BitVec 40) (d : BitVec 64) (c : Fin 8) (op : BitVec 8) (n : Nat) (x : Byte), (s.clk.powered = true) →
     (irPermitted s 1 = false → exec .idcode s = .next (debugLog 3 1 0 { s with life := { s.life with ir := 0xFF#8, driving := false, highz := false } })) ∧
       (irPermitted s 0xFF = false → exec .bypass s = .next (debugLog 3 0xFF 0 { s with life := { s.life with ir := 0xFF#8, driving := false, highz := false } })) ∧
       (irPermitted s 2 = false → exec (.samplePreload b) s = .next (debugLog 3 2 0 { s with life := { s.life with ir := 0xFF#8, driving := false, highz := false } })) ∧
       (irPermitted s 3 = false → exec (.extest b) s = .next (debugLog 3 3 0 { s with life := { s.life with ir := 0xFF#8, driving := false, highz := false } })) ∧
       (irPermitted s 4 = false → exec .clamp s = .next (debugLog 3 4 0 { s with life := { s.life with ir := 0xFF#8, driving := false, highz := false } })) ∧
       (irPermitted s 5 = false → exec .highz s = .next (debugLog 3 5 0 { s with life := { s.life with ir := 0xFF#8, driving := false, highz := false } })) ∧
       (irPermitted s 0x10 = false → exec .dbgStatus s = .next (debugLog 3 0x10 0 { s with life := { s.life with ir := 0xFF#8, driving := false, highz := false } })) ∧
       (irPermitted s 0x11 = false → exec .dbgChallenge s = .next (debugLog 3 0x11 0 { s with life := { s.life with ir := 0xFF#8, driving := false, highz := false } })) ∧
       (irPermitted s 0x12 = false → exec (.dbgResponse b kb sig) s = .next (debugLog 3 0x12 0 { s with life := { s.life with ir := 0xFF#8, driving := false, highz := false } })) ∧
       (irPermitted s 0x20 = false → exec (.dapAccess w g a d) s = .next (debugLog 3 0x20 0 { s with life := { s.life with ir := 0xFF#8, driving := false, highz := false } })) ∧
       (irPermitted s 0x21 = false → exec (.coreDebug c op d) s = .next (debugLog 3 0x21 0 { s with life := { s.life with ir := 0xFF#8, driving := false, highz := false } })) ∧
       (irPermitted s 0x22 = false → exec (.islandDebug op d) s = .next (debugLog 3 0x22 0 { s with life := { s.life with ir := 0xFF#8, driving := false, highz := false } })) ∧
       (irPermitted s 0x30 = false → exec (.memTest op d) s = .next (debugLog 3 0x30 0 { s with life := { s.life with ir := 0xFF#8, driving := false, highz := false } })) ∧
       (irPermitted s 0x31 = false → exec (.otpProg n x) s = .next (debugLog 3 0x31 0 { s with life := { s.life with ir := 0xFF#8, driving := false, highz := false } }))) ∧
  (∀ (s : State), (s.clk.powered = true) →
     exec .tapReset s = .next { s with life := { s.life with ir := 0x01#8, driving := false, highz := false } }) ∧
  (∀ (s : State), (s.clk.powered = true) → (irPermitted s 0x01 = true) →
     exec .idcode s = .next { s with life := { s.life with ir := 0x01#8, driving := false, highz := false }, out := s.out ++ [.tap 32 0x1964853B] }) ∧
  (∀ (s : State), (s.clk.powered = true) → (irPermitted s 0xFF = true) →
     exec .bypass s = .next { s with life := { s.life with ir := 0xFF#8, driving := false, highz := false }, out := s.out ++ [.tap 1 0] }) ∧
  (∀ (s : State) (b : Bytes), (s.clk.powered = true) → (irPermitted s 0x02 = true) →
     exec (.samplePreload b) s = .next { s with life := { s.life with ir := 0x02#8, driving := false, highz := false, scanOut := b }, out := s.out ++ [.tap (8 * b.length) (leNat b)] }) ∧
  (∀ (s : State) (b : Bytes), (s.clk.powered = true) → (irPermitted s 0x03 = true) →
     exec (.extest b) s = .next { s with life := { s.life with ir := 0x03#8, driving := true, highz := false, scanOut := b } }) ∧
  (∀ (s : State), (s.clk.powered = true) → (irPermitted s 0x04 = true) →
     exec .clamp s = .next { s with life := { s.life with ir := 0x04#8, driving := true, highz := false }, out := s.out ++ [.tap 1 0] }) ∧
  (∀ (s : State), (s.clk.powered = true) → (irPermitted s 0x05 = true) →
     exec .highz s = .next { s with life := { s.life with ir := 0x05#8, driving := false, highz := true }, out := s.out ++ [.tap 1 0] }) ∧
  (∀ (s : State), (s.clk.powered = true) → (irPermitted s 0x10 = true) →
     exec .dbgStatus s = .next { s with life := { s.life with ir := 0x10#8, driving := false, highz := false }, out := s.out ++ [.tap 32 (dbgStatusWord s)] }) ∧
  (∀ (s : State), (s.clk.powered = true) → (irPermitted s 0x11 = true) →
     (let m := islandMask 32 s; exec .dbgChallenge s = .next { s with ks := m.2.ks, life := { s.life with ir := 0x11#8, driving := false, highz := false, challenge := some (challengeBytes s m.1, s.hzn.time) }, out := s.out ++ [.tap 768 (leNat (challengeBytes s m.1))] })) ∧
  (∀ (s : State) (h kb sig : Bytes), (s.clk.powered = true) → (irPermitted s 0x12 = true) →
     (let u := { s with life := { s.life with ir := 0x12#8, driving := false, highz := false, challenge := none } }; ∃ t, exec (.dbgResponse h kb sig) s = .next t ∧
       (respVerifies s h kb sig = true → t = enterInspection h u ∧ t.life.inspection = true ∧ t.life.scope = BitVec.ofNat 3 (respScope h) ∧ t.ks.sealed = true) ∧
       (respVerifies s h kb sig = false → t = debugLog 4 0x12 0 u))) ∧
  (∀ (s : State) (c : Bytes) (n : BitVec 64), (s.life.challenge = some (c, n)) → (n.toNat + secTicks 600 ≤ s.hzn.time.toNat) →
     exec .debugChallengeExpiry s = .next { s with life := { s.life with challenge := none } }) ∧
  (∀ (s : State) (a : BitVec 40) (d : BitVec 64), (s.clk.powered = true) → (irPermitted s 0x20 = true) →
     exec (.dapAccess false .locked a d) s = .next (debugLog 1 0x20 a.toNat { s with life := { s.life with ir := 0x20#8, driving := false, highz := false }, out := s.out ++ [.tap 64 0xFFFFFFFFFFFFFFFF, .tapError] })) ∧
  (∀ (s : State) (a : BitVec 40) (d : BitVec 64), (s.clk.powered = true) → (irPermitted s 0x20 = true) →
     exec (.dapAccess true .locked a d) s = .next (debugLog 2 0x20 a.toNat { s with life := { s.life with ir := 0x20#8, driving := false, highz := false }, out := s.out ++ [.tapError] })) ∧
  (∀ (s : State) (a : BitVec 40) (d : BitVec 64), (s.clk.powered = true) → (irPermitted s 0x20 = true) →
     exec (.dapAccess true .other a d) s = .next { s with life := { s.life with ir := 0x20#8, driving := false, highz := false } }) ∧
  (∀ (s : State) (a : BitVec 40) (d : BitVec 64), (s.clk.powered = true) → (irPermitted s 0x20 = true) →
     ∃ v, exec (.dapAccess false .other a d) s = .next { s with life := { s.life with ir := 0x20#8, driving := false, highz := false }, out := s.out ++ [.tap 64 v], free := s.free + 1 }) ∧
  (∀ (s : State) (core : Fin 8) (d : BitVec 64), (s.clk.powered = true) → (irPermitted s 0x21 = true) →
     ∃ t, exec (.coreDebug core 0 d) s = .next t ∧ core.val ∈ t.life.halted ∧ t.out = s.out ∧ t.ks = s.ks ∧ t.prism = s.prism) ∧
  (∀ (s : State) (core : Fin 8) (op : BitVec 8) (d : BitVec 64), (s.clk.powered = true) → (irPermitted s 0x21 = true) →
     (op = 2 → ∃ v, exec (.coreDebug core op d) s = .next { s with life := { s.life with ir := 0x21#8, driving := false, highz := false }, out := s.out ++ [.tap 64 v], free := s.free + 1 }) ∧
       (op ≠ 0 → op ≠ 2 → exec (.coreDebug core op d) s = .next { s with life := { s.life with ir := 0x21#8, driving := false, highz := false } })) ∧
  (∀ (s : State) (op : BitVec 8) (d : BitVec 64), (s.clk.powered = true) → (irPermitted s 0x22 = true) →
     ∃ v, exec (.islandDebug op d) s = .next { s with life := { s.life with ir := 0x22#8, driving := false, highz := false }, out := s.out ++ [.tap 64 v], free := s.free + 1 }) ∧
  (∀ (s : State) (op : BitVec 8) (d : BitVec 64), (s.clk.powered = true) → (irPermitted s 0x30 = true) →
     ∃ v, exec (.memTest op d) s = .next { s with life := { s.life with ir := 0x30#8, driving := false, highz := false }, out := s.out ++ [.tap 64 v], free := s.free + 1 }) ∧
  (∀ (s : State) (a : Nat) (b : Byte), (s.clk.powered = true) → (irPermitted s 0x31 = true) → (lifeCycle s = .raw) → (factoryField a = true) →
     exec (.otpProg a b) s = .next (programOtp a [b] { s with life := { s.life with ir := 0x31#8, driving := false, highz := false } })) ∧
  (∀ (s : State) (a : Nat) (b : Byte), (s.clk.powered = true) → (irPermitted s 0x31 = true) → (lifeCycle s = .raw) → (factoryField a = false) →
     exec (.otpProg a b) s = .next { s with life := { s.life with ir := 0x31#8, driving := false, highz := false } }) ∧
  (∀ (s : State) (a : Nat) (b : Byte), (s.clk.powered = true) → (irPermitted s 0x31 = true) → (lifeCycle s ≠ .raw) →
     exec (.otpProg a b) s = .next (if lifeCycle s = .test ∧ factoryArea a = true then programOtp a [b] { s with life := { s.life with ir := 0x31#8, driving := false, highz := false } } else { s with life := { s.life with ir := 0x31#8, driving := false, highz := false } })) ∧
  (∀ (s : State), ((s.clk.powered) = false) →
     exec .tapReset s = .next s) ∧
  (∀ (s : State), ((s.life.challenge.isSome && (challengeLive s).isNone) = false) →
     exec .debugChallengeExpiry s = .next s)

/-- The Iluon link trains, acknowledges, replays, discards and cuts through as the spec says. Rests also on the choices of the model in log entries 86. That an event which is not due changes nothing is the choice of the model, log entry 124. (R398, R399, R400, R401, R402, R403) -/
def Obligations.LinkEventsTrainAcknowledgeAndReplay : Prop :=
  (∀ (s : State) (port : Bool) (n : Nat), ((getDomain s (portDomain port)).on = true) → ((getDomain s (portDomain port)).katPass = true) → (s.svc.phase ≠ .dark) → (n = 1 ∨ n = 2 ∨ n = 4) → (n ≤ lanesLeft (iluPort s port)) →
     exec (.iluonLinkUp port n) s = .next (resendAll (modPort port (fun p => { p with up := true, lanes := n, naks := 0, idleNs := s.clk.ns }) s))) ∧
  (∀ (s : State) (port : Bool), ((iluPort s port).up = true) →
     exec (.iluonLinkDown port) s = .next (resendAll (modPort port (fun p => { p with up := false, lanes := 0, train := [], unacked := [], naks := 0 }) s))) ∧
  (∀ (s : State),
     resendAll s = (s.prism.cmds.flatMap owesReplicas).foldl sendReplica (resendForwards s)) ∧
  (∀ (s : State), (s.ilu.mirror ≠ .active) →
     resendForwards s = s) ∧
  (∀ (s : State) (c : Cmd) (v : Nat) (m : Bytes), (s.ilu.mirror = .active) → (s.prism.cmds = [c]) → (c.acked = false) → (c.verdict = some (v, m)) →
     resendForwards s = sendPartner 0x10 (c.header ++ c.payload ++ toLe 2 c.ref.idx ++ toLe 1 v ++ m ++ (match c.draw with | .seed b => drawCheck b c.ref.part c.seq | _ => [])) s) ∧
  (∀ (s : State) (port : Bool) (q : BitVec 16) (e : BitVec 16 × Bytes) (l : List (BitVec 16 × Bytes)), ((iluPort s port).unacked.dropWhile (fun e => e.1 != q) = e :: l) →
     exec (.linkAck port q) s = .next (modPort port (fun p => { p with unacked := l, naks := 0 }) s)) ∧
  (∀ (s : State) (port : Bool) (q : BitVec 16), (∀ e ∈ (iluPort s port).unacked, e.1 ≠ q) →
     exec (.linkAck port q) s = .next s) ∧
  (∀ (s : State) (port : Bool) (q : BitVec 16) (e : BitVec 16 × Bytes) (l : List (BitVec 16 × Bytes)), ((iluPort s port).unacked.dropWhile (fun e => e.1 != q) = e :: l) →
     (let n := if (iluPort s port).nakSeq = q then (iluPort s port).naks else 0;
       (3 ≤ n → exec (.linkNak port q) s = .next (dropLink port s)) ∧
       (n < 3 → exec (.linkNak port q) s = .next (setFltCause 1 (faultLog 3 1 (4 * b2n port) 0
       (modPort port (fun p => { p with replays := satAdd 8 p.replays (l.length + 1), nakSeq := q, naks := n + 1 }) { s with out := s.out ++ (e :: l).map (fun e => .iluon port e.2) })))))) ∧
  (∀ (s : State) (port : Bool) (q : BitVec 16), (∀ e ∈ (iluPort s port).unacked, e.1 ≠ q) →
     exec (.linkNak port q) s = .next s) ∧
  (∀ (s : State) (port : Bool) (q : Option (BitVec 16)), ((iluPort s port).up = true) → (q ≠ some (iluPort s port).recvSeq) →
     exec (.iluonFrameCrcError port q) s = .next (sendHop port 0x61 (iluPort s port).recvSeq s)) ∧
  (∀ (s : State) (port : Bool),
     exec (.iluonFrameCrcError port (some (iluPort s port).recvSeq)) s = .next s) ∧
  (∀ (s : State) (port : Bool) (typ : Nat) (q : BitVec 16),
     sendHop port typ q s = { s with out := s.out ++ [.iluon port (linkFrame typ (frameFlags 0 port false) s.ilu.position (nextTo s port) 0 q s.ilu.claim [])] }) ∧
  (∀ (typ flags src dst len : Nat) (q : BitVec 16) (claim : BitVec 64) (body : Bytes),
     (let b := toLe 1 typ ++ toLe 1 flags ++ toLe 1 src ++ toLe 1 dst ++ toLe 2 len ++ toLe 2 q.toNat ++ toLe 8 claim.toNat ++ body;
       linkFrame typ flags src dst len q claim body = b ++ toLe 4 (crc32 b).toNat)) ∧
  (∀ (s : State) (port : Bool) (lane : Fin 4), ((iluPort s port).up = true) →
     (let l := ((iluPort s port).laneErrs.at lane.val []).filter (fun t => decide (s.clk.ns < t + 1000)) ++ [s.clk.ns];
       (3 ≤ l.length → exec (.syncHeaderError port lane) s = .next (transient { kind := 3, index := 4 * b2n port + lane.val } (modPort port (fun p => { p with laneErrs := p.laneErrs.del lane.val }) s))) ∧
       (l.length < 3 → exec (.syncHeaderError port lane) s = .next (modPort port (fun p => { p with laneErrs := p.laneErrs.put lane.val l }) s)))) ∧
  (∀ (s : State) (port : Bool) (lane : Fin 4) (a b : Nat), ((iluPort s port).up = true) → ((iluPort s port).laneErrs.at lane.val [] = [a, b]) → (s.clk.ns < a + 1000) → (s.clk.ns < b + 1000) →
     exec (.syncHeaderError port lane) s = .next (transient { kind := 3, index := 4 * b2n port + lane.val } (modPort port (fun p => { p with laneErrs := p.laneErrs.del lane.val }) s))) ∧
  (∀ (s : State) (f : Frame) (typ : BitVec 8), ((iluPort s f.port).up = true) → (f.dst ≠ s.ilu.position ∨ isBroadcast f = true) → (ownFrame s f = false) →
     (f.linkSeq = (iluPort s f.port).recvSeq → exec (.cutThroughFrame f typ) s = .next (passOn f typ.toNat (if f.tagOk = true then heardFrom f typ.toNat (frameTaken f s) else frameTaken f s))) ∧
       (f.linkSeq ≠ (iluPort s f.port).recvSeq → exec (.cutThroughFrame f typ) s = .next (sendHop f.port 0x61 (iluPort s f.port).recvSeq s))) ∧
  (∀ (s : State) (f : Frame) (typ : Nat),
     (uncovered s f = true → passOn f typ s = putFrame (!f.port) typ (f.flags.toNat - 4) f.src f.dst f.payload.length f.claim f.body { s with ilu := { s.ilu with line := true } }) ∧
       (uncovered s f = false → ownFrame s f = true → passOn f typ s = { s with ilu := { s.ilu with line := isReflected f && s.ilu.line } }) ∧
       (ownFrame s f = false → (iluPort s (!f.port)).up = true → passOn f typ s = putFrame (!f.port) typ f.flags.toNat f.src f.dst f.payload.length f.claim f.body s) ∧
       (ownFrame s f = false → (iluPort s (!f.port)).up = false → isBroadcast f = true → isReflected f = false → passOn f typ s = putFrame f.port typ (f.flags.toNat + 4) f.src f.dst f.payload.length f.claim f.body s) ∧
       (ownFrame s f = false → (iluPort s (!f.port)).up = false → isBroadcast f = false ∨ isReflected f = true → passOn f typ s = s)) ∧
  (∀ (s : State) (f : Frame) (typ : BitVec 8), (bit f.flags.toNat 3 = true) → (f.payload.length = 4096) →
     (let had := ((iluPort s f.port).train.find? (fun t => t.1 == typ.toNat)).elim [] (fun t => t.2); let t := receive f typ.toNat (fun s => s) s;
       (f.tagOk = true → acts s f typ.toNat = true → (iluPort t f.port).recvSeq ≠ (iluPort s f.port).recvSeq → exec (.trainFrameArrival f typ) s = .next (modPort f.port (fun p => { p with train := p.train ++ [(typ.toNat, had ++ f.payload)] }) t)) ∧
       (f.tagOk = false ∨ acts s f typ.toNat = false ∨ (iluPort t f.port).recvSeq = (iluPort s f.port).recvSeq → exec (.trainFrameArrival f typ) s = .next t))) ∧
  (∀ (s : State) (f : Frame) (typ : BitVec 8), (delivered f typ.toNat s) → (bit f.flags.toNat 3 = true) → (f.payload.length = 4096) → ((iluPort s f.port).train = []) → (¬ s.ilu.claim.toNat < f.claim.toNat) → (s.ilu.mirror ≠ .held) → (s.ilu.mirror ≠ .solo) → (isBroadcast f = false) →
     ∃ t, exec (.trainFrameArrival f typ) s = .next t ∧ (iluPort t f.port).train = [(typ.toNat, f.payload)] ∧ (iluPort t f.port).recvSeq = (iluPort s f.port).recvSeq + 1) ∧
  (∀ (s : State) (f : Frame) (roles load n m : Nat) (b1 b2 b3 b4 : Bytes) (d : BitVec 2) (r : CmdRef) (e : PairEvent) (st : BitVec 16) (role : Bool) (term : BitVec 64) (votes : List (Nat × Bool × Nat)) (vs : List (Nat × Nat)), ((iluPort s f.port).up = false) →
     exec (.heartbeat f roles load) s = .next (s) ∧
       exec (.timeMark f n) s = .next (s) ∧
       exec (.forward f b1 b2 n d b3 b4) s = .next (s) ∧
       exec (.forwardAck f r) s = .next (s) ∧
       exec (.event f e) s = .next (s) ∧
       exec (.replyCheck f r st n b1) s = .next (s) ∧
       exec (.leave f n) s = .next (s) ∧
       exec (.resync f n m b1) s = .next (s) ∧
       exec (.lease f role term n m votes) s = .next (s) ∧
       exec (.replicate f role n b1) s = .next (s) ∧
       exec (.replicateAck f r st) s = .next (s) ∧
       exec (.spill f b1 b2 vs b3) s = .next (s) ∧
       exec (.spillReply f r role st b1) s = .next (s)) ∧
  (∀ (s : State) (f : Frame) (roles load n m : Nat) (b1 b2 b3 b4 : Bytes) (d : BitVec 2) (r : CmdRef) (e : PairEvent) (st : BitVec 16) (role : Bool) (term : BitVec 64) (votes : List (Nat × Bool × Nat)) (vs : List (Nat × Nat)), ((iluPort s f.port).up = true) → (f.linkSeq ≠ (iluPort s f.port).recvSeq) →
     exec (.heartbeat f roles load) s = .next (sendHop f.port 0x61 (iluPort s f.port).recvSeq s) ∧
       exec (.timeMark f n) s = .next (sendHop f.port 0x61 (iluPort s f.port).recvSeq s) ∧
       exec (.forward f b1 b2 n d b3 b4) s = .next (sendHop f.port 0x61 (iluPort s f.port).recvSeq s) ∧
       exec (.forwardAck f r) s = .next (sendHop f.port 0x61 (iluPort s f.port).recvSeq s) ∧
       exec (.event f e) s = .next (sendHop f.port 0x61 (iluPort s f.port).recvSeq s) ∧
       exec (.replyCheck f r st n b1) s = .next (sendHop f.port 0x61 (iluPort s f.port).recvSeq s) ∧
       exec (.leave f n) s = .next (sendHop f.port 0x61 (iluPort s f.port).recvSeq s) ∧
       exec (.resync f n m b1) s = .next (sendHop f.port 0x61 (iluPort s f.port).recvSeq s) ∧
       exec (.lease f role term n m votes) s = .next (sendHop f.port 0x61 (iluPort s f.port).recvSeq s) ∧
       exec (.replicate f role n b1) s = .next (sendHop f.port 0x61 (iluPort s f.port).recvSeq s) ∧
       exec (.replicateAck f r st) s = .next (sendHop f.port 0x61 (iluPort s f.port).recvSeq s) ∧
       exec (.spill f b1 b2 vs b3) s = .next (sendHop f.port 0x61 (iluPort s f.port).recvSeq s) ∧
       exec (.spillReply f r role st b1) s = .next (sendHop f.port 0x61 (iluPort s f.port).recvSeq s)) ∧
  (∀ (s : State) (f : Frame) (typ : Nat) (act : State → State), ((iluPort s f.port).up = true) → (f.linkSeq = (iluPort s f.port).recvSeq) → (f.tagOk = false) → (acts s f typ = true) →
     receive f typ act s = setFltCause 1 (faultLog 3 1 (4 * b2n f.port) 0 (modPort f.port (fun p => { p with tagErr := satAdd 8 p.tagErr 1, train := p.train.filter (fun t => t.1 != typ) }) (frameTaken f s)))) ∧
  (∀ (s : State) (f : Frame) (typ : Nat) (act : State → State), ((iluPort s f.port).up = true) → (f.linkSeq = (iluPort s f.port).recvSeq) → (acts s f typ = false) →
     receive f typ act s = passOn f typ (if f.tagOk = true then heardFrom f typ (frameTaken f s) else frameTaken f s)) ∧
  (∀ (s : State) (f : Frame) (roles load n m : Nat) (b1 b2 b3 b4 : Bytes) (d : BitVec 2) (r : CmdRef) (e : PairEvent) (st : BitVec 16) (role : Bool) (term : BitVec 64) (votes : List (Nat × Bool × Nat)) (vs : List (Nat × Nat)), ((iluPort s f.port).up = true) → (f.linkSeq = (iluPort s f.port).recvSeq) →
     (f.tagOk = false ∨ acts s f 0x01 = false → exec (.heartbeat f roles load) s = .next (receive f 0x01 id s)) ∧
       (f.tagOk = false ∨ acts s f 0x02 = false → exec (.timeMark f n) s = .next (receive f 0x02 id s)) ∧
       (f.tagOk = false ∨ acts s f 0x10 = false → exec (.forward f b1 b2 n d b3 b4) s = .next (receive f 0x10 id s)) ∧
       (f.tagOk = false ∨ acts s f 0x11 = false → exec (.forwardAck f r) s = .next (receive f 0x11 id s)) ∧
       (f.tagOk = false ∨ acts s f 0x12 = false → exec (.event f e) s = .next (receive f 0x12 id s)) ∧
       (f.tagOk = false ∨ acts s f 0x13 = false → exec (.replyCheck f r st n b1) s = .next (receive f 0x13 id s)) ∧
       (f.tagOk = false ∨ acts s f 0x14 = false → exec (.leave f n) s = .next (receive f 0x14 id s)) ∧
       (f.tagOk = false ∨ acts s f 0x50 = false → exec (.resync f n m b1) s = .next (receive f 0x50 id s)) ∧
       (f.tagOk = false ∨ acts s f 0x20 = false → exec (.lease f role term n m votes) s = .next (receive f 0x20 id s)) ∧
       (f.tagOk = false ∨ acts s f 0x30 = false → exec (.replicate f role n b1) s = .next (receive f 0x30 id s)) ∧
       (f.tagOk = false ∨ acts s f 0x31 = false → exec (.replicateAck f r st) s = .next (receive f 0x31 id s)) ∧
       (f.tagOk = false ∨ acts s f 0x40 = false → exec (.spill f b1 b2 vs b3) s = .next (receive f 0x40 id s)) ∧
       (f.tagOk = false ∨ acts s f 0x41 = false → exec (.spillReply f r role st b1) s = .next (receive f 0x41 id s))) ∧
  (∀ (port : Bool) (lanes : Nat) (s : State), (((getDomain s (portDomain port)).on && (getDomain s (portDomain port)).katPass && s.svc.phase != .dark && (lanes == 1 || lanes == 2 || lanes == 4) && decide (lanes ≤ lanesLeft (iluPort s port))) = false) →
     exec (.iluonLinkUp port lanes) s = .next s) ∧
  (∀ (port : Bool) (s : State), (((iluPort s port).up) = false) →
     exec (.iluonLinkDown port) s = .next s) ∧
  (∀ (port : Bool) (seq : BitVec 16) (s : State), ((!(heldFrom (iluPort s port) seq).isEmpty) = false) →
     exec (.linkAck port seq) s = .next s) ∧
  (∀ (port : Bool) (seq : BitVec 16) (s : State), ((!(heldFrom (iluPort s port) seq).isEmpty) = false) →
     exec (.linkNak port seq) s = .next s) ∧
  (∀ (port : Bool) (lane : Fin 4) (s : State), (((iluPort s port).up) = false) →
     exec (.syncHeaderError port lane) s = .next s) ∧
  (∀ (f : Frame) (typ : BitVec 8) (s : State), (((iluPort s f.port).up && (f.dst != s.ilu.position || isBroadcast f) && !ownFrame s f) = false) →
     exec (.cutThroughFrame f typ) s = .next s) ∧
  (∀ (f : Frame) (typ : BitVec 8) (s : State), ((bit f.flags.toNat 3 && f.payload.length == 4096) = false) →
     exec (.trainFrameArrival f typ) s = .next s)

/-- Heartbeats, time marks and the formation of a ring. Rests also on the choices of the model in log entries 86, 89. That an event which is not due changes nothing is the choice of the model, log entry 124. (R399, R402, R403, R404, R408, R411, R413, R415, R417) -/
def Obligations.HeartbeatsMarksAndFormation : Prop :=
  (∀ (s : State) (port : Bool), ((iluPort s port).up = true) → ((iluPort s port).idleNs + 1000 ≤ s.clk.ns) →
     exec (.heartbeatSend port) s = .next (sendFrame port 0x01 (nextTo s port) s.ilu.claim (toLe 1 (b2n s.ilu.keyMaster + 2 * b2n s.ilu.vaultOwner) ++ toLe 1 s.ilu.loadPct) s)) ∧
  (∀ (s : State) (port : Bool) (typ dst : Nat) (claim : BitVec 64) (b : Bytes), ((iluPort s port).up = true) → (b ≠ []) → (b.length ≤ 4096) →
     (let flags := frameFlags dst port false; let e := gcmSeal (frameKey s typ dst) (frameNonce s typ) (frameHead typ flags s.ilu.position dst b.length 0 claim) b;
       let x := linkFrame typ flags s.ilu.position dst b.length (iluPort s port).sendSeq claim (e.1 ++ e.2); let t := sendFrame port typ dst claim b s;
       t.out = s.out ++ [.iluon port x] ∧ t.ilu.counter = s.ilu.counter + 1 ∧ iluPort t (!port) = iluPort s (!port) ∧
       iluPort t port = { iluPort s port with sendSeq := (iluPort s port).sendSeq + 1, unacked := (iluPort s port).unacked ++ [((iluPort s port).sendSeq, x)], idleNs := s.clk.ns })) ∧
  (∀ (s : State) (port : Bool) (typ dst : Nat) (claim : BitVec 64) (b : Bytes), ((iluPort s port).up = true) → (4096 < b.length) →
     sendFrame port typ dst claim b s = sendTrain port typ dst claim (chunks 4096 (b.drop 4096)) (sendPiece port typ dst claim true (b.take 4096) s)) ∧
  (∀ (s : State) (typ dst : Nat),
     frameKey s typ dst = (if (0x10 ≤ typ ∧ typ ≤ 0x13) ∨ ((typ = 0x14 ∨ typ = 0x50) ∧ s.ilu.paired = true ∧ dst = nextTo s s.ilu.pairPort) then s.ilu.pairKey else s.ilu.ringKey) ∧
       frameNonce s typ = toLe 1 s.ilu.position ++ toLe 8 s.ilu.counter.toNat ++ toLe 1 typ ++ zeros 2) ∧
  (∀ (s : State) (f : Frame) (roles load : Nat), (delivered f 0x01 s) →
     exec (.heartbeat f roles load) s = .next (settled f 0x01 (modIlu (fun i => { i with peerLoad := i.peerLoad.put (b2n f.port) load, peerRoles := i.peerRoles.put (b2n f.port) roles }) (arrived f 0x01 s)))) ∧
  (∀ (s : State) (f : Frame) (roles load : Nat), (delivered f 0x01 s) → (¬ s.ilu.claim.toNat < f.claim.toNat) → (s.ilu.mirror ≠ .held) →
     ∃ t, exec (.heartbeat f roles load) s = .next t ∧ t.ilu.peerLoad.at (b2n f.port) 0 = load ∧ t.ilu.peerRoles.at (b2n f.port) 0 = roles ∧ (iluPort t f.port).recvSeq = (iluPort s f.port).recvSeq + 1 ∧ t.parts = s.parts ∧ t.ks = s.ks) ∧
  (∀ (s : State), (s.ilu.formed = true) → ((∀ p ∈ s.ilu.live, s.ilu.position ≤ p)) → (s.ilu.markNs + 100000 ≤ s.clk.ns) →
     exec .timeMarkSend s = .next (broadcast 0x02 s.ilu.claim (toLe 1 0 ++ toLe 8 s.clk.ns) { s with ilu := { s.ilu with markNs := s.clk.ns, markDue := ways s, markSum := 0 } })) ∧
  (∀ (s : State) (typ : Nat) (claim : BitVec 64) (b : Bytes),
     (s.ilu.west.up = true → s.ilu.east.up = true → s.ilu.line = false → broadcast typ claim b s = sendFrame true typ 0xFF claim b s) ∧
       (s.ilu.west.up = false ∨ s.ilu.east.up = false ∨ s.ilu.line = true → broadcast typ claim b s = sendFrame false typ 0xFF claim b (sendFrame true typ 0xFF claim b s))) ∧
  (∀ (s : State) (f : Frame) (m : Nat), (delivered f 0x02 s) → (ownFrame (arrived f 0x02 s) f = false) →
     exec (.timeMark f m) s = .next (settled f 0x02 (if m = 0 then (arrived f 0x02 s) else modIlu (fun i => { i with rtts := (i.rtts ++ [m]).drop ((i.rtts ++ [m]).length - 64) }) (arrived f 0x02 s)))) ∧
  (∀ (s : State) (f : Frame) (m : Nat), (delivered f 0x02 s) → (ownFrame (arrived f 0x02 s) f = true) →
     exec (.timeMark f m) s = .next (settled f 0x02 (let v := { (arrived f 0x02 s) with ilu := { (arrived f 0x02 s).ilu with markSum := (arrived f 0x02 s).ilu.markSum + m, markDue := (arrived f 0x02 s).ilu.markDue - 1 } }; let n := (arrived f 0x02 s).ilu.markSum + m;
       if (arrived f 0x02 s).ilu.markDue = 0 then (arrived f 0x02 s) else if (arrived f 0x02 s).ilu.markDue = 1 then broadcast 0x02 (arrived f 0x02 s).ilu.claim (toLe 1 1 ++ toLe 8 n) { v with ilu := { v.ilu with rtts := (v.ilu.rtts ++ [n]).drop ((v.ilu.rtts ++ [n]).length - 64) } } else v))) ∧
  (∀ (s : State) (pos : Nat) (rk : Bytes), (s.ilu.members ≠ 0) → (pos < s.ilu.members) →
     (let top := !s.ilu.leaseMode && s.ilu.claim == s.ilu.topClaim && s.ilu.claim != 0;
       let formed (k : Bytes) (u : State) : State := broadcastImages { u with ilu := { u.ilu with formed := true, line := false, live := List.range s.ilu.members, position := pos, ringKey := padTo 32 k, keyMaster := top, vaultOwner := top, imageOwed := u.ilu.imageOwed && !top } };
       (pos ≠ 0 → exec (.ringFormed s.ilu.members pos rk) s = .next (formed (padTo 32 rk) s)) ∧ (pos = 0 → exec (.ringFormed s.ilu.members pos rk) s = .next (formed (islandDraw 32 s).1 (islandDraw 32 s).2)))) ∧
  (∀ (s : State),
     (s.ilu.keyMaster = false → s.ilu.vaultOwner = false → broadcastImages s = s)) ∧
  (∀ (s : State) (f : Frame) (r : CmdRef), (delivered f 0x11 s) →
     exec (.forwardAck f r) s = .next (settled f 0x11 (modCmd r (fun c => { c with acked := true }) (arrived f 0x11 s)))) ∧
  (∀ (s : State) (f : Frame) (r : CmdRef), (delivered f 0x11 s) → ((findCmd (arrived f 0x11 s) r).isSome = true) →
     ∃ t, exec (.forwardAck f r) s = .next t ∧ (findCmd t r).map (fun c => c.acked) = some true) ∧
  (∀ (s : State) (c : BitVec 64),
     (let u := if s.ilu.topClaim.toNat < c.toNat then { s with ilu := { s.ilu with topClaim := c } } else s;
       (c.toNat ≤ s.ilu.claim.toNat → hearClaim c s = u) ∧
       (s.ilu.claim.toNat < c.toNat → s.ilu.mirror = .active ∨ s.ilu.mirror = .held ∨ s.ilu.mirror = .solo ∨ s.ilu.mirror = .syncSource →
       hearClaim c s = discardMirrored { u with ilu := { u.ilu with keyMaster := false, vaultOwner := false, topClaim := c, mirror := .detached }, rng := { u.rng with shared := false } }) ∧
       (s.ilu.claim.toNat < c.toNat → s.ilu.mirror = .standby ∨ s.ilu.mirror = .syncTarget → hearClaim c s = { u with ilu := { u.ilu with claim := c } }) ∧
       (s.ilu.claim.toNat < c.toNat → s.ilu.mirror = .none → s.ilu.leaseMode = false → hearClaim c s = { u with ilu := { u.ilu with keyMaster := false, vaultOwner := false } }) ∧
       (s.ilu.claim.toNat < c.toNat → s.ilu.mirror = .none → s.ilu.leaseMode = true → hearClaim c s = u) ∧ (s.ilu.claim.toNat < c.toNat → s.ilu.mirror = .detached → hearClaim c s = u))) ∧
  (∀ (s : State),
     (let u := { s with ilu := { s.ilu with heardNs := s.clk.ns, partnerSeen := true } };
       let moved (m : MirrorState) (p : Nat) : State := { u with ilu := { u.ilu with mirror := m, resyncPct := p }, rng := { u.rng with shared := true } };
       (s.ilu.mirror = .held → hearPartner s = resendForwards (moved .active s.ilu.resyncPct)) ∧ (s.ilu.mirror = .solo → hearPartner s = sendSync 3 (sendSync 2 (sendSync 1 (moved .syncSource 0)))) ∧ (s.ilu.mirror = .detached → hearPartner s = moved .syncTarget 0) ∧
       (s.ilu.mirror ≠ .held → s.ilu.mirror ≠ .solo → s.ilu.mirror ≠ .detached → hearPartner s = u))) ∧
  (∀ (port : Bool) (s : State), (((iluPort s port).up && decide ((iluPort s port).idleNs + 1000 ≤ s.clk.ns)) = false) →
     exec (.heartbeatSend port) s = .next s) ∧
  (∀ (s : State), ((s.ilu.formed && s.ilu.live.all (fun p => decide (s.ilu.position ≤ p)) && decide (s.ilu.markNs + 100000 ≤ s.clk.ns)) = false) →
     exec .timeMarkSend s = .next s) ∧
  (∀ (live : Nat) (position : Nat) (rk : Bytes) (s : State), ((s.ilu.members != 0 && live == s.ilu.members && decide (position < s.ilu.members)) = false) →
     exec (.ringFormed live position rk) s = .next s)

/-- Frames of a pair: forwarded commands, events, checks of replies, departures and losses move the mirror as the spec says. Rests also on the choices of the model in log entries 85, 86, 98, 120, 127. That an event which is not due changes nothing is the choice of the model, log entry 124. (R106, R184, R284, R406, R407, R408, R410, R411, R412, R413, R414, R416) -/
def Obligations.PairFramesKeepTheMirror : Prop :=
  (∀ (s : State) (f : Frame) (header payload reseed check : Bytes) (idx : Nat) (d : BitVec 2), (delivered f 0x10 s) → ((arrived f 0x10 s).ilu.mirror = .standby) → (¬ f.claim.toNat < (arrived f 0x10 s).ilu.claim.toNat) →
     exec (.forward f header payload idx d reseed check) s = .next (settled f 0x10 (takeForward header payload idx d.toNat reseed check (arrived f 0x10 s)))) ∧
  (∀ (s : State) (header payload reseed check : Bytes) (idx d : Nat) (o : OpSpec), (opSpec (forwardReq s header payload).opcode = some o) → (idx < 65536) →
     (let x := forwardReq s header payload; let ack := sendPartner 0x11 (toLe 2 idx ++ toLe 8 x.seq.toNat);
       ((getPart s x.part).journal.look idx = none → takeForward header payload idx d reseed check s = mirrorDraw (nextRef s x.part idx) d reseed check (ack (acceptAt o x idx true s))) ∧
       (∀ e, (getPart s x.part).journal.look idx = some e → e.seq = x.seq ∧ e.ring.toNat = x.ring ∧ e.fromMirror = true → takeForward header payload idx d reseed check s = ack s) ∧
       (∀ e, (getPart s x.part).journal.look idx = some e → ¬ (e.seq = x.seq ∧ e.ring.toNat = x.ring ∧ e.fromMirror = true) →
       takeForward header payload idx d reseed check s = mirrorDraw (nextRef s x.part idx) d reseed check (ack (acceptAt o x idx true s))))) ∧
  (∀ (s : State) (f : Frame) (header payload reseed check : Bytes) (idx : Nat) (d : BitVec 2), (delivered f 0x10 s) → ((arrived f 0x10 s).ilu.mirror = .standby) → (f.claim.toNat < (arrived f 0x10 s).ilu.claim.toNat) →
     exec (.forward f header payload idx d reseed check) s = .next (settled f 0x10 (sendPartner 0x14 [4] (modIlu (fun i => { i with cntRefused := satAdd 32 i.cntRefused 1 }) (arrived f 0x10 s))))) ∧
  (∀ (s : State) (f : Frame) (header payload reseed check : Bytes) (idx : Nat) (d : BitVec 2), (delivered f 0x10 s) → ((arrived f 0x10 s).ilu.mirror ≠ .standby) →
     exec (.forward f header payload idx d reseed check) s = .next (settled f 0x10 ((arrived f 0x10 s)))) ∧
  (∀ (s : State) (f : Frame) (e : PairEvent), (delivered f 0x12 s) → ((arrived f 0x12 s).ilu.mirror = .standby) → (f.claim.toNat < (arrived f 0x12 s).ilu.claim.toNat) →
     exec (.event f e) s = .next (settled f 0x12 (sendPartner 0x14 [4] (modIlu (fun i => { i with cntRefused := satAdd 32 i.cntRefused 1 }) (arrived f 0x12 s))))) ∧
  (∀ (s : State) (f : Frame) (g : Nat), (delivered f 0x12 s) → (¬ ((arrived f 0x12 s).ilu.mirror = .standby ∧ f.claim.toNat < (arrived f 0x12 s).ilu.claim.toNat)) →
     exec (.event f (.ringGeneration g)) s = .next (settled f 0x12 (if (arrived f 0x12 s).ilu.mirror = .active then sendPartner 0x12 (toLe 2 g) (bumpRingGen g (arrived f 0x12 s)) else bumpRingGen g (arrived f 0x12 s)))) ∧
  (∀ (s : State) (f : Frame) (p : Nat), (delivered f 0x12 s) → (¬ ((arrived f 0x12 s).ilu.mirror = .standby ∧ f.claim.toNat < (arrived f 0x12 s).ilu.claim.toNat)) →
     exec (.event f (.partGeneration p)) s = .next (settled f 0x12 (if (arrived f 0x12 s).ilu.mirror = .active then sendPartner 0x12 (toLe 2 p) (bumpPartGen p (arrived f 0x12 s)) else bumpPartGen p (arrived f 0x12 s)))) ∧
  (∀ (s : State) (f : Frame) (ring seq v k : Nat), (delivered f 0x12 s) → (¬ ((arrived f 0x12 s).ilu.mirror = .standby ∧ f.claim.toNat < (arrived f 0x12 s).ilu.claim.toNat)) →
     exec (.event f (.abortVerdict ring seq v k)) s = .next (settled f 0x12 (if (arrived f 0x12 s).ilu.mirror = .standby then takeVerdict ring seq v k (arrived f 0x12 s) else (arrived f 0x12 s)))) ∧
  (∀ (s : State) (ring seq v k : Nat),
     (abortAsked s ring seq = none → takeVerdict ring seq v k s = s) ∧
       (∀ a, abortAsked s ring seq = some a → v ≠ 0 → takeVerdict ring seq v k s = modCmd a.ref (fun c => { c with told := some v }) s) ∧
       (∀ a i e, abortAsked s ring seq = some a → v = 0 → jFind (modCmd a.ref (fun c => { c with told := some v }) s) a.ref.part ring (BitVec.ofNat 64 seq) = some (i, e) →
       takeVerdict ring seq v k s = (let u := modCmd a.ref (fun c => { c with told := some v }) s; pairAbort (refAt a.ref.part i (getPart u a.ref.part)) k u))) ∧
  (∀ (s : State) (f : Frame) (n : Nat), (delivered f 0x12 s) → (¬ ((arrived f 0x12 s).ilu.mirror = .standby ∧ f.claim.toNat < (arrived f 0x12 s).ilu.claim.toNat)) →
     exec (.event f (.boundary n)) s = .next (settled f 0x12 (boundary (arrived f 0x12 s)))) ∧
  (∀ (s : State),
     (s.ilu.mirror = .active → boundary s = toMirror .standby (sendPartner 0x12 (toLe 8 s.ilu.claim.toNat) s)) ∧
       (∀ c, s.ilu.mirror = .standby → switchCmd s = some c → boundary s = (let u := toMirror .active (raiseClaim s); endCmd c.ref stOk (toLe 8 u.ilu.claim.toNat) u)) ∧
       (s.ilu.mirror = .standby → switchCmd s = none → boundary s = s) ∧ (s.ilu.mirror ≠ .active → s.ilu.mirror ≠ .standby → boundary s = s)) ∧
  (∀ (s : State),
     (let n := max s.ilu.claim.toNat s.ilu.topClaim.toNat / 256 + 1; let c := BitVec.ofNat 64 (n * 256 + s.ilu.position % 256);
       raiseClaim s = { s with ilu := { s.ilu with claim := c, topClaim := c } })) ∧
  (∀ (s : State) (f : Frame) (r : CmdRef) (st : BitVec 16) (n : Nat) (d : Bytes), (delivered f 0x13 s) → ((arrived f 0x13 s).ilu.mirror ≠ .standby) →
     exec (.replyCheck f r st n d) s = .next (settled f 0x13 ((arrived f 0x13 s)))) ∧
  (∀ (s : State) (f : Frame) (r : CmdRef) (st : BitVec 16) (n : Nat) (d : Bytes), (delivered f 0x13 s) → ((arrived f 0x13 s).ilu.mirror = .standby) →
     exec (.replyCheck f r st n d) s = .next (settled f 0x13 (compareWith { ref := r, theirs := true, status := st, replyLen := n, digest := d } (arrived f 0x13 s)))) ∧
  (∀ (s : State) (x : Compare),
     (let other := s.ilu.compares.find? (fun y => y.ref == x.ref && y.theirs != x.theirs); let done (y : Compare) : State := { s with ilu := { s.ilu with compares := s.ilu.compares.filter (fun z => !(z == y)) } };
       (other = none → compareWith x s = { s with ilu := { s.ilu with compares := s.ilu.compares ++ [x] } }) ∧
       (∀ y, other = some y → x.status = y.status ∧ x.replyLen = y.replyLen ∧ x.digest = y.digest → compareWith x s = done y) ∧
       (∀ y, other = some y → ¬ (x.status = y.status ∧ x.replyLen = y.replyLen ∧ x.digest = y.digest) → compareWith x s =
       discardMirrored (toMirror .detached (sendPartner 0x14 [4] (modIlu (fun i => { i with cntDiverge := satAdd 32 i.cntDiverge 1 }) (done y))))))) ∧
  (∀ (s : State) (f : Frame) (c : Nat), (delivered f 0x14 s) → (c = 1) →
     exec (.leave f c) s = .next (settled f 0x14 (unpair (islandDraw 64 (arrived f 0x14 s)).1 (islandDraw 64 (arrived f 0x14 s)).2))) ∧
  (∀ (s : State) (rnd : Bytes),
     ((s.ilu.mirror = .active ∨ s.ilu.mirror = .held ∨ s.ilu.mirror = .solo ∨ s.ilu.mirror = .syncSource ∨ s.ilu.mirror = .none) → unpair rnd s = leavePair s) ∧
       ((s.ilu.mirror = .standby ∨ s.ilu.mirror = .syncTarget ∨ s.ilu.mirror = .detached) → unpair rnd s =
       setCmds (keepPolicyOnly rnd ((s.prism.cmds.filter (fun c => c.opcode != 0x0F04)).foldl discardCmd (leavePair s))) (s.prism.cmds.filter (fun c => c.opcode == 0x0F04))) ∧
       (leavePair s).ilu.mirror = .none ∧ (leavePair s).ilu.claim = 0 ∧ (leavePair s).ilu.paired = false ∧ (leavePair s).parts = s.parts ∧ (leavePair s).ks = s.ks) ∧
  (∀ (s : State) (f : Frame) (c : Nat), (delivered f 0x14 s) → (c ≠ 1) →
     exec (.leave f c) s = .next (settled f 0x14 (match (arrived f 0x14 s).ilu.mirror with | .standby => toMirror .solo (raiseClaim (arrived f 0x14 s)) | .active | .held | .syncSource => toMirror .solo (arrived f 0x14 s) | .syncTarget => toMirror .detached (arrived f 0x14 s) | .solo | .detached | .none => (arrived f 0x14 s)))) ∧
  (∀ (s : State), (s.ilu.paired = true) → (s.ilu.partnerSeen = true) → (s.ilu.heardNs + 20000 ≤ s.clk.ns) →
     exec .partnerLost s = .next (let u := setFltCause 0x80 { s with ilu := { s.ilu with partnerSeen := false, partnerLost := true } };
       match u.ilu.mirror with | .active => toMirror .held u | .syncSource => toMirror .solo u | .syncTarget => toMirror .detached u | .held | .solo | .standby | .detached | .none => u)) ∧
  (∀ (s : State), (s.ilu.paired = true) → (s.ilu.partnerSeen = true) → (s.ilu.heardNs + 20000 ≤ s.clk.ns) → (s.ilu.mirror = .active) →
     ∃ t, exec .partnerLost s = .next t ∧ t.ilu.mirror = .held ∧ t.ilu.partnerLost = true ∧ t.ilu.partnerSeen = false ∧ t.ks = s.ks) ∧
  (∀ (s : State) (f : Frame) (ph pct : Nat) (b : Bytes), (delivered f 0x50 s) → ((arrived f 0x50 s).ilu.mirror = .syncTarget) → (ph ≠ 0) → (ph ≠ 6) →
     exec (.resync f ph pct b) s = .next (settled f 0x50 (let v := modIlu (fun i => { i with resyncPct := min pct 100 }) (arrived f 0x50 s); (decodeSync b).elim v (fun y => if ph = 1 then syncOne y v else if ph = 2 then syncTwo y v else if ph = 3 then syncThree y v else if ph = 4 then syncThree y (syncTwo y v) else if ph = 5 then toMirror .standby (syncThree y (syncTwo y (syncOne y v))) else v)))) ∧
  (∀ (s : State) (f : Frame) (ph pct : Nat) (b : Bytes), (delivered f 0x50 s) → ((arrived f 0x50 s).ilu.mirror ≠ .syncTarget ∨ ph = 0 ∨ ph = 6) →
     exec (.resync f ph pct b) s = .next (settled f 0x50 (if (arrived f 0x50 s).ilu.members = 0 then (arrived f 0x50 s) else if ph = 0 then sendImages f.src (arrived f 0x50 s) else if ph = 6 then (decodeImage b).elim (arrived f 0x50 s) (fun y => applyImage y (arrived f 0x50 s)) else (arrived f 0x50 s)))) ∧
  (∀ (s : State) (f : Frame) (ph pct : Nat) (b : Bytes), (delivered f 0x50 s) → (ph ≠ 0) → (ph ≠ 6) → ((arrived f 0x50 s).ilu.mirror = .syncTarget) → (¬ s.ilu.claim.toNat < f.claim.toNat) →
     ∃ t, exec (.resync f ph pct b) s = .next t ∧ t.ilu.resyncPct = min pct 100 ∧ (∀ y, decodeSync b = some y → ph = 2 → t.ks.keys = y.keys) ∧ (decodeSync b = none → t.ks = s.ks ∧ t.parts = s.parts)) ∧
  (∀ (s : State) (n : Nat), (s.ilu.mirror = .syncSource) → (n < 16777216) →
     exec (.resyncFinalPass n) s = .next (toMirror .active (sendSync 5 (modIlu (fun i => { i with resyncPct := 100, dirty := 0 }) s)))) ∧
  (∀ (s : State) (n : Nat), (s.ilu.mirror = .syncSource) → (n < 16777216) →
     ∃ t, exec (.resyncFinalPass n) s = .next t ∧ t.ilu.mirror = .active ∧ t.ilu.resyncPct = 100 ∧ t.ks = s.ks ∧ t.parts = s.parts) ∧
  (∀ (s : State), ((s.ilu.paired && s.ilu.partnerSeen && decide (s.ilu.heardNs + 20000 ≤ s.clk.ns)) = false) →
     exec .partnerLost s = .next s) ∧
  (∀ (dirtyBytes : Nat) (s : State), ((s.ilu.mirror == .syncSource && decide (dirtyBytes < 16777216)) = false) →
     exec (.resyncFinalPass dirtyBytes) s = .next s)

/-- Leases are voted, renewed, ended and taken over; changes are replicated; spilled commands are run or returned. Rests also on the choices of the model in log entries 26, 87, 88. That an event which is not due changes nothing is the choice of the model, log entry 124. (R406, R418, R419, R420, R421) -/
def Obligations.LeasesReplicationAndSpill : Prop :=
  (∀ (s : State) (f : Frame) (role : Bool) (term : BitVec 64) (h n : Nat) (votes : List (Nat × Bool × Nat)), (delivered f 0x20 s) → ((arrived f 0x20 s).ilu.leaseMode = false) →
     exec (.lease f role term h n votes) s = .next (settled f 0x20 (if ownFrame (arrived f 0x20 s) f = true then (arrived f 0x20 s) else passLease f role term h n votes false (arrived f 0x20 s)))) ∧
  (∀ (s : State) (f : Frame) (role : Bool) (term : BitVec 64) (h n : Nat) (votes : List (Nat × Bool × Nat)), (delivered f 0x20 s) → ((arrived f 0x20 s).ilu.leaseMode = true) → (ownFrame (arrived f 0x20 s) f = true) →
     exec (.lease f role term h n votes) s = .next (settled f 0x20 (if term = (leaseOf (arrived f 0x20 s) role).term ∧ (leaseOf (arrived f 0x20 s) role).holder = (arrived f 0x20 s).ilu.position ∧ 0 < (leaseOf (arrived f 0x20 s) role).due then leaseBack role votes (arrived f 0x20 s) else (arrived f 0x20 s)))) ∧
  (∀ (s : State) (f : Frame) (role : Bool) (term : BitVec 64) (h n : Nat) (votes : List (Nat × Bool × Nat)), (delivered f 0x20 s) → ((arrived f 0x20 s).ilu.leaseMode = true) → (ownFrame (arrived f 0x20 s) f = false) →
     exec (.lease f role term h n votes) s = .next (settled f 0x20 (passLease f role term h n votes (voteLease role term h n (arrived f 0x20 s)).1 (voteLease role term h n (arrived f 0x20 s)).2))) ∧
  (∀ (s : State) (role : Bool) (term : BitVec 64) (h n : Nat),
     (let r := leaseOf s role; let u := if r.holder = s.ilu.position then ceaseRole role s else s; let noted (v : State) : State := setLease role { leaseOf v role with term := term, holder := h, expiry := v.clk.ns + n, acts := false, votes := 0 } v;
       (term.toNat < r.term.toNat → voteLease role term h n s = (false, s)) ∧ (term = r.term → h ≠ r.holder → voteLease role term h n s = (false, s)) ∧
       (r.term.toNat < term.toNat → s.clk.ns < r.expiry → voteLease role term h n s = (false, u)) ∧
       (r.term.toNat < term.toNat → r.expiry ≤ s.clk.ns → voteLease role term h n s = (true, noted u)) ∧
       (term = r.term → h = r.holder → voteLease role term h n s = (true, noted s)))) ∧
  (∀ (s : State) (f : Frame) (role : Bool) (term : BitVec 64) (h n : Nat) (votes : List (Nat × Bool × Nat)) (ack : Bool),
     (let b := leaseBytes role term h n (votes ++ [(s.ilu.position, ack, s.ilu.applied)]); let e := sealPayload 0x20 f.flags.toNat f.src f.dst f.claim b s;
       passLease f role term h n votes ack s = onwards f 0x20 e.1 b.length e.2)) ∧
  (∀ (s : State) (role : Bool) (votes : List (Nat × Bool × Nat)),
     (let others := (leaseOf s role).back ++ votes.filter (fun v => v.1 != s.ilu.position); let t := wayBack role votes s;
       leaseOf t role = { leaseOf s role with back := others, due := (leaseOf s role).due - 1 } ∧ leaseOf t (!role) = leaseOf s (!role) ∧
       t.ilu.live = (if (leaseOf s role).due = 1 then s.ilu.position :: others.map (fun v => v.1) else s.ilu.live) ∧ acksBack (leaseOf t role) = 1 + (others.filter (fun v => v.2.1)).length)) ∧
  (∀ (s : State) (role : Bool) (votes : List (Nat × Bool × Nat)), (acksBack (leaseOf (wayBack role votes s) role) < majority s) →
     ((leaseOf s role).due ≤ 1 → leaseBack role votes s = ceaseRole role (wayBack role votes s)) ∧
       (1 < (leaseOf s role).due → leaseBack role votes s = wayBack role votes s)) ∧
  (∀ (s : State) (role : Bool),
     (leaseOf (ceaseRole role s) role).acts = false ∧ (leaseOf (ceaseRole role s) role).votes = 0 ∧ (if role then (ceaseRole role s).ilu.vaultOwner else (ceaseRole role s).ilu.keyMaster) = false ∧ leaseOf (ceaseRole role s) (!role) = leaseOf s (!role)) ∧
  (∀ (s : State) (role : Bool) (votes : List (Nat × Bool × Nat)), (majority s ≤ acksBack (leaseOf (wayBack role votes s) role)) → ((leaseOf s role).acts = true ∨ topBack (leaseOf (wayBack role votes s) role) ≤ s.ilu.applied) →
     (let t := leaseBack role votes s; (leaseOf t role).acts = true ∧ (leaseOf t role).votes = acksBack (leaseOf (wayBack role votes s) role) ∧ (leaseOf t role).sent = (leaseOf s role).asked ∧ (leaseOf t role).term = (leaseOf s role).term ∧
       (if role then t.ilu.vaultOwner else t.ilu.keyMaster) = true ∧ t.ks = s.ks ∧ t.parts = s.parts)) ∧
  (∀ (s : State) (role : Bool) (votes : List (Nat × Bool × Nat)), (majority s ≤ acksBack (leaseOf (wayBack role votes s) role)) → ((leaseOf s role).acts = false) → (s.ilu.applied < topBack (leaseOf (wayBack role votes s) role)) →
     (let t := leaseBack role votes s; (leaseOf t role).acts = false ∧ t.ilu.fetch = some (role, topBack (leaseOf (wayBack role votes s) role)) ∧
       (if role then t.ilu.vaultOwner else t.ilu.keyMaster) = (if role then s.ilu.vaultOwner else s.ilu.keyMaster))) ∧
  (∀ (s : State) (f : Frame) (role : Bool) (term : BitVec 64) (h n : Nat), (delivered f 0x20 s) → (s.ilu.leaseMode = true) → (s.ilu.mirror = .none) → (s.ilu.paired = false) → (ownFrame s f = false) → ((leaseOf s role).term.toNat < term.toNat) → ((leaseOf s role).expiry ≤ s.clk.ns) →
     ∃ t, exec (.lease f role term h n []) s = .next t ∧ (leaseOf t role).term = term ∧ (leaseOf t role).holder = h ∧ (leaseOf t role).expiry = s.clk.ns + n) ∧
  (∀ (s : State) (role : Bool), (s.ilu.leaseMode = true) → (s.ilu.formed = true) → ((leaseOf s role).acts = true) → ((leaseOf s role).holder = s.ilu.position) → ((leaseOf s role).sent + leaseLen s / 2 ≤ s.clk.ns) → ((leaseOf s role).asked ≤ (leaseOf s role).sent) → (mayAct s role = true) →
     exec (.leaseRenewal role) s = .next (sendLease role s)) ∧
  (∀ (s : State) (role : Bool), (s.ilu.leaseMode = true) → (s.ilu.formed = true) → ((leaseOf s role).acts = true) → ((leaseOf s role).holder = s.ilu.position) → ((leaseOf s role).sent + leaseLen s / 2 ≤ s.clk.ns) → ((leaseOf s role).asked ≤ (leaseOf s role).sent) → (mayAct s role = true) →
     ∃ t, exec (.leaseRenewal role) s = .next t ∧ leaseOf t role = { leaseOf s role with asked := s.clk.ns, expiry := s.clk.ns + leaseLen s, due := ways s, back := [] } ∧ leaseOf t (!role) = leaseOf s (!role)) ∧
  (∀ (s : State) (role : Bool), (s.ilu.leaseMode = true) → ((leaseOf s role).acts = true) → (mayAct s role = false) →
     ∃ t, exec (.leaseWindowEnd role) s = .next t ∧ (leaseOf t role).acts = false ∧ (leaseOf t role).votes = 0 ∧ (if role then t.ilu.vaultOwner else t.ilu.keyMaster) = false ∧ t.ks = s.ks) ∧
  (∀ (s : State) (role : Bool), (s.ilu.leaseMode = true) → ((leaseOf s role).expiry ≤ s.clk.ns) → ((leaseOf s role).votes ≠ 0) →
     ∃ t, exec (.leaseRecordExpiry role) s = .next t ∧ leaseOf t role = { leaseOf s role with votes := 0 } ∧ leaseOf t (!role) = leaseOf s (!role)) ∧
  (∀ (s : State) (role : Bool), (s.ilu.leaseMode = true) → (s.ilu.formed = true) → ((leaseOf s role).acts = false) → ((leaseOf s role).expiry + rttMax s + 1000 + 4 * rttMax s * takeoverTurn s (leaseOf s role).holder ≤ s.clk.ns) →
     exec (.leaseTakeover role) s = .next (sendLease role (setLease role { leaseOf s role with term := (leaseOf s role).term + 1, holder := s.ilu.position, votes := 0, acts := false } s))) ∧
  (∀ (s : State) (role : Bool), (s.ilu.leaseMode = true) → (s.ilu.formed = true) → ((leaseOf s role).acts = false) → ((leaseOf s role).expiry + rttMax s + 1000 + 4 * rttMax s * takeoverTurn s (leaseOf s role).holder ≤ s.clk.ns) →
     ∃ t, exec (.leaseTakeover role) s = .next t ∧ (leaseOf t role).term = (leaseOf s role).term + 1 ∧ (leaseOf t role).holder = s.ilu.position ∧ (leaseOf t role).asked = s.clk.ns ∧ (leaseOf t role).acts = false) ∧
  (∀ (s : State) (role : Bool),
     leaseLen s = (if s.ilu.leaseMode = true then max (s.ilu.leaseMult * rttMax s) (4 * rttMax s + 4000) else 0) ∧ majority s = s.ilu.members / 2 + 1 ∧
       (mayAct s role = true ↔ (leaseOf s role).holder = s.ilu.position ∧ (leaseOf s role).acts = true ∧ s.ilu.members / 2 + 1 ≤ (leaseOf s role).votes ∧ s.clk.ns < (leaseOf s role).sent + (leaseLen s - leaseLen s * 4 / 10000 - 1000))) ∧
  (∀ (s : State) (f : Frame) (role : Bool) (seq : Nat) (ch : Bytes) (st : Status), (delivered f 0x30 s) → (replicateRefusal f role (arrived f 0x30 s) = some st) →
     exec (.replicate f role seq ch) s = .next (settled f 0x30 (sendFrame f.port 0x31 f.src (arrived f 0x30 s).ilu.claim (toLe 2 st.toNat) (modIlu (fun i => { i with cntRefused := satAdd 32 i.cntRefused 1 }) (arrived f 0x30 s))))) ∧
  (∀ (s : State) (f : Frame) (role : Bool) (seq : Nat) (ch : Bytes), (delivered f 0x30 s) → (replicateRefusal f role (arrived f 0x30 s) = none) → ((arrived f 0x30 s).ilu.applied + 1 < seq) →
     exec (.replicate f role seq ch) s = .next (settled f 0x30 ((arrived f 0x30 s)))) ∧
  (∀ (s : State) (f : Frame) (role : Bool) (seq : Nat) (ch : Bytes), (delivered f 0x30 s) → (replicateRefusal f role (arrived f 0x30 s) = none) → (seq ≤ (arrived f 0x30 s).ilu.applied) →
     exec (.replicate f role seq ch) s = .next (settled f 0x30 (sendFrame f.port 0x31 f.src (arrived f 0x30 s).ilu.claim (toLe 2 0 ++ toLe 8 seq) (arrived f 0x30 s)))) ∧
  (∀ (s : State) (f : Frame) (role : Bool) (seq : Nat) (ch : Bytes), (delivered f 0x30 s) → (replicateRefusal f role (arrived f 0x30 s) = none) → (seq = (arrived f 0x30 s).ilu.applied + 1) →
     exec (.replicate f role seq ch) s = .next (settled f 0x30 ((fun v => sendFrame f.port 0x31 f.src v.ilu.claim (toLe 2 0 ++ toLe 8 seq) v) (modIlu (fun i => { i with applied := seq }) ((decodeChange ch).elim (arrived f 0x30 s) (fun c => applyChange c (arrived f 0x30 s))))))) ∧
  (∀ (s : State) (f : Frame) (role : Bool),
     (s.ilu.leaseMode = true → replicateRefusal f role s = (if f.claim.toNat < (leaseOf s role).term.toNat ∨ f.src ≠ (leaseOf s role).holder ∨ (leaseOf s role).expiry ≤ s.clk.ns then some stLeaseExpired else none)) ∧
       (s.ilu.leaseMode = false → replicateRefusal f role s = (if f.claim.toNat < s.ilu.topClaim.toNat then some stClaimSuperseded else none))) ∧
  (∀ (s : State) (f : Frame) (r : CmdRef) (st : BitVec 16), (delivered f 0x31 s) → (findCmd (arrived f 0x31 s) r = none) →
     exec (.replicateAck f r st) s = .next (settled f 0x31 ((arrived f 0x31 s)))) ∧
  (∀ (s : State) (f : Frame) (r : CmdRef) (c : Cmd), (delivered f 0x31 s) → (findCmd (arrived f 0x31 s) r = some c) →
     exec (.replicateAck f r 0) s = .next (settled f 0x31 (modCmd r (ackChange f.src) (arrived f 0x31 s)))) ∧
  (∀ (s : State) (f : Frame) (r : CmdRef) (c : Cmd) (st : BitVec 16), (delivered f 0x31 s) → (findCmd (arrived f 0x31 s) r = some c) → (st ≠ 0) →
     exec (.replicateAck f r st) s = .next (settled f 0x31 (modIlu (fun i => { i with keyMaster := false, vaultOwner := false }) (modCmd r (fun c => { c with replicated := 0, replicas := [], result := some { status := st, reply := [] } }) (withdrawChange c (arrived f 0x31 s)))))) ∧
  (∀ (src : Nat) (c : Cmd),
     (let n := c.ackedBy.count src + 1; (c.replicas.length < n → ackChange src c = c) ∧ (n < c.replicas.length → ackChange src c = { c with ackedBy := c.ackedBy ++ [src] }) ∧
       (n = c.replicas.length → ackChange src c = { c with ackedBy := c.ackedBy ++ [src], replicated := c.replicated - 1 }))) ∧
  (∀ (s : State) (f : Frame) (r : CmdRef) (c : Cmd), (delivered f 0x31 s) → (findCmd (arrived f 0x31 s) r = some c) → ((arrived f 0x31 s).ks = s.ks) →
     ∃ t, exec (.replicateAck f r 0) s = .next t ∧ findCmd t r = some (ackChange f.src c) ∧ t.ks = s.ks) ∧
  (∀ (s : State) (f : Frame) (header payload seed : Bytes) (v : List (Nat × Nat)), (delivered f 0x40 s) → (opSpec (forwardReq (arrived f 0x40 s) header payload).opcode = none) →
     exec (.spill f header payload v seed) s = .next (settled f 0x40 (spillAnswer f.src [] (arrived f 0x40 s)))) ∧
  (∀ (s : State) (f : Frame) (header payload seed : Bytes) (v : List (Nat × Nat)) (o : OpSpec), (delivered f 0x40 s) → (opSpec (forwardReq (arrived f 0x40 s) header payload).opcode = some o) →
     exec (.spill f header payload v seed) s = .next (settled f 0x40 (let x := forwardReq (arrived f 0x40 s) header payload; let c := spillCmd (arrived f 0x40 s) o x f.src v seed;
       if paymentGroup x.opcode = true ∧ (getPart (arrived f 0x40 s) x.part).state = .active ∧ c.keys.all (fun k => (versionVal (arrived f 0x40 s) x.part k.1 k.2).isSome) = true then
       stampReady c.ref { c.keys.foldl (fun s k => takeRef x.part k.1 k.2 s) (arrived f 0x40 s) with prism := { (c.keys.foldl (fun s k => takeRef x.part k.1 k.2 s) (arrived f 0x40 s)).prism with cmds := (c.keys.foldl (fun s k => takeRef x.part k.1 k.2 s) (arrived f 0x40 s)).prism.cmds ++ [c], order := (c.keys.foldl (fun s k => takeRef x.part k.1 k.2 s) (arrived f 0x40 s)).prism.order + 1 } }
       else spillAnswer f.src [] (arrived f 0x40 s)))) ∧
  (∀ (s : State) (f : Frame) (header payload seed : Bytes) (v : List (Nat × Nat)) (o : OpSpec), (delivered f 0x40 s) → (opSpec (forwardReq (arrived f 0x40 s) header payload).opcode = some o) → (paymentGroup (forwardReq (arrived f 0x40 s) header payload).opcode = true) → ((getPart (arrived f 0x40 s) (forwardReq (arrived f 0x40 s) header payload).part).state = .active) → ((spillCmd (arrived f 0x40 s) o (forwardReq (arrived f 0x40 s) header payload) f.src v seed).keys.all (fun k => (versionVal (arrived f 0x40 s) (forwardReq (arrived f 0x40 s) header payload).part k.1 k.2).isSome) = true) →
     ∃ t, exec (.spill f header payload v seed) s = .next t ∧ (∃ c ∈ t.prism.cmds, c.spillFrom = some f.src)) ∧
  (∀ (s : State) (f : Frame) (r : CmdRef) (c : Cmd) (x : Bool) (st : BitVec 16) (b : Bytes), (delivered f 0x41 s) → (findCmd (arrived f 0x41 s) r = some c) → (c.spilled.isSome = true) → (c.result = none) →
     exec (.spillReply f r x st b) s = .next (settled f 0x41 (if x = true then endCmd r st b (modCmd r (fun c => { c with spilled := none }) (arrived f 0x41 s)) else modCmd r (fun c => { c with spilled := none }) (arrived f 0x41 s)))) ∧
  (∀ (s : State) (f : Frame) (r : CmdRef) (c : Cmd) (st : BitVec 16) (b : Bytes), (delivered f 0x41 s) → (findCmd (arrived f 0x41 s) r = some c) → (c.spilled.isSome = true) → (c.result = none) →
     ∃ t, exec (.spillReply f r true st b) s = .next t ∧ endedWith t r st b) ∧
  (∀ (s : State) (f : Frame) (r : CmdRef) (x : Bool) (st : BitVec 16) (b : Bytes), (delivered f 0x41 s) → (∀ c, findCmd (arrived f 0x41 s) r = some c → c.spilled = none ∨ c.result ≠ none) →
     exec (.spillReply f r x st b) s = .next (settled f 0x41 ((arrived f 0x41 s)))) ∧
  (∀ (s : State) (r : CmdRef) (c : Cmd) (n : Nat), (findCmd s r = some c) → (c.spilled = some n) → (n + 200000 ≤ s.clk.ns) →
     exec (.spillTimeout r) s = .next (modCmd r (fun c => { c with spilled := none }) s)) ∧
  (∀ (s : State) (r : CmdRef), (∀ c n, findCmd s r = some c → c.spilled = some n → s.clk.ns < n + 200000) →
     exec (.spillTimeout r) s = .next s) ∧
  (∀ (role : Bool) (s : State), ((let r := leaseOf s role; s.ilu.leaseMode && s.ilu.formed && r.acts && r.holder == s.ilu.position && decide (r.sent + leaseLen s / 2 ≤ s.clk.ns) && decide (r.asked ≤ r.sent) && mayAct s role) = false) →
     exec (.leaseRenewal role) s = .next s) ∧
  (∀ (role : Bool) (s : State), ((s.ilu.leaseMode && (leaseOf s role).acts && !mayAct s role) = false) →
     exec (.leaseWindowEnd role) s = .next s) ∧
  (∀ (role : Bool) (s : State), ((s.ilu.leaseMode && decide ((leaseOf s role).expiry ≤ s.clk.ns) && (leaseOf s role).votes != 0) = false) →
     exec (.leaseRecordExpiry role) s = .next s) ∧
  (∀ (role : Bool) (s : State), ((let r := leaseOf s role; s.ilu.leaseMode && s.ilu.formed && !r.acts && decide (r.expiry + rttMax s + 1000 + 4 * rttMax s * takeoverTurn s r.holder ≤ s.clk.ns)) = false) →
     exec (.leaseTakeover role) s = .next s)

/-- The device commands answer, change and wait as the spec says once their turn has come. Rests also on the choices of the model in log entries 83, 91, 98. (R284, R285, R286, R287, R428) -/
def Obligations.DeviceCommandsEndAsSpecified : Prop :=
  (∀ (s : State) (r : CmdRef) (c : Cmd), (AtWork 0x0101 s r c) →
     ∃ t, exec (.deviceStatus r) s = .next t ∧ endedWith t r stOk (statusReply s)) ∧
  (∀ (s : State) (r : CmdRef) (c : Cmd), (AtWork 0x0102 s r c) → (jFind s c.ref.part ((reqOf c).pay 0 2) (BitVec.ofNat 64 ((reqOf c).pay 8 8)) = none) →
     ∃ t, exec (.deviceAbort r) s = .next t ∧ endedWith t r stOk ([2, 0, 0, 0])) ∧
  (∀ (s : State) (r : CmdRef) (c : Cmd) (i : Nat) (e : JEntry), (AtWork 0x0102 s r c) → (jFind s c.ref.part ((reqOf c).pay 0 2) (BitVec.ofNat 64 ((reqOf c).pay 8 8)) = some (i, e)) → (neverAborted e.opcode.toNat = true) →
     ∃ t, exec (.deviceAbort r) s = .next t ∧ endedWith t r stOk ([3, 0, 0, 0])) ∧
  (∀ (s : State) (r : CmdRef) (c : Cmd) (i : Nat) (e : JEntry), (AtWork 0x0102 s r c) → (jFind s c.ref.part ((reqOf c).pay 0 2) (BitVec.ofNat 64 ((reqOf c).pay 8 8)) = some (i, e)) → (neverAborted e.opcode.toNat = false) → (e.done = true) →
     ∃ t, exec (.deviceAbort r) s = .next t ∧ endedWith t r stOk ([1, 0, 0, 0])) ∧
  (∀ (s : State) (r : CmdRef) (c : Cmd), (AtWork 0x0103 s r c) → ((getDomain s (dmDomain (reqOf c))).on = dmOn (reqOf c)) →
     ∃ t, exec (.deviceDomain r) s = .next t ∧ endedWith t r stOk (domainReply s (dmDomain (reqOf c)))) ∧
  (∀ (s : State) (r : CmdRef) (c : Cmd), (AtWork 0x0103 s r c) → ((getDomain s (dmDomain (reqOf c))).on = false) → (dmOn (reqOf c) = true) → (s.hzn.calCmd = none) →
     ∃ t, exec (.deviceDomain r) s = .next t ∧ underWay t r ∧
       (getDomain t (dmDomain (reqOf c))).on = true ∧ (getDomain t (dmDomain (reqOf c))).testing = true ∧ (getDomain t (dmDomain (reqOf c))).katPass = false) ∧
  (∀ (s : State) (r : CmdRef) (c : Cmd), (AtWork 0x0103 s r c) → ((getDomain s (dmDomain (reqOf c))).on = true) → (dmOn (reqOf c) = false) → (s.hzn.calCmd = none) →
     ∃ t, exec (.deviceDomain r) s = .next t ∧ underWay t r ∧
       (getDomain t (dmDomain (reqOf c))).on = true ∧ (getDomain t (dmDomain (reqOf c))).draining = some s.clk.ns) ∧
  (∀ (s : State) (r : CmdRef) (c : Cmd), (AtWork 0x0104 s r c) →
     ∃ t, exec (.deviceRequalify r true) s = .next t ∧ endedWith t r stOk (zeros 4) ∧ t.flt.retired.look (chanKey (rqChannel (reqOf c))) = none ∧ t.flt.strikes.look (chanKey (rqChannel (reqOf c))) = none) ∧
  (∀ (s : State) (r : CmdRef) (c : Cmd), (AtWork 0x0104 s r c) → (s.hzn.calCmd = none) →
     ∃ t, exec (.deviceRequalify r false) s = .next t ∧ endedWith t r stFault []) ∧
  (∀ (s : State) (r : CmdRef) (c : Cmd), (AtWork 0x0105 s r c) →
     ∃ t, exec (.deviceCalibrate r) s = .next t ∧ underWay t r ∧ t.hzn.calCmd = some r ∧ t.hzn.calNs = s.clk.ns)

/-- SESSION_OPEN, SESSION_CLOSE, SESSION_QUERY, JOURNAL_READ and JOURNAL_FIND end as the spec says. Rests also on the choices of the model in log entries 16, 110. (R86, R88, R89, R288) -/
def Obligations.SessionAndJournalCommandsEndAsSpecified : Prop :=
  (∀ (s : State) (r : CmdRef) (c : Cmd), (AtWork 0x0201 s r c) → (c.transient = none) →
     ∃ t, exec (.sessionOpen r) s = .next t ∧ endedWith t r stFlowLimit ([])) ∧
  (∀ (s : State) (r : CmdRef) (c : Cmd) (i : Nat), (AtWork 0x0201 s r c) → (c.transient = some i) →
     ∃ t, exec (.sessionOpen r) s = .next t ∧ endedWith t r stOk (toLe 4 (mkHandle i (getSess s i).tag).toNat ++ toLe 4 (ctxFree s c.ref.part)) ∧
       (getSess t i).transient = false ∧ (getSess t i).idle = (if (reqOf c).pay 0 4 = 0 then 300 else (reqOf c).pay 0 4) ∧ (getSess t i).lastUse = s.hzn.time ∧ (getSess t i).tag = (getSess s i).tag ∧ (getSess t i).allocated = (getSess s i).allocated) ∧
  (∀ (s : State) (r : CmdRef) (c : Cmd), (AtWork 0x0202 s r c) → (sessionStands s c = true) →
     ∃ t, exec (.sessionClose r) s = .next t ∧ endedWith t r stOk [] ∧ (getSess t (handleIndex c.handle)).allocated = false ∧ (getSess t (handleIndex c.handle)).tag = nextTag (getSess s (handleIndex c.handle)).tag) ∧
  (∀ (s : State) (r : CmdRef) (c : Cmd), (AtWork 0x0202 s r c) → (sessionStands s c = false) →
     ∃ t, exec (.sessionClose r) s = .next t ∧ endedWith t r stSessionLost ([])) ∧
  (∀ (s : State) (r : CmdRef) (c : Cmd), (AtWork 0x0203 s r c) → (sessionStands s c = true) →
     ∃ t, exec (.sessionQuery r) s = .next t ∧ endedWith t r stOk (toLe 4 ((getSess s (handleIndex c.handle)).outstanding - 1) ++ toLe 4 (getSess s (handleIndex c.handle)).idle ++ toLe 8 (getSess s (handleIndex c.handle)).lastUse.toNat)) ∧
  (∀ (s : State) (r : CmdRef) (c : Cmd), (AtWork 0x0203 s r c) → (sessionStands s c = false) →
     ∃ t, exec (.sessionQuery r) s = .next t ∧ endedWith t r stSessionLost ([])) ∧
  (∀ (s : State) (c : Cmd),
     sessionStands s c = true ↔ (getSess s (handleIndex c.handle)).allocated = true ∧ (getSess s (handleIndex c.handle)).transient = false ∧ (getSess s (handleIndex c.handle)).tag.toNat = handleTag c.handle) ∧
  (∀ (s : State) (r : CmdRef) (c : Cmd), (AtWork 0x0B01 s r c) →
     ∃ t, exec (.journalRead r) s = .next t ∧ endedWith t r stOk (toLe 2 (getPart s c.ref.part).jnext.toNat ++ toLe 1 (b2n (getPart s c.ref.part).jwrapped) ++ [0] ++ toLe 2 s.hzn.epoch.toNat ++ zeros 10 ++ ((List.range ((reqOf c).pay 2 2)).map (fun i => jEntryAt s c.ref.part ((reqOf c).pay 0 2 + i))).flatten)) ∧
  (∀ (s : State) (r : CmdRef) (c : Cmd), (AtWork 0x0B02 s r c) → (jFind s c.ref.part ((reqOf c).pay 0 2) (BitVec.ofNat 64 ((reqOf c).pay 8 8)) = none) →
     ∃ t, exec (.journalFind r) s = .next t ∧ endedWith t r stOk (zeros 72)) ∧
  (∀ (s : State) (r : CmdRef) (c : Cmd) (i : Nat) (e : JEntry), (AtWork 0x0B02 s r c) → (jFind s c.ref.part ((reqOf c).pay 0 2) (BitVec.ofNat 64 ((reqOf c).pay 8 8)) = some (i, e)) →
     ∃ t, exec (.journalFind r) s = .next t ∧ endedWith t r stOk ([1, 0] ++ toLe 2 i ++ zeros 4 ++ jBytes e))

/-- The partition commands move a partition between its states, and a condition that no longer holds refuses them. Rests also on the choices of the model in log entries 9, 17, 24, 105. (R113, R121, R262, R281, R286, R385, R461) -/
def Obligations.PartitionCommandsChangePartitions : Prop :=
  (∀ (s : State) (r : CmdRef) (c : Cmd), (AtWork 0x0C01 s r c) → (ownCreate s (reqOf c) = none) →
     ∃ t, exec (.partitionCreate r) s = .next t ∧ endedWith t r stOk (zeros 4) ∧ (getPart t ((reqOf c).pay 0 2)).state = .active ∧ (getPart t ((reqOf c).pay 0 2)).policy = bsub c.payload 8 432 ∧
       (getPart t ((reqOf c).pay 0 2)).threshold = (reqOf c).pay 4 1 ∧ (getPart t ((reqOf c).pay 0 2)).officers = (pcRecs (reqOf c)).map officerOf) ∧
  (∀ (s : State) (r : CmdRef) (c : Cmd), (AtWork 0x0C01 s r c) → (ownCreate s (reqOf c) = some stPolicyDenied) →
     ∃ t, exec (.partitionCreate r) s = .next t ∧ endedWith t r stPolicyDenied []) ∧
  (∀ (s : State) (r : CmdRef) (c : Cmd), (AtWork 0x0C02 s r c) → (ownState .disabled false s (reqOf c) = none) →
     ∃ t, exec (.partitionEnable r) s = .next t ∧ endedWith t r stOk (zeros 4) ∧ (getPart t ((reqOf c).pay 0 2)).state = .active ∧ (getPart t ((reqOf c).pay 0 2)).gen = (getPart s ((reqOf c).pay 0 2)).gen) ∧
  (∀ (s : State) (r : CmdRef) (c : Cmd), (AtWork 0x0C02 s r c) → (ownState .disabled false s (reqOf c) = some stPolicyDenied) →
     ∃ t, exec (.partitionEnable r) s = .next t ∧ endedWith t r stPolicyDenied []) ∧
  (∀ (s : State) (r : CmdRef) (c : Cmd), (AtWork 0x0C03 s r c) → (ownState .active true s (reqOf c) = none) →
     ∃ t, exec (.partitionDisable r) s = .next t ∧ endedWith t r stOk (zeros 4) ∧ (getPart t ((reqOf c).pay 0 2)).state = .disabled ∧ (getPart t ((reqOf c).pay 0 2)).gen = (getPart s ((reqOf c).pay 0 2)).gen + 1) ∧
  (∀ (s : State) (r : CmdRef) (c : Cmd), (AtWork 0x0C04 s r c) → (ownState .disabled false s (reqOf c) = none) → ((reqOf c).pay 0 2 ≠ r.part) →
     ∃ t, exec (.partitionDestroy r) s = .next t ∧ endedWith t r stOk (zeros 4) ∧ (getPart t ((reqOf c).pay 0 2)).state = .empty ∧ (getPart t ((reqOf c).pay 0 2)).officers = [] ∧ (∀ e ∈ t.ks.keys, e.1 / 2 ^ 32 ≠ (reqOf c).pay 0 2)) ∧
  (∀ (s : State) (r : CmdRef) (c : Cmd), (AtWork 0x0C05 s r c) → (ownMap s (reqOf c) = none) →
     ∃ t, exec (.functionMap r) s = .next t ∧ endedWith t r stOk (zeros 4) ∧ (getFn t (fmFn (reqOf c))).mapped = (fmPart (reqOf c) != 0xFFFF) ∧ (fmPart (reqOf c) ≠ 0xFFFF → (getFn t (fmFn (reqOf c))).partition = fmPart (reqOf c) ∧ (getFn t (fmFn (reqOf c))).ringBase = fmBase (reqOf c) ∧ (getFn t (fmFn (reqOf c))).ringCount = fmCount (reqOf c))) ∧
  (∀ (s : State) (r : CmdRef) (c : Cmd), (AtWork 0x0C06 s r c) → (ownPolicySet s (reqOf c) = none) →
     ∃ t, exec (.policySet r) s = .next t ∧ endedWith t r stOk (zeros 4) ∧ (getPart t r.part).policy = c.payload) ∧
  (∀ (s : State) (r : CmdRef) (c : Cmd), (AtWork 0x0C07 s r c) →
     ∃ t, exec (.policyGet r) s = .next t ∧ endedWith t r stOk (padTo 432 (getPart s r.part).policy)) ∧
  (∀ (s : State) (r : CmdRef) (c : Cmd), (AtWork 0x0C08 s r c) → (ownEnrol s (reqOf c) = none) →
     ∃ t, exec (.officerEnrol r) s = .next t ∧ endedWith t r stOk (zeros 4) ∧ (getPart t r.part).threshold = (reqOf c).pay 0 1 ∧ (getPart t r.part).officers = insertOfficer (officerOf (bsub c.payload 4 officerLen)) (getPart s r.part).officers) ∧
  (∀ (s : State) (r : CmdRef) (c : Cmd), (AtWork 0x0C09 s r c) → (ownRemove s (reqOf c) = none) →
     ∃ t, exec (.officerRemove r) s = .next t ∧ endedWith t r stOk (zeros 4) ∧ (getPart t r.part).threshold = (reqOf c).pay 1 1 ∧ (∀ o ∈ (getPart t r.part).officers, o.slot ≠ (reqOf c).pay 0 1)) ∧
  (∀ (s : State) (r : CmdRef) (c : Cmd), (AtWork 0x0C0A s r c) →
     ∃ t, exec (.officerList r) s = .next t ∧ endedWith t r stOk (toLe 1 (getPart s r.part).threshold ++ toLe 1 (getPart s r.part).officers.length ++ zeros 2 ++ ((List.range 16).map (fun i => officerEntry (getPart s r.part).officers (i + 1))).flatten)) ∧
  (∀ (s : State) (r : CmdRef) (c : Cmd), (AtWork 0x0106 s r c) → (ownProvision s (reqOf c) = none) →
     ∃ t, exec (.deviceProvision r) s = .next t ∧ endedWith t r stOk (unitSerial s ++ [1] ++ zeros 3) ∧ t.pm.logP = some ((reqOf c).pay 0 1) ∧ t.ks.mwkGen = 1 ∧ (getPart t 0).state = .active ∧ (getPart t 0).threshold = (reqOf c).pay 1 1 ∧ (getPart t 0).policy = bsub c.payload 4 432) ∧
  (∀ (s : State) (r : CmdRef) (c : Cmd), (AtWork 0x0107 s r c) → (ownTamperArm s (reqOf c) = none) →
     ∃ t, exec (.deviceTamperArm r) s = .next t ∧ endedWith t r stOk (zeros 4) ∧ t.hzn.armExt = bit ((reqOf c).pay 0 1) 0 ∧ t.hzn.armEncl = bit ((reqOf c).pay 0 1) 1 ∧ (bit ((reqOf c).pay 0 1) 0 = false → t.hzn.baselines = s.hzn.baselines))

/-- The ceremony commands open, sign, cancel and show a ceremony as the spec says. Rests also on the choices of the model in log entries 12, 17. (R264, R265, R266, R268, R270) -/
def Obligations.CeremoniesCollectAndAuthorise : Prop :=
  (∀ (s : State) (r : CmdRef) (c : Cmd), (AtWork 0x0C10 s r c) → (ownOpen s (reqOf c) = none) →
     ∃ t, exec (.ceremonyOpen r) s = .next t ∧ endedWith t r stOk (cerBytes (getPart t (cerPart cerOpen (reqOf c))).lock) ∧ (getPart t (cerPart cerOpen (reqOf c))).lock.state = .collecting ∧ (getPart t (cerPart cerOpen (reqOf c))).lock.digest = bsub c.payload 0 32 ∧
       (getPart t (cerPart cerOpen (reqOf c))).lock.id = (getPart s (cerPart cerOpen (reqOf c))).lastCer + 1 ∧ (getPart t (cerPart cerOpen (reqOf c))).lock.officers = (getPart s (cerPart cerOpen (reqOf c))).officers ∧
       (getPart t (cerPart cerOpen (reqOf c))).lock.expiry = hznPlus s 300) ∧
  (∀ (s : State) (r : CmdRef) (c : Cmd) (o : Officer), (AtWork 0x0C11 s r c) → (ownSign s (reqOf c) = none) → (signOfficer (lockNow s (cerPart cerSign (reqOf c))) (reqOf c) = some o) →
     ∃ t, exec (.ceremonySign r) s = .next t ∧ (officerVerify o (cerMessage s (cerPart cerSign (reqOf c)) (lockNow s (cerPart cerSign (reqOf c)))) (c.payload.drop 16) = true →
       endedStatus t r stOk ∧ (getPart t (cerPart cerSign (reqOf c))).lock.signed = (getPart s (cerPart cerSign (reqOf c))).lock.signed ++ [(reqOf c).pay 4 1]) ∧
       (officerVerify o (cerMessage s (cerPart cerSign (reqOf c)) (lockNow s (cerPart cerSign (reqOf c)))) (c.payload.drop 16) = false →
       endedWith t r stVerifyFailed [])) ∧
  (∀ (s : State) (r : CmdRef) (c : Cmd), (AtWork 0x0C12 s r c) → (ownCancel s (reqOf c) = none) →
     ∃ t, exec (.ceremonyCancel r) s = .next t ∧ endedWith t r stOk (zeros 4) ∧ (getPart t (cerPart cerCancel (reqOf c))).lock.state = .free ∧ (getPart t (cerPart cerCancel (reqOf c))).lock.signed = []) ∧
  (∀ (s : State) (r : CmdRef) (c : Cmd), (AtWork 0x0C12 s r c) → (ownCancel s (reqOf c) = some stPolicyDenied) →
     ∃ t, exec (.ceremonyCancel r) s = .next t ∧ endedWith t r stPolicyDenied []) ∧
  (∀ (s : State) (r : CmdRef) (c : Cmd), (AtWork 0x0C13 s r c) → (ownQuery s (reqOf c) = none) →
     ∃ t, exec (.ceremonyQuery r) s = .next t ∧ endedWith t r stOk (queryReply c s))

/-- The migration commands freeze, thaw, offer, export, import and commit a partition as the spec says. Rests also on the choices of the model in log entries 56, 105, 116. (R113, R115, R116, R118, R119, R120, R121) -/
def Obligations.MigrationMovesAPartition : Prop :=
  (∀ (s : State) (r : CmdRef) (c : Cmd), (AtWork 0x0C20 s r c) → (ownFreeze s (reqOf c) = none) →
     ∃ t, exec (.migrateFreeze r) s = .next t ∧ underWay t r ∧ (getPart t ((reqOf c).pay 0 2)).state = .freezing ∧ (getPart t ((reqOf c).pay 0 2)).freezeCmd = some r ∧ (getPart t ((reqOf c).pay 0 2)).freezeNs = s.clk.ns + freezeMs (reqOf c) * 1000000 ∧ (getPart t ((reqOf c).pay 0 2)).gen = (getPart s ((reqOf c).pay 0 2)).gen) ∧
  (∀ (s : State) (r : CmdRef) (c : Cmd), (AtWork 0x0C21 s r c) → (ownThaw s (reqOf c) = none) → ((getPart s ((reqOf c).pay 0 2)).state = .frozen) →
     ∃ t, exec (.migrateThaw r) s = .next t ∧ endedWith t r stOk [] ∧ (getPart t ((reqOf c).pay 0 2)).state = .active ∧ (getPart t ((reqOf c).pay 0 2)).gen = (getPart s ((reqOf c).pay 0 2)).gen) ∧
  (∀ (s : State) (r : CmdRef) (c : Cmd), (AtWork 0x0C21 s r c) → (ownThaw s (reqOf c) = none) → ((getPart s ((reqOf c).pay 0 2)).state = .importing) → ((reqOf c).pay 0 2 ≠ r.part) →
     ∃ t, exec (.migrateThaw r) s = .next t ∧ endedWith t r stOk [] ∧ (getPart t ((reqOf c).pay 0 2)).state = .empty) ∧
  (∀ (s : State) (r : CmdRef) (c : Cmd), (AtWork 0x0C21 s r c) → (ownThaw s (reqOf c) = none) → ((getPart s ((reqOf c).pay 0 2)).state = .exported) →
     ∃ t, exec (.migrateThaw r) s = .next t ∧ endedWith t r stOk [] ∧ (getPart t ((reqOf c).pay 0 2)).state = .active ∧ (getPart t ((reqOf c).pay 0 2)).gen = (getPart s ((reqOf c).pay 0 2)).gen + 1 ∧ (getPart t ((reqOf c).pay 0 2)).blob = none) ∧
  (∀ (s : State) (r : CmdRef) (c : Cmd), (AtWork 0x0C22 s r c) → (ownOffer s (reqOf c) = none) →
     ∃ t, exec (.migrateOffer r) s = .next t ∧ (∃ o, (getPart t ((reqOf c).pay 0 2)).moveOffer = some o ∧ endedWith t r stOk o.body ∧ o.expiry = hznPlus s 600) ∧ t.pm.nextOffer = s.pm.nextOffer + 1) ∧
  (∀ (s : State) (r : CmdRef) (c : Cmd), (AtWork 0x0C23 s r c) →
     ∃ t, exec (.migrateExport r) s = .next t ∧ (ownExport s (reqOf c) = none → offerOk s (reqOf c) = true → endedStatus t r stOk ∧ (getPart t ((reqOf c).pay 0 2)).state = .exported ∧ t.pm.nextExport = s.pm.nextExport + 1) ∧
       (ownExport s (reqOf c) = none → offerOk s (reqOf c) = false → endedWith t r stVerifyFailed [] ∧ (getPart t ((reqOf c).pay 0 2)).state = (getPart s ((reqOf c).pay 0 2)).state) ∧
       (∀ st, ownExport s (reqOf c) = some st → endedWith t r st [])) ∧
  (∀ (s : State) (r : CmdRef) (c : Cmd) (b : Blob), (AtWork 0x0C24 s r c) → (ownExportChunk s (reqOf c) = none) → ((getPart s ((reqOf c).pay 0 2)).blob = some b) →
     ∃ t, exec (.migrateExportChunk r) s = .next t ∧ endedWith t r stOk (b.chunks.getD ((reqOf c).pay 4 4) [])) ∧
  (∀ (s : State) (r : CmdRef) (c : Cmd) (o : Offer), (AtWork 0x0C25 s r c) → (ownImport s (reqOf c) = none) → ((getPart s ((reqOf c).pay 0 2)).moveOffer = some o) → (fld (imHeader (reqOf c)) 0x10 4 ≠ o.id.toNat ∨ o.expiry.toNat ≤ s.hzn.time.toNat) →
     ∃ t, exec (.migrateImport r) s = .next t ∧ endedWith t r stVerifyFailed [] ∧ (getPart t ((reqOf c).pay 0 2)).state = .empty) ∧
  (∀ (s : State) (r : CmdRef) (c : Cmd) (o : Offer), (AtWork 0x0C25 s r c) → (ownImport s (reqOf c) = none) → ((getPart s ((reqOf c).pay 0 2)).moveOffer = some o) → (fld (imHeader (reqOf c)) 0x10 4 = o.id.toNat) → (s.hzn.time.toNat < o.expiry.toNat) →
     ∃ t, exec (.migrateImport r) s = .next t ∧ endedWith t r stOk [] ∧ (getPart t ((reqOf c).pay 0 2)).state = .importing ∧ (getPart t ((reqOf c).pay 0 2)).moveOffer = none) ∧
  (∀ (s : State) (r : CmdRef) (c : Cmd) (g : Staging), (AtWork 0x0C26 s r c) → (ownImporting s (reqOf c) = none) → ((getPart s ((reqOf c).pay 0 2)).staging = some g) → (g.have_.length < g.chunks) →
     ∃ t, exec (.migrateImportChunk r) s = .next t ∧ (∀ d g', openChunk g.key g.id g.have_.length (c.payload.drop 4) = some (d, g') → endedWith t r stOk [] ∧ ∃ u, (getPart t ((reqOf c).pay 0 2)).staging = some u ∧ u.have_ = g.have_ ++ [d] ∧ u.last = s.hzn.time) ∧
       (openChunk g.key g.id g.have_.length (c.payload.drop 4) = none → endedWith t r stVerifyFailed [] ∧ (getPart t ((reqOf c).pay 0 2)).staging = some g)) ∧
  (∀ (s : State) (r : CmdRef) (c : Cmd) (g : Staging), (AtWork 0x0C27 s r c) → (ownImporting s (reqOf c) = none) → ((getPart s ((reqOf c).pay 0 2)).staging = some g) → (importedImage g = none) → ((reqOf c).pay 0 2 ≠ r.part) →
     ∃ t, exec (.migrateImportEnd r) s = .next t ∧ endedWith t r stVerifyFailed [] ∧ (getPart t ((reqOf c).pay 0 2)).state = .empty) ∧
  (∀ (s : State) (r : CmdRef) (c : Cmd), (AtWork 0x0C28 s r c) → (ownCommit s (reqOf c) = none) → (c.payload.length = 4) → ((reqOf c).pay 0 2 ≠ r.part) →
     ∃ t, exec (.migrateCommit r) s = .next t ∧ endedWith t r stOk [] ∧ (getPart t ((reqOf c).pay 0 2)).state = .empty ∧ (∀ e ∈ t.ks.keys, e.1 / 2 ^ 32 ≠ (reqOf c).pay 0 2))

/-- Key generation, import, export, translation, destruction, query and proof act on the keys they name. Rests also on the choices of the model in log entries 23, 51, 53, 54, 107, 119. (R128, R141, R142, R145, R147, R273, R274, R275, R276, R278) -/
def Obligations.KeyCommandsWriteAndReadKeys : Prop :=
  (∀ (s : State) (r : CmdRef) (c : Cmd), (AtWork 0x0301 s r c) →
     ∃ t, exec (.keyGenerate r) s = .next t ∧ endedStatus t r stOk ∧ (getKey t r.part (genOut (reqOf c))).version = (getKey s r.part (genOut (reqOf c))).version + 1 ∧
       ∃ v, (getKey t r.part (genOut (reqOf c))).cur = some v ∧ v.material = genMaterial c (genAttr (reqOf c)).alg.toNat (genAttr (reqOf c)).bits.toNat ∧ v.attr.usage = (genAttr (reqOf c)).usage ∧ v.mwkGen = s.ks.mwkGen) ∧
  (∀ (s : State) (r : CmdRef) (c : Cmd) (v : KeyVal), (AtWork 0x0302 s r c) → (loadKey s c ((reqOf c).key 0) = some v) → (kbpkChk uUnwrap (kbVersion (impBlock (reqOf c))) v.attr = none) →
     ∃ t, exec (.keyImport r) s = .next t ∧ (∀ e, kbOpen v.material (impBlock (reqOf c)) = .error e → endedWith t r e [] ∧ t.ks.nor0 = s.ks.nor0) ∧
       (∀ a m q, kbOpen v.material (impBlock (reqOf c)) = .ok (a, m, q) → importFits s r.part ((reqOf c).key 4) a m = true →
       endedStatus t r stOk ∧ (getKey t r.part ((reqOf c).key 4)).cur.map (fun k => k.material) = some m ∧ (getKey t r.part ((reqOf c).key 4)).version = (getKey s r.part ((reqOf c).key 4)).version + 1) ∧
       (∀ a m q, kbOpen v.material (impBlock (reqOf c)) = .ok (a, m, q) → importFits s r.part ((reqOf c).key 4) a m = false → endedWith t r stPolicyDenied [])) ∧
  (∀ (s : State) (r : CmdRef) (c : Cmd) (k w : KeyVal), (AtWork 0x0303 s r c) → (loadKey s c ((reqOf c).key 0) = some k) → (loadKey s c ((reqOf c).key 4) = some w) → (exportChk (reqOf c) k.attr = none) → (wrapperChk (reqOf c) w.attr = none) → (strengthChk k.attr w.attr = none) → (expFormat (reqOf c) = 0) →
     ∃ t, exec (.keyExport r) s = .next t ∧ endedWith t r stOk (kbBuild (expVersion (reqOf c)) w.material k.attr k.material [] (drawn c 0 256))) ∧
  (∀ (s : State) (r : CmdRef) (c : Cmd) (i o : KeyVal), (AtWork 0x0304 s r c) → (loadKey s c ((reqOf c).key 0) = some i) → (loadKey s c ((reqOf c).key 4) = some o) → (kbpkChk uUnwrap (kbVersion (impBlock (reqOf c))) i.attr = none) → (kbpkChk uWrap (trVersion (reqOf c)) o.attr = none) →
     ∃ t, exec (.keyTranslate r) s = .next t ∧ (∀ e, kbOpen i.material (impBlock (reqOf c)) = .error e → endedWith t r e []) ∧
       (∀ a m q, kbOpen i.material (impBlock (reqOf c)) = .ok (a, m, q) → a.export_ = 0 → endedWith t r stKeyUsage []) ∧
       (∀ a m q, kbOpen i.material (impBlock (reqOf c)) = .ok (a, m, q) → a.export_ ≠ 0 → cmpBits a ≤ cmpBits o.attr → trVersion (reqOf c) = verD →
       endedWith t r stOk (kbBuild (trVersion (reqOf c)) o.material a m (kbCarry q) (drawn c 0 256)))) ∧
  (∀ (s : State) (r : CmdRef) (c : Cmd), (AtWork 0x0305 s r c) → ((getKey s r.part ((reqOf c).key 0)).pending.head? = some r) →
     ∃ t, exec (.keyDestroy r) s = .next t ∧ endedWith t r stOk [] ∧ (getKey t r.part ((reqOf c).key 0)).cur = none ∧ (getKey t r.part ((reqOf c).key 0)).version = (getKey s r.part ((reqOf c).key 0)).version + 1) ∧
  (∀ (s : State) (r : CmdRef) (c : Cmd) (v : KeyVal), (AtWork 0x0306 s r c) → ((getKey s r.part ((reqOf c).key 0)).cur = some v) → ((getKey s r.part ((reqOf c).key 0)).failed = false) →
     ∃ t, exec (.keyQuery r) s = .next t ∧ endedWith t r stOk (attrBytes v.attr ++ toLe 2 (getKey s r.part ((reqOf c).key 0)).version.toNat ++ padTo 3 ((kcv v.attr.alg v.material).getD []) ++ toLe 1 (queryState (getKey s r.part ((reqOf c).key 0))) ++ zeros 2)) ∧
  (∀ (s : State) (r : CmdRef) (c : Cmd), (AtWork 0x0306 s r c) → ((getKey s r.part ((reqOf c).key 0)) = keyEmpty) →
     ∃ t, exec (.keyQuery r) s = .next t ∧ endedWith t r stOk (zeros 16 ++ [0, 0, 0, 0, 0, 0, 0, 0])) ∧
  (∀ (s : State) (r : CmdRef) (c : Cmd), (AtWork 0x030A s r c) → (loadKey s c ((reqOf c).key 0) = none) →
     ∃ t, exec (.keyProve r) s = .next t ∧ endedWith t r stKeyNotFound ([])) ∧
  (∀ (s : State) (r : CmdRef) (c : Cmd) (v : KeyVal), (AtWork 0x030A s r c) → (loadKey s c ((reqOf c).key 0) = some v) → (proveChk v.attr = none) →
     ∃ t, exec (.keyProve r) s = .next t ∧ endedWith t r stOk (drawn c 0 16 ++ (hmac 0x02 (hmac 0x02 v.material (ascii "ULGUS-PROVE" ++ [v.attr.alg] ++ toLe 2 v.attr.bits.toNat)) (bsub c.payload 8 32 ++ unitSerial s ++ toLe 4 ((reqOf c).pay 0 4) ++ drawn c 0 16)).take 16))

/-- Tokens are loaded, reissued and revoked, and the master wrapping key changes generation. Rests also on the choices of the model in log entries 51, 52, 55, 117, 129. (R137, R139, R149, R277, R280) -/
def Obligations.TokensAndTheMasterKey : Prop :=
  (∀ (s : State) (r : CmdRef) (c : Cmd), (AtWork 0x0307 s r c) →
     ∃ t, exec (.keyTokenLoad r) s = .next t ∧ (openToken s r.part ((reqOf c).key 0) (c.payload.drop 8) = none → endedWith t r stVerifyFailed []) ∧
       (∀ v, openToken s r.part ((reqOf c).key 0) (c.payload.drop 8) = some v → endedStatus t r stOk ∧ (getKey t r.part ((reqOf c).key 0)).cur = some { v with mwkGen := s.ks.mwkGen } ∧ (getKey t r.part ((reqOf c).key 0)).version = (getKey s r.part ((reqOf c).key 0)).version + 1)) ∧
  (∀ (s : State) (r : CmdRef) (c : Cmd) (v : KeyVal), (AtWork 0x0308 s r c) → (loadKey s c ((reqOf c).key 0) = some v) →
     ∃ t, exec (.keyTokenReissue r) s = .next t ∧ endedWith t r stOk (tokenBytes s r.part ((reqOf c).key 0) { v with epoch := epochOf s r.part + 1, mwkGen := s.ks.mwkGen }) ∧ epochOf t r.part = epochOf s r.part) ∧
  (∀ (s : State) (r : CmdRef) (c : Cmd), (AtWork 0x0309 s r c) →
     ∃ t, exec (.keyTokenRevoke r) s = .next t ∧ endedWith t r stOk (toLe 4 (epochOf s r.part + 1).toNat) ∧ epochOf t r.part = epochOf s r.part + 1) ∧
  (∀ (s : State) (r : CmdRef) (c : Cmd), (AtWork 0x030B s r c) →
     ∃ t, exec (.keyMwkChange r) s = .next t ∧ endedWith t r stOk ([nextGen s.ks.mwkGen] ++ zeros 3) ∧ t.ks.mwk = drawn c 0 32 ∧ t.ks.mwkPrev = s.ks.mwk ∧ t.ks.mwkGen = nextGen s.ks.mwkGen ∧ t.ks.prevPresent = true ∧ t.ks.rewrap = true) ∧
  (∀ (s : State) (r : CmdRef) (c : Cmd), (AtWork 0x030C s r c) →
     ∃ t, exec (.keyMwkClearPrevious r) s = .next t ∧ endedWith t r stOk (zeros 4) ∧ t.ks.mwkPrev = zeros 32 ∧ t.ks.prevPresent = false ∧ t.ks.mwk = s.ks.mwk) ∧
  (∀ (s : State) (x : Req),
     (s.ks.prevPresent = true → specMwkChange.own s x = some stPolicyDenied) ∧ (s.ks.rewrap = true → specMwkClear.own s x = some stPolicyDenied))

/-- TR-34, backup and restore issue, open, stage and write keys as the spec says. Rests also on the choices of the model in log entries 12, 52, 56, 118. (R139, R151, R279, R280) -/
def Obligations.TransportBackupAndRestore : Prop :=
  (∀ (s : State) (r : CmdRef) (c : Cmd), (AtWork 0x0310 s r c) →
     ∃ t, exec (.keyTr34Nonce r) s = .next t ∧ endedWith t r stOk (toLe 4 (getPart s r.part).nextNonce.toNat ++ drawn c 0 16) ∧ (getPart t r.part).nonces = (getPart s r.part).nonces ++ [{ id := (getPart s r.part).nextNonce, value := drawn c 0 16, issued := s.hzn.time }] ∧ (getPart t r.part).nextNonce = (getPart s r.part).nextNonce + 1) ∧
  (∀ (s : State) (r : CmdRef) (c : Cmd) (k d : KeyVal), (AtWork 0x0311 s r c) → (loadKey s c ((reqOf c).key 0) = some k) → (loadKey s c ((reqOf c).key 4) = some d) → (k.attr.export_ ≠ 0) → (rsaKeyChk uSign d.attr = none) →
     ∃ t, exec (.keyTr34Export r) s = .next t ∧ endedWith t r stOk (Config.tr34Build d.material (teCert (reqOf c)) ([verD] ++ ascii "0000" ++ padTo 2 k.attr.x9Usage ++ [algChar k.attr.alg, k.attr.mode] ++ keyVersionChars k.attr.keyVersion ++ [exportChar k.attr.export_] ++ ascii "0000") (kbMaterial k.attr k.material) (bsub c.payload 0xC 16) (if (reqOf c).pay 8 1 = 1 then toLe 8 s.hzn.time.toNat else []) (drawn c 0 96))) ∧
  (∀ (s : State) (r : CmdRef) (c : Cmd) (k : KeyVal) (n : Nonce), (AtWork 0x0312 s r c) → (loadKey s c ((reqOf c).key 0) = some k) → (rsaKeyChk uDecrypt k.attr = none) → ((getPart s r.part).nonces.find? (fun m => m.id == ((reqOf c).key 8)) = some n) →
     ∃ t, exec (.keyTr34Import r) s = .next t ∧ (∀ m ∈ (getPart t r.part).nonces, m.id ≠ n.id) ∧
       (Config.tr34Signed (tiCert (reqOf c)) (tiToken (reqOf c)) = false → endedWith t r stVerifyFailed []) ∧
       (n.issued.toNat + secTicks 600 ≤ s.hzn.time.toNat → endedWith t r stVerifyFailed [])) ∧
  (∀ (s : State) (r : CmdRef) (c : Cmd) (k : KeyVal), (AtWork 0x0312 s r c) → (loadKey s c ((reqOf c).key 0) = some k) → (rsaKeyChk uDecrypt k.attr = none) → ((getPart s r.part).nonces.find? (fun m => m.id == ((reqOf c).key 8)) = none) →
     ∃ t, exec (.keyTr34Import r) s = .next t ∧ endedWith t r stVerifyFailed ([])) ∧
  (∀ (s : State) (r : CmdRef) (c : Cmd), (AtWork 0x0318 s r c) → (backupTurn s r = true) →
     ∃ t, exec (.keyBackup r) s = .next t ∧ endedStatus t r stOk ∧ (∃ b, (getPart t r.part).backup = some b ∧ b.id = (getPart s r.part).nextBackup ∧ b.nextRead = 0 ∧ b.issued = s.hzn.time) ∧ (getPart t r.part).nextBackup = (getPart s r.part).nextBackup + 1) ∧
  (∀ (s : State) (r : CmdRef) (c : Cmd) (b : Blob) (d : Bytes), (AtWork 0x0319 s r c) → ((getPart s r.part).backup = some b) → (b.chunks[(reqOf c).pay 4 4]? = some d) →
     ∃ t, exec (.keyBackupChunk r) s = .next t ∧ endedWith t r stOk (d) ∧ ((reqOf c).pay 4 4 + 1 = b.chunks.length → (getPart t r.part).backup = none) ∧ ((reqOf c).pay 4 4 + 1 ≠ b.chunks.length → (getPart t r.part).backup = some { b with nextRead := (reqOf c).pay 4 4 + 1 })) ∧
  (∀ (s : State) (r : CmdRef) (c : Cmd), (AtWork 0x031A s r c) →
     ∃ t, exec (.keyRestoreOffer r) s = .next t ∧ (∃ o, (getPart t r.part).keyOffer = some o ∧ endedWith t r stOk o.body ∧ o.expiry = hznPlus s 600) ∧ t.pm.nextOffer = s.pm.nextOffer + 1) ∧
  (∀ (s : State) (r : CmdRef) (c : Cmd), (AtWork 0x031B s r c) → ((getPart s r.part).keyOffer = none) →
     ∃ t, exec (.keyRestore r) s = .next t ∧ endedWith t r stVerifyFailed ([])) ∧
  (∀ (s : State) (r : CmdRef) (c : Cmd) (o : Offer), (AtWork 0x031B s r c) → ((getPart s r.part).keyOffer = some o) → (o.id = ((reqOf c).key 0)) → (s.hzn.time.toNat < o.expiry.toNat) →
     ∃ t, exec (.keyRestore r) s = .next t ∧ (getPart t r.part).keyOffer = none ∧
       ((∃ i, i < rsCount (reqOf c) ∧ openShare (o.secret.take 64) ((reqOf c).key 4) (rsShare (reqOf c) i) = none) → endedWith t r stVerifyFailed []) ∧
       ((∀ i, i < rsCount (reqOf c) → openShare (o.secret.take 64) ((reqOf c).key 4) (rsShare (reqOf c) i) ≠ none) → endedWith t r stOk (zeros 4) ∧ ∃ g, (getPart t r.part).restore = some g ∧ g.id = ((reqOf c).key 4) ∧ g.chunks = (reqOf c).pay 8 4 ∧ g.have_ = [])) ∧
  (∀ (s : State) (r : CmdRef) (c : Cmd) (g : Staging), (AtWork 0x031C s r c) → ((getPart s r.part).restore = some g) → (g.have_.length < g.chunks) →
     ∃ t, exec (.keyRestoreChunk r) s = .next t ∧ (∀ d a, openChunk g.key g.id g.have_.length c.payload = some (d, a) → endedWith t r stOk (zeros 4) ∧ ∃ u, (getPart t r.part).restore = some u ∧ u.have_ = g.have_ ++ [d]) ∧
       (openChunk g.key g.id g.have_.length c.payload = none → endedWith t r stVerifyFailed [] ∧ (getPart t r.part).restore = some g)) ∧
  (∀ (s : State) (r : CmdRef) (c : Cmd) (g : Staging), (AtWork 0x031D s r c) → ((getPart s r.part).restore = some g) →
     ∃ t, exec (.keyRestoreEnd r) s = .next t ∧ (stagedKeys g = none → endedWith t r stVerifyFailed [] ∧ (getPart t r.part).restore = none) ∧
       (∀ l, stagedKeys g = some l → endedStatus t r stOk ∧ (getPart t r.part).restore = none ∧ epochOf t r.part = epochOf s r.part + 1))

/-- SYM_ENCRYPT and SYM_DECRYPT reply the text under the key, with the tag of GCM, and keep the stream in the save area. Rests also on the choices of the model in log entries 12, 44, 45, 111, 112. (R166, R167, R171, R172, R173, R176, R177, R178, R180, R181) -/
def Obligations.CiphersRunOneShotAndAsStreams : Prop :=
  (∀ (s : State) (r : CmdRef) (c : Cmd) (v : KeyVal), (AtWork 0x0401 s r c) → (loadKey s c ((reqOf c).key 0) = some v) → (symKeyChk true (reqOf c) v.attr = none) → (symMode (reqOf c) ≠ 7) →
     ∃ t, exec (.symEncrypt r) s = .next t ∧ endedWith t r stOk (symHeader (symText (reqOf c)).length ((symIn s true c).prev.length + (symText (reqOf c)).length) 0 [] [] ++ symOut true (reqOf c) v (symIn s true c) (symText (reqOf c))) ∧ (c.handle ≠ 0 → (reqOf c).pay 5 1 = 1 ∨ (reqOf c).pay 5 1 = 2 → saveOf t c = saveOf s c) ∧ (c.handle ≠ 0 → (reqOf c).pay 5 1 = 0 ∨ (reqOf c).pay 5 1 = 3 → (saveOf t c).wrapped = none)) ∧
  (∀ (s : State) (r : CmdRef) (c : Cmd) (v : KeyVal), (AtWork 0x0401 s r c) → (loadKey s c ((reqOf c).key 0) = some v) → (symKeyChk true (reqOf c) v.attr = none) → (symMode (reqOf c) = 7) →
     ∃ t, exec (.symEncrypt r) s = .next t ∧ endedWith t r stOk (symHeader (symText (reqOf c)).length ((symIn s true c).prev.length + (symText (reqOf c)).length) 0 (if (reqOf c).pay 5 1 ≤ 1 then (symIn s true c).iv else [])
       (if (reqOf c).pay 5 1 = 0 ∨ (reqOf c).pay 5 1 = 3 then (gcmTag v.material (symIn s true c).iv (symIn s true c).aad (modeRun 7 true v.attr.alg v.material (symIn s true c).iv ((symIn s true c).prev ++ symText (reqOf c)))).take ((reqOf c).pay 6 1) else []) ++ symOut true (reqOf c) v (symIn s true c) (symText (reqOf c))) ∧ (c.handle ≠ 0 → (reqOf c).pay 5 1 = 1 ∨ (reqOf c).pay 5 1 = 2 → saveOf t c = saveOf s c) ∧ (c.handle ≠ 0 → (reqOf c).pay 5 1 = 0 ∨ (reqOf c).pay 5 1 = 3 → (saveOf t c).wrapped = none)) ∧
  (∀ (s : State) (r : CmdRef) (c : Cmd) (v : KeyVal), (AtWork 0x0402 s r c) → (loadKey s c ((reqOf c).key 0) = some v) → (symKeyChk false (reqOf c) v.attr = none) → (symMode (reqOf c) ≠ 7) →
     ∃ t, exec (.symDecrypt r) s = .next t ∧ endedWith t r stOk (symHeader (symText (reqOf c)).length ((symIn s false c).prev.length + (symText (reqOf c)).length) 0 [] [] ++ symOut false (reqOf c) v (symIn s false c) (symText (reqOf c))) ∧ (c.handle ≠ 0 → (reqOf c).pay 5 1 = 1 ∨ (reqOf c).pay 5 1 = 2 → saveOf t c = saveOf s c) ∧ (c.handle ≠ 0 → (reqOf c).pay 5 1 = 0 ∨ (reqOf c).pay 5 1 = 3 → (saveOf t c).wrapped = none)) ∧
  (∀ (s : State) (r : CmdRef) (c : Cmd) (v : KeyVal), (AtWork 0x0402 s r c) → (loadKey s c ((reqOf c).key 0) = some v) → (symKeyChk false (reqOf c) v.attr = none) → (symMode (reqOf c) = 7) →
     ∃ t, exec (.symDecrypt r) s = .next t ∧ ((gcmTag v.material (symIn s false c).iv (symIn s false c).aad (symText (reqOf c))).take ((reqOf c).pay 6 1) = bsub c.payload 0x30 ((reqOf c).pay 6 1) → endedWith t r stOk (symHeader (symText (reqOf c)).length ((symIn s false c).prev.length + (symText (reqOf c)).length) 0 [] [] ++ symOut false (reqOf c) v (symIn s false c) (symText (reqOf c)))) ∧
       ((gcmTag v.material (symIn s false c).iv (symIn s false c).aad (symText (reqOf c))).take ((reqOf c).pay 6 1) ≠ bsub c.payload 0x30 ((reqOf c).pay 6 1) → endedWith t r stVerifyFailed (symHeader (symText (reqOf c)).length ((symIn s false c).prev.length + (symText (reqOf c)).length) 0 [] []))) ∧
  (∀ (s : State) (r : CmdRef) (c : Cmd) (st : Status), (AtEnd 0x0401 s r c st) →
     ∃ t, exec (.symEncrypt r) s = .next t ∧ (let d := symSplit (reqOf c) (committed c); let i := symIn s true c; let n := d.2.length; let k := if st = stAborted then c.abort.getD 0 else 0;
       (loadKey s c ((reqOf c).key 0) = none → endedWith t r st (symHeader n (i.prev.length + n) k [] [])) ∧ (∀ v, loadKey s c ((reqOf c).key 0) = some v → endedWith t r st (symHeader n (i.prev.length + n) k (if symMode (reqOf c) = 7 ∧ (reqOf c).pay 5 1 ≤ 1 ∧ 0 < d.1 + n then i.iv else []) [] ++ (if st = stAborted then symOut true (reqOf c) v i d.2 else []))))) ∧
  (∀ (s : State) (r : CmdRef) (c : Cmd) (st : Status), (AtEnd 0x0402 s r c st) →
     ∃ t, exec (.symDecrypt r) s = .next t ∧ (let d := symSplit (reqOf c) (committed c); let i := symIn s false c; let n := d.2.length; let k := if st = stAborted then c.abort.getD 0 else 0;
       (loadKey s c ((reqOf c).key 0) = none → endedWith t r st (symHeader n (i.prev.length + n) k [] [])) ∧ (∀ v, loadKey s c ((reqOf c).key 0) = some v → endedWith t r st (symHeader n (i.prev.length + n) k [] [] ++ (if st = stAborted ∧ ¬ (symMode (reqOf c) = 7 ∧ false = false) then symOut false (reqOf c) v i d.2 else []))))) ∧
  (∀ (s : State) (r : CmdRef) (c : Cmd), (AtWork 0x0401 s r c) → (loadKey s c ((reqOf c).key 0) = none) →
     ∃ t, exec (.symEncrypt r) s = .next t ∧ endedWith t r stKeyNotFound (symHeader 0 (symIn s true c).prev.length 0 [] [])) ∧
  (∀ (s : State) (r : CmdRef) (c : Cmd), (AtWork 0x0402 s r c) → (loadKey s c ((reqOf c).key 0) = none) →
     ∃ t, exec (.symDecrypt r) s = .next t ∧ endedWith t r stKeyNotFound (symHeader 0 (symIn s false c).prev.length 0 [] [])) ∧
  (∀ (s : State) (c : Cmd) (g m : Nat) (off : Nat),
     (stream23 (reqOf c) = false → streamCause s c g m off = none) ∧ (stream23 (reqOf c) = true → let a := saveOf s c;
       (a.wrapped = none → streamCause s c g m off = some 4) ∧ (a.wrapped ≠ none → a.group.toNat ≠ g ∨ a.modeAlg.toNat ≠ m ∨ a.key ≠ ((reqOf c).key 0) → streamCause s c g m off = some 7) ∧
       (a.wrapped ≠ none → a.group.toNat = g → a.modeAlg.toNat = m → a.key = ((reqOf c).key 0) → a.offset ≠ off → streamCause s c g m off = some 3) ∧
       (a.wrapped ≠ none → a.group.toNat = g → a.modeAlg.toNat = m → a.key = ((reqOf c).key 0) → a.offset = off → a.key ≠ 0 → a.keyVersion ≠ loadVersion c a.key → streamCause s c g m off = some 5) ∧
       (a.wrapped ≠ none → a.group.toNat = g → a.modeAlg.toNat = m → a.key = ((reqOf c).key 0) → a.offset = off → a.key = 0 ∨ a.keyVersion = loadVersion c a.key → streamCause s c g m off = none))) ∧
  (∀ (s : State) (c : Cmd) (e : Bool) (alg : BitVec 8) (n : Nat),
     (let a := symSave s e c alg n; let d := symSplit (reqOf c) n; let i := symIn s e c;
       a.wrapped = some true ∧ a.absorbed = i.prev ++ d.2 ∧ a.offset = i.prev.length + d.2.length ∧ a.iv = i.iv ∧ a.key = (reqOf c).key 0 ∧ a.group = 4))

/-- The digest and MAC commands compute over the whole message, verify where asked, and keep a stream in the save area. Rests also on the choices of the model in log entries 12, 45, 111. (R169, R171, R174, R176, R177, R178, R181) -/
def Obligations.DigestsAndMacsRunOneShotAndAsStreams : Prop :=
  (∀ (s : State) (r : CmdRef) (c : Cmd), (AtWork 0x0501 s r c) →
     ∃ t, exec (.digest r) s = .next t ∧ ((reqOf c).pay 5 1 = 1 ∨ (reqOf c).pay 5 1 = 2 → endedWith t r stOk (macReply (macData (reqOf c)).length (message s c).length 0 []) ∧ (c.handle ≠ 0 → saveOf t c = saveOf s c)) ∧
       ((reqOf c).pay 5 1 ≠ 1 → (reqOf c).pay 5 1 ≠ 2 → endedWith t r stOk (macReply (macData (reqOf c)).length (message s c).length 0 (macValue (reqOf c) (none) (message s c))) ∧ (c.handle ≠ 0 → (reqOf c).pay 5 1 = 0 ∨ (reqOf c).pay 5 1 = 3 → (saveOf t c).wrapped = none))) ∧
  (∀ (s : State) (r : CmdRef) (c : Cmd), (AtWork 0x0502 s r c) →
     ∃ t, exec (.digestVerify r) s = .next t ∧ ((reqOf c).pay 5 1 = 1 ∨ (reqOf c).pay 5 1 = 2 → endedWith t r stOk (macReply (macData (reqOf c)).length (message s c).length 0 []) ∧ (c.handle ≠ 0 → saveOf t c = saveOf s c)) ∧
       ((reqOf c).pay 5 1 ≠ 1 → (reqOf c).pay 5 1 ≠ 2 → macValue (reqOf c) (none) (message s c) = (macExpected (reqOf c)).take (macValue (reqOf c) (none) (message s c)).length → endedWith t r stOk (macReply (macData (reqOf c)).length (message s c).length 0 [])) ∧
       ((reqOf c).pay 5 1 ≠ 1 → (reqOf c).pay 5 1 ≠ 2 → macValue (reqOf c) (none) (message s c) ≠ (macExpected (reqOf c)).take (macValue (reqOf c) (none) (message s c)).length → endedWith t r stVerifyFailed (macReply (macData (reqOf c)).length (message s c).length 0 []))) ∧
  (∀ (s : State) (r : CmdRef) (c : Cmd) (v : KeyVal), (AtWork 0x0503 s r c) → (loadKey s c ((reqOf c).key 0) = some v) → (macKeyChk false (reqOf c) v.attr = none) →
     ∃ t, exec (.macGenerate r) s = .next t ∧ ((reqOf c).pay 5 1 = 1 ∨ (reqOf c).pay 5 1 = 2 → endedWith t r stOk (macReply (macData (reqOf c)).length (message s c).length 0 []) ∧ (c.handle ≠ 0 → saveOf t c = saveOf s c)) ∧
       ((reqOf c).pay 5 1 ≠ 1 → (reqOf c).pay 5 1 ≠ 2 → endedWith t r stOk (macReply (macData (reqOf c)).length (message s c).length 0 (macValue (reqOf c) (some v) (message s c))) ∧ (c.handle ≠ 0 → (reqOf c).pay 5 1 = 0 ∨ (reqOf c).pay 5 1 = 3 → (saveOf t c).wrapped = none))) ∧
  (∀ (s : State) (r : CmdRef) (c : Cmd) (v : KeyVal), (AtWork 0x0504 s r c) → (loadKey s c ((reqOf c).key 0) = some v) → (macKeyChk true (reqOf c) v.attr = none) →
     ∃ t, exec (.macVerify r) s = .next t ∧ ((reqOf c).pay 5 1 = 1 ∨ (reqOf c).pay 5 1 = 2 → endedWith t r stOk (macReply (macData (reqOf c)).length (message s c).length 0 []) ∧ (c.handle ≠ 0 → saveOf t c = saveOf s c)) ∧
       ((reqOf c).pay 5 1 ≠ 1 → (reqOf c).pay 5 1 ≠ 2 → macValue (reqOf c) (some v) (message s c) = (macExpected (reqOf c)).take (macValue (reqOf c) (some v) (message s c)).length → endedWith t r stOk (macReply (macData (reqOf c)).length (message s c).length 0 [])) ∧
       ((reqOf c).pay 5 1 ≠ 1 → (reqOf c).pay 5 1 ≠ 2 → macValue (reqOf c) (some v) (message s c) ≠ (macExpected (reqOf c)).take (macValue (reqOf c) (some v) (message s c)).length → endedWith t r stVerifyFailed (macReply (macData (reqOf c)).length (message s c).length 0 []))) ∧
  (∀ (s : State) (r : CmdRef) (c : Cmd) (st : Status), (AtEnd 0x0501 s r c st) →
     ∃ t, exec (.digest r) s = .next t ∧ endedWith t r st (macReply (committed c) ((if stream23 (reqOf c) = true then (baseOf s c).offset else 0) + min (committed c) (macData (reqOf c)).length) (if st = stAborted then c.abort.getD 0 else 0) [])) ∧
  (∀ (s : State) (r : CmdRef) (c : Cmd) (st : Status), (AtEnd 0x0502 s r c st) →
     ∃ t, exec (.digestVerify r) s = .next t ∧ endedWith t r st (macReply (committed c) ((if stream23 (reqOf c) = true then (baseOf s c).offset else 0) + min (committed c) (macData (reqOf c)).length) (if st = stAborted then c.abort.getD 0 else 0) [])) ∧
  (∀ (s : State) (r : CmdRef) (c : Cmd) (st : Status), (AtEnd 0x0503 s r c st) →
     ∃ t, exec (.macGenerate r) s = .next t ∧ endedWith t r st (macReply (committed c) ((if stream23 (reqOf c) = true then (baseOf s c).offset else 0) + min (committed c) (macData (reqOf c)).length) (if st = stAborted then c.abort.getD 0 else 0) [])) ∧
  (∀ (s : State) (r : CmdRef) (c : Cmd) (st : Status), (AtEnd 0x0504 s r c st) →
     ∃ t, exec (.macVerify r) s = .next t ∧ endedWith t r st (macReply (committed c) ((if stream23 (reqOf c) = true then (baseOf s c).offset else 0) + min (committed c) (macData (reqOf c)).length) (if st = stAborted then c.abort.getD 0 else 0) [])) ∧
  (∀ (s : State) (r : CmdRef) (c : Cmd), (AtWork 0x0503 s r c) → (loadKey s c ((reqOf c).key 0) = none) →
     ∃ t, exec (.macGenerate r) s = .next t ∧ endedWith t r stKeyNotFound (macReply 0 (baseOf s c).offset 0 [])) ∧
  (∀ (s : State) (r : CmdRef) (c : Cmd), (AtWork 0x0504 s r c) → (loadKey s c ((reqOf c).key 0) = none) →
     ∃ t, exec (.macVerify r) s = .next t ∧ endedWith t r stKeyNotFound (macReply 0 (baseOf s c).offset 0 [])) ∧
  (∀ (s : State) (c : Cmd) (keyed : Bool) (alg : Option (BitVec 8)) (n : Nat),
     (let a := macSave s keyed c alg n; let all := (if stream23 (reqOf c) = true then (baseOf s c).absorbed else []) ++ (macData (reqOf c)).take n;
       a.wrapped = some keyed ∧ a.absorbed = all ∧ a.offset = all.length ∧ a.key = (reqOf c).key 0 ∧ a.group = 5))

/-- The public-key commands check their inputs, then sign, verify, agree, encapsulate, encrypt and export as the spec says. Rests also on the choices of the model in log entries 12, 23, 46. (R135, R197, R200, R203, R204, R206, R207, R208, R209) -/
def Obligations.PublicKeyCommandsSignAgreeAndEncrypt : Prop :=
  (∀ (s : State) (r : CmdRef) (c : Cmd) (v : KeyVal), (AtWork 0x0601 s r c) → (loadKey s c ((reqOf c).key 0) = some v) → (pkKeyChk 1 (reqOf c) v.attr = none) → (((reqOf c).key 4) = 0) →
     ∃ t, exec (.pkSign r) s = .next t ∧ endedWith t r stOk (pkReply (signWith (pkScheme (reqOf c)) (pkHash (reqOf c)) v (signInput (reqOf c)) (pkCtx (reqOf c)) (drawn c 0 (signDraw (pkScheme (reqOf c)) (pkHash (reqOf c))))) [] 0 [])) ∧
  (∀ (s : State) (r : CmdRef) (c : Cmd) (v w : KeyVal), (AtWork 0x0601 s r c) → (loadKey s c ((reqOf c).key 0) = some v) → (pkKeyChk 1 (reqOf c) v.attr = none) → (((reqOf c).key 4) ≠ 0) → (loadKey s c ((reqOf c).key 4) = some w) → (pkKey2Chk w.attr = none) →
     ∃ t, exec (.pkSign r) s = .next t ∧ endedWith t r stOk (pkReply (signWith 0x30 0 v (sha3_512 (pkMsg (reqOf c))) [] (drawn c 0 32)) (signWith 0x10 0x13 w (sha3_512 (pkMsg (reqOf c))) [] (drawn c 32 32)) 0 [])) ∧
  (∀ (s : State) (r : CmdRef) (c : Cmd), (AtWork 0x0602 s r c) → (pkAlg2 (reqOf c) = 0) →
     ∃ t, exec (.pkVerify r) s = .next t ∧ (∀ st, verifyInputs (pkAlg (reqOf c)) (pkA (reqOf c)) (pkB (reqOf c)) = some st → endedWith t r st (zeros 32)) ∧
       (verifyInputs (pkAlg (reqOf c)) (pkA (reqOf c)) (pkB (reqOf c)) = none → Config.verify (pkScheme (reqOf c)) (pkHash (reqOf c)) (pkAlg (reqOf c)) (pkA (reqOf c)) (signInput (reqOf c)) (pkCtx (reqOf c)) (pkB (reqOf c)) = true → endedWith t r stOk (pkReply [] [] 0 [])) ∧
       (verifyInputs (pkAlg (reqOf c)) (pkA (reqOf c)) (pkB (reqOf c)) = none → Config.verify (pkScheme (reqOf c)) (pkHash (reqOf c)) (pkAlg (reqOf c)) (pkA (reqOf c)) (signInput (reqOf c)) (pkCtx (reqOf c)) (pkB (reqOf c)) = false → endedWith t r stVerifyFailed (zeros 32))) ∧
  (∀ (s : State) (r : CmdRef) (c : Cmd), (AtWork 0x0602 s r c) → (pkAlg2 (reqOf c) ≠ 0) → (verifyInputs (pkAlg (reqOf c)) (pkA (reqOf c)) (pkB (reqOf c)) = none) → (verifyInputs (pkAlg2 (reqOf c)) (pkC (reqOf c)) (pkD (reqOf c)) = none) →
     ∃ t, exec (.pkVerify r) s = .next t ∧
       ((Config.verify 0x30 0 (pkAlg (reqOf c)) (pkA (reqOf c)) (sha3_512 (pkMsg (reqOf c))) [] (pkB (reqOf c)) && Config.verify 0x10 0x13 (pkAlg2 (reqOf c)) (pkC (reqOf c)) (sha3_512 (pkMsg (reqOf c))) [] (pkD (reqOf c))) = true → endedWith t r stOk (pkReply [] [] 0 [])) ∧
       ((Config.verify 0x30 0 (pkAlg (reqOf c)) (pkA (reqOf c)) (sha3_512 (pkMsg (reqOf c))) [] (pkB (reqOf c)) && Config.verify 0x10 0x13 (pkAlg2 (reqOf c)) (pkC (reqOf c)) (sha3_512 (pkMsg (reqOf c))) [] (pkD (reqOf c))) = false → endedWith t r stVerifyFailed (zeros 32))) ∧
  (∀ (s : State) (r : CmdRef) (c : Cmd) (v : KeyVal), (AtWork 0x0603 s r c) → (loadKey s c ((reqOf c).key 0) = some v) → (pkKeyChk 3 (reqOf c) v.attr = none) →
     ∃ t, exec (.pkAgree r) s = .next t ∧ (∀ st, peerInputs v.attr.alg.toNat (pkA (reqOf c)) = some st → endedWith t r st (zeros 32)) ∧
       (peerInputs v.attr.alg.toNat (pkA (reqOf c)) = none → endedStatus t r stOk ∧ (getKey t r.part (pkOut (reqOf c))).cur = some (newVal s r.part (pkOut (reqOf c)) (pkOutAttr (reqOf c)) (deriveOut (padTo (curveLen v.attr.alg.toNat) (Config.ecdh v.attr.alg.toNat v.material (pkA (reqOf c)))) (pkInfo (reqOf c)) ((algBytes (pkOutAttr (reqOf c)).alg.toNat (pkOutAttr (reqOf c)).bits.toNat).getD 0)) (drawn c 0 8)) ∧
       (getKey t r.part (pkOut (reqOf c))).version = (getKey s r.part (pkOut (reqOf c))).version + 1 ∧
       (isCached (pkOut (reqOf c)) = false → endedWith t r stOk (pkReply ([]) [] (getKey t r.part (pkOut (reqOf c))).version.toNat ((kcv (pkOutAttr (reqOf c)).alg (deriveOut (padTo (curveLen v.attr.alg.toNat) (Config.ecdh v.attr.alg.toNat v.material (pkA (reqOf c)))) (pkInfo (reqOf c)) ((algBytes (pkOutAttr (reqOf c)).alg.toNat (pkOutAttr (reqOf c)).bits.toNat).getD 0))).getD []))))) ∧
  (∀ (s : State) (r : CmdRef) (c : Cmd), (AtWork 0x0604 s r c) →
     ∃ t, exec (.pkEncapsulate r) s = .next t ∧ (∀ st, peerInputs (pkAlg (reqOf c)) (pkA (reqOf c)) = some st → endedWith t r st (zeros 32)) ∧
       (peerInputs (pkAlg (reqOf c)) (pkA (reqOf c)) = none → endedStatus t r stOk ∧ (getKey t r.part (pkOut (reqOf c))).cur = some (newVal s r.part (pkOut (reqOf c)) (pkOutAttr (reqOf c)) (deriveOut (padTo 32 (Config.kemShared (pkAlg (reqOf c)) (pkA (reqOf c)) (drawn c 0 32))) (pkInfo (reqOf c)) ((algBytes (pkOutAttr (reqOf c)).alg.toNat (pkOutAttr (reqOf c)).bits.toNat).getD 0)) (drawn c 32 8)) ∧
       (getKey t r.part (pkOut (reqOf c))).version = (getKey s r.part (pkOut (reqOf c))).version + 1 ∧
       (isCached (pkOut (reqOf c)) = false → endedWith t r stOk (pkReply (padTo (kemCtLen (pkAlg (reqOf c))) (Config.kemCipher (pkAlg (reqOf c)) (pkA (reqOf c)) (drawn c 0 32))) [] (getKey t r.part (pkOut (reqOf c))).version.toNat ((kcv (pkOutAttr (reqOf c)).alg (deriveOut (padTo 32 (Config.kemShared (pkAlg (reqOf c)) (pkA (reqOf c)) (drawn c 0 32))) (pkInfo (reqOf c)) ((algBytes (pkOutAttr (reqOf c)).alg.toNat (pkOutAttr (reqOf c)).bits.toNat).getD 0))).getD []))))) ∧
  (∀ (s : State) (r : CmdRef) (c : Cmd) (v : KeyVal), (AtWork 0x0605 s r c) → (loadKey s c ((reqOf c).key 0) = some v) → (pkKeyChk 5 (reqOf c) v.attr = none) →
     ∃ t, exec (.pkDecapsulate r) s = .next t ∧ endedStatus t r stOk ∧ (getKey t r.part (pkOut (reqOf c))).cur = some (newVal s r.part (pkOut (reqOf c)) (pkOutAttr (reqOf c)) (deriveOut (padTo 32 (Config.kemDecaps v.attr.alg.toNat v.material (pkA (reqOf c)))) (pkInfo (reqOf c)) ((algBytes (pkOutAttr (reqOf c)).alg.toNat (pkOutAttr (reqOf c)).bits.toNat).getD 0)) (drawn c 0 8)) ∧
       (getKey t r.part (pkOut (reqOf c))).version = (getKey s r.part (pkOut (reqOf c))).version + 1 ∧
       (isCached (pkOut (reqOf c)) = false → endedWith t r stOk (pkReply ([]) [] (getKey t r.part (pkOut (reqOf c))).version.toNat ((kcv (pkOutAttr (reqOf c)).alg (deriveOut (padTo 32 (Config.kemDecaps v.attr.alg.toNat v.material (pkA (reqOf c)))) (pkInfo (reqOf c)) ((algBytes (pkOutAttr (reqOf c)).alg.toNat (pkOutAttr (reqOf c)).bits.toNat).getD 0))).getD [])))) ∧
  (∀ (s : State) (r : CmdRef) (c : Cmd), (AtWork 0x0606 s r c) →
     ∃ t, exec (.pkRsaEncrypt r) s = .next t ∧ endedWith t r stOk (pkReply (padTo (rsaBitsOfPub (pkLenA (reqOf c)) / 8) (Config.oaepEncrypt (pkHash (reqOf c)) (pkA (reqOf c)) (pkInfo (reqOf c)) (pkMsg (reqOf c)) (drawn c 0 (digestLen (pkHash (reqOf c)))))) [] 0 [])) ∧
  (∀ (s : State) (r : CmdRef) (c : Cmd) (v : KeyVal), (AtWork 0x0607 s r c) → (loadKey s c ((reqOf c).key 0) = some v) → (pkKeyChk 7 (reqOf c) v.attr = none) →
     ∃ t, exec (.pkRsaDecrypt r) s = .next t ∧ (beNat ((Config.publicOf 0x30 v.material).take ((Config.publicOf 0x30 v.material).length - 4)) ≤ beNat (pkA (reqOf c)) → endedWith t r stInputNotReduced (zeros 32)) ∧
       (beNat (pkA (reqOf c)) < beNat ((Config.publicOf 0x30 v.material).take ((Config.publicOf 0x30 v.material).length - 4)) → beNat (pkA (reqOf c)) = 0 → endedWith t r stInputZero (zeros 32)) ∧
       (beNat (pkA (reqOf c)) < beNat ((Config.publicOf 0x30 v.material).take ((Config.publicOf 0x30 v.material).length - 4)) → beNat (pkA (reqOf c)) ≠ 0 → ∀ m, Config.oaepDecrypt (pkHash (reqOf c)) v.material (pkInfo (reqOf c)) (pkA (reqOf c)) = some m → endedWith t r stOk (pkReply m [] 0 [])) ∧
       (beNat (pkA (reqOf c)) < beNat ((Config.publicOf 0x30 v.material).take ((Config.publicOf 0x30 v.material).length - 4)) → beNat (pkA (reqOf c)) ≠ 0 → Config.oaepDecrypt (pkHash (reqOf c)) v.material (pkInfo (reqOf c)) (pkA (reqOf c)) = none → endedWith t r stVerifyFailed (zeros 32))) ∧
  (∀ (s : State) (r : CmdRef) (c : Cmd) (v : KeyVal), (AtWork 0x0608 s r c) → (loadKey s c ((reqOf c).key 0) = some v) → (pkKeyChk 8 (reqOf c) v.attr = none) →
     ∃ t, exec (.pkPublic r) s = .next t ∧ endedWith t r stOk (pkReply (publicKey v) [] 0 [])) ∧
  (∀ (s : State) (r : CmdRef) (c : Cmd), (AtWork 0x0601 s r c) → (loadKey s c ((reqOf c).key 0) = none) →
     ∃ t, exec (.pkSign r) s = .next t ∧ endedWith t r stKeyNotFound (zeros 32)) ∧
  (∀ (s : State) (r : CmdRef) (c : Cmd), (AtWork 0x0608 s r c) → (loadKey s c ((reqOf c).key 0) = none) →
     ∃ t, exec (.pkPublic r) s = .next t ∧ endedWith t r stKeyNotFound (zeros 32))

/-- RNG_GENERATE replies the draw, RNG_KAT tests, RNG_RESTART starts the sequence again and RNG_RAW replies samples. Rests also on the choices of the model in log entries 43, 126. (R222, R225, R226) -/
def Obligations.GeneratorCommandsEndAsSpecified : Prop :=
  (∀ (s : State) (r : CmdRef) (c : Cmd), (AtWork 0x0701 s r c) →
     ∃ t, exec (.rngGenerate r) s = .next t ∧ endedWith t r stOk (drawn c 0 ((reqOf c).pay 0 4))) ∧
  (∀ (s : State) (r : CmdRef) (c : Cmd), (AtWork 0x0702 s r c) → ((reqOf c).pay 0 1 = 0) →
     ∃ t, exec (.rngKat r true true) s = .next t ∧ endedWith t r stOk (toLe 4 3) ∧ t.rng.state = s.rng.state ∧ t.rng.katFail = s.rng.katFail) ∧
  (∀ (s : State) (r : CmdRef) (c : Cmd) (cond expd : Bool), (AtWork 0x0702 s r c) → ((reqOf c).pay 0 1 = 0) → ((cond && expd) = false) → (r ∉ s.rng.restartCmds) →
     ∃ t, exec (.rngKat r cond expd) s = .next t ∧ endedWith t r stOk (toLe 4 (b2n cond + 2 * b2n expd)) ∧ t.rng.state = .failed ∧ t.rng.katFail = true ∧ t.rng.pool = []) ∧
  (∀ (s : State) (r : CmdRef) (c : Cmd) (cond expd : Bool), (AtWork 0x0702 s r c) → ((reqOf c).pay 0 1 = 1) →
     ∃ t, exec (.rngKat r cond expd) s = .next t ∧ endedWith t r stOk (sha3_384 (c.payload.drop 152))) ∧
  (∀ (s : State) (r : CmdRef) (c : Cmd) (cond expd : Bool), (AtWork 0x0702 s r c) → ((reqOf c).pay 0 1 ≠ 0) → ((reqOf c).pay 0 1 ≠ 1) →
     ∃ t, exec (.rngKat r cond expd) s = .next t ∧ endedWith t r stOk (katExpander (reqOf c))) ∧
  (∀ (s : State) (r : CmdRef) (c : Cmd), (AtWork 0x0703 s r c) →
     ∃ t, exec (.rngRestart r) s = .next t ∧ underWay t r ∧ t.rng.state = .testing ∧ t.rng.running = true ∧ t.rng.pool = [] ∧ t.rng.srcOk = 0xF ∧ t.rng.module = [] ∧ t.rng.startNs = s.clk.ns ∧ t.rng.restartCmds = s.rng.restartCmds ++ [r]) ∧
  (∀ (s : State) (r : CmdRef) (c : Cmd) (samples : Bytes), (AtWork 0x0704 s r c) →
     ∃ t, exec (.rngRaw r samples) s = .next t ∧ endedWith t r stOk (padTo ((reqOf c).pay 4 4 / 8) samples))

/-- The PIN commands end VERIFY_FAILED where the block does not decode, and otherwise translate, verify or generate as the spec says. Rests also on the choices of the model in log entries 12, 47, 48. (R234, R235, R236, R237, R238, R240, R242, R243) -/
def Obligations.PinCommandsVerifyAndTranslate : Prop :=
  (∀ (s : State) (r : CmdRef) (c : Cmd) (v w : KeyVal), (AtWork 0x0801 s r c) → (loadKey s c ((reqOf c).key 0) = some v) → (loadKey s c ((reqOf c).key 0x3C) = some w) → (pinKeyChk (reqOf c) v.attr = none) → (firstFail [trOutChk (reqOf c) w.attr, trBits c.policy (reqOf c) v.attr w.attr] = none) →
     ∃ t, exec (.pinTranslate r) s = .next t ∧ (pinOf (reqOf c) v = none → endedWith t r stVerifyFailed []) ∧
       (∀ p, pinOf (reqOf c) v = some p → endedWith t r stOk (pinEncrypt (trOutFmt (reqOf c)) w.attr.alg w.material (pinPan (reqOf c)) (pinField c (trOutFmt (reqOf c)) p) ++
       toLe 4 (if pinSource (reqOf c) = 0 then 0 else ksnCounter (pinSource (reqOf c)) (pinKsn (reqOf c))) ++ toLe 2 (loadVersion c ((reqOf c).key 0x3C)).toNat ++ zeros 2))) ∧
  (∀ (s : State) (r : CmdRef) (c : Cmd) (v w : KeyVal), (AtWork 0x0802 s r c) → (loadKey s c ((reqOf c).key 0) = some v) → (loadKey s c ((reqOf c).key 0x3C) = some w) → (pinKeyChk (reqOf c) v.attr = none) → (pvkChk true w.attr = none) →
     ∃ t, exec (.pinVerifyOffset r) s = .next t ∧ (pinOf (reqOf c) v = none → endedWith t r stVerifyFailed []) ∧
       (∀ p, pinOf (reqOf c) v = some p → p.length < ofCheck (reqOf c) → endedWith t r stVerifyFailed []) ∧
       (∀ p, pinOf (reqOf c) v = some p → ofCheck (reqOf c) ≤ p.length → p.take (ofCheck (reqOf c)) = List.zipWith (fun n o => (n + o) % 10) (naturalPin c.policy (reqOf c) w) ((ofOffset (reqOf c)).map (fun b => b.toNat - 0x30)) → endedWith t r stOk []) ∧
       (∀ p, pinOf (reqOf c) v = some p → ofCheck (reqOf c) ≤ p.length → p.take (ofCheck (reqOf c)) ≠ List.zipWith (fun n o => (n + o) % 10) (naturalPin c.policy (reqOf c) w) ((ofOffset (reqOf c)).map (fun b => b.toNat - 0x30)) → endedWith t r stVerifyFailed [])) ∧
  (∀ (s : State) (r : CmdRef) (c : Cmd) (v w : KeyVal), (AtWork 0x0804 s r c) → (loadKey s c ((reqOf c).key 0) = some v) → (loadKey s c ((reqOf c).key 0x3C) = some w) → (pinKeyChk (reqOf c) v.attr = none) → (pvkChk true w.attr = none) →
     ∃ t, exec (.pinOffsetGenerate r) s = .next t ∧ (pinOf (reqOf c) v = none → endedWith t r stVerifyFailed []) ∧
       (∀ p, pinOf (reqOf c) v = some p → p.length < ofCheck (reqOf c) → endedWith t r stVerifyFailed []) ∧
       (∀ p, pinOf (reqOf c) v = some p → ofCheck (reqOf c) ≤ p.length → endedWith t r stOk (padTo 12 (digitsAscii (List.zipWith (fun p n => (p + 10 - n) % 10) p (naturalPin c.policy (reqOf c) w)))))) ∧
  (∀ (s : State) (r : CmdRef) (c : Cmd) (v w : KeyVal), (AtWork 0x0803 s r c) → (loadKey s c ((reqOf c).key 0) = some v) → (loadKey s c ((reqOf c).key 0x3C) = some w) → (pinKeyChk (reqOf c) v.attr = none) → (pvkChk false w.attr = none) →
     ∃ t, exec (.pinVerifyPvv r) s = .next t ∧ (pinOf (reqOf c) v = none → endedWith t r stVerifyFailed []) ∧
       (∀ p, pinOf (reqOf c) v = some p → (digitsAscii (extractDigits 4 (blkEnc w.attr.alg w.material (ofNibbles (panRight 11 (panDigits (pinPan (reqOf c))) ++ [(reqOf c).pay 0x40 1] ++ p.take 4))))) = bsub c.payload 0x44 4 → endedWith t r stOk []) ∧
       (∀ p, pinOf (reqOf c) v = some p → (digitsAscii (extractDigits 4 (blkEnc w.attr.alg w.material (ofNibbles (panRight 11 (panDigits (pinPan (reqOf c))) ++ [(reqOf c).pay 0x40 1] ++ p.take 4))))) ≠ bsub c.payload 0x44 4 → endedWith t r stVerifyFailed [])) ∧
  (∀ (s : State) (r : CmdRef) (c : Cmd) (v w : KeyVal), (AtWork 0x0805 s r c) → (loadKey s c ((reqOf c).key 0) = some v) → (loadKey s c ((reqOf c).key 0x3C) = some w) → (pinKeyChk (reqOf c) v.attr = none) → (pvkChk false w.attr = none) →
     ∃ t, exec (.pinPvvGenerate r) s = .next t ∧ (pinOf (reqOf c) v = none → endedWith t r stVerifyFailed []) ∧
       (∀ p, pinOf (reqOf c) v = some p → endedWith t r stOk (digitsAscii (extractDigits 4 (blkEnc w.attr.alg w.material (ofNibbles (panRight 11 (panDigits (pinPan (reqOf c))) ++ [(reqOf c).pay 0x40 1] ++ p.take 4))))))) ∧
  (∀ (s : State) (r : CmdRef) (c : Cmd), (AtWork 0x0801 s r c) → (loadKey s c ((reqOf c).key 0) = none) →
     ∃ t, exec (.pinTranslate r) s = .next t ∧ endedWith t r stKeyNotFound ([])) ∧
  (∀ (s : State) (r : CmdRef) (c : Cmd), (AtWork 0x0802 s r c) → (loadKey s c ((reqOf c).key 0) = none) →
     ∃ t, exec (.pinVerifyOffset r) s = .next t ∧ endedWith t r stKeyNotFound ([])) ∧
  (∀ (s : State) (r : CmdRef) (c : Cmd), (AtWork 0x0803 s r c) → (loadKey s c ((reqOf c).key 0) = none) →
     ∃ t, exec (.pinVerifyPvv r) s = .next t ∧ endedWith t r stKeyNotFound ([])) ∧
  (∀ (s : State) (r : CmdRef) (c : Cmd), (AtWork 0x0804 s r c) → (loadKey s c ((reqOf c).key 0) = none) →
     ∃ t, exec (.pinOffsetGenerate r) s = .next t ∧ endedWith t r stKeyNotFound ([])) ∧
  (∀ (s : State) (r : CmdRef) (c : Cmd), (AtWork 0x0805 s r c) → (loadKey s c ((reqOf c).key 0) = none) →
     ∃ t, exec (.pinPvvGenerate r) s = .next t ∧ endedWith t r stKeyNotFound ([]))

/-- The card and DUKPT commands generate, verify, derive and decrypt as the spec says. Rests also on the choices of the model in log entries 12, 130. (R238, R245, R246, R247, R248, R249, R250) -/
def Obligations.CardAndDukptCommandsEndAsSpecified : Prop :=
  (∀ (s : State) (r : CmdRef) (c : Cmd) (v : KeyVal), (AtWork 0x0901 s r c) → (loadKey s c ((reqOf c).key 0) = some v) → (cvvChk v.attr = none) →
     ∃ t, exec (.cvvGenerate r) s = .next t ∧ endedWith t r stOk (padTo 8 (cvvValue (reqOf c) v))) ∧
  (∀ (s : State) (r : CmdRef) (c : Cmd) (v : KeyVal), (AtWork 0x0902 s r c) → (loadKey s c ((reqOf c).key 0) = some v) → (cvvChk v.attr = none) →
     ∃ t, exec (.cvvVerify r) s = .next t ∧ (cvvValue (reqOf c) v = bsub c.payload 0x23 3 → endedWith t r stOk []) ∧ (cvvValue (reqOf c) v ≠ bsub c.payload 0x23 3 → endedWith t r stVerifyFailed [])) ∧
  (∀ (s : State) (r : CmdRef) (c : Cmd) (v : KeyVal), (AtWork 0x0903 s r c) → (loadKey s c ((reqOf c).key 0) = some v) → (arqcKeyChk (reqOf c) v.attr = none) →
     ∃ t, exec (.arqcVerify r) s = .next t ∧ (emvMac v.attr.alg (emvSessionKey (reqOf c) (bsub c.payload 8 20) v) (c.payload.drop 64) ((reqOf c).pay 6 1) ≠ (bsub c.payload 0x20 8) → endedWith t r stVerifyFailed []) ∧
       (emvMac v.attr.alg (emvSessionKey (reqOf c) (bsub c.payload 8 20) v) (c.payload.drop 64) ((reqOf c).pay 6 1) = (bsub c.payload 0x20 8) → (reqOf c).pay 7 1 = 0 → endedWith t r stOk (zeros 16)) ∧
       (emvMac v.attr.alg (emvSessionKey (reqOf c) (bsub c.payload 8 20) v) (c.payload.drop 64) ((reqOf c).pay 6 1) = (bsub c.payload 0x20 8) → (reqOf c).pay 7 1 = 1 → endedWith t r stOk (blkEnc v.attr.alg (emvSessionKey (reqOf c) (bsub c.payload 8 20) v) (bxor (bsub c.payload 0x20 8) (bsub c.payload 0x28 2 ++ zeros 6)) ++ toLe 8 8)) ∧
       (emvMac v.attr.alg (emvSessionKey (reqOf c) (bsub c.payload 8 20) v) (c.payload.drop 64) ((reqOf c).pay 6 1) = (bsub c.payload 0x20 8) → (reqOf c).pay 7 1 ≠ 0 → (reqOf c).pay 7 1 ≠ 1 → endedWith t r stOk (padTo 8 ((emvMac v.attr.alg (emvSessionKey (reqOf c) (bsub c.payload 8 20) v) ((bsub c.payload 0x20 8) ++ bsub c.payload 0x2C 4 ++ bsub c.payload 0x38 ((reqOf c).pay 0x30 1)) 2).take 4) ++ toLe 8 4))) ∧
  (∀ (s : State) (r : CmdRef) (c : Cmd) (v : KeyVal), (AtWork 0x0904 s r c) → (loadKey s c ((reqOf c).key 0) = some v) → (emvChk uIssuerScript v.attr = none) →
     ∃ t, exec (.scriptMacGenerate r) s = .next t ∧ endedWith t r stOk (padTo 8 ((emvMac v.attr.alg (emvSessionKey (reqOf c) (bsub c.payload 8 20) v) (c.payload.drop 32) 2).take ((reqOf c).pay 6 1)))) ∧
  (∀ (s : State) (r : CmdRef) (c : Cmd) (v : KeyVal), (AtWork 0x0A01 s r c) → (loadKey s c ((reqOf c).key 0) = some v) → (duInitChk (reqOf c) v.attr = none) →
     ∃ t, exec (.dukptDeriveInitial r) s = .next t ∧ endedStatus t r stOk ∧ (getKey t r.part ((reqOf c).key 0x14)).version = (getKey s r.part ((reqOf c).key 0x14)).version + 1 ∧
       ∃ n, (getKey t r.part ((reqOf c).key 0x14)).cur = some n ∧ n.attr = { duAttr (if duSource (reqOf c) = 1 then v.attr.alg else 0x01) with span := n.attr.span } ∧ n.mwkGen = s.ks.mwkGen ∧
       n.material = padTo ((algBytes n.attr.alg.toNat 0).getD 0) (Config.dukptInitial (decide (duSource (reqOf c) = 1)) v.material (duKsn (reqOf c)))) ∧
  (∀ (s : State) (r : CmdRef) (c : Cmd) (v : KeyVal), (AtWork 0x0A02 s r c) → (loadKey s c ((reqOf c).key 0) = some v) → (duChk (reqOf c) v.attr = none) →
     ∃ t, exec (.dukptMacGenerate r) s = .next t ∧ endedWith t r stOk (padTo 16 ((if isAes (sourceKey (duSource (reqOf c)) (duWork (reqOf c)) (duKsn (reqOf c)) 1 (duDir (reqOf c)) v).1 then cmac (sourceKey (duSource (reqOf c)) (duWork (reqOf c)) (duKsn (reqOf c)) 1 (duDir (reqOf c)) v).1 (sourceKey (duSource (reqOf c)) (duWork (reqOf c)) (duKsn (reqOf c)) 1 (duDir (reqOf c)) v).2 (c.payload.drop 40) else macAlg3 (sourceKey (duSource (reqOf c)) (duWork (reqOf c)) (duKsn (reqOf c)) 1 (duDir (reqOf c)) v).2 (c.payload.drop 40) 1).take (duMacLen (reqOf c))))) ∧
  (∀ (s : State) (r : CmdRef) (c : Cmd) (v : KeyVal), (AtWork 0x0A03 s r c) → (loadKey s c ((reqOf c).key 0) = some v) → (duChk (reqOf c) v.attr = none) →
     ∃ t, exec (.dukptMacVerify r) s = .next t ∧ (((if isAes (sourceKey (duSource (reqOf c)) (duWork (reqOf c)) (duKsn (reqOf c)) 1 (duDir (reqOf c)) v).1 then cmac (sourceKey (duSource (reqOf c)) (duWork (reqOf c)) (duKsn (reqOf c)) 1 (duDir (reqOf c)) v).1 (sourceKey (duSource (reqOf c)) (duWork (reqOf c)) (duKsn (reqOf c)) 1 (duDir (reqOf c)) v).2 (c.payload.drop 40) else macAlg3 (sourceKey (duSource (reqOf c)) (duWork (reqOf c)) (duKsn (reqOf c)) 1 (duDir (reqOf c)) v).2 (c.payload.drop 40) 1).take (duMacLen (reqOf c))) = bsub c.payload 0x18 (duMacLen (reqOf c)) → endedWith t r stOk []) ∧ (((if isAes (sourceKey (duSource (reqOf c)) (duWork (reqOf c)) (duKsn (reqOf c)) 1 (duDir (reqOf c)) v).1 then cmac (sourceKey (duSource (reqOf c)) (duWork (reqOf c)) (duKsn (reqOf c)) 1 (duDir (reqOf c)) v).1 (sourceKey (duSource (reqOf c)) (duWork (reqOf c)) (duKsn (reqOf c)) 1 (duDir (reqOf c)) v).2 (c.payload.drop 40) else macAlg3 (sourceKey (duSource (reqOf c)) (duWork (reqOf c)) (duKsn (reqOf c)) 1 (duDir (reqOf c)) v).2 (c.payload.drop 40) 1).take (duMacLen (reqOf c))) ≠ bsub c.payload 0x18 (duMacLen (reqOf c)) → endedWith t r stVerifyFailed [])) ∧
  (∀ (s : State) (r : CmdRef) (c : Cmd) (v : KeyVal), (AtWork 0x0A04 s r c) → (loadKey s c ((reqOf c).key 0) = some v) → (duChk (reqOf c) v.attr = none) →
     ∃ t, exec (.dukptDecrypt r) s = .next t ∧ endedWith t r stOk (modeRun 2 false (sourceKey (duSource (reqOf c)) (duWork (reqOf c)) (duKsn (reqOf c)) 2 (duDir (reqOf c)) v).1 (sourceKey (duSource (reqOf c)) (duWork (reqOf c)) (duKsn (reqOf c)) 2 (duDir (reqOf c)) v).2 (bsub c.payload 0x18 16) (c.payload.drop 40))) ∧
  (∀ (s : State) (r : CmdRef) (c : Cmd), (AtWork 0x0901 s r c) → (loadKey s c ((reqOf c).key 0) = none) →
     ∃ t, exec (.cvvGenerate r) s = .next t ∧ endedWith t r stKeyNotFound ([])) ∧
  (∀ (s : State) (r : CmdRef) (c : Cmd), (AtWork 0x0903 s r c) → (loadKey s c ((reqOf c).key 0) = none) →
     ∃ t, exec (.arqcVerify r) s = .next t ∧ endedWith t r stKeyNotFound ([])) ∧
  (∀ (s : State) (r : CmdRef) (c : Cmd), (AtWork 0x0A01 s r c) → (loadKey s c ((reqOf c).key 0) = none) →
     ∃ t, exec (.dukptDeriveInitial r) s = .next t ∧ endedWith t r stKeyNotFound ([])) ∧
  (∀ (s : State) (r : CmdRef) (c : Cmd), (AtWork 0x0A04 s r c) → (loadKey s c ((reqOf c).key 0) = none) →
     ∃ t, exec (.dukptDecrypt r) s = .next t ∧ endedWith t r stKeyNotFound ([]))

/-- The vault commands find, insert, delete and reload records as the spec says, and lose a poisoned record they read. Rests also on the choices of the model in log entries 12, 49. (R252, R253, R254, R255, R256, R430) -/
def Obligations.VaultCommandsFindInsertAndDelete : Prop :=
  (∀ (s : State) (r : CmdRef) (c : Cmd) (v : KeyVal), (AtWork 0x1101 s r c) → (vaultTurn s r = true) → (loadKey s c ((reqOf c).key 0) = some v) → (vlKeyChk v.attr = none) → (vaultPoison r.part (vaultTag v.material (vlDomain (reqOf c)) (panDigits (vlIn (reqOf c)))) s = none) →
     ∃ t, exec (.vaultTokenise r) s = .next t ∧ (∀ q, vaultFind (getPart s r.part).vault (vaultTag v.material (vlDomain (reqOf c)) (panDigits (vlIn (reqOf c)))) = some q → endedWith t r stOk (vaultReply (vlCipher true (reqOf c) v.material (panDigits (vlIn (reqOf c)))) true (some q)) ∧ (getPart t r.part).vault.records = (getPart s r.part).vault.records) ∧
       (∀ w, vaultFind (getPart s r.part).vault (vaultTag v.material (vlDomain (reqOf c)) (panDigits (vlIn (reqOf c)))) = none → vaultInsert (getPart s r.part).vault (vaultRec c (vaultTag v.material (vlDomain (reqOf c)) (panDigits (vlIn (reqOf c)))) (vlContext (reqOf c)) s) = some w →
       endedWith t r stOk (vaultReply (vlCipher true (reqOf c) v.material (panDigits (vlIn (reqOf c)))) false (some (vaultRec c (vaultTag v.material (vlDomain (reqOf c)) (panDigits (vlIn (reqOf c)))) (vlContext (reqOf c)) s))) ∧ (getPart t r.part).vault.records = w.records) ∧
       (vaultFind (getPart s r.part).vault (vaultTag v.material (vlDomain (reqOf c)) (panDigits (vlIn (reqOf c)))) = none → vaultInsert (getPart s r.part).vault (vaultRec c (vaultTag v.material (vlDomain (reqOf c)) (panDigits (vlIn (reqOf c)))) (vlContext (reqOf c)) s) = none → endedWith t r stFlowLimit [] ∧ (getPart t r.part).vault.records = (getPart s r.part).vault.records)) ∧
  (∀ (s : State) (r : CmdRef) (c : Cmd) (v : KeyVal), (AtWork 0x1101 s r c) → (vaultTurn s r = true) → (loadKey s c ((reqOf c).key 0) = some v) → (vlKeyChk v.attr = none) →
     ∃ t, exec (.vaultTokenise r) s = .next t ∧ ∀ u, vaultPoison r.part (vaultTag v.material (vlDomain (reqOf c)) (panDigits (vlIn (reqOf c)))) s = some u → endedWith t r stFault [] ∧ (getPart t r.part).vault.records = (getPart u r.part).vault.records ∧ t.flt.vaultLost = satAdd 32 s.flt.vaultLost 1) ∧
  (∀ (s : State) (r : CmdRef) (c : Cmd) (v : KeyVal), (AtWork 0x1102 s r c) → (vaultTurn s r = true) → (loadKey s c ((reqOf c).key 0) = some v) → (vlKeyChk v.attr = none) → (vaultPoison r.part (vaultTag v.material (vlDomain (reqOf c)) (vlCipher false (reqOf c) v.material (panDigits (vlIn (reqOf c))))) s = none) →
     ∃ t, exec (.vaultDetokenise r) s = .next t ∧ (getPart t r.part).vault.records = (getPart s r.part).vault.records ∧ (∀ q, vaultFind (getPart s r.part).vault (vaultTag v.material (vlDomain (reqOf c)) (vlCipher false (reqOf c) v.material (panDigits (vlIn (reqOf c))))) = some q → endedWith t r stOk (vaultReply (vlCipher false (reqOf c) v.material (panDigits (vlIn (reqOf c)))) true (some q))) ∧
       (vaultFind (getPart s r.part).vault (vaultTag v.material (vlDomain (reqOf c)) (vlCipher false (reqOf c) v.material (panDigits (vlIn (reqOf c))))) = none → endedWith t r stOk (vaultReply [] false none))) ∧
  (∀ (s : State) (r : CmdRef) (c : Cmd) (v : KeyVal), (AtWork 0x1102 s r c) → (vaultTurn s r = true) → (loadKey s c ((reqOf c).key 0) = some v) → (vlKeyChk v.attr = none) →
     ∃ t, exec (.vaultDetokenise r) s = .next t ∧ ∀ u, vaultPoison r.part (vaultTag v.material (vlDomain (reqOf c)) (vlCipher false (reqOf c) v.material (panDigits (vlIn (reqOf c))))) s = some u → endedWith t r stFault [] ∧ (getPart t r.part).vault.records = (getPart u r.part).vault.records ∧ t.flt.vaultLost = satAdd 32 s.flt.vaultLost 1) ∧
  (∀ (s : State) (r : CmdRef) (c : Cmd) (v : KeyVal), (AtWork 0x1103 s r c) → (vaultTurn s r = true) → (loadKey s c ((reqOf c).key 0) = some v) → (vlKeyChk v.attr = none) → (vaultPoison r.part (vaultTag v.material (vlDomain (reqOf c)) (vlCipher false (reqOf c) v.material (panDigits (vlIn (reqOf c))))) s = none) →
     ∃ t, exec (.vaultDelete r) s = .next t ∧ (∀ q, vaultFind (getPart s r.part).vault (vaultTag v.material (vlDomain (reqOf c)) (vlCipher false (reqOf c) v.material (panDigits (vlIn (reqOf c))))) = some q → endedWith t r stOk (vaultReply [] true (some q)) ∧ (getPart t r.part).vault.records = (getPart s r.part).vault.records.filter (fun p => !(p == q))) ∧
       (vaultFind (getPart s r.part).vault (vaultTag v.material (vlDomain (reqOf c)) (vlCipher false (reqOf c) v.material (panDigits (vlIn (reqOf c))))) = none → endedWith t r stOk (vaultReply [] false none) ∧ (getPart t r.part).vault.records = (getPart s r.part).vault.records)) ∧
  (∀ (s : State) (r : CmdRef) (c : Cmd) (v : KeyVal), (AtWork 0x1103 s r c) → (vaultTurn s r = true) → (loadKey s c ((reqOf c).key 0) = some v) → (vlKeyChk v.attr = none) →
     ∃ t, exec (.vaultDelete r) s = .next t ∧ ∀ u, vaultPoison r.part (vaultTag v.material (vlDomain (reqOf c)) (vlCipher false (reqOf c) v.material (panDigits (vlIn (reqOf c))))) s = some u → endedWith t r stFault [] ∧ (getPart t r.part).vault.records = (getPart u r.part).vault.records ∧ t.flt.vaultLost = satAdd 32 s.flt.vaultLost 1) ∧
  (∀ (s : State) (r : CmdRef) (c : Cmd) (v : KeyVal), (AtWork 0x1104 s r c) → (vaultTurn s r = true) → (loadKey s c ((reqOf c).key 0) = some v) → (vlKeyChk v.attr = none) → (c.out = none) →
     ∃ t, exec (.vaultReload r) s = .next t ∧ ∀ a, a = (List.range (rlCount (reqOf c))).foldl (reloadOne c v.material) { st := s, inserted := 0, present := 0, full := 0, bad := false } →
       (a.bad = false → endedWith t r stOk (toLe 4 a.inserted ++ toLe 4 a.present ++ toLe 4 a.full ++ zeros 4)) ∧ (a.bad = true → endedWith t r stFault []) ∧ (getPart t r.part).vault.records = (getPart a.st r.part).vault.records) ∧
  (∀ (s : State) (r : CmdRef), (vaultTurn s r = false) →
     exec (.vaultTokenise r) s = .next s) ∧
  (∀ (s : State) (r : CmdRef), (vaultTurn s r = false) →
     exec (.vaultDelete r) s = .next s)

/-- The firmware commands stage images, check them, release the application and commit the root-of-trust firmware. Rests also on the choices of the model in log entries 59, 60, 122. (R297, R302, R307, R308, R309, R311, R312, R366) -/
def Obligations.FirmwareCommandsStageCheckAndRelease : Prop :=
  (∀ (s : State) (r : CmdRef) (c : Cmd), (AtWork 0x0D01 s r c) → (ownAppBegin s (reqOf c) = none) →
     ∃ t, exec (.fwAppBegin r) s = .next t ∧ endedWith t r stOk (zeros 4) ∧ t.fw.load = 1 ∧ t.fw.stage = [] ∧ t.fw.stageLen = (reqOf c).pay 0 4 ∧ t.fw.stageBad = false) ∧
  (∀ (s : State) (r : CmdRef) (c : Cmd), (AtWork 0x0D01 s r c) → (ownAppBegin s (reqOf c) = some stPolicyDenied) →
     ∃ t, exec (.fwAppBegin r) s = .next t ∧ endedWith t r stPolicyDenied []) ∧
  (∀ (s : State) (r : CmdRef) (c : Cmd), (AtWork 0x0D02 s r c) → (ownAppChunk s (reqOf c) = none) →
     ∃ t, exec (.fwAppChunk r) s = .next t ∧ endedWith t r stOk (toLe 4 (s.fw.stage ++ c.payload.drop 8).length) ∧ t.fw.stage = s.fw.stage ++ c.payload.drop 8) ∧
  (∀ (s : State) (r : CmdRef) (c : Cmd), (AtWork 0x0D02 s r c) → (ownAppChunk s (reqOf c) = some stPolicyDenied) →
     ∃ t, exec (.fwAppChunk r) s = .next t ∧ endedWith t r stPolicyDenied []) ∧
  (∀ (s : State) (r : CmdRef) (c : Cmd), (AtWork 0x0D03 s r c) → (ownAppVerify s (reqOf c) = none) →
     ∃ t, exec (.fwAppVerify r) s = .next t ∧ (stageCheck s = 1 → endedWith t r stOk (verifyReply s.fw.stage) ∧ t.fw.load = 2 ∧ t.fw.lastResult = 1 ∧ t.fw.stage = s.fw.stage) ∧
       (stageCheck s ≠ 1 → endedWith t r stVerifyFailed [] ∧ t.fw.load = 4 ∧ t.fw.lastResult = BitVec.ofNat 4 (stageCheck s) ∧ t.fw.stage = [])) ∧
  (∀ (s : State) (r : CmdRef) (c : Cmd), (AtWork 0x0D03 s r c) → (ownAppVerify s (reqOf c) = some stPolicyDenied) →
     ∃ t, exec (.fwAppVerify r) s = .next t ∧ endedWith t r stPolicyDenied []) ∧
  (∀ (s : State) (r : CmdRef) (c : Cmd), (AtWork 0x0D04 s r c) → (ownAppRelease s (reqOf c) = none) →
     ∃ t, exec (.fwAppRelease r true) s = .next t ∧ endedWith t r stOk (zeros 4) ∧ t.fw.load = 3 ∧ t.fw.retained = false ∧ t.fw.appMeas = sha3_512 s.fw.stage ∧ t.fw.appSvn = BitVec.ofNat 8 (imgSvn s.fw.stage) ∧ t.life.cdi1 = [] ∧
       t.life.cdi2 = hmac 0x13 s.life.cdi1 (ascii "ULGUS-CDI2" ++ sha3_512 s.fw.stage ++ [BitVec.ofNat 8 (imgSvn s.fw.stage)]) ∧ t.life.appKey = layerKey t.life.cdi2 (ascii "ULGUS-APP")) ∧
  (∀ (s : State) (r : CmdRef) (c : Cmd), (AtWork 0x0D04 s r c) → (ownAppRelease s (reqOf c) = none) →
     ∃ t, exec (.fwAppRelease r false) s = .next t ∧ endedWith t r stFault ([]) ∧ t.fw.load = s.fw.load ∧ t.life.cdi1 = s.life.cdi1) ∧
  (∀ (s : State) (r : CmdRef) (c : Cmd), (AtWork 0x0D04 s r c) → (ownAppRelease s (reqOf c) = some stPolicyDenied) →
     ∃ t, exec (.fwAppRelease r true) s = .next t ∧ endedWith t r stPolicyDenied []) ∧
  (∀ (s : State) (r : CmdRef) (c : Cmd), (AtWork 0x0D05 s r c) → (ownRotBegin s (reqOf c) = none) →
     ∃ t, exec (.fwRotBegin r) s = .next t ∧ endedWith t r stOk (zeros 4) ∧ t.fw.rotStage = [] ∧ t.fw.rotLen = (reqOf c).pay 0 4) ∧
  (∀ (s : State) (r : CmdRef) (c : Cmd), (AtWork 0x0D05 s r c) → (ownRotBegin s (reqOf c) = some stPolicyDenied) →
     ∃ t, exec (.fwRotBegin r) s = .next t ∧ endedWith t r stPolicyDenied []) ∧
  (∀ (s : State) (r : CmdRef) (c : Cmd), (AtWork 0x0D06 s r c) → (ownRotChunk s (reqOf c) = none) →
     ∃ t, exec (.fwRotChunk r) s = .next t ∧ endedWith t r stOk (toLe 4 (s.fw.rotStage ++ c.payload.drop 8).length) ∧ t.fw.rotStage = s.fw.rotStage ++ c.payload.drop 8) ∧
  (∀ (s : State) (r : CmdRef) (c : Cmd), (AtWork 0x0D06 s r c) → (ownRotChunk s (reqOf c) = some stPolicyDenied) →
     ∃ t, exec (.fwRotChunk r) s = .next t ∧ endedWith t r stPolicyDenied []) ∧
  (∀ (s : State) (r : CmdRef) (c : Cmd) (ok : Bool), (AtWork 0x0D07 s r c) → (ownRotCommit s (reqOf c) = none) →
     ∃ t, exec (.fwRotCommit r ok) s = .next t ∧ (imageCheck s s.fw.rotStage 1 0 true ≠ 1 → endedWith t r stVerifyFailed [] ∧ t.fw.slotA = s.fw.slotA ∧ t.fw.slotB = s.fw.slotB) ∧
       (imageCheck s s.fw.rotStage 1 0 true = 1 → ok = true → endedWith t r stOk (toLe 1 (b2n (!s.fw.running)) ++ toLe 1 (imgSvn s.fw.rotStage) ++ zeros 2 ++ toLe 4 (nextFlagSeq s)) ∧
       (slotOf t (!s.fw.running)).image = s.fw.rotStage ∧ (slotOf t (!s.fw.running)).flag = flagRecord (!s.fw.running) (nextFlagSeq s) (sha3_256 (imgHeader s.fw.rotStage)) ∧
       (slotOf t s.fw.running).flag = flagCleared (slotOf s s.fw.running).flag ∧ (slotOf t s.fw.running).image = (slotOf s s.fw.running).image) ∧
       (imageCheck s s.fw.rotStage 1 0 true = 1 → ok = false → endedWith t r stFault [] ∧ slotActive (slotOf t (!s.fw.running)) = false ∧ slotOf t s.fw.running = slotOf s s.fw.running)) ∧
  (∀ (s : State) (r : CmdRef) (c : Cmd), (AtWork 0x0D07 s r c) → (ownRotCommit s (reqOf c) = some stPolicyDenied) →
     ∃ t, exec (.fwRotCommit r true) s = .next t ∧ endedWith t r stPolicyDenied []) ∧
  (∀ (s : State) (r : CmdRef) (c : Cmd), (AtWork 0x0D08 s r c) → (ownWarm s (reqOf c) = none) →
     ∃ t, exec (.fwWarmReset r) s = .next t ∧ endedWith t r stOk (zeros 4) ∧ t.svc.discardApp = (s.svc.discardApp || (reqOf c).pay 0 1 == 1)) ∧
  (∀ (s : State) (r : CmdRef) (c : Cmd), (AtWork 0x0D08 s r c) → (ownWarm s (reqOf c) = some stPolicyDenied) →
     ∃ t, exec (.fwWarmReset r) s = .next t ∧ endedWith t r stPolicyDenied [])

/-- The attestation, life-cycle and certificate commands reply reports and certificates, and program what the spec says. Rests also on the choices of the model in log entries 61 to 63. (R289, R358, R360, R364, R366, R367, R368) -/
def Obligations.AttestationAndLifeCycleCommandsEndAsSpecified : Prop :=
  (∀ (s : State) (r : CmdRef) (c : Cmd), (AtWork 0x0E01 s r c) →
     ∃ t, exec (.attestQuote r) s = .next t ∧ endedWith t r stOk (attestReport s r.part c.payload ++ hybridBlock (attestKey s r.part) (attestReport s r.part c.payload) (islandDraw 64 s).1)) ∧
  (∀ (s : State) (r : CmdRef) (c : Cmd), (AtWork 0x0E02 s r c) →
     ∃ t, exec (.attestChain r) s = .next t ∧ endedWith t r stOk ((attestChain s r.part).take 16384)) ∧
  (∀ (s : State) (r : CmdRef) (c : Cmd), (AtWork 0x0E10 s r c) →
     ∃ t, exec (.lcInfo r) s = .next t ∧ endedWith t r stOk (lcInfoReply s)) ∧
  (∀ (s : State) (r : CmdRef) (c : Cmd) (g : LifeCycle), (AtWork 0x0E11 s r c) → (ownLcRequest s (reqOf c) = none) → (rqTarget (reqOf c) = some g) → (4 ≤ rqKey (reqOf c)) →
     ∃ t, exec (.lcRequest r) s = .next t ∧ endedWith t r stOk (zeros 4) ∧ t.life.fenced = true ∧ (∀ a, (a < (0x400 + 16 * nextRecord s) ∨ (0x400 + 16 * nextRecord s) + 8 ≤ a) → otpRead t.life.otp a = otpRead s.life.otp a) ∧
       (∀ i, i < 4 → otpRead t.life.otp ((0x400 + 16 * nextRecord s) + i) = otpRead s.life.otp ((0x400 + 16 * nextRecord s) + i) ||| (toLe 4 (lcWord g)).getD i 0) ∧
       (∀ i, i < 4 → otpRead t.life.otp ((0x400 + 16 * nextRecord s) + 4 + i) = otpRead s.life.otp ((0x400 + 16 * nextRecord s) + 4 + i) ||| (toLe 4 (2 ^ 32 - 1 - lcWord g)).getD i 0)) ∧
  (∀ (s : State) (r : CmdRef) (c : Cmd) (g : LifeCycle) (e : Nat), (AtWork 0x0E11 s r c) → (ownLcRequest s (reqOf c) = none) → (rqTarget (reqOf c) = some g) → (rqKey (reqOf c) < 4) →
     ∃ t, exec (.lcRequest r) s = .next t ∧ (sigCheck (keyRevoked s (rqKey (reqOf c))) (imgKeyDigest s (rqKey (reqOf c))) (bsub c.payload 64 2692) (c.payload.take 64) (c.payload.drop 2756) = none → endedWith t r stOk (zeros 4) ∧ t.life.fenced = true) ∧
       (sigCheck (keyRevoked s (rqKey (reqOf c))) (imgKeyDigest s (rqKey (reqOf c))) (bsub c.payload 64 2692) (c.payload.take 64) (c.payload.drop 2756) = some e → endedWith t r stVerifyFailed [] ∧ otpSame s t)) ∧
  (∀ (s : State) (r : CmdRef) (c : Cmd), (AtWork 0x0E11 s r c) → (ownLcRequest s (reqOf c) = some stPolicyDenied) →
     ∃ t, exec (.lcRequest r) s = .next t ∧ endedWith t r stPolicyDenied []) ∧
  (∀ (s : State) (r : CmdRef) (c : Cmd), (AtWork 0x0E20 s r c) →
     ∃ t, exec (.idCertStore r) s = .next t ∧ (∀ st, ownCertStore s (reqOf c) = some st → endedWith t r st [] ∧ t.life.certs = s.life.certs) ∧
       (ownCertStore s (reqOf c) = none → Config.certIssued (csCa (reqOf c)) (csCert (reqOf c)) = true → Config.chainVerifies (rootDigest s) (csCert (reqOf c) ++ csCa (reqOf c)) = true → endedWith t r stOk (zeros 4) ∧ t.life.certs = some (csCert (reqOf c), csCa (reqOf c))) ∧
       (ownCertStore s (reqOf c) = none → (Config.certIssued (csCa (reqOf c)) (csCert (reqOf c)) && Config.chainVerifies (rootDigest s) (csCert (reqOf c) ++ csCa (reqOf c))) = false → endedWith t r stVerifyFailed [] ∧ t.life.certs = s.life.certs)) ∧
  (∀ (s : State) (r : CmdRef) (c : Cmd) (b : Bytes), (AtWork 0x0E21 s r c) → (certAt s r.part ((reqOf c).pay 0 1) = some b) →
     ∃ t, exec (.idCertRead r) s = .next t ∧ endedWith t r stOk (b.take 8192)) ∧
  (∀ (s : State) (r : CmdRef) (c : Cmd), (AtWork 0x0E21 s r c) → (certAt s r.part ((reqOf c).pay 0 1) = none) →
     ∃ t, exec (.idCertRead r) s = .next t ∧ endedWith t r stPolicyDenied ([]))

/-- The ring commands show and set the ring, form, end and switch a pair, and set the spill threshold. Rests also on the choices of the model in log entries 56, 86. (R290, R403, R407, R413, R414, R417, R421) -/
def Obligations.RingAndPairCommandsEndAsSpecified : Prop :=
  (∀ (s : State) (r : CmdRef) (c : Cmd), (AtWork 0x0F01 s r c) →
     ∃ t, exec (.ringStatus r) s = .next t ∧ endedWith t r stOk (toLe 1 (roleNum s) ++ toLe 1 (b2n s.ilu.leaseMode) ++ toLe 1 s.ilu.members ++
       toLe 1 ((if portStateNum s false = 3 then 0 else portStateNum s false) + 4 * (if portStateNum s true = 3 then 0 else portStateNum s true)) ++ zeros 4 ++
       toLe 8 s.ilu.claim.toNat ++ toLe 8 s.ilu.partner.toNat ++ toLe 4 (rttMax s) ++ toLe 4 (leaseLeft s) ++ zeros 32)) ∧
  (∀ (s : State) (r : CmdRef) (c : Cmd), (AtWork 0x0F02 s r c) →
     ∃ t, exec (.ringConfig r true) s = .next t ∧ endedWith t r stOk (zeros 4) ∧ t.ilu.ringId = BitVec.ofNat 64 ((reqOf c).pay 0 8) ∧ t.ilu.members = (reqOf c).pay 8 1 ∧ t.ilu.leaseMode = ((reqOf c).pay 9 1 == 1) ∧ t.ilu.leaseMult = (reqOf c).pay 10 1 ∧ t.ilu.formed = false) ∧
  (∀ (s : State) (r : CmdRef) (c : Cmd), (AtWork 0x0F02 s r c) →
     ∃ t, exec (.ringConfig r false) s = .next t ∧ endedWith t r stPolicyDenied ([]) ∧ t.ilu.members = s.ilu.members ∧ t.ilu.ringId = s.ilu.ringId) ∧
  (∀ (s : State) (r : CmdRef) (c : Cmd) (k : Bytes), (AtWork 0x0F03 s r c) →
     ∃ t, exec (.mirrorPair r true (some k)) s = .next t ∧ endedWith t r stOk (zeros 4) ∧ t.ilu.paired = true ∧ t.ilu.partner = BitVec.ofNat 64 ((reqOf c).pay 0 8) ∧ t.ilu.pairPort = ((reqOf c).pay 8 1 == 1) ∧ t.ilu.pairKey = padTo 32 k ∧
       t.ilu.mirror = (if (reqOf c).pay 9 1 = 1 then .syncSource else .syncTarget) ∧ t.ilu.resyncPct = 0) ∧
  (∀ (s : State) (r : CmdRef) (c : Cmd), (AtWork 0x0F03 s r c) →
     ∃ t, exec (.mirrorPair r true none) s = .next t ∧ endedWith t r stVerifyFailed ([]) ∧ t.ilu.paired = s.ilu.paired) ∧
  (∀ (s : State) (r : CmdRef) (c : Cmd) (k : Option Bytes), (AtWork 0x0F03 s r c) →
     ∃ t, exec (.mirrorPair r false k) s = .next t ∧ endedWith t r stPolicyDenied ([]) ∧ t.ilu.paired = s.ilu.paired) ∧
  (∀ (s : State) (r : CmdRef) (c : Cmd), (AtWork 0x0F04 s r c) →
     ∃ t, exec (.mirrorUnpair r) s = .next t ∧ endedWith t r stOk (zeros 4) ∧ t.ilu.paired = false ∧ t.ilu.mirror = .none) ∧
  (∀ (s : State) (r : CmdRef) (c : Cmd), (AtWork 0x0F05 s r c) → (s.ilu.mirror = .standby) → (s.ilu.partnerSeen = true) →
     ∃ t, exec (.mirrorSwitchover r) s = .next t ∧ underWay t r ∧ t.ilu.mirror = .standby) ∧
  (∀ (s : State) (r : CmdRef) (c : Cmd), (AtWork 0x0F05 s r c) → (s.ilu.mirror = .standby) → (s.ilu.partnerSeen = false) →
     ∃ t, exec (.mirrorSwitchover r) s = .next t ∧ endedWith t r stOk (toLe 8 t.ilu.claim.toNat) ∧ t.ilu.mirror = .solo ∧ t.ilu.claim = BitVec.ofNat 64 ((max s.ilu.claim.toNat s.ilu.topClaim.toNat / 256 + 1) * 256 + s.ilu.position % 256)) ∧
  (∀ (s : State) (r : CmdRef) (c : Cmd), (AtWork 0x0F05 s r c) → (s.ilu.mirror = .held) →
     ∃ t, exec (.mirrorSwitchover r) s = .next t ∧ endedWith t r stOk (toLe 8 t.ilu.claim.toNat) ∧ t.ilu.mirror = .solo ∧ t.ilu.claim = BitVec.ofNat 64 ((max s.ilu.claim.toNat s.ilu.topClaim.toNat / 256 + 1) * 256 + s.ilu.position % 256)) ∧
  (∀ (s : State) (r : CmdRef) (c : Cmd), (AtWork 0x0F05 s r c) → (s.ilu.mirror = .detached) →
     ∃ t, exec (.mirrorSwitchover r) s = .next t ∧ endedWith t r stOk (toLe 8 t.ilu.claim.toNat) ∧ t.ilu.mirror = .solo ∧ t.ilu.claim = BitVec.ofNat 64 ((max s.ilu.claim.toNat s.ilu.topClaim.toNat / 256 + 1) * 256 + s.ilu.position % 256)) ∧
  (∀ (s : State) (r : CmdRef) (c : Cmd), (AtWork 0x0F05 s r c) → (s.ilu.mirror = .none) →
     ∃ t, exec (.mirrorSwitchover r) s = .next t ∧ endedWith t r stOk (toLe 8 t.ilu.claim.toNat) ∧ t.ilu.keyMaster = s.ilu.formed ∧ t.ilu.vaultOwner = s.ilu.formed ∧
       t.ilu.claim = BitVec.ofNat 64 ((max s.ilu.claim.toNat s.ilu.topClaim.toNat / 256 + 1) * 256 + s.ilu.position % 256)) ∧
  (∀ (s : State) (r : CmdRef) (c : Cmd), (AtWork 0x0F06 s r c) →
     ∃ t, exec (.ringSpill r) s = .next t ∧ endedWith t r stOk (zeros 4) ∧ t.ilu.spill = BitVec.ofNat 8 ((reqOf c).pay 0 1))

/-- The platform commands show and set the platform record, the Lens lock and banks, and the boot records. Rests also on the choices of the model in log entries 69, 72, 74, 81, 122. (R319, R331, R332, R333, R334, R337, R339, R340, R342, R354) -/
def Obligations.PlatformAndLensCommandsEndAsSpecified : Prop :=
  (∀ (s : State) (r : CmdRef) (c : Cmd), (AtWork 0x1001 s r c) →
     ∃ t, exec (.platformStatus r) s = .next t ∧ endedWith t r stOk (platReply s)) ∧
  (∀ (s : State) (r : CmdRef) (c : Cmd), (AtWork 0x1002 s r c) → (ownConfigSet s (reqOf c) = none) →
     ∃ t, exec (.platformConfigSet r) s = .next t ∧ endedWith t r stOk (zeros 4) ∧ t.plat.pcfg = some c.payload) ∧
  (∀ (s : State) (r : CmdRef) (c : Cmd), (AtWork 0x1002 s r c) → (ownConfigSet s (reqOf c) = some stPolicyDenied) →
     ∃ t, exec (.platformConfigSet r) s = .next t ∧ endedWith t r stPolicyDenied []) ∧
  (∀ (s : State) (r : CmdRef) (c : Cmd), (AtWork 0x1003 s r c) →
     ∃ t, exec (.platformConfigGet r) s = .next t ∧ endedWith t r stOk (padTo 1408 (s.plat.pcfg.getD []))) ∧
  (∀ (s : State) (r : CmdRef) (c : Cmd), (AtWork 0x1004 s r c) → (ownReboot s (reqOf c) = none) →
     ∃ t, exec (.platformReboot r) s = .next t ∧ endedWith t r stOk (zeros 4)) ∧
  (∀ (s : State) (r : CmdRef) (c : Cmd), (AtWork 0x1004 s r c) → (ownReboot s (reqOf c) = some stPolicyDenied) →
     ∃ t, exec (.platformReboot r) s = .next t ∧ endedWith t r stPolicyDenied []) ∧
  (∀ (s : State) (r : CmdRef) (c : Cmd), (AtWork 0x1005 s r c) → (ownLock s (reqOf c) = none) → ((reqOf c).pay 0 1 = 1) →
     ∃ t, exec (.lensLock r) s = .next t ∧ endedWith t r stOk (zeros 4) ∧ t.plat.lock = 1 ∧ t.plat.lockOwner = callerOf s (reqOf c)) ∧
  (∀ (s : State) (r : CmdRef) (c : Cmd), (AtWork 0x1005 s r c) → (ownLock s (reqOf c) = none) → ((reqOf c).pay 0 1 ≠ 1) →
     ∃ t, exec (.lensLock r) s = .next t ∧ endedWith t r stOk (zeros 4) ∧ t.plat.lock = 0) ∧
  (∀ (s : State) (r : CmdRef) (c : Cmd) (e : Status), (AtWork 0x1005 s r c) → (ownLock s (reqOf c) = some e) →
     ∃ t, exec (.lensLock r) s = .next t ∧ endedWith t r e ([]) ∧ t.plat.lock = s.plat.lock) ∧
  (∀ (s : State) (r : CmdRef) (c : Cmd) (m : Bytes), (AtWork 0x1006 s r c) → (ownStage s (reqOf c) = none) → (s.plat.manifest = some m) →
     ∃ t, exec (.lensStage r) s = .next t ∧ endedWith t r stOk (zeros 4) ∧ bankOf t (!activeIdx s) = bankAt m (((setOffsets m (mfSets m) (32 + 80 * mfRegions m)).1).getD ((reqOf c).pay 0 1) 0) ((reqOf c).pay 0 1) .inactive ∧ bankOf t (activeIdx s) = bankOf s (activeIdx s)) ∧
  (∀ (s : State) (r : CmdRef) (c : Cmd), (AtWork 0x1006 s r c) → (ownStage s (reqOf c) = some stPolicyDenied) →
     ∃ t, exec (.lensStage r) s = .next t ∧ endedWith t r stPolicyDenied []) ∧
  (∀ (s : State) (r : CmdRef) (c : Cmd), (AtWork 0x1007 s r c) → (ownSwap s (reqOf c) = none) → (swapFault (bankOf s (!activeIdx s)) = none) →
     ∃ t, exec (.lensSwap r) s = .next t ∧ endedWith t r stOk (swapReply t false (zeros 2) (zeros 2)) ∧ activeIdx t = !activeIdx s ∧ (bankOf t (!activeIdx s)).state = .active ∧ (bankOf t (!activeIdx s)).rules = (bankOf s (!activeIdx s)).rules ∧ (bankOf t (activeIdx s)).state = (if s.plat.inflight.any (fun i => i.bank == activeIdx s) then .draining else .inactive) ∧ t.plat.refusedSwap = false) ∧
  (∀ (s : State) (r : CmdRef) (c : Cmd) (i j : Nat), (AtWork 0x1007 s r c) → (ownSwap s (reqOf c) = none) → (swapFault (bankOf s (!activeIdx s)) = some (.pair i j)) →
     ∃ t, exec (.lensSwap r) s = .next t ∧ endedWith t r stVerifyFailed (swapReply s true (toLe 2 i) (toLe 2 j)) ∧ t.plat.refusedSwap = true ∧ t.plat.bank0 = s.plat.bank0 ∧ t.plat.bank1 = s.plat.bank1) ∧
  (∀ (s : State) (r : CmdRef) (c : Cmd) (f : SwapFault), (AtWork 0x1007 s r c) → (ownSwap s (reqOf c) = none) → (swapFault (bankOf s (!activeIdx s)) = some f) →
     ∃ t, exec (.lensSwap r) s = .next t ∧ endedStatus t r stVerifyFailed ∧ t.plat.refusedSwap = true ∧ t.plat.bank0 = s.plat.bank0 ∧ t.plat.bank1 = s.plat.bank1) ∧
  (∀ (s : State) (r : CmdRef) (c : Cmd) (e : Status), (AtWork 0x1007 s r c) → (ownSwap s (reqOf c) = some e) →
     ∃ t, exec (.lensSwap r) s = .next t ∧ endedWith t r e (swapReply s false (zeros 2) (zeros 2))) ∧
  (∀ (s : State) (r : CmdRef) (c : Cmd), (AtWork 0x1008 s r c) →
     ∃ t, exec (.lensRead r) s = .next t ∧ endedWith t r stOk (bankImage (bankOf s ((reqOf c).pay 0 1 == 1)) ++ sha3_512 (bankImage (bankOf s ((reqOf c).pay 0 1 == 1))))) ∧
  (∀ (s : State) (r : CmdRef) (c : Cmd) (b : Bytes), (AtWork 0x1009 s r c) → (recordAt s ((reqOf c).pay 0 8) = some b) →
     ∃ t, exec (.bootRecordRead r) s = .next t ∧ endedWith t r stOk (b)) ∧
  (∀ (s : State) (r : CmdRef) (c : Cmd), (AtWork 0x1009 s r c) → (recordAt s ((reqOf c).pay 0 8) = none) →
     ∃ t, exec (.bootRecordRead r) s = .next t ∧ endedWith t r stPolicyDenied ([])) ∧
  (∀ (s : State) (r : CmdRef) (c : Cmd), (AtWork 0x100A s r c) → (ownRecordAck s (reqOf c) = none) →
     ∃ t, exec (.bootRecordAck r) s = .next t ∧ endedWith t r stOk (toLe 4 (unacked t)) ∧ t.plat.ackSeq = max s.plat.ackSeq ((reqOf c).pay 0 8) ∧
       (s.plat.hold = true → unacked t < 8192 → t.plat.hold = false ∧ t.plat.host = .verifying)) ∧
  (∀ (s : State) (r : CmdRef) (c : Cmd), (AtWork 0x100A s r c) → (ownRecordAck s (reqOf c) = some stPolicyDenied) →
     ∃ t, exec (.bootRecordAck r) s = .next t ∧ endedWith t r stPolicyDenied []) ∧
  (∀ (s : State) (r : CmdRef) (c : Cmd), (AtWork 0x100B s r c) → (ownMbusSet s (reqOf c) = none) →
     ∃ t, exec (.mbusConfigSet r) s = .next t ∧ endedWith t r stOk (zeros 4)) ∧
  (∀ (s : State) (r : CmdRef) (c : Cmd), (AtWork 0x100B s r c) → (ownMbusSet s (reqOf c) = some stPolicyDenied) →
     ∃ t, exec (.mbusConfigSet r) s = .next t ∧ endedWith t r stPolicyDenied []) ∧
  (∀ (s : State) (r : CmdRef) (c : Cmd), (AtWork 0x100C s r c) →
     ∃ t, exec (.mbusConfigGet r) s = .next t ∧ endedWith t r stOk (padTo 144 s.mbus.config))

/-- The interface of the block: the command at the front of the queue runs on the rest. The queue is the model's (log entry 1). (00_scope.md) -/
def Obligations.StepRunsTheFrontCommand : Prop :=
  ∀ (c : Instr) (s : State) (rest : List Instr), (s.pending = c :: rest) →
     step s = exec c { s with pending := rest }

/-- With an empty queue one microsecond passes (the choice of the model, log entry 2). (01_architecture.md) -/
def Obligations.IdleStepPassesOneMicrosecond : Prop :=
  (∀ (s : State), (s.pending = []) →
     ∃ t, step s = .next t ∧ t.clk = { s.clk with ns := s.clk.ns + 1000 } ∧ t.pending = []) ∧
  (∀ (s : State), (s.pending = []) → (s.rng.running = false ∨ s.rng.state ≠ .testing ∨ s.rng.verdict = false) → (s.svc.dawnDone = false) →
     step s = .next (loadPass { s with clk := { s.clk with ns := s.clk.ns + 1000 }, hzn := hznPass s.hzn, svc := linkPass (s.clk.ns + 1000) s.svc })) ∧
  (∀ (h : Horizon),
     (h.powered = false → hznPass h = h) ∧ (h.powered = true → h.frac + 64000 < 1953125 → hznPass h = { h with frac := h.frac + 64000 }) ∧
       (h.powered = true → 1953125 ≤ h.frac + 64000 → hznPass h = { h with frac := h.frac + 64000 - 1953125, time := h.time + 1 })) ∧
  (∀ (n : Nat) (v : Service),
     linkPass n v = if linkReady n v = true ∧ v.linkUp = false ∧ v.rank0 = true ∧ v.phase ≠ .dark then { v with linkUp := true } else v) ∧
  (∀ (s : State),
     loadPass s = { s with ilu := { s.ilu with busy := (busyCores s :: s.ilu.busy).take 100, loadPct := ((busyCores s :: s.ilu.busy).take 100).sum / max 1 (servingCount s .core) } }) ∧
  (∀ (s : State), (s.pending = []) → (s.rng.running = true) → (s.rng.state = .testing) → (s.rng.verdict = true) → (s.rng.startNs + 120000 ≤ s.clk.ns + 1000) →
     ∃ t, step s = .next t ∧ t.rng.state = .healthy)

/-- The state after reset is the module as shipped: Dark, Personalised, unprovisioned, unconfigured, disarmed. Rests also on the choices of the model in log entries 5 to 8, 81, 96. (R25, R98, R316, R385, R407, R453) -/
def Obligations.ResetIsTheModuleAsShipped : Prop :=
  State.reset.svc.phase = .dark ∧ State.reset.svc.linkUp = false ∧ lifeCycle State.reset = .personalised ∧ State.reset.life.certs.isSome = true ∧ State.reset.ks.mwkGen = 0 ∧ State.reset.ks.keys = [] ∧
       State.reset.plat.pcfg = none ∧ allZero (bsub State.reset.mbus.config 8 128) = true ∧ State.reset.hzn.armExt = false ∧ State.reset.hzn.armEncl = false ∧
       State.reset.fw.slotA.image = State.reset.fw.slotB.image ∧ slotActive State.reset.fw.slotA = true ∧ slotActive State.reset.fw.slotB = false ∧ flagSeq State.reset.fw.slotA = 0 ∧ State.reset.plat.hostReset = true ∧ State.reset.plat.bmcReset = true ∧
       (∀ g, (getRing State.reset g).enable = false) ∧ State.reset.ilu.paired = false ∧ State.reset.ilu.members = 0 ∧ State.reset.prism.cmds = [] ∧ State.reset.pending = [] ∧ State.reset.pm.logP = none

/-- Every step keeps the OTP in its canonical form and clears no bit of it. (R362, R365) -/
def Obligations.OtpKeepsItsFormAndItsBits : Prop :=
  ∀ (s t : State), (otpSound s) → (step s = .next t) →
     otpSound t ∧ otpGrows s t

/-- The OTP after reset is in its canonical form, with one identity seed, whose value is the choice of the model (log entry 5), and no key revoked (R365, R453) -/
def Obligations.ResetOtpIsSound : Prop :=
  otpSound State.reset ∧ otpRead State.reset.life.otp 0x200 = 1 ∧ otpRead State.reset.life.otp 0xF0 = 0

/-- No command or event changes the queue of those that wait. (02_command_path.md) -/
def Obligations.CommandsLeaveTheQueue : Prop :=
  ∀ (i : Instr) (s t : State), (exec i s = .next t) →
     t.pending = s.pending

/-- A host command changes only what its effect is about and what the end of a command changes. (R46, R72, R140, R141, R459) -/
def Obligations.HostCommandsLeaveTheRest : Prop :=
  (∀ (i : Instr) (l : List Area) (s : State), (hostTouches i = some l) →
     ∃ t, exec i s = .next t ∧ endsTouching l s t) ∧
  (∀ (i : Instr) (l : List Area) (s : State), (hostTouchesMany i = some l) →
     ∃ t, exec i s = .next t ∧ endsTouching l s t) ∧
  (∀ (i : Instr) (l : List Area) (op : Nat) (r : CmdRef) (c : Cmd) (s : State), (hostTouches i = some l) → (.ks ∉ l) → (hostRow i = some (op, r)) → (findCmd s r = some c) → (c.out = none) →
     ∃ t, exec i s = .next t ∧ ∃ h k, t.ks = { s.ks with holds := h, hot := k })

/-- An event of the ring, clock, start, generator, store, Horizon, platform, bus, debug or link rows changes only the parts of State its row lists. (R38, R104, R212, R316, R343, R371, R400) -/
def Obligations.EventsLeaveTheRest : Prop :=
  (∀ (i : Instr) (l : List Area) (s : State), (eventTouches i = some l) → (barAccess i = none) →
     ∃ t, exec i s = .next t ∧ touchesOnly l s t) ∧
  (∀ (i : Instr) (l : List Area) (b : Bool) (s : State), (eventTouches i = some l) → (barAccess i = some b) → (s.svc.linkUp = false ∨ b = true) →
     ∃ t, exec i s = .next t ∧ touchesOnly l s t) ∧
  (∀ (i : Instr) (s : State), (barAccess i = some false) → (s.svc.linkUp = true) →
     exec i s = .fault .outsideBar)

/-- A host command waits for its turn, and one cut short, or whose item or draw failed, ends with that status. (R72, R74, R110, R141, R220, R254) -/
def Obligations.HostCommandsWaitOrEndWithTheirFailure : Prop :=
  (∀ (i : Instr) (op : Nat) (r : CmdRef) (s : State), (hostRow i = some (op, r)) → (∀ c, findCmd s r = some c → ready op s c = false) →
     exec i s = .next s) ∧
  (∀ (i : Instr) (op : Nat) (r : CmdRef) (c : Cmd) (st : Status) (s : State), (hostRow i = some (op, r)) → (AtEnd op s r c st) → ((isVaultOp c.opcode = true → vaultTurn s r = true)) → ((op = 0x0318 → backupTurn s r = true)) →
     ∃ t, exec i s = .next t ∧ endedStatus t r st)

/-- A failed item cancels the items of its command not yet dispatched, leaves those in service, and the lowest one gives the status. (R72) -/
def Obligations.FailedItemsCancelTheRest : Prop :=
  (∀ (r : CmdRef) (n : Nat) (st : Status) (s : State) (c : Cmd), (findCmd s r = some c) →
     ∃ d, findCmd (failItem r n st s) r = some d ∧ d.items.length = c.items.length ∧
       (∀ j x, j ≠ n → c.items[j]? = some x → x.state = .waiting → ∃ y, d.items[j]? = some y ∧ y.state = .cancelled) ∧
       (∀ j x, j ≠ n → c.items[j]? = some x → x.state ≠ .waiting → d.items[j]? = some x) ∧
       (∀ x, c.items[n]? = some x → ∃ y, d.items[n]? = some y ∧ y.state = .ended ∧ y.fail = some st)) ∧
  (∀ (i : Instr) (op : Nat) (r : CmdRef) (c : Cmd) (s : State) (n : Nat) (x : Item) (st : Status), (hostRow i = some (op, r)) → (findCmd s r = some c) → (ready op s c = true) → (c.cut = none) → (c.items[n]? = some x) → (x.fail = some st) → (∀ j y, j < n → c.items[j]? = some y → y.fail = none) → ((isVaultOp c.opcode = true → vaultTurn s r = true)) → ((op = 0x0318 → backupTurn s r = true)) →
     ∃ t, exec i s = .next t ∧ endedStatus t r st)

/-- The state words of the OTP, and their low byte is the code of the state. (R363) -/
def Obligations.LifeCycleWordsAreThoseOfTheSpec : Prop :=
  lcWord .test = 0x5A3CC301 ∧ lcWord .personalised = 0x5AC33C02 ∧ lcWord .deployed = 0xA53C5A03 ∧ lcWord .returned = 0xA5C3A504 ∧ lcWord .scrap = 0xC35AA505 ∧
       ∀ l, lcWord l % 256 = lcCode l
end

