-- ==== Sys2Proof/Laws/Ops.lean ====
section
/-! SUPPORT. What each named operation can do to the state, once and for all: the only fields it changes. -/

namespace Sys2Proof.Laws

open Sys2Proof Sys2Proof.Machine

/-- An event whose guard holds takes effect. -/
theorem guarded_true {g : Bool} {f : State → State} {s : State} (h : g = true) : guarded g f s = .next (f s) := by
  simp [guarded, h]

/-- An event whose guard does not hold changes nothing. -/
theorem guarded_false {g : Bool} {f : State → State} {s : State} (h : g = false) : guarded g f s = .next s := by
  simp [guarded, h]

/-- The same, for what is to hold of the next state. -/
theorem guarded_runs {g : Bool} {f : State → State} {s : State} {P : State → Prop} {o : Res} (e : o = guarded g f s)
    (h : g = true) (hp : P (f s)) : ∃ t, o = .next t ∧ P t := ⟨f s, by rw [e, guarded_true h], hp⟩

theorem emit_frame (o : Out) (s : State) : emit o s = { s with out := s.out ++ [o] } := rfl

theorem setFn_frame (f : Nat) (x : Fn) (s : State) : setFn s f x = { s with fns := s.fns.put f x } := rfl

theorem raiseVector_frame (f v : Nat) (s : State) : ∃ a b, raiseVector f v s = { s with fns := a, out := b } := by
  unfold raiseVector setFn emit
  dsimp only
  (repeat' split)
  · exact ⟨s.fns, s.out, rfl⟩
  · exact ⟨_, s.out, rfl⟩
  · exact ⟨s.fns, _, rfl⟩

theorem setCause_frame (f : Nat) (c : BitVec 5) (s : State) : ∃ a b, setCause f c s = { s with fns := a, out := b } := by
  unfold setCause
  dsimp only
  split
  · exact ⟨_, s.out, rfl⟩
  · obtain ⟨a, b, h⟩ := raiseVector_frame f 0 (setFn s f { getFn s f with irqCause := (getFn s f).irqCause ||| c })
    exact ⟨a, b, by rw [h]; rfl⟩

/-- A fold whose every step stays in a reflexive and transitive relation stays in it. -/
theorem foldl_rel {α : Type} (R : State → State → Prop) (refl : ∀ s, R s s) (trans : ∀ a b c, R a b → R b c → R a c)
    (f : State → α → State) (h : ∀ s x, R s (f s x)) (l : List α) (s : State) : R s (l.foldl f s) := by
  induction l generalizing s with
  | nil => exact refl s
  | cons x r ih => exact trans _ _ _ (h s x) (ih (f s x))

theorem foldl_setCause_frame (l : List Nat) (c : BitVec 5) (s : State) :
    ∃ a b, l.foldl (fun s f => setCause f c s) s = { s with fns := a, out := b } := by
  refine foldl_rel (fun s t => ∃ a b, t = { s with fns := a, out := b }) (fun s => ⟨s.fns, s.out, rfl⟩) ?_ _
    (fun s x => setCause_frame x c s) l s
  rintro a b d ⟨x, y, rfl⟩ ⟨x', y', rfl⟩
  exact ⟨x', y', rfl⟩

theorem setCauseAll_frame (c : BitVec 5) (s : State) : ∃ a b, setCauseAll c s = { s with fns := a, out := b } :=
  foldl_setCause_frame allFns c s

theorem setCausePart_frame (p : Nat) (c : BitVec 5) (s : State) : ∃ a b, setCausePart p c s = { s with fns := a, out := b } :=
  foldl_setCause_frame _ c s

theorem setFltCause_frame (c : BitVec 9) (s : State) :
    ∃ a b, setFltCause c s = { s with flt := { s.flt with cause := s.flt.cause ||| c }, fns := a, out := b } := by
  unfold setFltCause
  dsimp only
  split
  · exact ⟨s.fns, s.out, rfl⟩
  · obtain ⟨a, b, h⟩ := raiseVector_frame 0 0 { s with flt := { s.flt with cause := s.flt.cause ||| c } }
    exact ⟨a, b, by rw [h]⟩

theorem bumpFn_frame (f off : Nat) (s : State) : ∃ a, bumpFn f off s = { s with fns := a } := ⟨_, rfl⟩

theorem modPart_frame (p : Nat) (g : Part → Part) (s : State) : ∃ a, modPart p g s = { s with parts := a } := ⟨_, rfl⟩

theorem bumpPart_frame (p off : Nat) (s : State) : ∃ a, bumpPart p off s = { s with parts := a } := ⟨_, rfl⟩

theorem modRing_frame (g : Nat) (h : Ring → Ring) (s : State) : ∃ a, modRing g h s = { s with rings := a } := ⟨_, rfl⟩

theorem modCmd_frame (r : CmdRef) (g : Cmd → Cmd) (s : State) :
    modCmd r g s = { s with prism := { s.prism with cmds := s.prism.cmds.map (fun c => if c.ref == r then g c else c) } } := rfl

/-- What a trace record changes: the ring of records and what is sent. -/
theorem traceRec_frame (event unit part flags : Nat) (tail : Bytes) (s : State) :
    ∃ w f l o, traceRec event unit part flags tail s =
      { s with prism := { s.prism with trcWrite := w, trcFull := f, trcLost := l }, out := o } := by
  unfold traceRec
  dsimp only
  (repeat' split)
  · exact ⟨s.prism.trcWrite, s.prism.trcFull, s.prism.trcLost, s.out, rfl⟩
  · exact ⟨s.prism.trcWrite, s.prism.trcFull, s.prism.trcLost, s.out, rfl⟩
  · exact ⟨s.prism.trcWrite, s.prism.trcFull, _, s.out, rfl⟩
  · exact ⟨_, _, s.prism.trcLost, _, rfl⟩

theorem traceCancels_frame (c : Cmd) (s : State) :
    ∃ w f l o, traceCancels c s = { s with prism := { s.prism with trcWrite := w, trcFull := f, trcLost := l }, out := o } := by
  refine foldl_rel (fun s t => ∃ w f l o, t = { s with prism := { s.prism with trcWrite := w, trcFull := f, trcLost := l }, out := o })
    (fun s => ⟨s.prism.trcWrite, s.prism.trcFull, s.prism.trcLost, s.out, rfl⟩) ?_ _ (fun s i => ?_) _ s
  · rintro a b d ⟨w, f, l, o, rfl⟩ ⟨w', f', l', o', rfl⟩
    exact ⟨w', f', l', o', rfl⟩
  · dsimp only
    split
    · split
      · exact traceRec_frame _ _ _ _ _ s
      · exact ⟨s.prism.trcWrite, s.prism.trcFull, s.prism.trcLost, s.out, rfl⟩
    · exact ⟨s.prism.trcWrite, s.prism.trcFull, s.prism.trcLost, s.out, rfl⟩

theorem faultLog_frame (kind event index line : Nat) (s : State) :
    ∃ a b, faultLog kind event index line s = { s with flt := { s.flt with log := a, logNext := b } } := ⟨_, _, rfl⟩

end Sys2Proof.Laws
end

