-- ==== Sys2Proof/Laws/Bus.lean ====
section
/-! SUPPORT. What the management bus does with a request: who is served, and what serving changes beside the request's own effect. -/

namespace Sys2Proof.Laws

open Sys2Proof.Machine Sys2Proof.Safety

/-- Sending on a port changes its counts of losses and retries and the messages alone. -/
theorem busSend_frame (n : Nat) (o : Out) (s : State) :
    ∃ l, busSend n o s = { s with mbus := { s.mbus with ports := l }, out := (pendingSignal n s).out ++ [o] } := by
  unfold busSend pendingSignal
  split <;> exact ⟨_, rfl⟩

/-- Answering enters the dialog, and is one message sent. -/
theorem answer_frame (src : SpdmSource) (req : Bytes) (code : Nat) (payload : Bytes) (s : State) :
    ∃ d l, answer src req code payload s =
      { s with mbus := { s.mbus with dialogs := d, ports := l }, out := (pendingSignal src.port.val s).out ++ [.spdm src.port.val src.eid code payload] } := by
  unfold answer busSend pendingSignal
  dsimp only
  split <;> exact ⟨_, _, rfl⟩

/-- Tracking a stranger changes nothing but the list of strangers. -/
theorem track_frame (x : Stranger) (s : State) : ∃ l, track x s = { s with mbus := { s.mbus with strangers := l } } := ⟨_, rfl⟩

/-- Metering a request that is let through changes nothing but the list of strangers. -/
theorem meter_frame {src : SpdmSource} {s : State} (h : (meter src s).1 = true) :
    ∃ l, meter src s = (true, { s with mbus := { s.mbus with strangers := l } }) := by
  revert h
  unfold meter
  dsimp only
  split
  · intro _; exact ⟨_, rfl⟩
  · intro h; exfalso; revert h; (repeat' split) <;> simp

/-- A request of an endpoint that is heard outside a session, and that anyone may send, is served. -/
theorem serve_heard {src : SpdmSource} {s : State} (h : heard src s) (act : State → State) :
    ∃ l, serve src .anyone act s = act { s with mbus := { s.mbus with strangers := l } } := by
  obtain ⟨hp, hn, hk⟩ := h
  unfold serve
  have hx : sourceSession s src = none := by unfold sourceSession; rw [hn]
  simp only [hp, hn, hx, Bool.not_true, Bool.false_eq_true, if_false, Option.isSome_none, Bool.false_and]
  by_cases hkn : knownEid s src.eid = true
  · simp only [hkn, if_true]
    exact ⟨s.mbus.strangers, rfl⟩
  · obtain ⟨l, hl⟩ := meter_frame (hk.resolve_left hkn)
    simp only [hkn, hl]
    exact ⟨l, rfl⟩

/-- A known endpoint is served whatever known endpoints may ask. -/
theorem serve_known {src : SpdmSource} {s : State} (h : heard src s) (hk : knownEid s src.eid = true) (act : State → State) :
    serve src .known act s = act s := by
  obtain ⟨hp, hn, _⟩ := h
  unfold serve
  have hx : sourceSession s src = none := by unfold sourceSession; rw [hn]
  simp [hp, hn, hx, hk, serves]

/-- A request in an established session of a known endpoint is served, be it for anyone, for known endpoints or for sessions. -/
theorem serve_session {src : SpdmSource} {x : SpdmSession} {s : State} (h : inSession src x s) (a : Audience) (ha : a ≠ .handshake)
    (act : State → State) : serve src a act s = act (heardIn src x s) := by
  obtain ⟨hp, hx, hh, hk, he⟩ := h
  unfold serve heardIn
  cases a <;> simp_all [serves]

end Sys2Proof.Laws
end

