-- ==== Sys2Proof/Laws/Link.lean ====
section
/-! SUPPORT. What sending on the Iluon link can change, and what receiving a frame of it does beside the frame's own effect. -/

namespace Sys2Proof.Laws

open Sys2Proof.Machine Sys2Proof.Safety

/-! ## Sending -/

/-- Two states that differ in the link's own state and the messages alone. -/
def linkOnly (s t : State) : Prop := ∃ i o, t = { s with ilu := i, out := o }

theorem linkOnly_refl (s : State) : linkOnly s s := ⟨s.ilu, s.out, rfl⟩

theorem linkOnly_trans (a b c : State) : linkOnly a b → linkOnly b c → linkOnly a c := by
  rintro ⟨i, o, rfl⟩ ⟨i', o', rfl⟩
  exact ⟨i', o', rfl⟩

theorem linkOnly_foldl {α : Type} (f : State → α → State) (h : ∀ s x, linkOnly s (f s x)) (l : List α) (s : State) :
    linkOnly s (l.foldl f s) := foldl_rel linkOnly linkOnly_refl linkOnly_trans f h l s

theorem modIlu_link (g : Iluon → Iluon) (s : State) : linkOnly s (modIlu g s) := ⟨g s.ilu, s.out, rfl⟩

theorem modPort_link (east : Bool) (g : IluonPort → IluonPort) (s : State) : linkOnly s (modPort east g s) := modIlu_link _ s

theorem emit_link (x : Out) (s : State) : linkOnly s (emit x s) := ⟨s.ilu, s.out ++ [x], rfl⟩

/-- Two states that differ in what sending moves and the messages alone. -/
def linkSent (s t : State) : Prop := ∃ i o, iluSent s.ilu i ∧ t = { s with ilu := i, out := o }

theorem portSent_refl (p : IluonPort) : portSent p p := ⟨p.sendSeq, p.unacked, p.idleNs, rfl⟩

theorem portSent_trans {p q r : IluonPort} : portSent p q → portSent q r → portSent p r := by
  rintro ⟨a, b, c, rfl⟩ ⟨a', b', c', rfl⟩
  exact ⟨a', b', c', rfl⟩

theorem iluSent_refl (i : Iluon) : iluSent i i := ⟨i.west, i.east, i.counter, i.applied, portSent_refl _, portSent_refl _, rfl⟩

theorem iluSent_trans {i j k : Iluon} : iluSent i j → iluSent j k → iluSent i k := by
  rintro ⟨w, e, n, a, hw, he, rfl⟩ ⟨w', e', n', a', hw', he', rfl⟩
  exact ⟨w', e', n', a', portSent_trans hw hw', portSent_trans he he', rfl⟩

theorem linkSent_refl (s : State) : linkSent s s := ⟨s.ilu, s.out, iluSent_refl _, rfl⟩

theorem linkSent_trans (a b c : State) : linkSent a b → linkSent b c → linkSent a c := by
  rintro ⟨i, o, h, rfl⟩ ⟨i', o', h', rfl⟩
  exact ⟨i', o', iluSent_trans h h', rfl⟩

theorem linkSent_foldl {α : Type} (f : State → α → State) (h : ∀ s x, linkSent s (f s x)) (l : List α) (s : State) :
    linkSent s (l.foldl f s) := foldl_rel linkSent linkSent_refl linkSent_trans f h l s

theorem linkOnly_of_sent {s t : State} : linkSent s t → linkOnly s t := by
  rintro ⟨i, o, -, e⟩
  exact ⟨i, o, e⟩

theorem emit_sent (x : Out) (s : State) : linkSent s (emit x s) := ⟨s.ilu, s.out ++ [x], iluSent_refl _, rfl⟩

theorem sendHop_sent (east : Bool) (typ : Nat) (q : BitVec 16) (s : State) : linkSent s (sendHop east typ q s) := emit_sent _ s

theorem putFrame_sent (east : Bool) (typ flags src dst len : Nat) (claim : BitVec 64) (b : Bytes) (s : State) :
    linkSent s (putFrame east typ flags src dst len claim b s) := by
  cases east
  · exact ⟨_, _, ⟨_, _, s.ilu.counter, s.ilu.applied, ⟨_, _, _, rfl⟩, portSent_refl _, rfl⟩, rfl⟩
  · exact ⟨_, _, ⟨_, _, s.ilu.counter, s.ilu.applied, portSent_refl _, ⟨_, _, _, rfl⟩, rfl⟩, rfl⟩

theorem sealPayload_sent (typ flags src dst : Nat) (claim : BitVec 64) (b : Bytes) (s : State) :
    linkSent s (sealPayload typ flags src dst claim b s).2 := by
  unfold sealPayload
  split
  · exact linkSent_refl s
  · exact ⟨_, _, ⟨_, _, _, s.ilu.applied, portSent_refl _, portSent_refl _, rfl⟩, rfl⟩

theorem sendPiece_sent (east : Bool) (typ dst : Nat) (claim : BitVec 64) (more : Bool) (b : Bytes) (s : State) :
    linkSent s (sendPiece east typ dst claim more b s) :=
  linkSent_trans _ _ _ (sealPayload_sent ..) (putFrame_sent ..)

theorem sendTrain_sent (east : Bool) (typ dst : Nat) (claim : BitVec 64) (l : List Bytes) :
    ∀ s, linkSent s (sendTrain east typ dst claim l s) := by
  induction l with
  | nil => exact linkSent_refl
  | cons b r ih =>
    intro s
    cases r with
    | nil => exact sendPiece_sent ..
    | cons c r => exact linkSent_trans _ _ _ (sendPiece_sent ..) (ih _)

/-- A message on a port that is down is not sent. -/
theorem sendFrame_down {east : Bool} {s : State} (h : (iluPort s east).up = false) (typ dst : Nat) (claim : BitVec 64) (b : Bytes) :
    sendFrame east typ dst claim b s = s := by
  unfold sendFrame
  simp [h]

theorem sendFrame_sent (east : Bool) (typ dst : Nat) (claim : BitVec 64) (b : Bytes) (s : State) :
    linkSent s (sendFrame east typ dst claim b s) := by
  unfold sendFrame
  split
  · exact sendTrain_sent ..
  · exact linkSent_refl s

theorem broadcast_sent (typ : Nat) (claim : BitVec 64) (b : Bytes) (s : State) : linkSent s (broadcast typ claim b s) := by
  unfold broadcast
  dsimp only
  split
  · exact sendFrame_sent ..
  · exact linkSent_trans _ _ _ (sendFrame_sent ..) (sendFrame_sent ..)

theorem sendTo_sent (n typ : Nat) (claim : BitVec 64) (b : Bytes) (s : State) : linkSent s (sendTo n typ claim b s) := by
  unfold sendTo
  dsimp only
  split
  · exact sendFrame_sent ..
  · exact linkSent_trans _ _ _ (sendFrame_sent ..) (sendFrame_sent ..)

theorem sendPartner_sent (typ : Nat) (b : Bytes) (s : State) : linkSent s (sendPartner typ b s) := sendFrame_sent _ _ _ _ _ s

theorem sendForward_sent (s : State) (c : Cmd) : linkSent s (sendForward s c) := by
  unfold sendForward
  dsimp only
  (repeat' split) <;> first | exact linkSent_refl s | exact sendPartner_sent ..

theorem resendForwards_sent (s : State) : linkSent s (resendForwards s) := linkSent_foldl _ sendForward_sent _ s

theorem sendReplica_sent (s : State) (m : Bool × Bytes) : linkSent s (sendReplica s m) := broadcast_sent ..

theorem resendAll_sent (s : State) : linkSent s (resendAll s) :=
  linkSent_trans _ _ _ (resendForwards_sent s) (linkSent_foldl _ sendReplica_sent _ _)

/-- A link that goes down changes the link's own state and the messages alone. -/
theorem dropLink_link (port : Bool) (s : State) : linkOnly s (dropLink port s) :=
  linkOnly_trans _ _ _ (modPort_link ..) (linkOnly_of_sent (resendAll_sent _))

/-- So does a frame that passes through. -/
theorem onwards_link (f : Frame) (typ : Nat) (b : Bytes) (n : Nat) (s : State) : linkOnly s (onwards f typ b n s) := by
  unfold onwards reframe
  (repeat' split) <;> first | exact linkOnly_of_sent (putFrame_sent ..) | exact linkOnly_refl s

theorem passOn_link (f : Frame) (typ : Nat) (s : State) : linkOnly s (passOn f typ s) := by
  unfold passOn
  (repeat' split)
  · exact linkOnly_trans _ _ _ (modIlu_link ..) (linkOnly_of_sent (putFrame_sent ..))
  · exact modIlu_link ..
  · exact onwards_link ..

theorem goOn_link (f : Frame) (typ : Nat) (s : State) : linkOnly s (goOn f typ s) := by
  unfold goOn
  split
  · exact passOn_link f typ s
  · exact linkOnly_refl s

/-- A frame sent whole on a port that is up: it goes out under the port's next LINK_SEQ and stays in the replay buffer. -/
theorem putFrame_up (east : Bool) (typ flags src dst len : Nat) (claim : BitVec 64) (b : Bytes) (s : State) :
    ∃ x, (putFrame east typ flags src dst len claim b s).out = s.out ++ [.iluon east x] ∧
      x = linkFrame typ flags src dst len (iluPort s east).sendSeq claim b ∧
      (iluPort (putFrame east typ flags src dst len claim b s) east).unacked = (iluPort s east).unacked ++ [((iluPort s east).sendSeq, x)] := by
  cases east <;> exact ⟨_, rfl, rfl, rfl⟩

/-! ## Receiving -/

/-- Whether a frame is acted on does not depend on its having been taken off its port. -/
theorem acts_taken (f : Frame) (typ : Nat) (s : State) : acts (frameTaken f s) f typ = acts s f typ := by
  unfold frameTaken acts addressedHere fromPartner ownFrame uncovered pairFrame nextTo
  cases f.port <;> rfl

/-- A delivered frame acts in the state in which it has arrived. -/
theorem receive_delivered {f : Frame} {typ : Nat} {s : State} (h : delivered f typ s) (act : State → State) :
    receive f typ act s = settled f typ (act (arrived f typ s)) := by
  obtain ⟨h1, h2, h3, h4⟩ := h
  have h5 := (acts_taken f typ s).trans h4
  unfold frameTaken at h5
  have hq : (f.linkSeq != (iluPort s f.port).recvSeq) = false := by simp [h2]
  unfold receive settled arrived trainOver frameTaken
  simp only [h1, hq, h3, h5, Bool.not_true, Bool.false_eq_true, Bool.false_and, if_false, if_true]

/-- A frame that is not acted on here passes through: it is acknowledged and its claim is heard. -/
theorem receive_through {f : Frame} {typ : Nat} {s : State} (h : (iluPort s f.port).up = true) (hs : f.linkSeq = (iluPort s f.port).recvSeq)
    (ha : acts s f typ = false) (act : State → State) :
    receive f typ act s = passOn f typ (if f.tagOk then heardFrom f typ (frameTaken f s) else frameTaken f s) := by
  have h5 := (acts_taken f typ s).trans ha
  unfold frameTaken at h5
  have hq : (f.linkSeq != (iluPort s f.port).recvSeq) = false := by simp [hs]
  unfold receive frameTaken
  simp only [h, hq, h5, Bool.not_true, Bool.not_false, Bool.and_false, Bool.false_eq_true, if_false, if_true]

/-- A frame out of its order is discarded, and LINK_NAK names the one wanted. -/
theorem receive_gap {f : Frame} {s : State} (h : (iluPort s f.port).up = true) (hs : f.linkSeq ≠ (iluPort s f.port).recvSeq) (typ : Nat)
    (act : State → State) : receive f typ act s = sendHop f.port 0x61 (iluPort s f.port).recvSeq s := by
  unfold receive
  simp [h, hs]

/-- A frame that finds its port down is not received. -/
theorem receive_down {f : Frame} {s : State} (h : (iluPort s f.port).up = false) (typ : Nat) (act : State → State) :
    receive f typ act s = s := by
  unfold receive
  simp [h]

/-- A frame to be acted on whose tag fails is discarded with the partial message of its TYPE, counted, and a transient fault of its port. -/
theorem receive_badTag {f : Frame} {typ : Nat} {s : State} (h : (iluPort s f.port).up = true) (hs : f.linkSeq = (iluPort s f.port).recvSeq)
    (ht : f.tagOk = false) (ha : acts s f typ = true) (act : State → State) :
    receive f typ act s = portFault f.port (modPort f.port (fun p => { p with tagErr := satAdd 8 p.tagErr 1, train := p.train.filter (fun t => t.1 != typ) })
      (frameTaken f s)) := by
  have h5 := (acts_taken f typ s).trans ha
  unfold frameTaken at h5
  have hq : (f.linkSeq != (iluPort s f.port).recvSeq) = false := by simp [hs]
  unfold receive frameTaken
  simp only [h, hq, ht, h5, Bool.not_true, Bool.not_false, Bool.and_self, Bool.false_eq_true, if_false, if_true]

/-- Becoming the source of a resynchronisation touches the link's own state, SHARED and the messages alone. -/
theorem enterSource_frame (s : State) : ∃ i b o, enterSource s = { s with ilu := i, rng := { s.rng with shared := b }, out := o } := by
  have h (n : Nat) (u : State) : linkOnly u (sendSync n u) := linkOnly_of_sent (sendPartner_sent ..)
  obtain ⟨i, o, e⟩ := linkOnly_trans _ _ _ (linkOnly_trans _ _ _ (h 1 (toMirror .syncSource (modIlu (fun i => { i with resyncPct := 0 }) s))) (h 2 _)) (h 3 _)
  exact ⟨i, _, o, e⟩

/-- Hearing the partner touches the link's own state, SHARED and the messages alone. -/
theorem hearPartner_frame (s : State) :
    ∃ i b o, hearPartner s = { s with ilu := i, rng := { s.rng with shared := b }, out := o } := by
  unfold hearPartner modIlu toMirror
  dsimp only
  split
  · obtain ⟨i, o, e⟩ := linkOnly_of_sent <| resendForwards_sent { s with ilu := { s.ilu with heardNs := s.clk.ns, partnerSeen := true, mirror := .active }, rng := { s.rng with shared := partsShared .active } }
    rw [e]
    exact ⟨_, _, _, rfl⟩
  · obtain ⟨i, b, o, e⟩ := enterSource_frame { s with ilu := { s.ilu with heardNs := s.clk.ns, partnerSeen := true } }
    rw [e]
    exact ⟨_, _, _, rfl⟩
  · exact ⟨_, _, _, rfl⟩
  · exact ⟨_, s.rng.shared, _, rfl⟩

end Sys2Proof.Laws
end

