-- ==== Sys2Proof/Laws/Commands.lean ====
section
/-! SUPPORT. What running an accepted command does (R46, R72, R140): the commands in flight, and the result it ends with. -/

namespace Sys2Proof.Laws

open Sys2Proof Sys2Proof.Machine Sys2Proof.Safety

/-! ## Operations that leave every command's result as it is -/

/-- The results of the commands in flight are the same in both states. -/
def sameResults (s t : State) : Prop := ∀ r, (findCmd t r).map (fun c => c.result) = (findCmd s r).map (fun c => c.result)

theorem sameResults_refl (s : State) : sameResults s s := fun _ => rfl
theorem sameResults_trans (a b c : State) (h : sameResults a b) (k : sameResults b c) : sameResults a c :=
  fun r => (k r).trans (h r)

theorem sameResults_of_cmds {s t : State} (h : t.prism.cmds = s.prism.cmds) : sameResults s t :=
  fun r => by unfold findCmd; rw [h]

theorem findCmd_congr {s t : State} (h : t.prism.cmds = s.prism.cmds) (r : CmdRef) : findCmd t r = findCmd s r := by
  unfold findCmd; rw [h]

/-- A search in a list whose every command was changed, keeping its name. -/
theorem find_map (l : List Cmd) (g : Cmd → Cmd) (hr : ∀ c, (g c).ref = c.ref) (r : CmdRef) :
    (l.map g).find? (fun c => c.ref == r) = (l.find? (fun c => c.ref == r)).map g := by
  rw [List.find?_map]
  congr 2
  funext c
  simp [hr]

/-- A change of every command that keeps its name and its result. -/
theorem sameResults_map (s : State) (g : Cmd → Cmd) (hr : ∀ c, (g c).ref = c.ref) (hg : ∀ c, (g c).result = c.result) :
    sameResults s (setCmds s (s.prism.cmds.map g)) := by
  intro r
  show ((s.prism.cmds.map g).find? (fun c => c.ref == r)).map _ = (s.prism.cmds.find? (fun c => c.ref == r)).map _
  rw [find_map _ g hr]
  cases s.prism.cmds.find? (fun c => c.ref == r) with
  | none => rfl
  | some c => simp [hg]

theorem traceCancels_results (c : Cmd) (s : State) : sameResults s (traceCancels c s) := by
  obtain ⟨w, f, l, o, h⟩ := traceCancels_frame c s
  exact sameResults_of_cmds (by rw [h])

theorem dropRef_results (p : Nat) (k : BitVec 32) (v : BitVec 16) (s : State) : sameResults s (dropRef p k v s) :=
  sameResults_of_cmds rfl

theorem dropRefs_results (c : Cmd) (s : State) : sameResults s (dropRefs c s) := by
  unfold dropRefs
  exact foldl_rel sameResults sameResults_refl sameResults_trans _ (fun u (k : BitVec 32 × BitVec 16) => dropRef_results _ k.1 k.2 u) _ _

theorem modPart_results (p : Nat) (g : Part → Part) (s : State) : sameResults s (modPart p g s) := sameResults_of_cmds rfl

theorem takeRef_results (p : Nat) (r : BitVec 32) (v : BitVec 16) (s : State) : sameResults s (takeRef p r v s) := by
  refine sameResults_of_cmds ?_
  unfold takeRef
  dsimp only
  (repeat' split) <;> rfl

theorem fallBack_results (p : Nat) (r : BitVec 32) (v : BitVec 16) (s : State) : sameResults s (fallBack p r v s) := by
  unfold fallBack
  dsimp only
  refine sameResults_trans _ _ _ (sameResults_map s _ (fun c => ?_) (fun c => ?_))
    (sameResults_trans _ _ _ (sameResults_of_cmds (s := setCmds s _) rfl)
      (foldl_rel sameResults sameResults_refl sameResults_trans _ (fun t h => ?_) _ _))
  · split <;> rfl
  · split <;> rfl
  · exact foldl_rel sameResults sameResults_refl sameResults_trans _ (fun u _ => takeRef_results _ _ _ u) _ _

theorem rewriteWithdraw_results (p : Nat) (r : BitVec 32) (c : CmdRef) (b : Bool) (s : State) :
    sameResults s (rewriteWithdraw p r c b s) := by
  unfold rewriteWithdraw
  dsimp only
  split
  · exact sameResults_refl s
  · refine sameResults_trans _ _ _ (sameResults_of_cmds ?_) (fallBack_results _ _ _ _)
    cases b <;> rfl

/-! ## Changing one command -/

/-- A change of one command that keeps its name is what a later search finds. -/
theorem findCmd_modCmd (r : CmdRef) (g : Cmd → Cmd) (s : State) (hg : ∀ c, (g c).ref = c.ref) :
    findCmd (modCmd r g s) r = (findCmd s r).map g := by
  show (s.prism.cmds.map (fun c => if c.ref == r then g c else c)).find? (fun c => c.ref == r) = _
  rw [find_map _ _ (fun c => by split <;> simp [hg])]
  show Option.map _ (findCmd s r) = _
  cases h : findCmd s r with
  | none => rfl
  | some c =>
    unfold findCmd at h
    have := List.find?_some h
    simp only [beq_iff_eq] at this
    simp [this]

theorem found_ref {s : State} {r : CmdRef} {c : Cmd} (h : findCmd s r = some c) : c.ref = r := by
  unfold findCmd at h
  have := List.find?_some h
  simpa using this

/-! ## Ending a command -/

theorem hotDropDerived_results (r : CmdRef) (s : State) : sameResults s (hotDropDerived r s) := sameResults_of_cmds rfl

theorem noteBacking_results (c : CmdRef) (k : BitVec 32) (s : State) : sameResults s (noteBacking c k s) := by
  have h : (backingNow s c.part k).2.prism.cmds = s.prism.cmds := by
    unfold backingNow; dsimp only; (repeat' split) <;> rfl
  exact sameResults_trans _ _ _ (sameResults_of_cmds h) (sameResults_map _ _ (fun d => by split <;> rfl) (fun d => by split <;> rfl))

theorem found_of_same {s t : State} {r : CmdRef} {c : Cmd} (h : sameResults s t) (hf : findCmd s r = some c) :
    (findCmd t r).isSome = true := by
  have := h r
  rw [hf] at this
  cases hc : findCmd t r with
  | none => rw [hc] at this; cases this
  | some d => rfl

theorem endedWith_modCmd {u : State} {r : CmdRef} {st : Status} {b : Bytes} {g : Cmd → Cmd} (h : (findCmd u r).isSome = true)
    (hr : ∀ c, (g c).ref = c.ref) (hg : ∀ c, (g c).result = some { status := st, reply := b }) : endedWith (modCmd r g u) r st b := by
  unfold endedWith
  rw [findCmd_modCmd r g u hr]
  cases hf : findCmd u r with
  | none => rw [hf] at h; cases h
  | some d => exact hg d

/-- A command in flight without a result has, after its end, the result it ended with. -/
theorem endCmd_result {r : CmdRef} {s : State} {c : Cmd} (h : findCmd s r = some c) (hn : c.result = none) (st : Status)
    (b : Bytes) : endedWith (endCmd r st b s) r st b := by
  unfold endCmd
  rw [h]
  simp only [hn, Option.isSome_none, Bool.false_eq_true, if_false]
  refine endedWith_modCmd (found_of_same (s := s) ?_ h) (fun _ => rfl) (fun _ => rfl)
  have hb : sameResults s (hotDropDerived r (dropRefs c (traceCancels c s))) :=
    sameResults_trans _ _ _ (sameResults_trans _ _ _ (traceCancels_results c s) (dropRefs_results c _)) (hotDropDerived_results r _)
  have hd : ∀ u, sameResults s u → sameResults s (dropDraw r u) := fun u hu => sameResults_trans _ _ _ hu (sameResults_of_cmds rfl)
  have hw : ∀ u p k b, sameResults s u → sameResults s (rewriteWithdraw p k r b u) :=
    fun u p k b hu => sameResults_trans _ _ _ hu (rewriteWithdraw_results _ _ _ _ _)
  have hk : ∀ u k, sameResults s u → sameResults s (noteBacking r k u) := fun u k hu => sameResults_trans _ _ _ hu (noteBacking_results _ _ _)
  split
  · split
    · refine hk _ _ (hd _ ?_)
      (repeat' split) <;> first | exact hb | exact hw _ _ _ _ hb
    · refine hd _ ?_
      (repeat' split) <;> first | exact hb | exact hw _ _ _ _ hb
  · refine hd _ ?_
    (repeat' split) <;> first | exact hb | exact hw _ _ _ _ hb

theorem sameResults_of_link {s t : State} (h : linkOnly s t) : sameResults s t := by
  obtain ⟨i, o, rfl⟩ := h
  exact sameResults_of_cmds rfl

theorem replicateOut_results (c : Cmd) (st : Status) (s t : State) : sameResults t (replicateOut c st s t) := by
  unfold replicateOut
  split
  · dsimp only
    split
    · exact sameResults_refl t
    · refine sameResults_trans _ _ _ (sameResults_of_link (linkOnly_trans _ _ _ (linkOnly_of_sent (linkSent_foldl _ sendReplica_sent _ t)) (modIlu_link _ _)))
        (sameResults_map _ (fun d => if d.ref == c.ref then _ else d) (fun d => ?_) (fun d => ?_))
      · split <;> rfl
      · split <;> rfl
  · exact sameResults_refl t

theorem endedWith_of_results {s t : State} (h : sameResults s t) {r : CmdRef} {st : Status} {b : Bytes}
    (he : endedWith s r st b) : endedWith t r st b := by
  unfold endedWith at *
  have := h r
  revert he this
  cases findCmd s r <;> cases findCmd t r <;> simp_all

/-- The command as its effect sees it. -/
theorem noteUndo_found {s : State} {r : CmdRef} {c : Cmd} (h : findCmd s r = some c) :
    ∃ d, findCmd (noteUndo c s) r = some d ∧ d.result = c.result := by
  unfold noteUndo
  cases hk : c.out with
  | none => exact ⟨c, h, rfl⟩
  | some k =>
    have hr := found_ref h
    subst hr
    dsimp only
    rw [findCmd_modCmd]
    · rw [h]; exact ⟨_, rfl, rfl⟩
    · intro c; rfl

/-- Once a command is at work, an effect that answers a status and a reply in a state where the command still lacks its result
ends it with them. -/
theorem runAccepted_ends {op : Nat} {s u : State} {r : CmdRef} {c d : Cmd} {st : Status} {b : Bytes} (eff : Effect)
    (fail : OnFail) (h : AtWork op s r c) (he : eff c (noteUndo c s) = (u, some (st, b))) (hd : findCmd u r = some d)
    (hn : d.result = none) :
    ∃ t, runAccepted op eff fail r s = .next t ∧ t = replicateOut c st s (endCmd r st b u) ∧ endedWith t r st b := by
  have hr := found_ref h.found
  refine ⟨_, ?_, rfl, ?_⟩
  · unfold runAccepted
    rw [h.found]
    simp only [h.ready, if_true, runCmd, h.clean, he, hr]
  · exact endedWith_of_results (replicateOut_results c st _ _) (endCmd_result hd hn st b)

/-- A command at work has no result yet. -/
theorem AtWork_fresh {op : Nat} {s : State} {r : CmdRef} {c : Cmd} (h : AtWork op s r c) : c.result = none := by
  have := h.ready
  unfold ready at this
  simp only [Bool.and_eq_true] at this
  simpa using this.1.1.1.1.2

/-- The same for an effect that changes nothing: it answers the status and the reply alone. -/
theorem runAccepted_answers {op : Nat} {s : State} {r : CmdRef} {c : Cmd} {st : Status} {b : Bytes} (eff : Effect) (fail : OnFail)
    (h : AtWork op s r c) (he : eff c (noteUndo c s) = (noteUndo c s, some (st, b))) :
    ∃ t, runAccepted op eff fail r s = .next t ∧ t = replicateOut c st s (endCmd r st b (noteUndo c s)) ∧ endedWith t r st b := by
  obtain ⟨d, hd, hn⟩ := noteUndo_found h.found
  exact runAccepted_ends eff fail h he hd (hn.trans (AtWork_fresh h))

/-- A command that writes no key reference is seen by its effect as it stands. -/
theorem noteUndo_none {c : Cmd} (h : c.out = none) (s : State) : noteUndo c s = s := by
  unfold noteUndo; rw [h]

end Sys2Proof.Laws
end

