-- ==== Sys2Proof/Laws/Tab.lean ====
section
/-! SUPPORT. Sparse tables: a read after a write, other keys kept, keys kept in order. -/

namespace Sys2Proof.Laws

open Sys2Proof Sys2Proof.Machine

@[simp] theorem look_put {α : Type} (t : Tab α) (k : Nat) (v : α) : (t.put k v).look k = some v := by
  induction t with
  | nil => simp [Tab.put, Tab.look]
  | cons e r ih =>
    obtain ⟨j, w⟩ := e
    unfold Tab.put
    split
    · simp [Tab.look]
    · split
      · simp [Tab.look]
      · rename_i h1 h2
        simp [Tab.look, Ne.symm h2, ih]

theorem look_put_ne {α : Type} (t : Tab α) {k j : Nat} (v : α) (h : j ≠ k) : (t.put k v).look j = t.look j := by
  induction t with
  | nil => simp [Tab.put, Tab.look, Ne.symm h]
  | cons e r ih =>
    obtain ⟨i, w⟩ := e
    unfold Tab.put
    split
    · simp [Tab.look, Ne.symm h]
    · split
      · rename_i h1 h2
        subst h2
        simp [Tab.look, Ne.symm h]
      · simp only [Tab.look, ih]

@[simp] theorem at_put {α : Type} (t : Tab α) (k : Nat) (v d : α) : (t.put k v).at k d = v := by simp [Tab.at]

theorem at_put_ne {α : Type} (t : Tab α) {k j : Nat} (v d : α) (h : j ≠ k) : (t.put k v).at j d = t.at j d := by
  simp [Tab.at, look_put_ne t v h]

/-- Reading a table whose every entry was changed by a function of its key and value. -/
theorem look_map {α β : Type} (t : Tab α) (g : α → β) (k : Nat) :
    Tab.look (t.map (fun e => (e.1, g e.2))) k = (t.look k).map g := by
  induction t with
  | nil => rfl
  | cons e r ih =>
    obtain ⟨j, w⟩ := e
    simp only [List.map_cons, Tab.look]
    split
    · rfl
    · exact ih

/-- Reading a table that lists the keys from `a` on, `n` of them. -/
theorem look_range' {α : Type} (g : Nat → α) (n a k : Nat) (h : a ≤ k) (h' : k < a + n) :
    Tab.look ((List.range' a n).map (fun i => (i, g i))) k = some (g k) := by
  induction n generalizing a with
  | zero => omega
  | succ n ih =>
    simp only [List.range'_succ, List.map_cons, Tab.look]
    split
    · rename_i e; rw [e]
    · exact ih (a + 1) (by omega) (by omega)

theorem look_range {α : Type} (g : Nat → α) {n k : Nat} (h : k < n) :
    Tab.look ((List.range n).map (fun i => (i, g i))) k = some (g k) := by
  rw [List.range_eq_range']
  exact look_range' g n 0 k (by omega) (by omega)

end Sys2Proof.Laws
end

