-- ==== Sys2Proof/Laws/State.lean ====
section
/-! SUPPORT. What each named update of the state leaves as it is, field by field, and a read after a write of one entry. -/

namespace Sys2Proof.Laws

open Sys2Proof Sys2Proof.Machine

@[simp] theorem emit_clk (o : Out) (s : State) : (emit o s).clk = s.clk := rfl
@[simp] theorem emit_svc (o : Out) (s : State) : (emit o s).svc = s.svc := rfl
@[simp] theorem emit_fns (o : Out) (s : State) : (emit o s).fns = s.fns := rfl
@[simp] theorem emit_rings (o : Out) (s : State) : (emit o s).rings = s.rings := rfl
@[simp] theorem emit_replies (o : Out) (s : State) : (emit o s).replies = s.replies := rfl
@[simp] theorem emit_pm (o : Out) (s : State) : (emit o s).pm = s.pm := rfl
@[simp] theorem emit_parts (o : Out) (s : State) : (emit o s).parts = s.parts := rfl
@[simp] theorem emit_ks (o : Out) (s : State) : (emit o s).ks = s.ks := rfl
@[simp] theorem emit_sess (o : Out) (s : State) : (emit o s).sess = s.sess := rfl
@[simp] theorem emit_prism (o : Out) (s : State) : (emit o s).prism = s.prism := rfl
@[simp] theorem emit_facets (o : Out) (s : State) : (emit o s).facets = s.facets := rfl
@[simp] theorem emit_engines (o : Out) (s : State) : (emit o s).engines = s.engines := rfl
@[simp] theorem emit_domains (o : Out) (s : State) : (emit o s).domains = s.domains := rfl
@[simp] theorem emit_fabClass (o : Out) (s : State) : (emit o s).fabClass = s.fabClass := rfl
@[simp] theorem emit_rng (o : Out) (s : State) : (emit o s).rng = s.rng := rfl
@[simp] theorem emit_fw (o : Out) (s : State) : (emit o s).fw = s.fw := rfl
@[simp] theorem emit_plat (o : Out) (s : State) : (emit o s).plat = s.plat := rfl
@[simp] theorem emit_mbus (o : Out) (s : State) : (emit o s).mbus = s.mbus := rfl
@[simp] theorem emit_life (o : Out) (s : State) : (emit o s).life = s.life := rfl
@[simp] theorem emit_hzn (o : Out) (s : State) : (emit o s).hzn = s.hzn := rfl
@[simp] theorem emit_ilu (o : Out) (s : State) : (emit o s).ilu = s.ilu := rfl
@[simp] theorem emit_flt (o : Out) (s : State) : (emit o s).flt = s.flt := rfl
@[simp] theorem emit_free (o : Out) (s : State) : (emit o s).free = s.free := rfl
@[simp] theorem emit_pending (o : Out) (s : State) : (emit o s).pending = s.pending := rfl

@[simp] theorem setFn_clk (f : Nat) (x : Fn) (s : State) : (setFn s f x).clk = s.clk := rfl
@[simp] theorem setFn_svc (f : Nat) (x : Fn) (s : State) : (setFn s f x).svc = s.svc := rfl
@[simp] theorem setFn_rings (f : Nat) (x : Fn) (s : State) : (setFn s f x).rings = s.rings := rfl
@[simp] theorem setFn_replies (f : Nat) (x : Fn) (s : State) : (setFn s f x).replies = s.replies := rfl
@[simp] theorem setFn_pm (f : Nat) (x : Fn) (s : State) : (setFn s f x).pm = s.pm := rfl
@[simp] theorem setFn_parts (f : Nat) (x : Fn) (s : State) : (setFn s f x).parts = s.parts := rfl
@[simp] theorem setFn_ks (f : Nat) (x : Fn) (s : State) : (setFn s f x).ks = s.ks := rfl
@[simp] theorem setFn_sess (f : Nat) (x : Fn) (s : State) : (setFn s f x).sess = s.sess := rfl
@[simp] theorem setFn_prism (f : Nat) (x : Fn) (s : State) : (setFn s f x).prism = s.prism := rfl
@[simp] theorem setFn_facets (f : Nat) (x : Fn) (s : State) : (setFn s f x).facets = s.facets := rfl
@[simp] theorem setFn_engines (f : Nat) (x : Fn) (s : State) : (setFn s f x).engines = s.engines := rfl
@[simp] theorem setFn_domains (f : Nat) (x : Fn) (s : State) : (setFn s f x).domains = s.domains := rfl
@[simp] theorem setFn_fabClass (f : Nat) (x : Fn) (s : State) : (setFn s f x).fabClass = s.fabClass := rfl
@[simp] theorem setFn_rng (f : Nat) (x : Fn) (s : State) : (setFn s f x).rng = s.rng := rfl
@[simp] theorem setFn_fw (f : Nat) (x : Fn) (s : State) : (setFn s f x).fw = s.fw := rfl
@[simp] theorem setFn_plat (f : Nat) (x : Fn) (s : State) : (setFn s f x).plat = s.plat := rfl
@[simp] theorem setFn_mbus (f : Nat) (x : Fn) (s : State) : (setFn s f x).mbus = s.mbus := rfl
@[simp] theorem setFn_life (f : Nat) (x : Fn) (s : State) : (setFn s f x).life = s.life := rfl
@[simp] theorem setFn_hzn (f : Nat) (x : Fn) (s : State) : (setFn s f x).hzn = s.hzn := rfl
@[simp] theorem setFn_ilu (f : Nat) (x : Fn) (s : State) : (setFn s f x).ilu = s.ilu := rfl
@[simp] theorem setFn_flt (f : Nat) (x : Fn) (s : State) : (setFn s f x).flt = s.flt := rfl
@[simp] theorem setFn_free (f : Nat) (x : Fn) (s : State) : (setFn s f x).free = s.free := rfl
@[simp] theorem setFn_out (f : Nat) (x : Fn) (s : State) : (setFn s f x).out = s.out := rfl
@[simp] theorem setFn_pending (f : Nat) (x : Fn) (s : State) : (setFn s f x).pending = s.pending := rfl

@[simp] theorem modFn_clk (f : Nat) (g : Fn → Fn) (s : State) : (modFn f g s).clk = s.clk := rfl
@[simp] theorem modFn_svc (f : Nat) (g : Fn → Fn) (s : State) : (modFn f g s).svc = s.svc := rfl
@[simp] theorem modFn_rings (f : Nat) (g : Fn → Fn) (s : State) : (modFn f g s).rings = s.rings := rfl
@[simp] theorem modFn_replies (f : Nat) (g : Fn → Fn) (s : State) : (modFn f g s).replies = s.replies := rfl
@[simp] theorem modFn_pm (f : Nat) (g : Fn → Fn) (s : State) : (modFn f g s).pm = s.pm := rfl
@[simp] theorem modFn_parts (f : Nat) (g : Fn → Fn) (s : State) : (modFn f g s).parts = s.parts := rfl
@[simp] theorem modFn_ks (f : Nat) (g : Fn → Fn) (s : State) : (modFn f g s).ks = s.ks := rfl
@[simp] theorem modFn_sess (f : Nat) (g : Fn → Fn) (s : State) : (modFn f g s).sess = s.sess := rfl
@[simp] theorem modFn_prism (f : Nat) (g : Fn → Fn) (s : State) : (modFn f g s).prism = s.prism := rfl
@[simp] theorem modFn_facets (f : Nat) (g : Fn → Fn) (s : State) : (modFn f g s).facets = s.facets := rfl
@[simp] theorem modFn_engines (f : Nat) (g : Fn → Fn) (s : State) : (modFn f g s).engines = s.engines := rfl
@[simp] theorem modFn_domains (f : Nat) (g : Fn → Fn) (s : State) : (modFn f g s).domains = s.domains := rfl
@[simp] theorem modFn_fabClass (f : Nat) (g : Fn → Fn) (s : State) : (modFn f g s).fabClass = s.fabClass := rfl
@[simp] theorem modFn_rng (f : Nat) (g : Fn → Fn) (s : State) : (modFn f g s).rng = s.rng := rfl
@[simp] theorem modFn_fw (f : Nat) (g : Fn → Fn) (s : State) : (modFn f g s).fw = s.fw := rfl
@[simp] theorem modFn_plat (f : Nat) (g : Fn → Fn) (s : State) : (modFn f g s).plat = s.plat := rfl
@[simp] theorem modFn_mbus (f : Nat) (g : Fn → Fn) (s : State) : (modFn f g s).mbus = s.mbus := rfl
@[simp] theorem modFn_life (f : Nat) (g : Fn → Fn) (s : State) : (modFn f g s).life = s.life := rfl
@[simp] theorem modFn_hzn (f : Nat) (g : Fn → Fn) (s : State) : (modFn f g s).hzn = s.hzn := rfl
@[simp] theorem modFn_ilu (f : Nat) (g : Fn → Fn) (s : State) : (modFn f g s).ilu = s.ilu := rfl
@[simp] theorem modFn_flt (f : Nat) (g : Fn → Fn) (s : State) : (modFn f g s).flt = s.flt := rfl
@[simp] theorem modFn_free (f : Nat) (g : Fn → Fn) (s : State) : (modFn f g s).free = s.free := rfl
@[simp] theorem modFn_out (f : Nat) (g : Fn → Fn) (s : State) : (modFn f g s).out = s.out := rfl
@[simp] theorem modFn_pending (f : Nat) (g : Fn → Fn) (s : State) : (modFn f g s).pending = s.pending := rfl

@[simp] theorem setRing_clk (g : Nat) (x : Ring) (s : State) : (setRing s g x).clk = s.clk := rfl
@[simp] theorem setRing_svc (g : Nat) (x : Ring) (s : State) : (setRing s g x).svc = s.svc := rfl
@[simp] theorem setRing_fns (g : Nat) (x : Ring) (s : State) : (setRing s g x).fns = s.fns := rfl
@[simp] theorem setRing_replies (g : Nat) (x : Ring) (s : State) : (setRing s g x).replies = s.replies := rfl
@[simp] theorem setRing_pm (g : Nat) (x : Ring) (s : State) : (setRing s g x).pm = s.pm := rfl
@[simp] theorem setRing_parts (g : Nat) (x : Ring) (s : State) : (setRing s g x).parts = s.parts := rfl
@[simp] theorem setRing_ks (g : Nat) (x : Ring) (s : State) : (setRing s g x).ks = s.ks := rfl
@[simp] theorem setRing_sess (g : Nat) (x : Ring) (s : State) : (setRing s g x).sess = s.sess := rfl
@[simp] theorem setRing_prism (g : Nat) (x : Ring) (s : State) : (setRing s g x).prism = s.prism := rfl
@[simp] theorem setRing_facets (g : Nat) (x : Ring) (s : State) : (setRing s g x).facets = s.facets := rfl
@[simp] theorem setRing_engines (g : Nat) (x : Ring) (s : State) : (setRing s g x).engines = s.engines := rfl
@[simp] theorem setRing_domains (g : Nat) (x : Ring) (s : State) : (setRing s g x).domains = s.domains := rfl
@[simp] theorem setRing_fabClass (g : Nat) (x : Ring) (s : State) : (setRing s g x).fabClass = s.fabClass := rfl
@[simp] theorem setRing_rng (g : Nat) (x : Ring) (s : State) : (setRing s g x).rng = s.rng := rfl
@[simp] theorem setRing_fw (g : Nat) (x : Ring) (s : State) : (setRing s g x).fw = s.fw := rfl
@[simp] theorem setRing_plat (g : Nat) (x : Ring) (s : State) : (setRing s g x).plat = s.plat := rfl
@[simp] theorem setRing_mbus (g : Nat) (x : Ring) (s : State) : (setRing s g x).mbus = s.mbus := rfl
@[simp] theorem setRing_life (g : Nat) (x : Ring) (s : State) : (setRing s g x).life = s.life := rfl
@[simp] theorem setRing_hzn (g : Nat) (x : Ring) (s : State) : (setRing s g x).hzn = s.hzn := rfl
@[simp] theorem setRing_ilu (g : Nat) (x : Ring) (s : State) : (setRing s g x).ilu = s.ilu := rfl
@[simp] theorem setRing_flt (g : Nat) (x : Ring) (s : State) : (setRing s g x).flt = s.flt := rfl
@[simp] theorem setRing_free (g : Nat) (x : Ring) (s : State) : (setRing s g x).free = s.free := rfl
@[simp] theorem setRing_out (g : Nat) (x : Ring) (s : State) : (setRing s g x).out = s.out := rfl
@[simp] theorem setRing_pending (g : Nat) (x : Ring) (s : State) : (setRing s g x).pending = s.pending := rfl

@[simp] theorem modRing_clk (g : Nat) (h : Ring → Ring) (s : State) : (modRing g h s).clk = s.clk := rfl
@[simp] theorem modRing_svc (g : Nat) (h : Ring → Ring) (s : State) : (modRing g h s).svc = s.svc := rfl
@[simp] theorem modRing_fns (g : Nat) (h : Ring → Ring) (s : State) : (modRing g h s).fns = s.fns := rfl
@[simp] theorem modRing_replies (g : Nat) (h : Ring → Ring) (s : State) : (modRing g h s).replies = s.replies := rfl
@[simp] theorem modRing_pm (g : Nat) (h : Ring → Ring) (s : State) : (modRing g h s).pm = s.pm := rfl
@[simp] theorem modRing_parts (g : Nat) (h : Ring → Ring) (s : State) : (modRing g h s).parts = s.parts := rfl
@[simp] theorem modRing_ks (g : Nat) (h : Ring → Ring) (s : State) : (modRing g h s).ks = s.ks := rfl
@[simp] theorem modRing_sess (g : Nat) (h : Ring → Ring) (s : State) : (modRing g h s).sess = s.sess := rfl
@[simp] theorem modRing_prism (g : Nat) (h : Ring → Ring) (s : State) : (modRing g h s).prism = s.prism := rfl
@[simp] theorem modRing_facets (g : Nat) (h : Ring → Ring) (s : State) : (modRing g h s).facets = s.facets := rfl
@[simp] theorem modRing_engines (g : Nat) (h : Ring → Ring) (s : State) : (modRing g h s).engines = s.engines := rfl
@[simp] theorem modRing_domains (g : Nat) (h : Ring → Ring) (s : State) : (modRing g h s).domains = s.domains := rfl
@[simp] theorem modRing_fabClass (g : Nat) (h : Ring → Ring) (s : State) : (modRing g h s).fabClass = s.fabClass := rfl
@[simp] theorem modRing_rng (g : Nat) (h : Ring → Ring) (s : State) : (modRing g h s).rng = s.rng := rfl
@[simp] theorem modRing_fw (g : Nat) (h : Ring → Ring) (s : State) : (modRing g h s).fw = s.fw := rfl
@[simp] theorem modRing_plat (g : Nat) (h : Ring → Ring) (s : State) : (modRing g h s).plat = s.plat := rfl
@[simp] theorem modRing_mbus (g : Nat) (h : Ring → Ring) (s : State) : (modRing g h s).mbus = s.mbus := rfl
@[simp] theorem modRing_life (g : Nat) (h : Ring → Ring) (s : State) : (modRing g h s).life = s.life := rfl
@[simp] theorem modRing_hzn (g : Nat) (h : Ring → Ring) (s : State) : (modRing g h s).hzn = s.hzn := rfl
@[simp] theorem modRing_ilu (g : Nat) (h : Ring → Ring) (s : State) : (modRing g h s).ilu = s.ilu := rfl
@[simp] theorem modRing_flt (g : Nat) (h : Ring → Ring) (s : State) : (modRing g h s).flt = s.flt := rfl
@[simp] theorem modRing_free (g : Nat) (h : Ring → Ring) (s : State) : (modRing g h s).free = s.free := rfl
@[simp] theorem modRing_out (g : Nat) (h : Ring → Ring) (s : State) : (modRing g h s).out = s.out := rfl
@[simp] theorem modRing_pending (g : Nat) (h : Ring → Ring) (s : State) : (modRing g h s).pending = s.pending := rfl

@[simp] theorem setPart_clk (p : Nat) (x : Part) (s : State) : (setPart s p x).clk = s.clk := rfl
@[simp] theorem setPart_svc (p : Nat) (x : Part) (s : State) : (setPart s p x).svc = s.svc := rfl
@[simp] theorem setPart_fns (p : Nat) (x : Part) (s : State) : (setPart s p x).fns = s.fns := rfl
@[simp] theorem setPart_rings (p : Nat) (x : Part) (s : State) : (setPart s p x).rings = s.rings := rfl
@[simp] theorem setPart_replies (p : Nat) (x : Part) (s : State) : (setPart s p x).replies = s.replies := rfl
@[simp] theorem setPart_pm (p : Nat) (x : Part) (s : State) : (setPart s p x).pm = s.pm := rfl
@[simp] theorem setPart_ks (p : Nat) (x : Part) (s : State) : (setPart s p x).ks = s.ks := rfl
@[simp] theorem setPart_sess (p : Nat) (x : Part) (s : State) : (setPart s p x).sess = s.sess := rfl
@[simp] theorem setPart_prism (p : Nat) (x : Part) (s : State) : (setPart s p x).prism = s.prism := rfl
@[simp] theorem setPart_facets (p : Nat) (x : Part) (s : State) : (setPart s p x).facets = s.facets := rfl
@[simp] theorem setPart_engines (p : Nat) (x : Part) (s : State) : (setPart s p x).engines = s.engines := rfl
@[simp] theorem setPart_domains (p : Nat) (x : Part) (s : State) : (setPart s p x).domains = s.domains := rfl
@[simp] theorem setPart_fabClass (p : Nat) (x : Part) (s : State) : (setPart s p x).fabClass = s.fabClass := rfl
@[simp] theorem setPart_rng (p : Nat) (x : Part) (s : State) : (setPart s p x).rng = s.rng := rfl
@[simp] theorem setPart_fw (p : Nat) (x : Part) (s : State) : (setPart s p x).fw = s.fw := rfl
@[simp] theorem setPart_plat (p : Nat) (x : Part) (s : State) : (setPart s p x).plat = s.plat := rfl
@[simp] theorem setPart_mbus (p : Nat) (x : Part) (s : State) : (setPart s p x).mbus = s.mbus := rfl
@[simp] theorem setPart_life (p : Nat) (x : Part) (s : State) : (setPart s p x).life = s.life := rfl
@[simp] theorem setPart_hzn (p : Nat) (x : Part) (s : State) : (setPart s p x).hzn = s.hzn := rfl
@[simp] theorem setPart_ilu (p : Nat) (x : Part) (s : State) : (setPart s p x).ilu = s.ilu := rfl
@[simp] theorem setPart_flt (p : Nat) (x : Part) (s : State) : (setPart s p x).flt = s.flt := rfl
@[simp] theorem setPart_free (p : Nat) (x : Part) (s : State) : (setPart s p x).free = s.free := rfl
@[simp] theorem setPart_out (p : Nat) (x : Part) (s : State) : (setPart s p x).out = s.out := rfl
@[simp] theorem setPart_pending (p : Nat) (x : Part) (s : State) : (setPart s p x).pending = s.pending := rfl

@[simp] theorem modPart_clk (p : Nat) (g : Part → Part) (s : State) : (modPart p g s).clk = s.clk := rfl
@[simp] theorem modPart_svc (p : Nat) (g : Part → Part) (s : State) : (modPart p g s).svc = s.svc := rfl
@[simp] theorem modPart_fns (p : Nat) (g : Part → Part) (s : State) : (modPart p g s).fns = s.fns := rfl
@[simp] theorem modPart_rings (p : Nat) (g : Part → Part) (s : State) : (modPart p g s).rings = s.rings := rfl
@[simp] theorem modPart_replies (p : Nat) (g : Part → Part) (s : State) : (modPart p g s).replies = s.replies := rfl
@[simp] theorem modPart_pm (p : Nat) (g : Part → Part) (s : State) : (modPart p g s).pm = s.pm := rfl
@[simp] theorem modPart_ks (p : Nat) (g : Part → Part) (s : State) : (modPart p g s).ks = s.ks := rfl
@[simp] theorem modPart_sess (p : Nat) (g : Part → Part) (s : State) : (modPart p g s).sess = s.sess := rfl
@[simp] theorem modPart_prism (p : Nat) (g : Part → Part) (s : State) : (modPart p g s).prism = s.prism := rfl
@[simp] theorem modPart_facets (p : Nat) (g : Part → Part) (s : State) : (modPart p g s).facets = s.facets := rfl
@[simp] theorem modPart_engines (p : Nat) (g : Part → Part) (s : State) : (modPart p g s).engines = s.engines := rfl
@[simp] theorem modPart_domains (p : Nat) (g : Part → Part) (s : State) : (modPart p g s).domains = s.domains := rfl
@[simp] theorem modPart_fabClass (p : Nat) (g : Part → Part) (s : State) : (modPart p g s).fabClass = s.fabClass := rfl
@[simp] theorem modPart_rng (p : Nat) (g : Part → Part) (s : State) : (modPart p g s).rng = s.rng := rfl
@[simp] theorem modPart_fw (p : Nat) (g : Part → Part) (s : State) : (modPart p g s).fw = s.fw := rfl
@[simp] theorem modPart_plat (p : Nat) (g : Part → Part) (s : State) : (modPart p g s).plat = s.plat := rfl
@[simp] theorem modPart_mbus (p : Nat) (g : Part → Part) (s : State) : (modPart p g s).mbus = s.mbus := rfl
@[simp] theorem modPart_life (p : Nat) (g : Part → Part) (s : State) : (modPart p g s).life = s.life := rfl
@[simp] theorem modPart_hzn (p : Nat) (g : Part → Part) (s : State) : (modPart p g s).hzn = s.hzn := rfl
@[simp] theorem modPart_ilu (p : Nat) (g : Part → Part) (s : State) : (modPart p g s).ilu = s.ilu := rfl
@[simp] theorem modPart_flt (p : Nat) (g : Part → Part) (s : State) : (modPart p g s).flt = s.flt := rfl
@[simp] theorem modPart_free (p : Nat) (g : Part → Part) (s : State) : (modPart p g s).free = s.free := rfl
@[simp] theorem modPart_out (p : Nat) (g : Part → Part) (s : State) : (modPart p g s).out = s.out := rfl
@[simp] theorem modPart_pending (p : Nat) (g : Part → Part) (s : State) : (modPart p g s).pending = s.pending := rfl

@[simp] theorem setDomain_clk (d : Nat) (x : Domain) (s : State) : (setDomain s d x).clk = s.clk := rfl
@[simp] theorem setDomain_svc (d : Nat) (x : Domain) (s : State) : (setDomain s d x).svc = s.svc := rfl
@[simp] theorem setDomain_fns (d : Nat) (x : Domain) (s : State) : (setDomain s d x).fns = s.fns := rfl
@[simp] theorem setDomain_rings (d : Nat) (x : Domain) (s : State) : (setDomain s d x).rings = s.rings := rfl
@[simp] theorem setDomain_replies (d : Nat) (x : Domain) (s : State) : (setDomain s d x).replies = s.replies := rfl
@[simp] theorem setDomain_pm (d : Nat) (x : Domain) (s : State) : (setDomain s d x).pm = s.pm := rfl
@[simp] theorem setDomain_parts (d : Nat) (x : Domain) (s : State) : (setDomain s d x).parts = s.parts := rfl
@[simp] theorem setDomain_ks (d : Nat) (x : Domain) (s : State) : (setDomain s d x).ks = s.ks := rfl
@[simp] theorem setDomain_sess (d : Nat) (x : Domain) (s : State) : (setDomain s d x).sess = s.sess := rfl
@[simp] theorem setDomain_prism (d : Nat) (x : Domain) (s : State) : (setDomain s d x).prism = s.prism := rfl
@[simp] theorem setDomain_facets (d : Nat) (x : Domain) (s : State) : (setDomain s d x).facets = s.facets := rfl
@[simp] theorem setDomain_engines (d : Nat) (x : Domain) (s : State) : (setDomain s d x).engines = s.engines := rfl
@[simp] theorem setDomain_fabClass (d : Nat) (x : Domain) (s : State) : (setDomain s d x).fabClass = s.fabClass := rfl
@[simp] theorem setDomain_rng (d : Nat) (x : Domain) (s : State) : (setDomain s d x).rng = s.rng := rfl
@[simp] theorem setDomain_fw (d : Nat) (x : Domain) (s : State) : (setDomain s d x).fw = s.fw := rfl
@[simp] theorem setDomain_plat (d : Nat) (x : Domain) (s : State) : (setDomain s d x).plat = s.plat := rfl
@[simp] theorem setDomain_mbus (d : Nat) (x : Domain) (s : State) : (setDomain s d x).mbus = s.mbus := rfl
@[simp] theorem setDomain_life (d : Nat) (x : Domain) (s : State) : (setDomain s d x).life = s.life := rfl
@[simp] theorem setDomain_hzn (d : Nat) (x : Domain) (s : State) : (setDomain s d x).hzn = s.hzn := rfl
@[simp] theorem setDomain_ilu (d : Nat) (x : Domain) (s : State) : (setDomain s d x).ilu = s.ilu := rfl
@[simp] theorem setDomain_flt (d : Nat) (x : Domain) (s : State) : (setDomain s d x).flt = s.flt := rfl
@[simp] theorem setDomain_free (d : Nat) (x : Domain) (s : State) : (setDomain s d x).free = s.free := rfl
@[simp] theorem setDomain_out (d : Nat) (x : Domain) (s : State) : (setDomain s d x).out = s.out := rfl
@[simp] theorem setDomain_pending (d : Nat) (x : Domain) (s : State) : (setDomain s d x).pending = s.pending := rfl

@[simp] theorem modDomain_clk (d : Nat) (g : Domain → Domain) (s : State) : (modDomain d g s).clk = s.clk := rfl
@[simp] theorem modDomain_svc (d : Nat) (g : Domain → Domain) (s : State) : (modDomain d g s).svc = s.svc := rfl
@[simp] theorem modDomain_fns (d : Nat) (g : Domain → Domain) (s : State) : (modDomain d g s).fns = s.fns := rfl
@[simp] theorem modDomain_rings (d : Nat) (g : Domain → Domain) (s : State) : (modDomain d g s).rings = s.rings := rfl
@[simp] theorem modDomain_replies (d : Nat) (g : Domain → Domain) (s : State) : (modDomain d g s).replies = s.replies := rfl
@[simp] theorem modDomain_pm (d : Nat) (g : Domain → Domain) (s : State) : (modDomain d g s).pm = s.pm := rfl
@[simp] theorem modDomain_parts (d : Nat) (g : Domain → Domain) (s : State) : (modDomain d g s).parts = s.parts := rfl
@[simp] theorem modDomain_ks (d : Nat) (g : Domain → Domain) (s : State) : (modDomain d g s).ks = s.ks := rfl
@[simp] theorem modDomain_sess (d : Nat) (g : Domain → Domain) (s : State) : (modDomain d g s).sess = s.sess := rfl
@[simp] theorem modDomain_prism (d : Nat) (g : Domain → Domain) (s : State) : (modDomain d g s).prism = s.prism := rfl
@[simp] theorem modDomain_facets (d : Nat) (g : Domain → Domain) (s : State) : (modDomain d g s).facets = s.facets := rfl
@[simp] theorem modDomain_engines (d : Nat) (g : Domain → Domain) (s : State) : (modDomain d g s).engines = s.engines := rfl
@[simp] theorem modDomain_fabClass (d : Nat) (g : Domain → Domain) (s : State) : (modDomain d g s).fabClass = s.fabClass := rfl
@[simp] theorem modDomain_rng (d : Nat) (g : Domain → Domain) (s : State) : (modDomain d g s).rng = s.rng := rfl
@[simp] theorem modDomain_fw (d : Nat) (g : Domain → Domain) (s : State) : (modDomain d g s).fw = s.fw := rfl
@[simp] theorem modDomain_plat (d : Nat) (g : Domain → Domain) (s : State) : (modDomain d g s).plat = s.plat := rfl
@[simp] theorem modDomain_mbus (d : Nat) (g : Domain → Domain) (s : State) : (modDomain d g s).mbus = s.mbus := rfl
@[simp] theorem modDomain_life (d : Nat) (g : Domain → Domain) (s : State) : (modDomain d g s).life = s.life := rfl
@[simp] theorem modDomain_hzn (d : Nat) (g : Domain → Domain) (s : State) : (modDomain d g s).hzn = s.hzn := rfl
@[simp] theorem modDomain_ilu (d : Nat) (g : Domain → Domain) (s : State) : (modDomain d g s).ilu = s.ilu := rfl
@[simp] theorem modDomain_flt (d : Nat) (g : Domain → Domain) (s : State) : (modDomain d g s).flt = s.flt := rfl
@[simp] theorem modDomain_free (d : Nat) (g : Domain → Domain) (s : State) : (modDomain d g s).free = s.free := rfl
@[simp] theorem modDomain_out (d : Nat) (g : Domain → Domain) (s : State) : (modDomain d g s).out = s.out := rfl
@[simp] theorem modDomain_pending (d : Nat) (g : Domain → Domain) (s : State) : (modDomain d g s).pending = s.pending := rfl

@[simp] theorem setCmds_clk (l : List Cmd) (s : State) : (setCmds s l).clk = s.clk := rfl
@[simp] theorem setCmds_svc (l : List Cmd) (s : State) : (setCmds s l).svc = s.svc := rfl
@[simp] theorem setCmds_fns (l : List Cmd) (s : State) : (setCmds s l).fns = s.fns := rfl
@[simp] theorem setCmds_rings (l : List Cmd) (s : State) : (setCmds s l).rings = s.rings := rfl
@[simp] theorem setCmds_replies (l : List Cmd) (s : State) : (setCmds s l).replies = s.replies := rfl
@[simp] theorem setCmds_pm (l : List Cmd) (s : State) : (setCmds s l).pm = s.pm := rfl
@[simp] theorem setCmds_parts (l : List Cmd) (s : State) : (setCmds s l).parts = s.parts := rfl
@[simp] theorem setCmds_ks (l : List Cmd) (s : State) : (setCmds s l).ks = s.ks := rfl
@[simp] theorem setCmds_sess (l : List Cmd) (s : State) : (setCmds s l).sess = s.sess := rfl
@[simp] theorem setCmds_facets (l : List Cmd) (s : State) : (setCmds s l).facets = s.facets := rfl
@[simp] theorem setCmds_engines (l : List Cmd) (s : State) : (setCmds s l).engines = s.engines := rfl
@[simp] theorem setCmds_domains (l : List Cmd) (s : State) : (setCmds s l).domains = s.domains := rfl
@[simp] theorem setCmds_fabClass (l : List Cmd) (s : State) : (setCmds s l).fabClass = s.fabClass := rfl
@[simp] theorem setCmds_rng (l : List Cmd) (s : State) : (setCmds s l).rng = s.rng := rfl
@[simp] theorem setCmds_fw (l : List Cmd) (s : State) : (setCmds s l).fw = s.fw := rfl
@[simp] theorem setCmds_plat (l : List Cmd) (s : State) : (setCmds s l).plat = s.plat := rfl
@[simp] theorem setCmds_mbus (l : List Cmd) (s : State) : (setCmds s l).mbus = s.mbus := rfl
@[simp] theorem setCmds_life (l : List Cmd) (s : State) : (setCmds s l).life = s.life := rfl
@[simp] theorem setCmds_hzn (l : List Cmd) (s : State) : (setCmds s l).hzn = s.hzn := rfl
@[simp] theorem setCmds_ilu (l : List Cmd) (s : State) : (setCmds s l).ilu = s.ilu := rfl
@[simp] theorem setCmds_flt (l : List Cmd) (s : State) : (setCmds s l).flt = s.flt := rfl
@[simp] theorem setCmds_free (l : List Cmd) (s : State) : (setCmds s l).free = s.free := rfl
@[simp] theorem setCmds_out (l : List Cmd) (s : State) : (setCmds s l).out = s.out := rfl
@[simp] theorem setCmds_pending (l : List Cmd) (s : State) : (setCmds s l).pending = s.pending := rfl

@[simp] theorem modCmd_clk (r : CmdRef) (g : Cmd → Cmd) (s : State) : (modCmd r g s).clk = s.clk := rfl
@[simp] theorem modCmd_svc (r : CmdRef) (g : Cmd → Cmd) (s : State) : (modCmd r g s).svc = s.svc := rfl
@[simp] theorem modCmd_fns (r : CmdRef) (g : Cmd → Cmd) (s : State) : (modCmd r g s).fns = s.fns := rfl
@[simp] theorem modCmd_rings (r : CmdRef) (g : Cmd → Cmd) (s : State) : (modCmd r g s).rings = s.rings := rfl
@[simp] theorem modCmd_replies (r : CmdRef) (g : Cmd → Cmd) (s : State) : (modCmd r g s).replies = s.replies := rfl
@[simp] theorem modCmd_pm (r : CmdRef) (g : Cmd → Cmd) (s : State) : (modCmd r g s).pm = s.pm := rfl
@[simp] theorem modCmd_parts (r : CmdRef) (g : Cmd → Cmd) (s : State) : (modCmd r g s).parts = s.parts := rfl
@[simp] theorem modCmd_ks (r : CmdRef) (g : Cmd → Cmd) (s : State) : (modCmd r g s).ks = s.ks := rfl
@[simp] theorem modCmd_sess (r : CmdRef) (g : Cmd → Cmd) (s : State) : (modCmd r g s).sess = s.sess := rfl
@[simp] theorem modCmd_facets (r : CmdRef) (g : Cmd → Cmd) (s : State) : (modCmd r g s).facets = s.facets := rfl
@[simp] theorem modCmd_engines (r : CmdRef) (g : Cmd → Cmd) (s : State) : (modCmd r g s).engines = s.engines := rfl
@[simp] theorem modCmd_domains (r : CmdRef) (g : Cmd → Cmd) (s : State) : (modCmd r g s).domains = s.domains := rfl
@[simp] theorem modCmd_fabClass (r : CmdRef) (g : Cmd → Cmd) (s : State) : (modCmd r g s).fabClass = s.fabClass := rfl
@[simp] theorem modCmd_rng (r : CmdRef) (g : Cmd → Cmd) (s : State) : (modCmd r g s).rng = s.rng := rfl
@[simp] theorem modCmd_fw (r : CmdRef) (g : Cmd → Cmd) (s : State) : (modCmd r g s).fw = s.fw := rfl
@[simp] theorem modCmd_plat (r : CmdRef) (g : Cmd → Cmd) (s : State) : (modCmd r g s).plat = s.plat := rfl
@[simp] theorem modCmd_mbus (r : CmdRef) (g : Cmd → Cmd) (s : State) : (modCmd r g s).mbus = s.mbus := rfl
@[simp] theorem modCmd_life (r : CmdRef) (g : Cmd → Cmd) (s : State) : (modCmd r g s).life = s.life := rfl
@[simp] theorem modCmd_hzn (r : CmdRef) (g : Cmd → Cmd) (s : State) : (modCmd r g s).hzn = s.hzn := rfl
@[simp] theorem modCmd_ilu (r : CmdRef) (g : Cmd → Cmd) (s : State) : (modCmd r g s).ilu = s.ilu := rfl
@[simp] theorem modCmd_flt (r : CmdRef) (g : Cmd → Cmd) (s : State) : (modCmd r g s).flt = s.flt := rfl
@[simp] theorem modCmd_free (r : CmdRef) (g : Cmd → Cmd) (s : State) : (modCmd r g s).free = s.free := rfl
@[simp] theorem modCmd_out (r : CmdRef) (g : Cmd → Cmd) (s : State) : (modCmd r g s).out = s.out := rfl
@[simp] theorem modCmd_pending (r : CmdRef) (g : Cmd → Cmd) (s : State) : (modCmd r g s).pending = s.pending := rfl

@[simp] theorem dropCmd_clk (r : CmdRef) (s : State) : (dropCmd r s).clk = s.clk := rfl
@[simp] theorem dropCmd_svc (r : CmdRef) (s : State) : (dropCmd r s).svc = s.svc := rfl
@[simp] theorem dropCmd_fns (r : CmdRef) (s : State) : (dropCmd r s).fns = s.fns := rfl
@[simp] theorem dropCmd_rings (r : CmdRef) (s : State) : (dropCmd r s).rings = s.rings := rfl
@[simp] theorem dropCmd_replies (r : CmdRef) (s : State) : (dropCmd r s).replies = s.replies := rfl
@[simp] theorem dropCmd_pm (r : CmdRef) (s : State) : (dropCmd r s).pm = s.pm := rfl
@[simp] theorem dropCmd_parts (r : CmdRef) (s : State) : (dropCmd r s).parts = s.parts := rfl
@[simp] theorem dropCmd_ks (r : CmdRef) (s : State) : (dropCmd r s).ks = s.ks := rfl
@[simp] theorem dropCmd_sess (r : CmdRef) (s : State) : (dropCmd r s).sess = s.sess := rfl
@[simp] theorem dropCmd_facets (r : CmdRef) (s : State) : (dropCmd r s).facets = s.facets := rfl
@[simp] theorem dropCmd_engines (r : CmdRef) (s : State) : (dropCmd r s).engines = s.engines := rfl
@[simp] theorem dropCmd_domains (r : CmdRef) (s : State) : (dropCmd r s).domains = s.domains := rfl
@[simp] theorem dropCmd_fabClass (r : CmdRef) (s : State) : (dropCmd r s).fabClass = s.fabClass := rfl
@[simp] theorem dropCmd_rng (r : CmdRef) (s : State) : (dropCmd r s).rng = s.rng := rfl
@[simp] theorem dropCmd_fw (r : CmdRef) (s : State) : (dropCmd r s).fw = s.fw := rfl
@[simp] theorem dropCmd_plat (r : CmdRef) (s : State) : (dropCmd r s).plat = s.plat := rfl
@[simp] theorem dropCmd_mbus (r : CmdRef) (s : State) : (dropCmd r s).mbus = s.mbus := rfl
@[simp] theorem dropCmd_life (r : CmdRef) (s : State) : (dropCmd r s).life = s.life := rfl
@[simp] theorem dropCmd_hzn (r : CmdRef) (s : State) : (dropCmd r s).hzn = s.hzn := rfl
@[simp] theorem dropCmd_ilu (r : CmdRef) (s : State) : (dropCmd r s).ilu = s.ilu := rfl
@[simp] theorem dropCmd_flt (r : CmdRef) (s : State) : (dropCmd r s).flt = s.flt := rfl
@[simp] theorem dropCmd_free (r : CmdRef) (s : State) : (dropCmd r s).free = s.free := rfl
@[simp] theorem dropCmd_out (r : CmdRef) (s : State) : (dropCmd r s).out = s.out := rfl
@[simp] theorem dropCmd_pending (r : CmdRef) (s : State) : (dropCmd r s).pending = s.pending := rfl

@[simp] theorem setSess_clk (i : Nat) (x : Session) (s : State) : (setSess i x s).clk = s.clk := rfl
@[simp] theorem setSess_svc (i : Nat) (x : Session) (s : State) : (setSess i x s).svc = s.svc := rfl
@[simp] theorem setSess_fns (i : Nat) (x : Session) (s : State) : (setSess i x s).fns = s.fns := rfl
@[simp] theorem setSess_rings (i : Nat) (x : Session) (s : State) : (setSess i x s).rings = s.rings := rfl
@[simp] theorem setSess_replies (i : Nat) (x : Session) (s : State) : (setSess i x s).replies = s.replies := rfl
@[simp] theorem setSess_pm (i : Nat) (x : Session) (s : State) : (setSess i x s).pm = s.pm := rfl
@[simp] theorem setSess_parts (i : Nat) (x : Session) (s : State) : (setSess i x s).parts = s.parts := rfl
@[simp] theorem setSess_ks (i : Nat) (x : Session) (s : State) : (setSess i x s).ks = s.ks := rfl
@[simp] theorem setSess_prism (i : Nat) (x : Session) (s : State) : (setSess i x s).prism = s.prism := rfl
@[simp] theorem setSess_facets (i : Nat) (x : Session) (s : State) : (setSess i x s).facets = s.facets := rfl
@[simp] theorem setSess_engines (i : Nat) (x : Session) (s : State) : (setSess i x s).engines = s.engines := rfl
@[simp] theorem setSess_domains (i : Nat) (x : Session) (s : State) : (setSess i x s).domains = s.domains := rfl
@[simp] theorem setSess_fabClass (i : Nat) (x : Session) (s : State) : (setSess i x s).fabClass = s.fabClass := rfl
@[simp] theorem setSess_rng (i : Nat) (x : Session) (s : State) : (setSess i x s).rng = s.rng := rfl
@[simp] theorem setSess_fw (i : Nat) (x : Session) (s : State) : (setSess i x s).fw = s.fw := rfl
@[simp] theorem setSess_plat (i : Nat) (x : Session) (s : State) : (setSess i x s).plat = s.plat := rfl
@[simp] theorem setSess_mbus (i : Nat) (x : Session) (s : State) : (setSess i x s).mbus = s.mbus := rfl
@[simp] theorem setSess_life (i : Nat) (x : Session) (s : State) : (setSess i x s).life = s.life := rfl
@[simp] theorem setSess_hzn (i : Nat) (x : Session) (s : State) : (setSess i x s).hzn = s.hzn := rfl
@[simp] theorem setSess_ilu (i : Nat) (x : Session) (s : State) : (setSess i x s).ilu = s.ilu := rfl
@[simp] theorem setSess_flt (i : Nat) (x : Session) (s : State) : (setSess i x s).flt = s.flt := rfl
@[simp] theorem setSess_free (i : Nat) (x : Session) (s : State) : (setSess i x s).free = s.free := rfl
@[simp] theorem setSess_out (i : Nat) (x : Session) (s : State) : (setSess i x s).out = s.out := rfl
@[simp] theorem setSess_pending (i : Nat) (x : Session) (s : State) : (setSess i x s).pending = s.pending := rfl

@[simp] theorem setKey_clk (p : Nat) (k : BitVec 32) (e : KeyEntry) (s : State) : (setKey p k e s).clk = s.clk := rfl
@[simp] theorem setKey_svc (p : Nat) (k : BitVec 32) (e : KeyEntry) (s : State) : (setKey p k e s).svc = s.svc := rfl
@[simp] theorem setKey_fns (p : Nat) (k : BitVec 32) (e : KeyEntry) (s : State) : (setKey p k e s).fns = s.fns := rfl
@[simp] theorem setKey_rings (p : Nat) (k : BitVec 32) (e : KeyEntry) (s : State) : (setKey p k e s).rings = s.rings := rfl
@[simp] theorem setKey_replies (p : Nat) (k : BitVec 32) (e : KeyEntry) (s : State) : (setKey p k e s).replies = s.replies := rfl
@[simp] theorem setKey_pm (p : Nat) (k : BitVec 32) (e : KeyEntry) (s : State) : (setKey p k e s).pm = s.pm := rfl
@[simp] theorem setKey_parts (p : Nat) (k : BitVec 32) (e : KeyEntry) (s : State) : (setKey p k e s).parts = s.parts := rfl
@[simp] theorem setKey_sess (p : Nat) (k : BitVec 32) (e : KeyEntry) (s : State) : (setKey p k e s).sess = s.sess := rfl
@[simp] theorem setKey_prism (p : Nat) (k : BitVec 32) (e : KeyEntry) (s : State) : (setKey p k e s).prism = s.prism := rfl
@[simp] theorem setKey_facets (p : Nat) (k : BitVec 32) (e : KeyEntry) (s : State) : (setKey p k e s).facets = s.facets := rfl
@[simp] theorem setKey_engines (p : Nat) (k : BitVec 32) (e : KeyEntry) (s : State) : (setKey p k e s).engines = s.engines := rfl
@[simp] theorem setKey_domains (p : Nat) (k : BitVec 32) (e : KeyEntry) (s : State) : (setKey p k e s).domains = s.domains := rfl
@[simp] theorem setKey_fabClass (p : Nat) (k : BitVec 32) (e : KeyEntry) (s : State) : (setKey p k e s).fabClass = s.fabClass := rfl
@[simp] theorem setKey_rng (p : Nat) (k : BitVec 32) (e : KeyEntry) (s : State) : (setKey p k e s).rng = s.rng := rfl
@[simp] theorem setKey_fw (p : Nat) (k : BitVec 32) (e : KeyEntry) (s : State) : (setKey p k e s).fw = s.fw := rfl
@[simp] theorem setKey_plat (p : Nat) (k : BitVec 32) (e : KeyEntry) (s : State) : (setKey p k e s).plat = s.plat := rfl
@[simp] theorem setKey_mbus (p : Nat) (k : BitVec 32) (e : KeyEntry) (s : State) : (setKey p k e s).mbus = s.mbus := rfl
@[simp] theorem setKey_life (p : Nat) (k : BitVec 32) (e : KeyEntry) (s : State) : (setKey p k e s).life = s.life := rfl
@[simp] theorem setKey_hzn (p : Nat) (k : BitVec 32) (e : KeyEntry) (s : State) : (setKey p k e s).hzn = s.hzn := rfl
@[simp] theorem setKey_ilu (p : Nat) (k : BitVec 32) (e : KeyEntry) (s : State) : (setKey p k e s).ilu = s.ilu := rfl
@[simp] theorem setKey_flt (p : Nat) (k : BitVec 32) (e : KeyEntry) (s : State) : (setKey p k e s).flt = s.flt := rfl
@[simp] theorem setKey_free (p : Nat) (k : BitVec 32) (e : KeyEntry) (s : State) : (setKey p k e s).free = s.free := rfl
@[simp] theorem setKey_out (p : Nat) (k : BitVec 32) (e : KeyEntry) (s : State) : (setKey p k e s).out = s.out := rfl
@[simp] theorem setKey_pending (p : Nat) (k : BitVec 32) (e : KeyEntry) (s : State) : (setKey p k e s).pending = s.pending := rfl

@[simp] theorem getFn_setFn (s : State) (f : Nat) (x : Fn) : getFn (setFn s f x) f = x := at_put _ _ _ _
theorem getFn_setFn_ne (s : State) {f k : Nat} (x : Fn) (h : k ≠ f) : getFn (setFn s f x) k = getFn s k := at_put_ne _ _ _ h
@[simp] theorem getFn_modFn (s : State) (f : Nat) (h : Fn → Fn) : getFn (modFn f h s) f = h (getFn s f) := at_put _ _ _ _
theorem getFn_congr {s t : State} (h : t.fns = s.fns) (k : Nat) : getFn t k = getFn s k := by unfold getFn; rw [h]

@[simp] theorem getRing_setRing (s : State) (g : Nat) (x : Ring) : getRing (setRing s g x) g = x := at_put _ _ _ _
theorem getRing_setRing_ne (s : State) {g k : Nat} (x : Ring) (h : k ≠ g) : getRing (setRing s g x) k = getRing s k := at_put_ne _ _ _ h
@[simp] theorem getRing_modRing (s : State) (g : Nat) (h : Ring → Ring) : getRing (modRing g h s) g = h (getRing s g) := at_put _ _ _ _
theorem getRing_congr {s t : State} (h : t.rings = s.rings) (k : Nat) : getRing t k = getRing s k := by unfold getRing; rw [h]

@[simp] theorem getPart_setPart (s : State) (p : Nat) (x : Part) : getPart (setPart s p x) p = x := at_put _ _ _ _
theorem getPart_setPart_ne (s : State) {p k : Nat} (x : Part) (h : k ≠ p) : getPart (setPart s p x) k = getPart s k := at_put_ne _ _ _ h
@[simp] theorem getPart_modPart (s : State) (p : Nat) (h : Part → Part) : getPart (modPart p h s) p = h (getPart s p) := at_put _ _ _ _
theorem getPart_congr {s t : State} (h : t.parts = s.parts) (k : Nat) : getPart t k = getPart s k := by unfold getPart; rw [h]

@[simp] theorem getDomain_setDomain (s : State) (d : Nat) (x : Domain) : getDomain (setDomain s d x) d = x := at_put _ _ _ _
theorem getDomain_setDomain_ne (s : State) {d k : Nat} (x : Domain) (h : k ≠ d) : getDomain (setDomain s d x) k = getDomain s k := at_put_ne _ _ _ h
@[simp] theorem getDomain_modDomain (s : State) (d : Nat) (h : Domain → Domain) : getDomain (modDomain d h s) d = h (getDomain s d) := at_put _ _ _ _
theorem getDomain_congr {s t : State} (h : t.domains = s.domains) (k : Nat) : getDomain t k = getDomain s k := by unfold getDomain; rw [h]

end Sys2Proof.Laws
end

