-- ==== Sys2Proof/Laws/Ends.lean ====
section
/-! SUPPORT. What the end of a command leaves as it was: everything but the commands in flight, the key references, its vault reservation,
its draw request, the messages sent and the count of free values. -/

namespace Sys2Proof.Laws

open Sys2Proof.Machine Sys2Proof.Safety

/-- `t` differs from `s` only in what the end of a command may change. -/
structure EndsFrom (s t : State) : Prop where
  clk : t.clk = s.clk
  svc : t.svc = s.svc
  fns : t.fns = s.fns
  rings : t.rings = s.rings
  replies : t.replies = s.replies
  pm : t.pm = s.pm
  part : ∀ p, ∃ n, getPart t p = { getPart s p with vault := { (getPart s p).vault with reserved := n } }
  sess : t.sess = s.sess
  facets : t.facets = s.facets
  engines : t.engines = s.engines
  domains : t.domains = s.domains
  fabClass : t.fabClass = s.fabClass
  rng : ∃ q, t.rng = { s.rng with queue := q }
  fw : t.fw = s.fw
  plat : t.plat = s.plat
  mbus : t.mbus = s.mbus
  life : t.life = s.life
  hzn : t.hzn = s.hzn
  ilu : iluSent s.ilu t.ilu
  flt : t.flt = s.flt
  pending : t.pending = s.pending

theorem EndsFrom.refl (s : State) : EndsFrom s s :=
  ⟨rfl, rfl, rfl, rfl, rfl, rfl, fun _ => ⟨_, rfl⟩, rfl, rfl, rfl, rfl, rfl, ⟨_, rfl⟩, rfl, rfl, rfl, rfl, rfl, iluSent_refl _, rfl, rfl⟩

theorem EndsFrom.trans {a b c : State} (h : EndsFrom a b) (k : EndsFrom b c) : EndsFrom a c where
  clk := k.clk.trans h.clk
  svc := k.svc.trans h.svc
  fns := k.fns.trans h.fns
  rings := k.rings.trans h.rings
  replies := k.replies.trans h.replies
  pm := k.pm.trans h.pm
  part := fun p => by obtain ⟨n, e⟩ := h.part p; obtain ⟨m, f⟩ := k.part p; exact ⟨m, by rw [f, e]⟩
  sess := k.sess.trans h.sess
  facets := k.facets.trans h.facets
  engines := k.engines.trans h.engines
  domains := k.domains.trans h.domains
  fabClass := k.fabClass.trans h.fabClass
  rng := by obtain ⟨n, e⟩ := h.rng; obtain ⟨m, f⟩ := k.rng; exact ⟨m, by rw [f, e]⟩
  fw := k.fw.trans h.fw
  plat := k.plat.trans h.plat
  mbus := k.mbus.trans h.mbus
  life := k.life.trans h.life
  hzn := k.hzn.trans h.hzn
  ilu := iluSent_trans h.ilu k.ilu
  flt := k.flt.trans h.flt
  pending := k.pending.trans h.pending

/-- A change of the commands in flight, the key store, the messages and the count of free values alone. -/
theorem EndsFrom.of_eq {s : State} (pr : Prism) (ks : KeyStore) (o : List Out) (f : Nat := s.free) :
    EndsFrom s { s with prism := pr, ks := ks, out := o, free := f } :=
  ⟨rfl, rfl, rfl, rfl, rfl, rfl, fun _ => ⟨_, rfl⟩, rfl, rfl, rfl, rfl, rfl, ⟨_, rfl⟩, rfl, rfl, rfl, rfl, rfl, iluSent_refl _, rfl, rfl⟩

theorem hotDropDerived_ends (r : CmdRef) (s : State) : EndsFrom s (hotDropDerived r s) := EndsFrom.of_eq s.prism _ s.out

theorem noteBacking_ends (c : CmdRef) (k : BitVec 32) (s : State) : EndsFrom s (noteBacking c k s) := by
  unfold noteBacking backingNow
  dsimp only
  (repeat' split) <;> exact EndsFrom.of_eq _ _ s.out _

theorem dropRefs_ends (c : Cmd) (s : State) : EndsFrom s (dropRefs c s) :=
  foldl_rel EndsFrom EndsFrom.refl (fun _ _ _ => EndsFrom.trans) _ (fun s _ => EndsFrom.of_eq s.prism _ s.out) _ s

theorem takeRef_ends (p : Nat) (r : BitVec 32) (v : BitVec 16) (s : State) : EndsFrom s (takeRef p r v s) := by
  unfold takeRef; split
  · exact EndsFrom.of_eq s.prism _ s.out
  · exact EndsFrom.of_eq s.prism _ s.out

theorem fallBack_ends (p : Nat) (r : BitVec 32) (v : BitVec 16) (s : State) : EndsFrom s (fallBack p r v s) := by
  unfold fallBack
  dsimp only
  refine EndsFrom.trans ?_ (foldl_rel EndsFrom EndsFrom.refl (fun _ _ _ => EndsFrom.trans) _ (fun s h =>
    foldl_rel EndsFrom EndsFrom.refl (fun _ _ _ => EndsFrom.trans) _ (fun s _ => takeRef_ends _ _ _ s) _ s) _ _)
  exact EndsFrom.of_eq _ _ s.out

theorem rewriteWithdraw_ends (p : Nat) (r : BitVec 32) (c : CmdRef) (b : Bool) (s : State) : EndsFrom s (rewriteWithdraw p r c b s) := by
  unfold rewriteWithdraw
  dsimp only
  split
  · exact EndsFrom.refl s
  · refine EndsFrom.trans ?_ (fallBack_ends _ _ _ _)
    split
    · exact EndsFrom.of_eq s.prism _ s.out
    · exact EndsFrom.of_eq s.prism _ s.out

theorem reserve_ends (p n : Nat) (s : State) :
    EndsFrom s (modPart p (fun x => { x with vault := { x.vault with reserved := x.vault.reserved - n } }) s) := by
  refine ⟨rfl, rfl, rfl, rfl, rfl, rfl, fun q => ?_, rfl, rfl, rfl, rfl, rfl, ⟨_, rfl⟩, rfl, rfl, rfl, rfl, rfl, iluSent_refl _, rfl, rfl⟩
  by_cases h : q = p
  · subst h; exact ⟨(getPart s q).vault.reserved - n, by simp⟩
  · exact ⟨(getPart s q).vault.reserved, getPart_setPart_ne s _ h⟩

theorem modCmd_ends (r : CmdRef) (g : Cmd → Cmd) (s : State) : EndsFrom s (modCmd r g s) := EndsFrom.of_eq _ s.ks s.out

theorem dropDraw_ends (r : CmdRef) (s : State) : EndsFrom s (dropDraw r s) :=
  ⟨rfl, rfl, rfl, rfl, rfl, rfl, fun _ => ⟨_, rfl⟩, rfl, rfl, rfl, rfl, rfl, ⟨_, rfl⟩, rfl, rfl, rfl, rfl, rfl, iluSent_refl _, rfl, rfl⟩

/-- The end of a command leaves everything but what `EndsFrom` names. -/
theorem endCmd_ends (r : CmdRef) (st : Status) (b : Bytes) (s : State) : EndsFrom s (endCmd r st b s) := by
  unfold endCmd
  split
  · exact EndsFrom.refl s
  · rename_i c _
    split
    · exact EndsFrom.refl s
    · dsimp only
      refine EndsFrom.trans (b := hotDropDerived r (dropRefs c (traceCancels c s))) ?_ ?_
      · obtain ⟨w, f, l, o, e⟩ := traceCancels_frame c s
        refine EndsFrom.trans (EndsFrom.trans ?_ (dropRefs_ends c _)) (hotDropDerived_ends r _)
        rw [e]; exact EndsFrom.of_eq _ s.ks o
      · generalize hotDropDerived r (dropRefs c (traceCancels c s)) = u
        refine EndsFrom.trans ?_ (modCmd_ends r _ _)
        have hd : ∀ v, EndsFrom u v → EndsFrom u (dropDraw r v) := fun v h => h.trans (dropDraw_ends r v)
        have hw : ∀ k, EndsFrom u (rewriteWithdraw r.part k r c.shadow u) := fun k => rewriteWithdraw_ends _ _ _ _ u
        have hp : ∀ v, EndsFrom u v → EndsFrom u (modPart r.part
            (fun x => { x with vault := { x.vault with reserved := x.vault.reserved - c.reserved } }) v) :=
          fun v h => h.trans (reserve_ends _ _ v)
        split
        · split
          · refine EndsFrom.trans (hd _ ?_) (noteBacking_ends r _ _)
            (repeat' split) <;> first | exact EndsFrom.refl u | exact hw _ | exact hp _ (EndsFrom.refl u) | exact hp _ (hw _)
          · refine hd _ ?_
            (repeat' split) <;> first | exact EndsFrom.refl u | exact hw _ | exact hp _ (EndsFrom.refl u) | exact hp _ (hw _)
        · refine hd _ ?_
          (repeat' split) <;> first | exact EndsFrom.refl u | exact hw _ | exact hp _ (EndsFrom.refl u) | exact hp _ (hw _)

/-- What sends on the link leaves everything but what sending moves and the messages. -/
theorem EndsFrom.of_link {s t : State} (h : linkSent s t) : EndsFrom s t := by
  obtain ⟨i, o, h, rfl⟩ := h
  exact ⟨rfl, rfl, rfl, rfl, rfl, rfl, fun _ => ⟨_, rfl⟩, rfl, rfl, rfl, rfl, rfl, ⟨_, rfl⟩, rfl, rfl, rfl, rfl, rfl, h, rfl, rfl⟩

/-- Replicating a change leaves everything but what `EndsFrom` names. -/
theorem replicateOut_ends (c : Cmd) (st : Status) (s t : State) : EndsFrom t (replicateOut c st s t) := by
  unfold replicateOut
  split
  · dsimp only
    split
    · exact EndsFrom.refl t
    · generalize replicaMsgs t.ilu.applied (changesOf c t s t) = ms
      have h1 : EndsFrom t (ms.foldl sendReplica t) := EndsFrom.of_link (linkSent_foldl _ sendReplica_sent ms t)
      have h2 : ∀ n (u : State), EndsFrom u (modIlu (fun i => { i with applied := i.applied + n }) u) :=
        fun n u => EndsFrom.of_link ⟨_, u.out, ⟨u.ilu.west, u.ilu.east, u.ilu.counter, _, portSent_refl _, portSent_refl _, rfl⟩, rfl⟩
      exact (h1.trans (h2 _ _)).trans (modCmd_ends _ _ _)
  · exact EndsFrom.refl t

/-- A command that ends leaves the state its effect made, but for what `EndsFrom` names. -/
theorem finish_ends (c : Cmd) (r : CmdRef) (st : Status) (b : Bytes) (s t : State) : EndsFrom t (replicateOut c st s (endCmd r st b t)) :=
  (endCmd_ends r st b t).trans (replicateOut_ends c st s _)

theorem noteUndo_ends (c : Cmd) (s : State) : EndsFrom s (noteUndo c s) := by
  unfold noteUndo
  split
  · exact EndsFrom.refl s
  · exact EndsFrom.of_eq _ s.ks s.out

end Sys2Proof.Laws
end

