-- ==== Sys2Proof/Laws/Otp.lean ====
section
/-! SUPPORT. The OTP memory: its canonical form is kept by every operation, a read follows a write, other bytes stand, and programming
only sets bits (R365). -/

namespace Sys2Proof.Laws

open Sys2Proof Sys2Proof.Machine Sys2Proof.Safety

theorem otpRead_put_same (m : List Host.Cell) (a : Nat) (v : Byte) : otpRead (otpPut m a v) a = v := by
  induction m with
  | nil => unfold otpPut; split <;> simp_all [otpRead]
  | cons x r ih =>
    obtain ⟨b, w⟩ := x
    unfold otpPut
    (repeat' split) <;> simp_all [otpRead]
    intro h; omega

theorem otpRead_put_other (m : List Host.Cell) {a b : Nat} (v : Byte) (h : b ≠ a) : otpRead (otpPut m a v) b = otpRead m b := by
  induction m with
  | nil => unfold otpPut; split <;> simp [otpRead, Ne.symm h]
  | cons x r ih =>
    obtain ⟨d, w⟩ := x
    unfold otpPut
    split
    · rename_i hd
      subst hd
      split
      · rename_i hv
        subst hv
        rw [ih]; simp [otpRead, Ne.symm h]
      · simp [otpRead, Ne.symm h]
    · split
      · simp [otpRead, Ne.symm h]
      · simp only [otpRead, ih]

/-- What a store leaves is what was there, or the byte stored. -/
theorem otpPut_mem (m : List Host.Cell) (a : Nat) (v : Byte) (x : Host.Cell) (h : x ∈ otpPut m a v) : x ∈ m ∨ x = (a, v) := by
  induction m with
  | nil => unfold otpPut at h; split at h <;> simp_all
  | cons y r ih =>
    obtain ⟨b, w⟩ := y
    unfold otpPut at h
    split at h
    · split at h
      · exact (ih h).imp (List.mem_cons_of_mem _) id
      · rcases List.mem_cons.mp h with h | h
        · exact Or.inr h
        · exact Or.inl (List.mem_cons_of_mem _ h)
    · split at h
      · rcases List.mem_cons.mp h with h | h
        · exact Or.inr h
        · exact Or.inl h
      · rcases List.mem_cons.mp h with h | h
        · exact Or.inl (h ▸ List.mem_cons_self)
        · exact (ih h).imp (List.mem_cons_of_mem _) id

/-- The canonical form, one cell at a time. -/
theorem Memory_wf_cons (a : Nat) (v : Byte) (r : List Host.Cell) :
    Memory.wf ((a, v) :: r) = true ↔ v ≠ otpDefault a ∧ (∀ x ∈ r, a < x.1) ∧ Memory.wf r = true := by
  induction r generalizing a v with
  | nil => simp [Memory.wf]
  | cons y r ih =>
    obtain ⟨b, w⟩ := y
    have := ih b w
    constructor
    · intro h
      simp only [Memory.wf, Bool.and_eq_true, bne_iff_ne, ne_eq, decide_eq_true_eq] at h
      refine ⟨h.1.1, ?_, h.2⟩
      intro x hx
      rcases List.mem_cons.mp hx with rfl | hx
      · exact h.1.2
      · exact lt_trans h.1.2 ((this.mp h.2).2.1 x hx)
    · rintro ⟨h1, h2, h3⟩
      simp only [Memory.wf, Bool.and_eq_true, bne_iff_ne, ne_eq, decide_eq_true_eq]
      exact ⟨⟨h1, h2 (b, w) (by simp)⟩, h3⟩

theorem otpPut_wf (m : List Host.Cell) (a : Nat) (v : Byte) (h : Memory.wf m = true) : Memory.wf (otpPut m a v) = true := by
  induction m with
  | nil => unfold otpPut; split <;> simp_all [Memory.wf]
  | cons x r ih =>
    obtain ⟨b, w⟩ := x
    obtain ⟨h1, h2, h3⟩ := (Memory_wf_cons b w r).mp h
    unfold otpPut
    split
    · rename_i hab
      subst hab
      split
      · exact ih h3
      · exact (Memory_wf_cons _ _ _).mpr ⟨by assumption, h2, h3⟩
    · split
      · rename_i hc
        refine (Memory_wf_cons _ _ _).mpr ⟨hc.2, ?_, h⟩
        intro y hy
        rcases List.mem_cons.mp hy with rfl | hy
        · exact hc.1
        · exact lt_trans hc.1 (h2 y hy)
      · rename_i hab hc
        by_cases hv : v = otpDefault a
        · refine (Memory_wf_cons _ _ _).mpr ⟨h1, ?_, ih h3⟩
          intro y hy
          have : ∀ z ∈ otpPut r a v, z ∈ r := by
            subst hv
            clear ih h h1 h2 h3 hy y
            induction r with
            | nil => simp [otpPut]
            | cons z r ih =>
              obtain ⟨d, u⟩ := z
              unfold otpPut
              intro q hq
              split at hq
              · split at hq
                · exact List.mem_cons_of_mem _ (ih _ hq)
                · exact absurd rfl (by assumption)
              · split at hq
                · rename_i hk; exact absurd rfl hk.2
                · rcases List.mem_cons.mp hq with hq | hq
                  · exact hq ▸ List.mem_cons_self
                  · exact List.mem_cons_of_mem _ (ih _ hq)
          exact h2 y (this y hy)
        · refine (Memory_wf_cons _ _ _).mpr ⟨h1, ?_, ih h3⟩
          intro y hy
          rcases otpPut_mem r a v y hy with hy | rfl
          · exact h2 y hy
          · have : ¬ a < b := fun k => hc ⟨k, hv⟩
            dsimp only
            omega

theorem otpProgram_wf (m : List Host.Cell) (a : Nat) (v : Byte) (h : Memory.wf m = true) : Memory.wf (otpProgram m a v) = true :=
  otpPut_wf _ _ _ h

theorem otpProgramBytes_wf (l : Bytes) (m : List Host.Cell) (a : Nat) (h : Memory.wf m = true) :
    Memory.wf (otpProgramBytes m a l) = true := by
  induction l generalizing m a with
  | nil => exact h
  | cons b r ih => exact ih _ _ (otpProgram_wf m a b h)

/-- Programming sets bits of the byte at its address and leaves every other byte. -/
theorem otpRead_program (m : List Host.Cell) (a b : Nat) (v : Byte) :
    otpRead (otpProgram m a v) b = if b = a then otpRead m b ||| v else otpRead m b := by
  unfold otpProgram
  split
  · subst b; rw [otpRead_put_same]
  · exact otpRead_put_other _ _ (by assumption)

/-- Programming a byte string sets the bits of each of its bytes and leaves every other byte. -/
theorem otpRead_programBytes (l : Bytes) (m : List Host.Cell) (a b : Nat) :
    otpRead (otpProgramBytes m a l) b = if a ≤ b ∧ b < a + l.length then otpRead m b ||| l.getD (b - a) 0 else otpRead m b := by
  induction l generalizing m a with
  | nil => simp [otpProgramBytes]
  | cons x r ih =>
    rw [otpProgramBytes, ih, otpRead_program]
    by_cases h : b = a
    · subst h
      rw [if_neg (by omega), if_pos rfl, if_pos (by simp)]
      simp
    · by_cases k : a + 1 ≤ b ∧ b < a + 1 + r.length
      · rw [if_pos k, if_neg h, if_pos (by simp only [List.length_cons]; omega)]
        obtain ⟨n, hn⟩ : ∃ n, b - a = n + 1 := ⟨b - a - 1, by omega⟩
        have : b - (a + 1) = n := by omega
        rw [this, hn]
        rfl
      · rw [if_neg k, if_neg h, if_neg (by simp only [List.length_cons]; omega)]

/-- OTP bits are never cleared by programming. -/
theorem otpProgramBytes_grows (l : Bytes) (m : List Host.Cell) (a b : Nat) :
    otpRead m b &&& otpRead (otpProgramBytes m a l) b = otpRead m b := by
  rw [otpRead_programBytes]
  split
  · ext i hi; simp; intro h; simp [h]
  · simp

/-- The OTP as shipped is in its canonical form. -/
theorem reset_otp_wf : Memory.wf State.reset.life.otp = true := by decide

end Sys2Proof.Laws
end

