-- ==== Sys2Proof/Laws/Reset.lean ====
section
/-! SUPPORT. What resets, starts and changes of phase can do to the state. -/

namespace Sys2Proof.Laws

open Sys2Proof Sys2Proof.Machine

theorem breakLens_frame (s : State) : ∃ l, breakLens s = { s with plat := { s.plat with lock := l } } := by
  unfold breakLens
  split
  · exact ⟨3, rfl⟩
  · exact ⟨s.plat.lock, rfl⟩

/-- The end of a flow touches the units affine to it alone (R75, R79). -/
theorem dropFlow_frame (f : Flow) (s : State) :
    ∃ a u, dropFlow f s = { s with prism := { s.prism with affinity := a }, facets := u } := ⟨_, _, rfl⟩

theorem releaseCtx_frame (i : Nat) (s : State) :
    ∃ a b u, releaseCtx i s = { s with sess := a, prism := { s.prism with affinity := b }, facets := u } := by
  unfold releaseCtx
  dsimp only
  split
  · exact ⟨_, _, _, rfl⟩
  · exact ⟨s.sess, s.prism.affinity, s.facets, rfl⟩

theorem foldl_releaseCtx_frame (l : List (Nat × Session)) (s : State) :
    ∃ a b u, l.foldl (fun s e => releaseCtx e.1 s) s = { s with sess := a, prism := { s.prism with affinity := b }, facets := u } := by
  refine foldl_rel (fun s t => ∃ a b u, t = { s with sess := a, prism := { s.prism with affinity := b }, facets := u })
    (fun s => ⟨s.sess, s.prism.affinity, s.facets, rfl⟩) ?_ _ (fun s x => releaseCtx_frame _ s) l s
  rintro a b c ⟨x, y, z, rfl⟩ ⟨x', y', z', rfl⟩
  exact ⟨x', y', z', rfl⟩

theorem warmSessions_frame (s : State) :
    ∃ a b u, warmSessions s = { s with sess := a, prism := { s.prism with affinity := b }, facets := u } := by
  unfold warmSessions
  dsimp only
  obtain ⟨a, b, u, h⟩ := foldl_releaseCtx_frame (s.sess.ctxs.filter (fun e => e.2.allocated && e.2.transient)) s
  rw [h]
  exact ⟨_, _, _, rfl⟩

theorem endSessions_frame (p : Nat) (s : State) :
    ∃ a b u, endSessions p s = { s with sess := a, prism := { s.prism with affinity := b }, facets := u } := foldl_releaseCtx_frame _ s

/-- A warm reset cuts the backing writes that are under way in the first device alone (R132). -/
theorem cutBackings_frame (s : State) : ∃ n f, cutBackings s = { s with ks := { s.ks with nor0 := n }, free := f } := by
  unfold cutBackings
  refine foldl_rel (fun s t => ∃ n f, t = { s with ks := { s.ks with nor0 := n }, free := f }) (fun s => ⟨s.ks.nor0, s.free, rfl⟩) ?_ _
    (fun s x => ?_) _ s
  · rintro a b c ⟨x, y, rfl⟩ ⟨x', y', rfl⟩
    exact ⟨x', y', rfl⟩
  · unfold takeFree writeDevice0
    dsimp only
    split
    · exact ⟨s.ks.nor0, _, rfl⟩
    · exact ⟨_, _, rfl⟩
    · exact ⟨_, _, rfl⟩

/-- Two states that differ in the two slots alone. -/
def slotsOnly (s t : State) : Prop := ∃ a b, t = { s with fw := { s.fw with slotA := a, slotB := b } }

theorem slotsOnly_trans {a b c : State} : slotsOnly a b → slotsOnly b c → slotsOnly a c := by
  rintro ⟨x, y, rfl⟩ ⟨x', y', rfl⟩
  exact ⟨x', y', rfl⟩

theorem setSlot_only (b : Bool) (x : Slot) (s : State) : slotsOnly s (setSlot b x s) := by
  cases b
  · exact ⟨x, s.fw.slotB, rfl⟩
  · exact ⟨s.fw.slotA, x, rfl⟩

theorem writeSlot_only (b : Bool) (i : Bytes) (s : State) : slotsOnly s (writeSlot b i s) := setSlot_only _ _ s
theorem raiseFlag_only (b : Bool) (n : Nat) (s : State) : slotsOnly s (raiseFlag b n s) := setSlot_only _ _ s
theorem clearFlag_only (b : Bool) (s : State) : slotsOnly s (clearFlag b s) := setSlot_only _ _ s

/-- A commit of root-of-trust firmware that is cut off touches the two slots alone (R302). -/
theorem cutCommit_frame (s : State) :
    ∃ a b f, cutCommit s = { s with fw := { s.fw with slotA := a, slotB := b }, free := f } := by
  have h : ∀ n t, slotsOnly { s with free := n } t → ∃ a b f, t = { s with fw := { s.fw with slotA := a, slotB := b }, free := f } := by
    rintro n t ⟨a, b, rfl⟩
    exact ⟨a, b, n, rfl⟩
  unfold cutCommit
  split
  · dsimp only [takeFree]
    split
    · exact ⟨_, _, _, rfl⟩
    · exact h _ _ (writeSlot_only ..)
    · exact h _ _ (writeSlot_only ..)
    · exact h _ _ (slotsOnly_trans (writeSlot_only ..) (raiseFlag_only ..))
    · exact h _ _ (slotsOnly_trans (slotsOnly_trans (writeSlot_only ..) (raiseFlag_only ..)) (clearFlag_only ..))
  · exact ⟨_, _, s.free, rfl⟩

/-- A request for a transition that is cut off touches the OTP alone (R362). -/
theorem cutIntent_frame (s : State) :
    ∃ o b f, cutIntent s = { s with life := { s.life with otp := o, fenced := b }, free := f } := by
  have hk : ∃ o b f, s = { s with life := { s.life with otp := o, fenced := b }, free := f } := ⟨s.life.otp, s.life.fenced, s.free, rfl⟩
  unfold cutIntent programIntent
  split
  · exact hk
  · split
    · exact hk
    · split
      · dsimp only [takeFree]
        split
        · exact ⟨_, s.life.fenced, _, rfl⟩
        · exact ⟨_, s.life.fenced, _, rfl⟩
        · exact ⟨_, _, _, rfl⟩
      · exact hk

/-- What the end of power cuts off: writes of flash and OTP, and nothing else. -/
theorem cutWrites_frame (s : State) : ∃ n a b o e f, cutWrites s =
    { s with ks := { s.ks with nor0 := n }, fw := { s.fw with slotA := a, slotB := b }, life := { s.life with otp := o, fenced := e }, free := f } := by
  obtain ⟨o, e, f, h⟩ := cutIntent_frame s
  obtain ⟨a, b, g, k⟩ := cutCommit_frame (cutIntent s)
  obtain ⟨n, i, l⟩ := cutBackings_frame (cutCommit (cutIntent s))
  refine ⟨n, a, b, o, e, i, ?_⟩
  show cutBackings (cutCommit (cutIntent s)) = _
  rw [l, k, h]

theorem cutWrites_life (s : State) : (cutWrites s).life = (cutIntent s).life := by
  obtain ⟨a, b, g, k⟩ := cutCommit_frame (cutIntent s)
  obtain ⟨n, i, l⟩ := cutBackings_frame (cutCommit (cutIntent s))
  show (cutBackings (cutCommit (cutIntent s))).life = _
  rw [l, k]

/-- A warm reset, but for what it does to sessions, to the Lens lock and to writes under way. -/
theorem warmReset_frame (s : State) : ∃ a l n i j o e f, warmReset s =
    { s with
      clk := darkClock s.clk, svc := darkService s.svc s.clk.ns true, fns := s.fns.map (fun e => (e.1, warmFn e.2)),
      rings := warmRings s.rings,
      pm := { s.pm with selPart := 0, selWin := 0, refused := false, spoof := [], spoofNext := 0 },
      parts := s.parts.map (fun e => (e.1, warmPart e.2)), ks := warmKeys { s.ks with nor0 := n }, sess := a, prism := warmPrism s.prism,
      facets := [], engines := [], domains := [], fabClass := [], rng := warmRng s.rng, fw := warmFw s.svc.discardApp { s.fw with slotA := i, slotB := j },
      plat := { s.plat with lock := l }, mbus := warmMbus s.mbus, life := warmLife { s.life with otp := o, fenced := e }, hzn := warmHorizon s.hzn,
      ilu := warmIluon s.ilu, flt := warmFaults s.flt, free := f } := by
  obtain ⟨n, i, j, o, e, f, hn⟩ := cutWrites_frame s
  obtain ⟨a, b, u, ha⟩ := warmSessions_frame (cutWrites s)
  obtain ⟨l, hl⟩ := breakLens_frame (warmSessions (cutWrites s))
  refine ⟨a, l, n, i, j, o, e, f, ?_⟩
  unfold warmReset
  dsimp only
  rw [hl, ha, hn]
  rfl

/-- A warm reset changes OTP only where it cuts an intent off (R362). -/
theorem warmReset_otp (s : State) : (warmReset s).life.otp = (cutIntent s).life.otp := by
  obtain ⟨a, b, u, ha⟩ := warmSessions_frame (cutWrites s)
  obtain ⟨l, hl⟩ := breakLens_frame (warmSessions (cutWrites s))
  rw [← cutWrites_life]
  unfold warmReset
  dsimp only
  rw [hl, ha]
  rfl

theorem startTests_frame (s : State) : ∃ d, startTests s = { s with domains := d } := by
  unfold startTests
  refine foldl_rel (fun s t => ∃ d, t = { s with domains := d }) (fun s => ⟨s.domains, rfl⟩) ?_ _ (fun s x => ⟨_, rfl⟩) _ s
  rintro a b c ⟨x, rfl⟩ ⟨y, rfl⟩
  exact ⟨y, rfl⟩

theorem enterPhase_frame (p : Phase) (s : State) :
    ∃ a b, enterPhase p s = { s with svc := { s.svc with phase := p }, fns := a, out := b } := by
  unfold enterPhase
  obtain ⟨a, b, h⟩ := setCauseAll_frame causePhase { s with svc := { s.svc with phase := p } }
  exact ⟨a, b, by rw [h]⟩

theorem reportLoss_frame (s : State) :
    ∃ a b, reportLoss s = { s with svc := { s.svc with jnlLost := false }, fns := a, out := b } := by
  unfold reportLoss
  split
  · obtain ⟨a, b, h⟩ := setCauseAll_frame causeJnl { s with svc := { s.svc with jnlLost := false } }
    exact ⟨a, b, by rw [h]⟩
  · rename_i h
    refine ⟨s.fns, s.out, ?_⟩
    have : s.svc.jnlLost = false := by simpa using h
    rw [← this]

theorem relayVaults_frame (s : State) : ∃ p f, relayVaults s = { s with parts := p, flt := f } := by
  unfold relayVaults
  refine foldl_rel (fun s t => ∃ p f, t = { s with parts := p, flt := f }) (fun s => ⟨s.parts, s.flt, rfl⟩) ?_ _ (fun s x => ?_) _ s
  · rintro a b c ⟨x, y, rfl⟩ ⟨x', y', rfl⟩
    exact ⟨x', y', rfl⟩
  · dsimp only
    split
    · exact ⟨s.parts, s.flt, rfl⟩
    · exact ⟨_, _, rfl⟩

theorem setCapacity_frame (s : State) : ∃ p, setCapacity s = { s with parts := p } := by
  unfold setCapacity
  refine foldl_rel (fun s t => ∃ p, t = { s with parts := p }) (fun s => ⟨s.parts, rfl⟩) ?_ _ (fun s x => ⟨_, rfl⟩) _ s
  rintro a b c ⟨x, rfl⟩ ⟨y, rfl⟩
  exact ⟨y, rfl⟩

theorem layVaults_frame (s : State) : ∃ p f, layVaults s = { s with parts := p, flt := f } := by
  unfold layVaults
  dsimp only
  obtain ⟨p, f, h⟩ := relayVaults_frame s
  rw [h]
  split
  · obtain ⟨q, k⟩ := setCapacity_frame { s with parts := p, flt := f }
    exact ⟨q, f, by rw [k]⟩
  · exact ⟨p, f, rfl⟩

/-- Every ring after a warm reset: disabled, its generation one higher (R106). -/
theorem warmRings_at (t : Tab Ring) {g : Nat} (h : g < 1024) :
    ((warmRings t).at g ringReset).enable = false ∧ ((warmRings t).at g ringReset).gen = (t.at g ringReset).gen + 1 := by
  obtain ⟨w, hw⟩ : ∃ w : Nat → Ring, w = fun g =>
      let r := t.at g ringReset; { ringCleared r with gen := r.gen + 1 } := ⟨_, rfl⟩
  have h1 : warmRings t = (List.range 1024).map (fun g => (g, w g)) := by rw [hw]; rfl
  have h2 : (warmRings t).at g ringReset = w g := by
    rw [h1]
    unfold Tab.at
    rw [look_range w h]
    rfl
  rw [h2, hw]
  exact ⟨rfl, rfl⟩

theorem islandDraw_frame (n : Nat) (s : State) :
    ∃ r f, (islandDraw n s).2 = { s with rng := { s.rng with module := r }, free := f } := by
  unfold islandDraw
  split
  · exact ⟨s.rng.module, _, rfl⟩
  · exact ⟨_, s.free, rfl⟩

end Sys2Proof.Laws
end

