-- ==== Sys2Proof/Laws/Slots.lean ====
section
/-! SUPPORT. What the flag records of the two slots say after each step of an update (R300, R302). -/

namespace Sys2Proof.Laws
open Sys2Proof Sys2Proof.Machine

@[simp] theorem length_toLe (n v : Nat) : (toLe n v).length = n := by
  induction n generalizing v with
  | zero => rfl
  | succ n ih => simp [toLe, ih]

theorem leNat_toLe (n v : Nat) (h : v < 256 ^ n) : leNat (toLe n v) = v := by
  induction n generalizing v with
  | zero => simp_all [toLe, leNat]
  | succ n ih =>
    have hq : v / 256 < 256 ^ n := by rw [Nat.div_lt_iff_lt_mul (by decide)]; simpa [Nat.pow_succ] using h
    simp only [toLe, leNat, ih _ hq, BitVec.toNat_ofNat]
    omega

@[simp] theorem length_zeros (n : Nat) : (zeros n).length = n := by simp [zeros]

@[simp] theorem length_padTo (n : Nat) (b : Bytes) : (padTo n b).length = n := by
  simp only [padTo, List.length_take, List.length_append, length_zeros]; omega

theorem padTo_padTo (n : Nat) (b : Bytes) : padTo n (padTo n b) = padTo n b := by
  have h := length_padTo n b
  rw [padTo.eq_1 n (padTo n b), h]
  simp [zeros, List.take_of_length_le (Nat.le_of_eq h)]

/-- The 60 bytes of a flag record before its CRC. -/
def flagBody (slot : Bool) (seq : Nat) (digest : Bytes) : Bytes :=
  toLe 4 0x5547464C ++ toLe 1 (b2n slot) ++ [0xA5] ++ zeros 2 ++ toLe 4 seq ++ zeros 4 ++ padTo 32 digest ++ zeros 12

theorem length_flagBody (b : Bool) (n : Nat) (d : Bytes) : (flagBody b n d).length = 60 := by simp [flagBody]

theorem flagRecord_eq (b : Bool) (n : Nat) (d : Bytes) : flagRecord b n d = flagBody b n d ++ flagCrc (flagBody b n d) := rfl

@[simp] theorem length_flagCrc (r : Bytes) : (flagCrc r).length = 4 := by simp [flagCrc]

theorem length_flagRecord (b : Bool) (n : Nat) (d : Bytes) : (flagRecord b n d).length = 64 := by
  simp [flagRecord_eq, length_flagBody]

/-- A programmed record has its CRC. -/
theorem flagRecord_intact (b : Bool) (n : Nat) (d : Bytes) : flagIntact (flagRecord b n d) = true := by
  have h := length_flagBody b n d
  have e1 : bsub (flagRecord b n d) 0x3C 4 = flagCrc (flagBody b n d) := by
    rw [flagRecord_eq, bsub, List.drop_append_of_le_length (by omega), List.drop_of_length_le (by omega), List.nil_append]
    exact List.take_of_length_le (by simp)
  have e2 : flagCrc (flagRecord b n d) = flagCrc (flagBody b n d) := by
    unfold flagCrc
    rw [flagRecord_eq, List.take_append_of_le_length (by omega)]
  simp [flagIntact, e1, e2]

/-- Clearing ACTIVE leaves the CRC right: it takes ACTIVE as zero. -/
theorem flagCleared_intact {r : Bytes} (hl : r.length = 64) (h : flagIntact r = true) : flagIntact (flagCleared r) = true := by
  have e1 : bsub (flagCleared r) 0x3C 4 = bsub r 0x3C 4 := by
    simp only [bsub, flagCleared, bput]
    rw [List.drop_append, List.drop_of_length_le (by simp)]
    simp [hl]
  have e2 : flagCrc (flagCleared r) = flagCrc r := by
    unfold flagCrc
    congr 3
    simp only [flagCleared, bput]
    simp [List.take_append, List.take_take, List.drop_append, hl, List.drop_take]
  simp_all [flagIntact]

theorem flagRecord_active (b : Bool) (n : Nat) (d : Bytes) : bsub (flagRecord b n d) 5 1 = [0xA5] := by
  simp [flagRecord, toLe, bsub]

theorem flagRecord_digest (b : Bool) (n : Nat) (d : Bytes) : bsub (flagRecord b n d) 0x10 32 = padTo 32 d := by
  have e : flagRecord b n d = (toLe 4 0x5547464C ++ toLe 1 (b2n b) ++ [0xA5] ++ zeros 2 ++ toLe 4 n ++ zeros 4) ++
      (padTo 32 d ++ (zeros 12 ++ flagCrc (flagBody b n d))) := by simp [flagRecord_eq, flagBody]
  rw [e, bsub, List.drop_append_of_le_length (by simp), List.drop_of_length_le (by simp)]
  rw [List.nil_append, List.take_append_of_le_length (by simp), List.take_of_length_le (by simp)]

theorem flagRecord_seq (b : Bool) (n : Nat) (d : Bytes) : fld (flagRecord b n d) 8 4 = leNat (toLe 4 n) := by
  simp [fld, bsub, flagRecord, toLe, zeros]

theorem flagCleared_inactive {r : Bytes} (hl : 6 ≤ r.length) : bsub (flagCleared r) 5 1 = [0] := by
  simp only [flagCleared, bput, bsub]
  rw [List.append_assoc, List.drop_append_of_le_length (by simp; omega), List.drop_of_length_le (by simp)]
  simp

/-- A slot whose record was raised is active, with that FLAG_SEQ. -/
theorem slotActive_raised {x : Slot} (b : Bool) (n : Nat) (h : x.flag = flagRecord b n (sha3_256 (imgHeader x.image))) :
    slotActive x = true := by
  have hd : padTo 32 (sha3_256 (imgHeader x.image)) = sha3_256 (imgHeader x.image) := padTo_padTo 32 _
  simp [slotActive, h, flagRecord_intact, flagRecord_active, flagRecord_digest, hd]

theorem flagSeq_raised {x : Slot} (b : Bool) (n : Nat) (d : Bytes) (hn : n < 2 ^ 32) (h : x.flag = flagRecord b n d) : flagSeq x = n := by
  simp [flagSeq, h, flagRecord_intact, flagRecord_seq, leNat_toLe 4 n (by simpa using hn)]

/-- A slot whose record was cleared is not active. -/
theorem slotActive_cleared {x : Slot} {r : Bytes} (hl : 6 ≤ r.length) (h : x.flag = flagCleared r) : slotActive x = false := by
  simp [slotActive, h, flagCleared_inactive hl]

/-- A slot whose record is erased is not active. -/
theorem slotActive_erased {x : Slot} (h : x.flag = flagErased) : slotActive x = false := by
  have : bsub flagErased 5 1 = [0xFF] := by decide
  simp [slotActive, h, this]

/-- After reset the flag record of slot A alone marks its image, with FLAG_SEQ 0. -/
theorem reset_slots : slotActive State.reset.fw.slotA = true ∧ slotActive State.reset.fw.slotB = false ∧
    flagSeq State.reset.fw.slotA = 0 := by
  refine ⟨?_, ?_, ?_⟩
  · have e : State.reset.fw.slotA.flag = flagRecord false 0 (Config.hash 0x11 (Config.shippedImage.take 256)) := rfl
    have d : sha3_256 (imgHeader State.reset.fw.slotA.image) = padTo 32 (Config.hash 0x11 (Config.shippedImage.take 256)) := rfl
    simp [slotActive, e, d, flagRecord_intact, flagRecord_active, flagRecord_digest]
  · exact slotActive_cleared (by simp [length_flagRecord]) (r := flagRecord true 0 (Config.hash 0x11 (Config.shippedImage.take 256))) rfl
  · exact flagSeq_raised false 0 _ (by decide) rfl

end Sys2Proof.Laws
end

