-- ==== Sys2Proof/WellFormed.lean ====
section
/-! DEFINITION. Which operands an outside agent can really present. Each check is named after what it reads; `exec` is total and does
not ask for them. -/

namespace Sys2Proof

/-- Bytes of the input fragments of a descriptor list: bit 0 of its flags marks an output fragment (R51). -/
def inputBytes : Nat → Bytes → Nat
  | 0, _ => 0
  | n + 1, b =>
    let at_ (k : Nat) : Nat := (b.getD k 0).toNat
    (if at_ 12 % 2 = 0 then at_ 8 + 256 * at_ 9 + 65536 * at_ 10 + 16777216 * at_ 11 else 0) + inputBytes n (b.drop 16)

/-- DESC_COUNT of the header (R49). -/
def Submission.descCount (x : Submission) : Nat := ((x.header[0x28]?).getD 0).toNat + 256 * ((x.header[0x29]?).getD 0).toNat

/-- A fetched entry (R49, R51, R52): a 64-byte header, as many descriptors as it names (none when it names more than 1,024), and the
bytes of the input fragments, unless the read failed. -/
def Submission.wf (x : Submission) : Bool :=
  x.header.length == 64 && x.list.length == 16 * (if x.descCount ≤ 1024 then x.descCount else 0) &&
  (x.readError || x.payload.length == inputBytes (x.list.length / 16) x.list)

/-- A frame names ring positions and holds at most 4,096 bytes (R399). -/
def Frame.wf (f : Frame) : Bool := decide (f.src < 256) && decide (f.dst < 256) && decide (f.payload.length ≤ 4096)

/-- An access of 1, 2, 4 or 8 bytes at its own alignment (R41). -/
def accessWf (off size : Nat) : Bool := (size == 1 || size == 2 || size == 4 || size == 8) && off % size == 0

/-- An accepted command lies in one of 256 partitions and has a 16-bit journal index (R1, R61). -/
def CmdRef.wf (r : CmdRef) : Bool := decide (r.part < 256) && decide (r.idx < 65536)

/-- A calibration point's load is in thousandths (R392). -/
def CalPoint.wf (p : CalPoint) : Bool := decide (p.load ≤ 1000)

/-- Whether a command or an event can arrive as it is written. -/
def Instr.wf : Instr → Bool
  | .halfReadLatch _ w => (w.bar == 0 || w.bar == 2 || w.bar == 4) && decide (1 ≤ w.size) && decide (w.size ≤ 8)
  | .registerWrite _ bar off size _ => (bar == 0 || bar == 2 || bar == 4) && accessWf off size
  | .sqTailWrite _ _ size _ => accessWf 0 size
  | .cqHeadWrite _ _ size _ => accessWf 0 size
  | .pmWinWrite _ off size _ => decide (off < 8) && accessWf off size
  | .msixTableWrite _ off size _ => accessWf off size
  | .fetchEntry _ _ sub => sub.wf
  | .itemHoldLapse c _ => c.wf
  | .keyLoadDone c _ _ _ => c.wf
  | .keyUnwrapDone c _ _ _ => c.wf
  | .itemEnd c _ _ => c.wf
  | .backingDurable c => c.wf
  | .completionDue c => c.wf
  | .calibrationDone p _ => p.wf
  | .mctpPacket _ _ _ _ _ _ _ body => decide (body.length ≤ 64)
  | .challenge _ _ n => n.length == 32
  | .getMeasurements _ _ n => n.length == 32
  | .keyExchange _ _ e => e.length == 96
  | .vendorDefinedRequest _ _ _ h _ => h.length == 64
  | .iluonLinkUp _ lanes => decide (1 ≤ lanes) && decide (lanes ≤ 4)
  | .heartbeat f _ _ => f.wf
  | .timeMark f _ => f.wf
  | .forward f h _ _ _ _ _ => f.wf && h.length == 64
  | .forwardAck f _ => f.wf
  | .event f _ => f.wf
  | .replyCheck f _ _ _ _ => f.wf
  | .leave f _ => f.wf
  | .lease f _ _ _ _ _ => f.wf
  | .replicate f _ _ _ => f.wf
  | .replicateAck f _ _ => f.wf
  | .spill f h _ _ _ => f.wf && h.length == 64
  | .spillReply f _ _ _ _ => f.wf
  | .resync f _ _ _ => f.wf
  | .cutThroughFrame f _ => f.wf
  | .trainFrameArrival f _ => f.wf
  | .lensTransaction t => decide (t.count ≤ 2 ^ 32)
  | _ => true

end Sys2Proof
end

