-- ==== Sys2Proof/Tests/Slice0.lean ====
section
/-! SUPPORT. Small tests of the model, and one witness for each statement with hypotheses: a state and operands that meet them together.
Expected values come from the worked examples and the tables of spec/. -/

namespace Sys2Proof.Tests
open Sys2Proof Sys2Proof.Machine Sys2Proof.Safety

set_option maxRecDepth 4000

/-! ### Terms that no agent can present are refused by `Instr.wf` (R1, R41, R49, R51, R61, R392, R399) -/

def goodEntry : Submission := { header := zeros 64, list := [], payload := [], readError := false }
def goodFrame : Frame := { port := true, flags := 0, src := 1, dst := 0, linkSeq := 0, claim := 0, payload := [], body := [], tagOk := true }
def someone : SpdmSource := { port := 0, eid := 9, session := none }

theorem test_wf_accepts :
    Instr.wf .powerFail = true ∧ Instr.wf (.fetchEntry 0 1 goodEntry) = true ∧ Instr.wf (.registerWrite 0 4 8 8 0) = true ∧
    Instr.wf (.timeMark goodFrame 0) = true ∧ Instr.wf (.itemEnd ⟨255, 65535, 0⟩ 0 .ok) = true := by decide

theorem test_wf_refuses_accesses :
    Instr.wf (.halfReadLatch 0 ⟨1, 0, 4⟩) = false ∧ Instr.wf (.registerWrite 0 1 0 4 0) = false ∧ Instr.wf (.registerWrite 0 0 2 4 0) = false ∧
    Instr.wf (.registerWrite 0 0 0 3 0) = false ∧ Instr.wf (.sqTailWrite 0 0 3 0) = false ∧ Instr.wf (.cqHeadWrite 0 0 0 0) = false ∧
    Instr.wf (.pmWinWrite false 8 4 0) = false ∧ Instr.wf (.pmWinWrite true 4 8 0) = false ∧
    Instr.wf (.msixTableWrite 0 6 4 0) = false := by decide

theorem test_wf_refuses_entries :
    Instr.wf (.fetchEntry 0 0 { goodEntry with header := zeros 63 }) = false ∧
    Instr.wf (.fetchEntry 0 0 { goodEntry with list := [0] }) = false ∧
    Instr.wf (.fetchEntry 0 0 { goodEntry with payload := [7] }) = false := by decide

theorem test_wf_refuses_references :
    Instr.wf (.itemHoldLapse ⟨256, 0, 0⟩ 0) = false ∧ Instr.wf (.keyLoadDone ⟨0, 65536, 0⟩ 0 0 true) = false ∧
    Instr.wf (.keyUnwrapDone ⟨256, 0, 0⟩ 0 0 true) = false ∧ Instr.wf (.itemEnd ⟨0, 65536, 0⟩ 0 .ok) = false ∧
    Instr.wf (.backingDurable ⟨256, 0, 0⟩) = false ∧ Instr.wf (.completionDue ⟨0, 65536, 0⟩) = false := by decide

theorem test_wf_refuses_measured_data :
    Instr.wf (.calibrationDone { load := 1001, temp := 200, bounds := [], crcOk := true } 0) = false ∧
    Instr.wf (.mctpPacket 0 9 8 true true 0 0 (zeros 65)) = false ∧ Instr.wf (.challenge someone 0 (zeros 31)) = false ∧
    Instr.wf (.getMeasurements someone 0 (zeros 31)) = false ∧ Instr.wf (.keyExchange someone 0 (zeros 95)) = false ∧
    Instr.wf (.vendorDefinedRequest someone 3 0x1FA7 (zeros 63) []) = false ∧
    Instr.wf (.lensTransaction { master := true, port := 0, opcode := 3, second := 0, addr := 0, count := 2 ^ 32 + 1 }) = false := by decide

theorem test_wf_refuses_frames :
    Instr.wf (.iluonLinkUp true 0) = false ∧ Instr.wf (.iluonLinkUp true 5) = false ∧
    Instr.wf (.heartbeat { goodFrame with src := 256 } 0 0) = false ∧ Instr.wf (.timeMark { goodFrame with dst := 256 } 0) = false ∧
    Instr.wf (.event { goodFrame with payload := zeros 4097 } (.boundary 0)) = false ∧
    Instr.wf (.forward goodFrame (zeros 63) [] 0 0 [] []) = false ∧ Instr.wf (.spill goodFrame (zeros 65) [] [] []) = false ∧
    Instr.wf (.forwardAck { goodFrame with src := 256 } ⟨0, 0, 0⟩) = false ∧ Instr.wf (.leave { goodFrame with dst := 256 } 0) = false ∧
    Instr.wf (.replyCheck { goodFrame with src := 256 } ⟨0, 0, 0⟩ 0 0 []) = false ∧
    Instr.wf (.lease { goodFrame with src := 256 } true 0 0 0 []) = false ∧
    Instr.wf (.replicate { goodFrame with src := 256 } true 0 []) = false ∧
    Instr.wf (.replicateAck { goodFrame with src := 256 } ⟨0, 0, 0⟩ 0) = false ∧
    Instr.wf (.spillReply { goodFrame with src := 256 } ⟨0, 0, 0⟩ true 0 []) = false ∧
    Instr.wf (.resync { goodFrame with src := 256 } 0 0 []) = false ∧ Instr.wf (.cutThroughFrame { goodFrame with src := 256 } 0) = false ∧
    Instr.wf (.trainFrameArrival { goodFrame with src := 256 } 0) = false := by decide +kernel

/-! ### No word of the opcode table spells a command -/

theorem test_no_word_spells_a_command : Sys2Proof.decodeTableWord 16 0x0401 = none := by decide

/-- The check value of CRC-32 of IEEE 802.3, which the spec names for its records (R300). -/
theorem test_crc32 : crc32 (ascii "123456789") = 0xCBF43926 := by decide +kernel

/-- The flag record of R300 keeps its CRC when its ACTIVE byte is cleared. -/
theorem test_flag_record : flagIntact (flagRecord true 42 (zeros 32)) = true ∧ flagIntact (flagCleared (flagRecord true 42 (zeros 32))) = true ∧
    flagIntact flagErased = false := by decide +kernel

/-! ### Helper states -/

/-- A machine with supply, its clocks running from the PLL, its mapping loaded. -/
def tOn : State :=
  { State.reset with fns := [(0, State.shippedPf)], clk := { State.resetClock with feedA := 12000, powered := true, pllEnabled := true } }
/-- The ROM at work on the island clock, the generator HEALTHY. -/
def tRom : State :=
  { tOn with clk := { tOn.clk with pllLocked := true, islandClock := true }, rng := { State.resetRng with state := .healthy, running := true } }
/-- An incomplete intent in the first free transition record. -/
def tBadIntent : State := { tRom with life := { tRom.life with otp := otpProgramBytes tRom.life.otp 0x420 [4] } }
/-- A complete intent to Deployed. -/
def tIntent : State :=
  { tRom with life := { tRom.life with otp := otpProgramBytes tRom.life.otp 0x420 (toLe 4 (lcWord .deployed) ++ toLe 4 (0xFFFFFFFF - lcWord .deployed)) } }
/-- The root-of-trust firmware has just started. -/
def tDawn : State := { tRom with svc := { State.resetService with phase := .dawn, romStarted := true, romFound := true } }
/-- Overcast with everything ready for Clear. -/
def tReady : State :=
  { tDawn with svc := { tDawn.svc with phase := .overcast, memTrained := true, calLoaded := true },
               domains := (List.range 32).map (fun d => (d, { domainReset with katPass := true })) }
/-- The PCIe link is up. -/
def tLink : State := { State.reset with fns := [(0, State.shippedPf)], svc := { State.resetService with linkUp := true } }
/-- Ring 1 of the PF, of 64 entries, is enabled. -/
def tRing : State := { tLink with rings := [(1, { ringReset with enable := true })] }
/-- Partition 0 may use the whole of host memory. -/
def tWindow : State :=
  { tLink with parts := [(0, { partReset with windows := [(0, { valid := true, base := 0, limit := 0xFFFFFFFFFFFFF })] })] }
/-- A command of opcode `op` accepted by the PF on ring 1 for partition 0, its items `l`. -/
def tCmd (op : BitVec 16) (payload : Bytes) (l : List Item) : Cmd :=
  { ref := ⟨0, 0, 0⟩, ring := 1, fn := 0, session := none, seq := 1, opcode := op, flags := 0, handle := 0, header := zeros 64, payload := payload,
    outs := [], frags := [payload.length], ringGen := 0, partGen := 0, flow := .own ⟨0, 0, 0⟩, order := 0, items := l, keys := [], released := [],
    loaded := [], base := none, backing := [], out := none, outAttr := none, shadow := false, draw := .none, transient := none, reserved := 0, nth := 0, started := false, cut := none, abort := none,
    result := none, wrote := [], durable := true, acked := true, verdict := none, replicated := 0, fromMirror := false, fence := false, acceptNs := 0,
    policy := [], spilled := none, spillFrom := none, told := none, undo := none,
    replicas := [], ackedBy := [], undoRest := [] }
/-- A work item that waits. -/
def tItem (k : UnitKind) (loads : List KeyLoad) : Item :=
  { kind := k, preds := 0, succ := [], loads := loads, bytes := 16, state := .waiting, readyNs := some 0, unheld := true, aged := false, failedOn := [],
    startNs := 0, redispatch := false, marked := false, fail := none }
/-- The one command in flight. -/
def tFlight (s : State) (c : Cmd) : State := { s with prism := { s.prism with cmds := [c], order := 1, credit := [(0, 1000), (256, 1000), (512, 1000)] } }
/-- The generator HEALTHY, the module in Dawn, one draw request of partition 0 waiting. -/
def tDraw : State :=
  { tFlight tDawn { tCmd 0x0701 [] [] with draw := .waiting } with rng := { State.resetRng with state := .healthy, running := true, queue := [⟨0, 0, 0⟩] } }
/-- The first entry of ring 1 of the PF waits to be fetched. -/
def tFetch : State :=
  { tDawn with svc := { tDawn.svc with linkUp := true }, rings := [(1, { ringReset with enable := true, sqTail := 1 })] }
/-- An entry whose magic is wrong. -/
def tBadEntry : Submission := { header := zeros 64, list := [], payload := [], readError := false }
/-- A 64-byte entry header with the magic and version, and the PARTITION, RING and GENERATION fields given. -/
def tHeader (part ring gen : Nat) : Bytes :=
  toLe 4 0x55474C53 ++ toLe 2 1 ++ toLe 2 0x0101 ++ toLe 2 0 ++ toLe 2 part ++ toLe 2 ring ++ toLe 2 gen ++ zeros 48
/-- A load of an on-die key, and of a cached key. -/
def tLoad : KeyLoad := { key := 0x40000000, version := 0, usage := 0, reg := 0, done := false, source := none, share := [], mask := [], alg := 0, keyUsage := 0 }
def tLoadC : KeyLoad := { tLoad with key := 0x80000000 }
def tOffer : Offer := { id := 1, body := [], secret := [], expiry := 0 }
def tNonce : Nonce := { id := 1, value := [], issued := 0 }
def tBlob : Blob := { id := 1, header := [], chunks := [], nextRead := 0, issued := 0 }
def tStaging : Staging := { id := 1, key := [], chunks := 1, total := 0, have_ := [], tags := [], ringMap := [], header := [], last := 0 }
/-- Partition 0 is FREEZING for command 0, with the commands `l` still to complete. -/
def tFreeze (l : List Cmd) : State :=
  { tDawn with
    prism := { State.resetPrism with cmds := { tCmd 0x0C20 [] [] with started := true } :: l }
    parts := [(0, { partReset with state := .freezing, freezeCmd := some ⟨0, 0, 0⟩ })] }
/-- The recovery loader runs. -/
def tRec : State := { tRom with svc := { State.resetService with romStarted := true, recovery := true } }
def tRegion : Region :=
  { port := 0, bmc := true, recovery := 0, recPort := 0, first := 0, last := 4095, recStart := 0, digest := [7], result := 0, measured := [],
    excluded := false }
/-- The BMC runs and its one region is measured. -/
def tMeasured : State :=
  { tDawn with svc := { tDawn.svc with dawnDone := true }, plat := { State.resetPlatform with regions := [tRegion], bmcReset := false, bmc := .released } }
/-- The BMC's one region is to be judged. -/
def tBadRegion : State :=
  { tDawn with plat := { State.resetPlatform with booting := 2, manifestOk := true, regions := [tRegion], readDone := [0] } }
/-- The same region names a source, and differs. -/
def tSourced : State := { tBadRegion with plat := { tBadRegion.plat with regions := [{ tRegion with recovery := 1 }] } }
/-- Endpoint 9 of port 0, outside any session. -/
def stranger : SpdmSource := { port := 0, eid := 9, session := none }
def tReasm : Reasm := { port := 1, src := 7, tag := 0, next := 1, data := [5], lastNs := 0 }
/-- Every reassembly buffer is taken. -/
def tFullBuffers : State := { tDawn with mbus := { State.resetMbus with buffers := (List.range 8).map (fun k => (k, tReasm)) } }
/-- Endpoint 9 has negotiated. -/
def tAgreed : State := { tDawn with mbus := { State.resetMbus with dialogs := [{ eid := 9, log := [], agreed := true }] } }
/-- Session 1, of endpoint 9, known. -/
def tSession : SpdmSession :=
  { id := 1, eid := 9, port := 0, handshake := false, known := true, chain := [], reqKey := 0, rspKey := 0, lastNs := 0, lastSeq := 0, ended := false }
def secured : SpdmSource := { port := 0, eid := 9, session := some 1 }
def inHand : SpdmSource := secured
def tSecured : State := { tDawn with mbus := { State.resetMbus with sessions := [tSession] } }
def tFour : State := { tAgreed with mbus := { tAgreed.mbus with sessions := [tSession, tSession, tSession, tSession] } }
def tHandshake : State := { tDawn with mbus := { State.resetMbus with sessions := [{ tSession with handshake := true, known := false }] } }
/-- A large response waits for its first CHUNK_GET. -/
def tChunk : Chunking := { eid := 9, handle := 3, data := [1, 2], next := 0, size := 2 }
def tChunked : State := { tSecured with mbus := { tSecured.mbus with chunksOut := [tChunk] } }
/-- Port 0 has lost arbitration seven times; it backs off; port 2 has resent three times. -/
def tSeven : State := modBus 0 (fun p => { p with losses := 7 }) tDawn
def tBackoff : State := modBus 0 (fun p => { p with backoff := some 0 }) tDawn
def tRetried : State := modBus 2 (fun p => { p with retries := 3 }) tDawn
/-- Mains power, and OTP as it left the wafer: Raw. -/
def tRaw : State := { tOn with life := { tOn.life with otp := [] } }
/-- Both Iluon ports are up; the machine is in Clear. -/
def tPorts : State :=
  { tDawn with svc := { tDawn.svc with phase := .clear }
               ilu := { State.resetIluon with west := { State.resetIluon.west with up := true, lanes := 4 }
                                              east := { State.resetIluon.east with up := true, lanes := 4 } } }
/-- A frame from position 1 on the east port, under claim 0. -/
def tFrame : Frame := { port := true, flags := 0, src := 1, dst := 0, linkSeq := 0, claim := 0, payload := [], body := [], tagOk := true }
/-- A standby of a pair on the east port. -/
def tPair (m : MirrorState) : State :=
  { tPorts with ilu := { tPorts.ilu with paired := true, pairPort := true, mirror := m, partnerSeen := true } }
/-- A member of a lease-mode ring of three. -/
def tLease : State :=
  { tPorts with ilu := { tPorts.ilu with members := 3, leaseMode := true, leaseMult := 4, formed := true, live := [0, 1, 2], position := 1, rtts := [100] } }
/-- It holds the lease of KEY_MASTER. -/
def tHolder : State :=
  { tLease with ilu := { tLease.ilu with leaseMult := 64, rtts := [1000], keyMaster := true,
                                         keyLease := { term := 1, holder := 1, expiry := 64000, sent := 0, votes := 3, acts := true, asked := 0, due := 0, back := [] } },
                clk := { tLease.clk with ns := 32000 } }
/-- A 256-bit AES key of class 0 with every usage bit. -/
def tAttr : Attr :=
  { alg := 0x12, cls := 0, bits := 256, usage := 0xFFFFFFFF, x9Usage := [0x44, 0x30], mode := 0x42, export_ := 0x45, span := 0, algPub := 0, keyVersion := [0x30, 0x30] }
def tVal : KeyVal := { attr := tAttr, material := zeros 32, random := zeros 8, epoch := 0, mwkGen := 0 }
/-- Partition 0 is ACTIVE and holds a key under reference 0. -/
def tKeyed : State :=
  setKey 0 0 { cur := some tVal, version := 0, failed := false, codes := [], pending := [] } { tPorts with parts := [(0, { partReset with state := .active })] }
/-- A journal entry of ring 0 and sequence 0, done or not. -/
def tEntry (op : BitVec 16) (fin : Bool) : JEntry :=
  { seq := 0, horizon := 0, opcode := op, status := 0, partition := 0, ring := 0, session := 0, done := fin, cached := false, fromMirror := false,
    discarded := false, gen := 0, digest := [], replyLen := 0, claim := 0, lost := false }
def tJournal : State := { tDawn with parts := [(0, { partReset with journal := [(0, tEntry 0x0101 true)], jnext := 1 })] }
def tJournalSym : State := { tDawn with parts := [(0, { partReset with journal := [(0, tEntry 0x0401 true)], jnext := 1 })] }
/-- Domain 6 is on. -/
def tDomain6 : State := { tDawn with domains := [(6, { domainReset with on := true, katPass := true })] }
/-- Partition 0 has no context left. -/
def tFullCtx : State := { tDawn with sess := { tDawn.sess with fresh := [(0, 4194304)] } }
/-- Session 0 of partition 0 is open under tag 1. -/
def tOpenCtx : State := setSess 0 { sessionReset with allocated := true } tDawn
/-- Context 0 of partition 0 has been taken for a command. -/
def tOpenTransient : State := setSess 0 { sessionReset with allocated := true, transient := true } tDawn
/-- P is 4 partitions, partition `p` in the state `st`; the life cycle is Deployed. -/
def tParts (p : Nat) (st : PartState) : State :=
  { tDawn with pm := { tDawn.pm with logP := some 2 }, parts := [(p, { partReset with state := st })] }
/-- Two officers in slots 1 and 2, with ML-DSA keys. -/
def tOfficerRec (slot : Byte) : Bytes := [slot, 0x51] ++ zeros 3550
def tOfficer (slot : Nat) : Officer := { slot := slot, sigAlg := 0x51, name := [], sigPub := [], kemPub := [] }
def tOfficers : State :=
  { tDawn with pm := { tDawn.pm with logP := some 2 }
               parts := [(0, { partReset with state := .active, threshold := 2, officers := [tOfficer 1, tOfficer 2, tOfficer 3] })] }
/-- A ceremony of partition 0 that collects. -/
def tLock : Lock :=
  { state := .collecting, id := 1, ownerFn := 0, ownerGen := 0, digest := [], challenge := [], threshold := 2, officers := [tOfficer 1, tOfficer 2],
    signed := [], bad := 0, expiry := 100 }
def tCeremony : State := { tDawn with parts := [(0, { partReset with state := .active, lock := tLock })] }
def tExported : State :=
  { tDawn with pm := { tDawn.pm with logP := some 2 }, parts := [(1, { partReset with state := .exported, blob := some { tBlob with chunks := [[7]] } })] }
def tOffered : State :=
  { tDawn with pm := { tDawn.pm with logP := some 2 }, parts := [(1, { partReset with state := .empty, moveOffer := some { tOffer with expiry := 100 } })] }
def tImporting : State :=
  { tDawn with pm := { tDawn.pm with logP := some 2 }, parts := [(1, { partReset with state := .importing, staging := some tStaging })] }
/-- OTP with a finished transition to Deployed. -/
def tDeployedOtp : List Host.Cell :=
  otpProgramBytes tDawn.life.otp 0x420 (toLe 4 (lcWord .deployed) ++ toLe 4 (0xFFFFFFFF - lcWord .deployed) ++ zeros 4 ++ toLe 4 recDoneWord)
def tDeployed : State := { tDawn with life := { tDawn.life with otp := tDeployedOtp } }
def tOffered2 (id : BitVec 32) : State :=
  { tDeployed with pm := { tDawn.pm with logP := some 2 }
                   parts := [(1, { partReset with state := .empty, moveOffer := some { tOffer with id := id, expiry := 100 } })] }
/-- Domain 6 is off for host software. -/
def tDomainOff : State := { tDawn with domains := [(6, { domainReset with on := false, off := some .host })] }
/-- Partition 0 holds under the on-die reference 0x40000001 the key `v`; `w` under 0x40000002. -/
def tHolds (v w : KeyVal) : State :=
  setKey 0 0x40000002 { cur := some w, version := 0, failed := false, codes := [], pending := [] }
    (setKey 0 0x40000001 { cur := some v, version := 0, failed := false, codes := [], pending := [] } tDawn)
/-- The key `tVal` with another algorithm, length and X9.143 usage. -/
def tKey (alg : BitVec 8) (bits : BitVec 16) (x9 : Bytes) : KeyVal := { tVal with attr := { tAttr with alg := alg, bits := bits, x9Usage := x9, export_ := 2 } }
def tK1 : KeyVal := tKey 0x12 256 [0x4B, 0x31]
/-- The two keys as a command has taken them, and their references in its payload. -/
def tTaken : List (BitVec 32 × BitVec 16) := [(0x40000001, 0), (0x40000002, 0)]
def tRefs : Bytes := [1, 0, 0, 0x40, 2, 0, 0, 0x40]
/-- Command 0 is to destroy the key under 0x40000001. -/
def tPendingDestroy : State := setKey 0 0x40000001 { cur := some tK1, version := 0, failed := false, codes := [], pending := [⟨0, 0, 0⟩] } tDawn
def tPrevious : State := { tDawn with ks := { tDawn.ks with prevPresent := true } }
def tRewrap : State := { tDawn with ks := { tDawn.ks with prevPresent := true, rewrap := true } }
def tTr34 : State := modPart 0 (fun p => { p with nonces := [tNonce] }) (tHolds (tKey 0x30 2048 [0x44, 0x30]) tVal)
def tBackup : State := modPart 0 (fun p => { p with backup := some { tBlob with chunks := [[7], [8]] } }) tDawn
def tKeyOffer : State := modPart 0 (fun p => { p with keyOffer := some { tOffer with expiry := 100 } }) tDawn
def tRestore : State := modPart 0 (fun p => { p with restore := some tStaging }) tDawn
/-- A vault command that was accepted first has not run its first item; a second one waits behind it. -/
def tVaultBusy : State :=
  { tDawn with prism := { tDawn.prism with cmds := [{ tCmd 0x1101 [] [tItem .facet []] with order := 0 }, { tCmd 0x1101 [] [] with ref := ⟨0, 1, 0⟩, order := 1 }] } }
def tStaged : State := { tDawn with fw := { tDawn.fw with load := 1, stage := [], stageLen := 8000 } }
def tStaged0 : State := { tDawn with fw := { tDawn.fw with load := 1, stage := [], stageLen := 0 } }
def tVerified : State := { tDawn with fw := { tDawn.fw with load := 2 } }
def tRotStaged : State := { tDawn with fw := { tDawn.fw with rotStage := [], rotLen := 8000 } }
def tRotFull : State := { tDawn with fw := { tDawn.fw with rotStage := [7], rotLen := 1 } }
/-- Deployed, without a unit identity; and a request to Scrap by the owner. -/
def tDeployed0 : State := { tDeployed with life := { tDeployed.life with unitKey := [] } }
def tLcPayload : Bytes :=
  toLe 4 0x55474C52 ++ toLe 2 1 ++ toLe 1 (lcCode .deployed) ++ toLe 1 (lcCode .scrap) ++ unitSerial tDeployed0 ++ toLe 4 (transitions tDeployed0) ++
  [0xFF] ++ zeros 43
/-- Returned, and a request to Scrap under vendor key 0. -/
def tReturnedOtp : List Host.Cell :=
  otpProgramBytes tDeployed0.life.otp 0x430 (toLe 4 (lcWord .returned) ++ toLe 4 (0xFFFFFFFF - lcWord .returned) ++ zeros 4 ++ toLe 4 recDoneWord)
def tReturned0 : State := { tDeployed0 with life := { tDeployed0.life with otp := tReturnedOtp } }
def tLcVendor : Bytes :=
  toLe 4 0x55474C52 ++ toLe 2 1 ++ toLe 1 (lcCode .returned) ++ toLe 1 (lcCode .scrap) ++ unitSerial tReturned0 ++ toLe 4 (transitions tReturned0) ++
  [0] ++ zeros 43
def tLensBroken : State := { tDawn with plat := { tDawn.plat with lock := 3 } }
/-- A manifest with one rule set. -/
def tManifest : Bytes := zeros 0x11 ++ [1] ++ zeros 200
/-- The PF holds the Lens lock and bank 1 is staged. -/
def tLensHeld : State :=
  { tDawn with plat := { tDawn.plat with lock := 1, manifest := some tManifest, bank1 := { State.resetBank .inactive with ruleset := 0 } } }
def tRule : LensRule := { master := false, port := 0, access := 7, first := 0, last := 255 }
/-- The staged bank's two rules collide. -/
def tLensClash : State :=
  { tDawn with plat := { tDawn.plat with lock := 1, bank1 := { State.resetBank .inactive with ruleset := 0, rules := [tRule, tRule] } } }
def tRecord : State := { tDawn with plat := { tDawn.plat with brecSeq := 1, records := [(1, zeros 8 ++ [1] ++ zeros 8)] } }
/-- A cipher command whose one item failed. -/
def tFailed : Cmd := tCmd 0x0401 [] [{ tItem .facet [] with state := .ended, fail := some stFault }]
/-- The same fetch, partition 0 having the whole of host memory as its window. -/
def tFetchW : State := { tFetch with parts := tWindow.parts }
/-- A well-formed entry of opcode `op`: eight zero bytes of payload, and 64 bytes for the reply. -/
def tSub (op seq handle : Nat) : Submission :=
  { header := toLe 4 0x55474C53 ++ toLe 2 1 ++ toLe 2 op ++ toLe 2 0 ++ toLe 2 0 ++ toLe 2 1 ++ toLe 2 0 ++ toLe 8 seq ++ toLe 4 handle ++ toLe 4 8 ++
      toLe 8 0x1000 ++ toLe 2 2 ++ zeros 22
    list := toLe 8 0x2000 ++ toLe 4 8 ++ toLe 4 0 ++ toLe 8 0x3000 ++ toLe 4 64 ++ toLe 2 1 ++ toLe 2 0
    payload := zeros 8
    readError := false }
/-- A stream command of group 0x04 with the STREAM value `k`, its first item ready for a facet of domain 6. -/
def tStream (k : Byte) : Cmd := tCmd 0x0401 (zeros 5 ++ [k] ++ zeros 26) [tItem .facet []]
def tChain : State := tFlight tDomain6 (tStream 0)
def tChainBad : State := tFlight tDomain6 (tStream 2)
/-- The save area of its session is older than the session. -/
def tLostSave : State :=
  setSess 0 { sessionReset with allocated := true, save := { saveReset with wrapped := some false, saveCount := 1 } }
    (tFlight tDomain6 { tStream 2 with handle := 0x400000, flow := .session 0 })
/-- An item that needs a whole engine has waited 2 µs, and every engine of domain 18 works on a lattice. -/
def tPkItem : Item := tItem .engine []
def tPkCmd : Cmd := tCmd 0x0311 [] [tPkItem]
def tBusyEngines : State :=
  { tFlight tDawn tPkCmd with
    clk := { tDawn.clk with ns := 2000 }
    domains := [(18, { domainReset with on := true, katPass := true })]
    engines := (List.range 4).map (fun n => (n, { engineReset with nttBusy := true })) }
/-- Partition 0 holds an on-die key under 0x40000000 of version 0, and a cached one under 0x80000000. -/
def tKeyed1 : State := setKey 0 0x40000000 { cur := some tVal, version := 0, failed := false, codes := [], pending := [] } tDawn
def tLoad1 : KeyLoad := tLoad
def tKeyedC : State := setKey 0 0x80000000 { cur := some tVal, version := 0, failed := false, codes := [], pending := [] } tDawn
/-- 1,024 samples of each of four sources that alternate, in pairs out of step; and of one source that is stuck. -/
def tAlternate (n : Nat) : List Bool := (List.range n).map (fun k => k % 2 == 0)
def tSamples : List (List Bool) := List.replicate 4 (tAlternate 1024)
def tStuck : List (List Bool) := List.replicate 50 true :: List.replicate 3 (tAlternate 50)
/-- The generator HEALTHY on four sources, one sample short of a seed. -/
def tSeeding : State := { tDraw with rng := { tDraw.rng with srcOk := 0xF, cond := List.replicate 1535 true } }
def tOneMore : List (List Bool) := List.replicate 4 [true]
/-- A platform record with flash on port 0, opcode 3 a read and opcode 5 of class 4; bank 0 gives every port to the BMC. -/
def tPcfg : Bytes := toLe 4 0x55475043 ++ zeros 60 ++ [1, 20, 8, 3, 8] ++ zeros 14 ++ [1, 0, 4] ++ zeros 1322
def tLens (allow : Bytes) : State :=
  { tOn with plat := { State.resetPlatform with pcfg := some tPcfg, used := some tPcfg, bank0 := { State.resetBank .active with portMap := 0x55, allowBmc := allow } } }
/-- Mains power in the life-cycle state Test. -/
def tTest : State :=
  { tOn with life := { tOn.life with otp := otpProgramBytes [] 0x400 (toLe 4 (lcWord .test) ++ toLe 4 (0xFFFFFFFF - lcWord .test) ++ zeros 4 ++ toLe 4 recDoneWord) } }

/-! ### The worked examples of the spec -/

/-- The header magic of 00_scope's worked example is stored little-endian (R2). -/
theorem test_magic_bytes : toLe 4 0x55474C53 = [0x53, 0x4C, 0x47, 0x55] := by decide

/-- 01_architecture: a module in Clear with everything on and nothing retired reads 0x0010_303B (R31). -/
theorem test_svc_status_in_clear :
    svcStatus { tReady with svc := { tReady.svc with phase := .clear, calFull := true } } = 0x0010303B := by
  decide +kernel

/-- 03_scheduler_sessions: session 0x00C0_2A45 is context 0x2A45 under tag 3 (R86). -/
theorem test_session_handle : handleIndex 0x00C02A45 = 0x2A45 ∧ handleTag 0x00C02A45 = 3 := by decide

/-- 03_scheduler_sessions: the dispatch of item A2 to facet 7 at 81.32 microseconds writes this trace record (R83). -/
theorem test_trace_record :
    (traceRec 1 (unitByte (some (.facet 7))) 5 3 (toLe 4 (flowField (.session 0x2A45) ⟨5, 0, 0⟩) ++ [2, 0, 0x84, 0])
      { State.reset with clk := { State.resetClock with ns := 81320 }, prism := { State.resetPrism with trcOn := true },
                              parts := [(0, { partReset with windows := [(0, { valid := true, base := 0, limit := 0xFF })] })] }).out.map
      (fun o => match o with | .trace _ b _ => b | _ => []) =
      [[0x30, 0x7D, 1, 0, 1, 0x47, 5, 3, 0x45, 0x2A, 0, 0, 2, 0, 0x84, 0]] := by decide +kernel

/-- The PIN_IN fields of 09_payment_commands' DUKPT example: the counter 0x13 passes R238. -/
theorem test_dukpt_counter :
    counterOk 1 [0x12, 0x34, 0x56, 0x78, 0x9A, 0xBC, 0xDE, 0xF0, 0, 0, 0, 0x13] = true ∧
    ksnCounter 1 [0x12, 0x34, 0x56, 0x78, 0x9A, 0xBC, 0xDE, 0xF0, 0, 0, 0, 0x13] = 0x13 := by decide +kernel

/-- The PAN of that example gives the format 4 PAN field 45 50 00 ... (R234). -/
theorem test_format4_pan_field :
    panField 4 ([16, 0x35, 0x35] ++ List.replicate 13 0x30 ++ [0x34, 0, 0, 0]) =
      [0x45, 0x50, 0, 0, 0, 0, 0, 0, 0x40, 0, 0, 0, 0, 0, 0, 0] := by decide +kernel

/-- The PIN field 44 12 34 AA ... decodes to 1 2 3 4, and the reply's block is filled from the draw stream (R235, R237). -/
theorem test_format4_pin_field :
    pinDecode 4 ([0x44, 0x12, 0x34, 0xAA, 0xAA, 0xAA, 0xAA, 0xAA] ++ zeros 8) = some [1, 2, 3, 4] := by decide +kernel

/-- 09_payment_commands' offset example: the format 0 fields of PAN 4000 1234 5678 9010 and of the PIN 1234 (R234, R235). -/
theorem test_format0_fields :
    panField 0 ([16, 0x34, 0x30, 0x30, 0x30, 0x31, 0x32, 0x33, 0x34, 0x35, 0x36, 0x37, 0x38, 0x39, 0x30, 0x31, 0x30, 0, 0, 0]) =
      [0, 0, 1, 0x23, 0x45, 0x67, 0x89, 1] ∧
    bxor [0x04, 0x12, 0x35, 0xDC, 0xBA, 0x98, 0x76, 0xFE] [0, 0, 1, 0x23, 0x45, 0x67, 0x89, 1] =
      [0x04, 0x12, 0x34, 0xFF, 0xFF, 0xFF, 0xFF, 0xFF] ∧
    pinDecode 0 [0x04, 0x12, 0x34, 0xFF, 0xFF, 0xFF, 0xFF, 0xFF] = some [1, 2, 3, 4] ∧
    pinDecode 0 [0x04, 0x12, 0x34, 0xFE, 0xFF, 0xFF, 0xFF, 0xFF] = none := by decide +kernel

/-- 13_management_bus: port 0 with two lost arbitrations and three PEC errors, retired, reads 0x0003_0202 (R355). -/
theorem test_bus_port_word :
    busPortWord (modBus 0 (fun p => { p with retired := true, arbLost := 2, pecErr := 3 }) tDawn) 0 = 0x00030202 := by decide +kernel

/-- 14_life_cycle_debug: the INTENT word of Returned and its complement (R362, R363). -/
theorem test_returned_words : lcWord .returned = 0xA5C3A504 ∧ 0xFFFFFFFF - lcWord .returned = 0x5A3C5AFB := by decide

/-- 15_tamper_always_on: a facet's voltage envelope at half load is 0.7135 V to 0.768 V (R393); bounds in units of 10 microvolts. -/
theorem test_envelope :
    envelope { tDawn with hzn := { tDawn.hzn with
                 calLight := some { load := 50, temp := 200, bounds := [(16, 74200, 75800)], crcOk := true }
                 calFull := some { load := 950, temp := 200, bounds := [(16, 71500, 74800)], crcOk := true } } } 16 500 =
      some (16, 71350, 76800) := by decide +kernel

/-! ### Witnesses -/

theorem witness_SupplyAndClockEventsTakeEffect :
    (∃ (s : State) (a b : Nat), (s.clk.powered = false) ∧ (10500 < a ∨ 10500 < b)) ∧
    (∃ (s : State), (s.clk.powered = true) ∧ (s.clk.feedA < 10000) ∧ (s.clk.feedB < 10000)) ∧
    (∃ (s : State), (starting s = true) ∧ (s.clk.pllEnabled = true) ∧ (s.clk.pllLocked = false)) ∧
    (∃ (s : State), (starting s = true) ∧ (s.clk.pllEnabled = true) ∧ (s.clk.pllLocked = false) ∧ (s.clk.porNs + 2000000 ≤ s.clk.ns)) ∧
    (∃ (s : State), (starting s = true) ∧ (s.clk.pllLocked = true) ∧ (s.clk.islandClock = false) ∧ (s.clk.pllLockNs + 100000 ≤ s.clk.ns)) ∧
    (∃ (s : State) (count : Nat) (lost : Bool), (s.clk.powered = true) ∧ (s.clk.pllLocked = true) ∧ (lost = true ∨ 108 * 1024 < 100 * count ∨ 100 * count < 92 * 1024)) ∧
    (∃ (s : State) (count : Nat), (100 * count ≤ 108 * 1024) ∧ (92 * 1024 ≤ 100 * count)) ∧
    (∃ (feedA : Nat) (feedB : Nat) (s : State), ((!s.clk.powered && (decide (10500 < feedA) || decide (10500 < feedB))) = false)) ∧
    (∃ (s : State), ((s.clk.powered && decide (s.clk.feedA < 10000) && decide (s.clk.feedB < 10000)) = false)) ∧
    (∃ (s : State), ((starting s && s.clk.pllEnabled && !s.clk.pllLocked) = false)) ∧
    (∃ (s : State), ((starting s && s.clk.pllEnabled && !s.clk.pllLocked && decide (s.clk.porNs + 2000000 ≤ s.clk.ns)) = false)) ∧
    (∃ (s : State), ((starting s && s.clk.pllLocked && !s.clk.islandClock && decide (s.clk.pllLockNs + 100000 ≤ s.clk.ns)) = false)) :=
  ⟨⟨State.reset, 12000, 0, by decide, by decide⟩,
   ⟨{ tOn with clk := { tOn.clk with feedA := 0 } }, by decide, by decide, by decide⟩,
   ⟨tOn, by decide, by decide, by decide⟩,
   ⟨{ tOn with clk := { tOn.clk with ns := 3000000 } }, by decide, by decide, by decide, by decide⟩,
   ⟨{ tOn with clk := { tOn.clk with pllLocked := true, ns := 200000 } }, by decide, by decide, by decide, by decide⟩,
   ⟨{ tOn with clk := { tOn.clk with pllLocked := true } }, 1106, false, by decide, by decide, by decide⟩,
   ⟨State.reset, 1105, by decide, by decide⟩,
   ⟨0, 0, State.reset, by decide⟩,
   ⟨State.reset, by decide⟩,
   ⟨State.reset, by decide⟩,
   ⟨State.reset, by decide⟩,
   ⟨State.reset, by decide⟩⟩

theorem witness_StartEventsRunTheRom :
    (∃ (s : State) (i : Nat), (openRecord s = some i) ∧ (recIntent s i = none) ∧ (romActs s = true) ∧ (s.hzn.latch = false)) ∧
    (∃ (s : State) (i : Nat) (l : LifeCycle), (openRecord s = some i) ∧ (recIntent s i = some l) ∧ (romActs s = true) ∧ (s.hzn.latch = false)) ∧
    (∃ (s : State), (openRecord s = none ∨ romActs s = false ∨ s.hzn.latch = true)) ∧
    (∃ (s : State), (romActs s = true) ∧ (s.hzn.latch = true) ∧ (openIntent s = none)) ∧
    (∃ (s : State) (i : Nat) (l : LifeCycle), (romActs s = true) ∧ (s.hzn.latch = true) ∧ (openIntent s = some (i, l))) ∧
    (∃ (s : State), (romActs s = false ∨ s.hzn.latch = false)) ∧
    (∃ (s : State) (ra rb : Bool), (starting s = true) ∧ (s.clk.islandClock = true) ∧ (s.svc.romStarted = false) ∧ (openRecord s = none) ∧ (s.hzn.latch = false) ∧ (lifeCycle s ≠ .scrap)) ∧
    (∃ (s : State) (ra rb : Bool), (starting s = false ∨ s.clk.islandClock = false ∨ s.svc.romStarted = true ∨ openRecord s ≠ none ∨ s.hzn.latch = true ∨ lifeCycle s = .scrap)) ∧
    (∃ (s : State) (bad : BadRecords), (s.svc.phase = .dawn) ∧ (s.svc.dawnDone = false) ∧ (islandStalls s = false)) ∧
    (∃ (s : State) (bad : BadRecords), (s.svc.phase ≠ .dawn ∨ s.svc.dawnDone = true ∨ islandStalls s = true)) ∧
    (∃ (s : State), (s.svc.phase = .dawn) ∧ (s.svc.dawnDone = true) ∧ (s.svc.rank0 = false)) ∧
    (∃ (s : State), (s.svc.phase = .dawn) ∧ (s.svc.dawnDone = true) ∧ (s.svc.rank0 = false)) ∧
    (∃ (s : State) (b : Bool), (s.svc.phase ≠ .dawn ∨ s.svc.dawnDone = false ∨ s.svc.rank0 = true)) ∧
    (∃ (s : State), (s.svc.phase = .dawn) ∧ (s.svc.rank0 = true) ∧ (s.fw.load = 0) ∧ (s.fw.stage ≠ [])) ∧
    (∃ (s : State), (s.svc.phase = .dawn) ∧ (s.fw.load = 2) ∧ ((getDomain s 2).on = true) ∧ ((getDomain s 2).testing = true)) ∧
    (∃ (s : State) (l : List Nat), (s.svc.phase = .dawn) ∧ (s.fw.load = 2) ∧ ((getDomain s 2).on = true) ∧ ((getDomain s 2).testing = true) ∧ (l ≠ [])) ∧
    (∃ (s : State), (s.svc.phase ≠ .dawn ∨ s.svc.rank0 = false ∨ s.fw.load ≠ 0 ∨ s.fw.stage = [])) ∧
    (∃ (d : Fin 32) (failed : List Nat) (s : State), ((((getDomain s d.val).on && (getDomain s d.val).testing) || (!(getDomain s d.val).on && domainWants s d.val true)) = false)) :=
  ⟨⟨tBadIntent, 2, by decide, by decide, by decide, by decide⟩,
   ⟨tIntent, 2, .deployed, by decide, by decide, by decide, by decide⟩,
   ⟨State.reset, by decide⟩,
   ⟨{ tRom with hzn := { tRom.hzn with latch := true } }, by decide, by decide, by decide⟩,
   ⟨{ tIntent with hzn := { tIntent.hzn with latch := true } }, 2, .deployed, by decide, by decide, by decide⟩,
   ⟨State.reset, by decide⟩,
   ⟨tRom, true, true, by decide, by decide, by decide, by decide, by decide, by decide⟩,
   ⟨State.reset, true, true, by decide⟩,
   ⟨tDawn, [], by decide, by decide, by decide⟩,
   ⟨State.reset, [], by decide⟩,
   ⟨{ tDawn with svc := { tDawn.svc with dawnDone := true } }, by decide, by decide, by decide⟩,
   ⟨{ tDawn with svc := { tDawn.svc with dawnDone := true } }, by decide, by decide, by decide⟩,
   ⟨State.reset, true, by decide⟩,
   ⟨{ tDawn with svc := { tDawn.svc with rank0 := true }, fw := { tDawn.fw with stage := [0] } }, by decide, by decide, by decide, by decide⟩,
   ⟨{ tDawn with fw := { tDawn.fw with stage := [0], load := 2 }, domains := [(2, { domainReset with testing := true })] }, by decide, by decide, by decide, by decide⟩,
   ⟨{ tDawn with fw := { tDawn.fw with stage := [0], load := 2 }, domains := [(2, { domainReset with testing := true })] }, [0], by decide, by decide, by decide, by decide, by decide⟩,
   ⟨State.reset, by decide⟩,
   ⟨0, [], State.reset, by decide⟩⟩

theorem witness_PhaseEventsReachOvercastAndClear :
    (∃ (s : State), (s.svc.phase = .dawn) ∧ (s.fw.load = 3) ∧ (releaseWritten s = true)) ∧
    (∃ (s : State), (s.svc.phase = .dawn) ∧ (s.fw.load = 3) ∧ (releaseWritten s = true) ∧ (s.svc.releaseNs + 500000000 ≤ s.clk.ns)) ∧
    (∃ (s : State), (s.svc.phase = .overcast)) ∧
    (∃ (s : State), (s.svc.phase = .overcast) ∧ (s.svc.memTrained = true) ∧ (s.svc.calLoaded = true) ∧ (katDone s = true)) ∧
    (∃ (s : State), ((s.svc.phase == .dawn && s.fw.load == 3 && releaseWritten s) = false)) ∧
    (∃ (s : State), ((s.svc.phase == .dawn && s.fw.load == 3 && releaseWritten s && decide (s.svc.releaseNs + 500000000 ≤ s.clk.ns)) = false)) ∧
    (∃ (s : State), ((s.svc.phase == .overcast) = false)) ∧
    (∃ (s : State), ((s.svc.phase == .overcast && s.svc.memTrained && s.svc.calLoaded && katDone s) = false)) :=
  ⟨⟨{ tDawn with fw := { tDawn.fw with load := 3 } }, by decide, by decide, by decide⟩,
   ⟨{ tDawn with fw := { tDawn.fw with load := 3 }, clk := { tDawn.clk with ns := 500000000 } }, by decide, by decide, by decide, by decide⟩,
   ⟨{ tDawn with svc := { tDawn.svc with phase := .overcast } }, by decide⟩,
   ⟨tReady, by decide, by decide, by decide, by decide⟩,
   ⟨State.reset, by decide⟩,
   ⟨State.reset, by decide⟩,
   ⟨State.reset, by decide⟩,
   ⟨State.reset, by decide⟩⟩

theorem witness_ResetEventsTakeEffect :
    (∃ (s : State) (w : WarmCause), (s.clk.powered = true) ∧ (w ≠ .other ∨ warmDue s = true)) ∧
    (∃ (s : State), (s.svc.perst = false)) ∧
    (∃ (s : State), (s.svc.perst = true)) ∧
    (∃ (s : State) (f : Fin 256), (s.svc.linkUp = true)) ∧
    (∃ (s : State), (s.svc.linkUp = true)) ∧
    (∃ (cause : WarmCause) (s : State), ((s.clk.powered && (cause != .other || warmDue s)) = false)) ∧
    (∃ (s : State), ((!s.svc.perst) = false)) ∧
    (∃ (s : State), ((s.svc.perst) = false)) ∧
    (∃ (f : Fin 256) (s : State), ((s.svc.linkUp) = false)) ∧
    (∃ (s : State), ((s.svc.linkUp) = false)) :=
  ⟨⟨tOn, .lockstep, by decide, by decide⟩,
   ⟨State.reset, by decide⟩,
   ⟨{ State.reset with svc := { State.resetService with perst := true } }, by decide⟩,
   ⟨{ State.reset with svc := { State.resetService with linkUp := true } }, 5, by decide⟩,
   ⟨{ State.reset with svc := { State.resetService with linkUp := true } }, by decide⟩,
   ⟨.other, State.reset, by decide⟩,
   ⟨{ State.reset with svc := { State.resetService with perst := true } }, by decide⟩,
   ⟨State.reset, by decide⟩,
   ⟨0, State.reset, by decide⟩,
   ⟨State.reset, by decide⟩⟩

theorem witness_RegisterReadsAnswerTheirWord :
    (∃ (s : State) (f : Fin 256) (off : Nat), (s.svc.linkUp = true) ∧ (off < 65536) ∧ (off % 4 = 0) ∧ (wideReg f.val off = true)) ∧
    (∃ (s : State) (f : Fin 256) (off : Nat), (s.svc.linkUp = true) ∧ (off < 65536) ∧ (off % 4 = 0) ∧ (wideReg f.val off = false)) ∧
    (∃ (s : State) (f : Fin 256) (off : Nat), (s.svc.linkUp = true) ∧ (off < 65536) ∧ (off % 8 = 0)) ∧
    (∃ (s : State) (f : Fin 256) (off size : Nat), (s.svc.linkUp = true) ∧ (off < 65536) ∧ ((size ≠ 4 ∨ off % 4 ≠ 0) ∧ (size ≠ 8 ∨ off % 8 ≠ 0))) ∧
    (∃ (s : State) (f : Fin 256) (off size : Nat), (s.svc.linkUp = true) ∧ (off < 262144)) ∧
    (∃ (s : State) (f : Fin 256) (off : Nat), (s.svc.linkUp = true) ∧ (off < 16384) ∧ (off % 4 = 0)) ∧
    (∃ (s : State) (f : Fin 256) (bar off size : Nat), (s.svc.linkUp = true) ∧ (barSize bar ≤ off)) ∧
    (∃ (s : State) (f : Fin 256) (bar off size : Nat), (s.svc.linkUp = false)) :=
  ⟨⟨tLink, 0, 0x2000, by decide, by decide, by decide, by decide⟩,
   ⟨{ tLink with fns := [(0, { State.shippedPf with latch := [(0x2004, 7)] })] }, 0, 0x2004, by decide, by decide, by decide, by decide⟩,
   ⟨tLink, 0, 0x2E10, by decide, by decide, by decide⟩,
   ⟨tLink, 0, 2, 4, by decide, by decide, by decide⟩,
   ⟨tLink, 0, 4096, 4, by decide, by decide⟩,
   ⟨tLink, 0, 12, by decide, by decide, by decide⟩,
   ⟨tLink, 0, 0, 65536, 4, by decide, by decide⟩,
   ⟨State.reset, 0, 0, 0, 4, by decide⟩⟩

theorem witness_RegisterWritesTakeEffect :
    (∃ (s : State) (f : Fin 256) (bar off size : Nat) (v : BitVec 64), (s.svc.linkUp = true) ∧ (off < barSize bar)) ∧
    (∃ (s : State) (f : Fin 256) (off size : Nat) (v : BitVec 64), (s.svc.linkUp = true) ∧ (off < 65536)) ∧
    (∃ (s : State) (f : Fin 256) (bar off size : Nat) (v : BitVec 64), (s.svc.linkUp = false)) ∧
    (∃ (s : State) (f : Fin 256) (v : BitVec 64), (s.svc.linkUp = true)) ∧
    (∃ (s : State) (f : Fin 256) (v : BitVec 64), (s.svc.linkUp = true)) ∧
    (∃ (s : State) (f : Fin 256) (bar off size : Nat) (v : BitVec 64), (s.svc.linkUp = true) ∧ (barSize bar ≤ off)) ∧
    (∃ (s : State) (f : Fin 256) (v : BitVec 32), (s.svc.linkUp = true)) ∧
    (∃ (s : State) (v : BitVec 32), (s.svc.linkUp = true)) ∧
    (∃ (s : State) (f : Fin 256) (v : BitVec 32) (p : Nat), (s.svc.linkUp = true) ∧ (fnPart s f.val = some p)) ∧
    (∃ (s : State) (f : Fin 256) (v : BitVec 32), (s.svc.linkUp = true) ∧ (fnPart s f.val = none)) ∧
    (∃ (s : State) (v : BitVec 32), (s.svc.linkUp = true) ∧ (s.prism.trcOn = false) ∧ (bit v.toNat 0 = true) ∧ (12 ≤ bits v.toNat 5 1) ∧ (bits v.toNat 5 1 ≤ 24)) ∧
    (∃ (s : State) (v : BitVec 32), (s.svc.linkUp = true) ∧ (bit v.toNat 0 = false)) ∧
    (∃ (s : State) (v : BitVec 32), (s.svc.linkUp = true) ∧ (bit v.toNat 0 = true) ∧ (s.prism.trcOn = true)) ∧
    (∃ (s : State) (v : BitVec 32), (s.svc.linkUp = true) ∧ (s.prism.trcOn = false) ∧ (bits v.toNat 5 1 < 12 ∨ 24 < bits v.toNat 5 1)) ∧
    (∃ (s : State) (v : BitVec 32), (s.svc.linkUp = true)) ∧
    (∃ (s : State) (v : BitVec 64) (limit : Bool), (s.svc.linkUp = true) ∧ ((partRings s s.pm.selPart.toNat).any (fun g => (getRing s g).enable) = true)) ∧
    (∃ (s : State) (v : BitVec 64), (s.svc.linkUp = true) ∧ ((partRings s s.pm.selPart.toNat).any (fun g => (getRing s g).enable) = false)) ∧
    (∃ (s : State) (limit : Bool) (off size : Nat) (v : BitVec 64), (s.svc.linkUp = true) ∧ (off < 8)) ∧
    (∃ (s : State) (f : Fin 256) (off : Nat) (v : BitVec 64), (s.svc.linkUp = true) ∧ (off < 1040) ∧ (off % 4 = 0) ∧ (off % 16 ≠ 12)) ∧
    (∃ (s : State) (f : Fin 256) (off size : Nat) (v : BitVec 64), (s.svc.linkUp = true) ∧ (16384 ≤ off)) ∧
    (∃ (s : State) (f : Fin 256) (k : Nat) (v : BitVec 64), (s.svc.linkUp = true) ∧ (k < 65)) ∧
    (∃ (s : State) (f : Fin 256) (off size : Nat) (v : BitVec 64), (s.svc.linkUp = true) ∧ (off < 16384)) ∧
    (∃ (s : State) (f : Fin 256) (off size : Nat) (v : BitVec 64), (s.svc.linkUp = false)) ∧
    (∃ (f : Fin 256) (v : BitVec 32) (s : State), ((s.svc.linkUp) = false)) ∧
    (∃ (v : BitVec 32) (s : State), ((s.svc.linkUp) = false)) ∧
    (∃ (f : Fin 256) (v : BitVec 32) (s : State), ((s.svc.linkUp) = false)) ∧
    (∃ (v : BitVec 32) (s : State), ((s.svc.linkUp) = false)) ∧
    (∃ (v : BitVec 32) (s : State), ((s.svc.linkUp) = false)) ∧
    (∃ (limit : Bool) (off : Nat) (size : Nat) (v : BitVec 64) (s : State), ((s.svc.linkUp && decide (off < 8)) = false)) :=
  ⟨⟨tLink, 3, 2, 4096, 4, 1, by decide, by decide⟩,
   ⟨tLink, 3, 0x20, 8, 1, by decide, by decide⟩,
   ⟨State.reset, 3, 0, 0x20, 4, 1, by decide⟩,
   ⟨tLink, 3, 1, by decide⟩,
   ⟨tLink, 3, 1, by decide⟩,
   ⟨tLink, 3, 0, 65536, 4, 1, by decide, by decide⟩,
   ⟨tLink, 3, 1, by decide⟩,
   ⟨tLink, 1, by decide⟩,
   ⟨tLink, 0, 5, 0, by decide, by decide⟩,
   ⟨tLink, 5, 5, by decide, by decide⟩,
   ⟨tLink, 0x21, by decide, by decide, by decide, by decide, by decide⟩,
   ⟨tLink, 0, by decide, by decide⟩,
   ⟨{ tLink with prism := { State.resetPrism with trcOn := true } }, 0x21, by decide, by decide, by decide⟩,
   ⟨tLink, 1, by decide, by decide, by decide⟩,
   ⟨tLink, 5, by decide⟩,
   ⟨{ tLink with rings := [(2, { ringReset with enable := true })] }, 5, true, by decide, by decide⟩,
   ⟨tLink, 5, by decide, by decide⟩,
   ⟨tLink, true, 4, 4, 5, by decide, by decide⟩,
   ⟨tLink, 3, 1032, 9, by decide, by decide, by decide, by decide⟩,
   ⟨tLink, 3, 16384, 4, 9, by decide, by decide⟩,
   ⟨tLink, 3, 1, 0, by decide, by decide⟩,
   ⟨tLink, 3, 0x2000, 4, 9, by decide, by decide⟩,
   ⟨State.reset, 3, 0, 4, 9, by decide⟩,
   ⟨0, 0, State.reset, by decide⟩,
   ⟨0, State.reset, by decide⟩,
   ⟨0, 0, State.reset, by decide⟩,
   ⟨0, State.reset, by decide⟩,
   ⟨0, State.reset, by decide⟩,
   ⟨true, 0, 0, 0, State.reset, by decide⟩⟩

theorem witness_DoorbellsMoveTheRingIndices :
    (∃ (s : State) (f : Fin 256) (n : Fin 64) (v : BitVec 32), (s.svc.linkUp = true) ∧ ((getFn s f.val).mapped = true) ∧ (n.val < (getFn s f.val).ringCount) ∧ ((getRing s ((getFn s f.val).ringBase + n.val)).enable = true) ∧ (v.toNat % 65536 < ringSize (getRing s ((getFn s f.val).ringBase + n.val)))) ∧
    (∃ (s : State) (f : Fin 256) (n : Fin 64) (v : BitVec 32), (s.svc.linkUp = true) ∧ ((getFn s f.val).mapped = true) ∧ (n.val < (getFn s f.val).ringCount) ∧ ((getRing s ((getFn s f.val).ringBase + n.val)).enable = true) ∧ (v.toNat % 65536 < ringSize (getRing s ((getFn s f.val).ringBase + n.val)))) ∧
    (∃ (s : State) (f : Fin 256) (n : Fin 64) (size : Nat) (v : BitVec 32), (s.svc.linkUp = true) ∧ ((getFn s f.val).mapped = true) ∧ (n.val < (getFn s f.val).ringCount) ∧ (size ≠ 4 ∨ (getRing s ((getFn s f.val).ringBase + n.val)).enable = false ∨ ringSize (getRing s ((getFn s f.val).ringBase + n.val)) ≤ v.toNat % 65536)) ∧
    (∃ (s : State) (f : Fin 256) (n : Fin 64) (size : Nat) (v : BitVec 32), (s.svc.linkUp = true) ∧ ((getFn s f.val).mapped = false ∨ (getFn s f.val).ringCount ≤ n.val)) ∧
    (∃ (f : Fin 256) (n : Fin 64) (size : Nat) (v : BitVec 32) (s : State), ((s.svc.linkUp) = false)) ∧
    (∃ (f : Fin 256) (n : Fin 64) (size : Nat) (v : BitVec 32) (s : State), ((s.svc.linkUp) = false)) :=
  ⟨⟨tRing, 0, 1, 5, by decide, by decide, by decide, by decide, by decide⟩,
   ⟨tRing, 0, 1, 0, by decide, by decide, by decide, by decide, by decide⟩,
   ⟨tRing, 0, 1, 4, 64, by decide, by decide, by decide, by decide⟩,
   ⟨tRing, 0, 4, 4, 1, by decide, by decide⟩,
   ⟨0, 0, 0, 0, State.reset, by decide⟩,
   ⟨0, 0, 0, 0, State.reset, by decide⟩⟩

theorem witness_RingControlStartsAndStopsRings :
    (∃ (s : State) (f : Fin 256) (n : Fin 64) (v : BitVec 32) (g : Nat), (s.svc.linkUp = true) ∧ ((getFn s f.val).mapped = true) ∧ (n.val < (getFn s f.val).ringCount) ∧ (g = (getFn s f.val).ringBase + n.val) ∧ ((getRing s g).enable = false) ∧ (6 ≤ bits (v ||| 1).toNat 5 1 ∧ bits (v ||| 1).toNat 5 1 ≤ 16) ∧ (1 ≤ bits (v ||| 1).toNat 15 8 ∧ bits (v ||| 1).toNat 15 8 ≤ 64) ∧ ((getPart s (getFn s f.val).partition).state ≠ .disabled) ∧ (ringFits s (getFn s f.val).partition { getRing s g with logSize := BitVec.ofNat 5 (bits (v ||| 1).toNat 5 1) } = true)) ∧
    (∃ (s : State) (f : Fin 256) (n : Fin 64) (v : BitVec 32) (g : Nat), (s.svc.linkUp = true) ∧ ((getFn s f.val).mapped = true) ∧ (n.val < (getFn s f.val).ringCount) ∧ (g = (getFn s f.val).ringBase + n.val) ∧ ((getRing s g).enable = true)) ∧
    (∃ (s : State) (f : Fin 256) (n : Fin 64) (v : BitVec 32) (g : Nat), (s.svc.linkUp = true) ∧ ((getFn s f.val).mapped = true) ∧ (n.val < (getFn s f.val).ringCount) ∧ (g = (getFn s f.val).ringBase + n.val) ∧ ((getRing s g).enable = false) ∧ (bits (v ||| 1).toNat 5 1 < 6 ∨ 16 < bits (v ||| 1).toNat 5 1 ∨ bits (v ||| 1).toNat 15 8 = 0 ∨ 64 < bits (v ||| 1).toNat 15 8 ∨ (getPart s (getFn s f.val).partition).state = .disabled)) ∧
    (∃ (s : State) (f : Fin 256) (n : Fin 64) (v : BitVec 32) (g : Nat), (s.svc.linkUp = true) ∧ ((getFn s f.val).mapped = true) ∧ (n.val < (getFn s f.val).ringCount) ∧ (g = (getFn s f.val).ringBase + n.val) ∧ ((getRing s g).enable = false) ∧ (6 ≤ bits (v ||| 1).toNat 5 1 ∧ bits (v ||| 1).toNat 5 1 ≤ 16) ∧ (1 ≤ bits (v ||| 1).toNat 15 8 ∧ bits (v ||| 1).toNat 15 8 ≤ 64) ∧ ((getPart s (getFn s f.val).partition).state ≠ .disabled) ∧ (ringFits s (getFn s f.val).partition { getRing s g with logSize := BitVec.ofNat 5 (bits (v ||| 1).toNat 5 1) } = false)) ∧
    (∃ (s : State) (f : Fin 256) (n : Fin 64) (v : BitVec 32), (s.svc.linkUp = true) ∧ ((getFn s f.val).mapped = false ∨ (getFn s f.val).ringCount ≤ n.val)) ∧
    (∃ (s : State) (f : Fin 256) (n : Fin 64) (v : BitVec 32) (g : Nat), (s.svc.linkUp = true) ∧ ((getFn s f.val).mapped = true) ∧ (n.val < (getFn s f.val).ringCount) ∧ (g = (getFn s f.val).ringBase + n.val)) ∧
    (∃ (s : State) (f : Fin 256) (n : Fin 64) (v : BitVec 32) (g : Nat), (s.svc.linkUp = true) ∧ ((getFn s f.val).mapped = true) ∧ (n.val < (getFn s f.val).ringCount) ∧ (g = (getFn s f.val).ringBase + n.val) ∧ (s.ilu.mirror = .none)) ∧
    (∃ (f : Fin 256) (n : Fin 64) (v : BitVec 32) (s : State), ((s.svc.linkUp) = false)) ∧
    (∃ (f : Fin 256) (n : Fin 64) (v : BitVec 32) (s : State), ((s.svc.linkUp) = false)) :=
  ⟨⟨tWindow, 0, 1, 0x10C, 1, by decide, by decide, by decide, by decide, by decide, by decide, by decide, by decide, by decide⟩,
   ⟨tRing, 0, 1, 0x10C, 1, by decide, by decide, by decide, by decide, by decide⟩,
   ⟨tLink, 0, 1, 0, 1, by decide, by decide, by decide, by decide, by decide, by decide⟩,
   ⟨tLink, 0, 1, 0x10C, 1, by decide, by decide, by decide, by decide, by decide, by decide, by decide, by decide, by decide⟩,
   ⟨tLink, 0, 4, 0x10C, by decide, by decide⟩,
   ⟨tLink, 0, 1, 0x10C, 1, by decide, by decide, by decide, by decide⟩,
   ⟨tRing, 0, 1, 0x10C, 1, by decide, by decide, by decide, by decide, by decide⟩,
   ⟨0, 0, 0, State.reset, by decide⟩,
   ⟨0, 0, 0, State.reset, by decide⟩⟩

theorem witness_FetchedEntriesAreTakenAndJudged :
    (∃ (s : State) (f : Fin 256) (n : Fin 64) (x : Submission), (mayFetch s f.val n.val = true)) ∧
    (∃ (s : State) (f : Fin 256) (n : Fin 64) (x : Submission), (mayFetch s f.val n.val = true) ∧ (headerOk (entryReq s f.val n.val x) = false)) ∧
    (∃ (s : State) (f : Fin 256) (n : Fin 64) (x : Submission) (k : Nat), (mayFetch s f.val n.val = true) ∧ (headerOk (entryReq s f.val n.val x) = true) ∧ (sourceCause (taken s f.val n.val) (entryReq s f.val n.val x) (entryDescs x) = some k)) ∧
    (∃ (s : State) (f : Fin 256) (n : Fin 64) (x : Submission), (mayFetch s f.val n.val = true) ∧ (headerOk (entryReq s f.val n.val x) = true) ∧ (sourceCause (taken s f.val n.val) (entryReq s f.val n.val x) (entryDescs x) = none) ∧ ((entryReq s f.val n.val x).genField ≠ (getRing s (fetchRing s f.val n.val)).gen.toNat % 65536)) ∧
    (∃ (s : State) (f : Fin 256) (n : Fin 64) (x : Submission), (pastSource s f.val n.val x) ∧ (opSpec (entryReq s f.val n.val x).opcode = none)) ∧
    (∃ (s : State) (f : Fin 256) (n : Fin 64) (x : Submission) (o : OpSpec), (pastSource s f.val n.val x) ∧ (opSpec (entryReq s f.val n.val x).opcode = some o) ∧ (formOk (entryReq s f.val n.val x) (entryDescs x) = false)) ∧
    (∃ (s : State) (f : Fin 256) (n : Fin 64) (x : Submission) (o : OpSpec), (pastSource s f.val n.val x) ∧ (opSpec (entryReq s f.val n.val x).opcode = some o) ∧ (formOk (entryReq s f.val n.val x) (entryDescs x) = true) ∧ (phaseServes (taken s f.val n.val) o (entryReq s f.val n.val x).opcode = false)) ∧
    (∃ (s : State) (f : Fin 256) (n : Fin 64) (x : Submission) (o : OpSpec), (pastForm s f.val n.val x o) ∧ (standbyRing (taken s f.val n.val) (entryReq s f.val n.val x) = true)) ∧
    (∃ (s : State) (f : Fin 256) (n : Fin 64) (x : Submission) (o : OpSpec), (pastForm s f.val n.val x o) ∧ (standbyRing (taken s f.val n.val) (entryReq s f.val n.val x) = false) ∧ ((entryReq s f.val n.val x).seq.toNat ≤ (getRing s (fetchRing s f.val n.val)).lastSeq.toNat)) ∧
    (∃ (s : State) (f : Fin 256) (n : Fin 64) (x : Submission) (o : OpSpec), (pastForm s f.val n.val x o) ∧ (standbyRing (taken s f.val n.val) (entryReq s f.val n.val x) = false) ∧ ((getRing s (fetchRing s f.val n.val)).lastSeq.toNat < (entryReq s f.val n.val x).seq.toNat) ∧ (lengthOk (taken s f.val n.val) o (entryReq s f.val n.val x) = false)) ∧
    (∃ (s : State) (f : Fin 256) (n : Fin 64) (x : Submission) (o : OpSpec) (st : Status), (pastLength s f.val n.val x o) ∧ (check8 (taken s f.val n.val) o (entryReq s f.val n.val x) = some st)) ∧
    (∃ (s : State) (f : Fin 256) (n : Fin 64) (x : Submission) (o : OpSpec) (st : Status), (pastLength s f.val n.val x o) ∧ (check8 (taken s f.val n.val) o (entryReq s f.val n.val x) = none) ∧ (check9 (taken s f.val n.val) o (entryReq s f.val n.val x) = some st) ∧ (st ≠ stQueueFull)) ∧
    (∃ (s : State) (f : Fin 256) (n : Fin 64) (x : Submission) (o : OpSpec), (pastLength s f.val n.val x o) ∧ (check8 (taken s f.val n.val) o (entryReq s f.val n.val x) = none) ∧ (check9 (taken s f.val n.val) o (entryReq s f.val n.val x) = some stQueueFull)) ∧
    (∃ (s : State) (f : Fin 256) (n : Fin 64) (x : Submission) (o : OpSpec), (pastLength s f.val n.val x o) ∧ (check8 (taken s f.val n.val) o (entryReq s f.val n.val x) = none) ∧ (check9 (taken s f.val n.val) o (entryReq s f.val n.val x) = none)) ∧
    (∃ (s : State) (f : Fin 256) (n : Fin 64) (x : Submission), (mayFetch s f.val n.val = false)) :=
  ⟨⟨tFetch, 0, 1, tBadEntry, by decide⟩,
   ⟨tFetch, 0, 1, tBadEntry, by decide, by decide⟩,
   ⟨tFetch, 0, 1, { tBadEntry with header := tHeader 5 1 0 }, 1, by decide, by decide, by decide⟩,
   ⟨tFetch, 0, 1, { tBadEntry with header := tHeader 0 1 7 }, by decide, by decide, by decide, by decide⟩,
   ⟨tFetchW, 0, 1, tSub 0xFFFF 1 0, by decide, by decide⟩,
   ⟨tFetchW, 0, 1, { tSub 0x0101 1 0 with list := toLe 8 0x2000 ++ toLe 4 0 ++ zeros 20 }, specDeviceStatus, by decide, by rfl, by decide⟩,
   ⟨tFetchW, 0, 1, tSub 0x0301 1 0, specKeyGenerate, by decide, by rfl, by decide, by decide⟩,
   ⟨{ tFetchW with ilu := { State.resetIluon with mirror := .standby } }, 0, 1, tSub 0x0101 1 0, specDeviceStatus, ⟨by decide, by rfl, by decide, by decide⟩, by decide⟩,
   ⟨tFetchW, 0, 1, tSub 0x0101 0 0, specDeviceStatus, ⟨by decide, by rfl, by decide, by decide⟩, by decide, by decide⟩,
   ⟨tFetchW, 0, 1, { tSub 0x0101 1 0 with readError := true }, specDeviceStatus, ⟨by decide, by rfl, by decide, by decide⟩, by decide, by decide, by decide⟩,
   ⟨tFetchW, 0, 1, tSub 0x0101 1 1, specDeviceStatus, stSessionLost, ⟨⟨by decide, by rfl, by decide, by decide⟩, by decide, by decide, by decide⟩, by decide⟩,
   ⟨{ tFetchW with svc := { tFetchW.svc with capped := true } }, 0, 1, tSub 0x0101 1 0, specDeviceStatus, stCapped, ⟨⟨by decide, by rfl, by decide, by decide⟩, by decide, by decide, by decide⟩, by decide, by decide, by decide⟩,
   ⟨{ tFlight tFetchW (tCmd 0x0101 [] (List.replicate 512 (tItem .core []))) with pm := { State.resetPartMgr with logP := some 8 } }, 0, 1, tSub 0x0101 1 0, specDeviceStatus, ⟨⟨by decide, by rfl, by decide, by decide⟩, by decide, by decide, by decide⟩, by decide, by decide +kernel⟩,
   ⟨tFetchW, 0, 1, tSub 0x0101 1 0, specDeviceStatus, ⟨⟨by decide, by rfl, by decide, by decide⟩, by decide, by decide, by decide⟩, by decide, by decide⟩,
   ⟨State.reset, 0, 0, tBadEntry, by decide⟩⟩

theorem witness_CompletionsEndCommands :
    (∃ (s : State) (r : CmdRef) (c : Cmd), (findCmd s r = some c) ∧ (c.result.isSome = true) ∧ (c.durable = false) ∧ (backingTurn s c = true)) ∧
    (∃ (s : State) (r : CmdRef) (c : Cmd) (v : Result), (findCmd s r = some c) ∧ (c.result = some v) ∧ (mayComplete s c = true) ∧ (c.spillFrom = none)) ∧
    (∃ (s : State) (r : CmdRef) (c : Cmd) (v : Result) (n : Nat), (findCmd s r = some c) ∧ (c.result = some v) ∧ (mayComplete s c = true) ∧ (c.spillFrom = some n)) ∧
    (∃ (s : State) (r : CmdRef) (c : Cmd), (findCmd s r = some c) ∧ (c.result = none ∨ mayComplete s c = false)) ∧
    (∃ (s : State) (r : CmdRef), (findCmd s r = none)) :=
  ⟨⟨tFlight State.reset { tCmd 0x0301 [] [] with result := some { status := 0, reply := [] }, durable := false, out := some 1 }, ⟨0, 0, 0⟩,
 { tCmd 0x0301 [] [] with result := some { status := 0, reply := [] }, durable := false, out := some 1 }, rfl, by decide, by decide, by decide⟩,
   ⟨tFlight State.reset { tCmd 0x0101 [] [] with result := some { status := 0, reply := [] } }, ⟨0, 0, 0⟩,
 { tCmd 0x0101 [] [] with result := some { status := 0, reply := [] } }, { status := 0, reply := [] }, rfl, rfl, by decide, by decide⟩,
   ⟨tFlight State.reset { tCmd 0x0101 [] [] with result := some { status := 0, reply := [] }, spillFrom := some 2 }, ⟨0, 0, 0⟩,
 { tCmd 0x0101 [] [] with result := some { status := 0, reply := [] }, spillFrom := some 2 }, { status := 0, reply := [] }, 2, rfl, rfl, by decide, by decide⟩,
   ⟨tFlight State.reset (tCmd 0x0101 [] []), ⟨0, 0, 0⟩, tCmd 0x0101 [] [], rfl, .inl rfl⟩,
   ⟨State.reset, ⟨0, 0, 0⟩, by decide⟩⟩

theorem witness_ItemsAreReadiedAndDispatched :
    (∃ (s : State) (u : UnitId) (x : Candidate) (b : Bool), (unitServes s u = true) ∧ (choose s u = some (x, b)) ∧ (restoreFails s u x = false) ∧ ((chains x.cmd x.item && x.cmd.base.isNone) = false)) ∧
    (∃ (s : State) (u : UnitId) (x : Candidate) (b : Bool), (unitServes s u = true) ∧ (choose s u = some (x, b)) ∧ (restoreFails s u x = false) ∧ ((chains x.cmd x.item && x.cmd.base.isNone) = true) ∧ (streamVerdict s x.cmd = none)) ∧
    (∃ (s : State) (u : UnitId) (x : Candidate) (b : Bool) (k : Nat), (unitServes s u = true) ∧ (choose s u = some (x, b)) ∧ (restoreFails s u x = false) ∧ ((chains x.cmd x.item && x.cmd.base.isNone) = true) ∧ (streamVerdict s x.cmd = some k)) ∧
    (∃ (s : State) (u : UnitId) (x : Candidate) (b : Bool), (unitServes s u = true) ∧ (choose s u = some (x, b)) ∧ (restoreFails s u x = true)) ∧
    (∃ (s : State) (u : UnitId), (choose s u = none)) ∧
    (∃ (s : State) (r : CmdRef) (i : Nat) (it : Item) (at_ : Nat), ((findCmd s r).bind (fun c => c.items[i]?) = some it) ∧ (it.state = .waiting) ∧ (it.readyNs = some at_) ∧ (at_ + 400 ≤ s.clk.ns)) ∧
    (∃ (s : State) (r : CmdRef) (i : Nat) (it : Item), ((findCmd s r).bind (fun c => c.items[i]?) = some it) ∧ (it.state ≠ .waiting ∨ it.readyNs = none ∨ (∃ a, it.readyNs = some a ∧ s.clk.ns < a + 400))) ∧
    (∃ (s : State) (r : CmdRef) (c : Cmd) (i : Nat) (it : Item) (at_ : Nat), (findCmd s r = some c) ∧ (c.items[i]? = some it) ∧ (it.state = .waiting) ∧ (it.readyNs = some at_) ∧ (at_ + 2000 ≤ s.clk.ns) ∧ (it.kind ≠ .engine ∨ needsWhole (engineShare (modItem r i (fun it => { it with aged := true }) s) c i) = false)) ∧
    (∃ (s : State) (r : CmdRef) (c : Cmd) (i : Nat) (it : Item) (at_ n : Nat), (findCmd s r = some c) ∧ (c.items[i]? = some it) ∧ (it.state = .waiting) ∧ (it.readyNs = some at_) ∧ (at_ + 2000 ≤ s.clk.ns) ∧ (it.kind = .engine) ∧ ((let u := modItem r i (fun it => { it with aged := true }) s; needsWhole (engineShare u c i) = true ∧ mayStart u c i it = true ∧ (∀ m : Fin 16, unitServes u (.engine m) = true → engineLanes u m.val c i = none) ∧
  (∀ m, m < 16 → liveReserve u (getEngine u m) ≠ some (r, i)) ∧ reserveFor u it = some n))) ∧
    (∃ (s : State) (r : CmdRef) (c : Cmd) (i : Nat) (it : Item), (findCmd s r = some c) ∧ (c.items[i]? = some it) ∧ (it.state ≠ .waiting ∨ it.readyNs = none ∨ (∃ a, it.readyNs = some a ∧ s.clk.ns < a + 2000))) ∧
    (∃ (s : State) (p : Nat), (p < pDiv s) ∧ (p < 256)) ∧
    (∃ (s : State) (r : CmdRef) (i k : Nat) (c : Cmd) (it : Item) (l : KeyLoad) (v : KeyVal) (src : KeySource), (loadAt s r i k = some (c, it, l)) ∧ (loadPending s c it l = true) ∧ (derivesYet s c = false ∨ hotWanted s c ≤ hotRoom s r.part) ∧ (versionVal s r.part l.key l.version = some v) ∧ (loadSource s r.part l = some src) ∧ (loadBad s r.part l = false)) ∧
    (∃ (s : State) (r : CmdRef) (i k : Nat) (c : Cmd) (it : Item) (l : KeyLoad) (ok : Bool) (v : KeyVal) (src : KeySource), (loadAt s r i k = some (c, it, l)) ∧ (loadPending s c it l = true) ∧ (derivesYet s c = false ∨ hotWanted s c ≤ hotRoom s r.part) ∧ (versionVal s r.part l.key l.version = some v) ∧ (loadSource s r.part l = some src) ∧ (ok = false ∨ loadBad s r.part l = true)) ∧
    (∃ (s : State) (r : CmdRef) (i k : Nat) (c : Cmd) (it : Item) (l : KeyLoad) (ok : Bool), (loadAt s r i k = some (c, it, l)) ∧ (loadPending s c it l = true) ∧ (derivesYet s c = false ∨ hotWanted s c ≤ hotRoom s r.part) ∧ (versionVal s r.part l.key l.version = none)) ∧
    (∃ (s : State) (r : CmdRef) (i k : Nat) (c : Cmd) (it : Item) (l : KeyLoad) (ok : Bool) (v : KeyVal), (loadAt s r i k = some (c, it, l)) ∧ (loadPending s c it l = true) ∧ (derivesYet s c = false ∨ hotWanted s c ≤ hotRoom s r.part) ∧ (versionVal s r.part l.key l.version = some v) ∧ (loadSource s r.part l = none)) ∧
    (∃ (s : State) (r : CmdRef) (i k : Nat) (c : Cmd) (it : Item) (l : KeyLoad) (ok : Bool), (loadAt s r i k = some (c, it, l)) ∧ (loadPending s c it l = false ∨ (derivesYet s c = true ∧ hotRoom s r.part < hotWanted s c))) ∧
    (∃ (s : State) (r : CmdRef) (i k : Nat) (c : Cmd) (it : Item) (l : KeyLoad) (v : KeyVal) (src : KeySource), (loadAt s r i k = some (c, it, l)) ∧ (loadPending s c it l = true) ∧ (isCached l.key = true) ∧ (hotFind s r.part l.key l.version = none) ∧ (shadowHold s r.part l = none) ∧ (hotWanted s c ≤ hotRoom s r.part) ∧ (versionVal (claimHot s c) r.part l.key l.version = some v) ∧ (keyIndex r.part l.key ∉ (claimHot s c).ks.poisonedRecs) ∧ (loadSource (hotReady r.part l.key l.version (claimHot s c)) r.part l = some src)) ∧
    (∃ (s : State) (r : CmdRef) (i k : Nat) (c : Cmd) (it : Item) (l : KeyLoad) (v : KeyVal) (ok : Bool), (loadAt s r i k = some (c, it, l)) ∧ (loadPending s c it l = true) ∧ (isCached l.key = true) ∧ (hotFind s r.part l.key l.version = none) ∧ (shadowHold s r.part l = none) ∧ (hotWanted s c ≤ hotRoom s r.part) ∧ (versionVal (claimHot s c) r.part l.key l.version = some v) ∧ (ok = false ∨ keyIndex r.part l.key ∈ (claimHot s c).ks.poisonedRecs)) ∧
    (∃ (s : State) (r : CmdRef) (i k : Nat) (c : Cmd) (it : Item) (l : KeyLoad) (ok : Bool), (loadAt s r i k = some (c, it, l)) ∧ (loadPending s c it l = true) ∧ (isCached l.key = true) ∧ (hotFind s r.part l.key l.version = none) ∧ (shadowHold s r.part l = none) ∧ (hotWanted s c ≤ hotRoom s r.part) ∧ (versionVal (claimHot s c) r.part l.key l.version = none)) ∧
    (∃ (s : State) (r : CmdRef) (i k : Nat) (c : Cmd) (it : Item) (l : KeyLoad) (ok : Bool), (loadAt s r i k = some (c, it, l)) ∧ (loadPending s c it l = false ∨ isCached l.key = false ∨ (hotFind s r.part l.key l.version).isSome = true ∨ (shadowHold s r.part l).isSome = true ∨ hotRoom s r.part < hotWanted s c)) ∧
    (∃ (s : State) (r : CmdRef) (i : Nat) (o : ItemOutcome) (c : Cmd) (it : Item) (u : UnitId), (findCmd s r = some c) ∧ (c.items[i]? = some it) ∧ (it.state = .inService u) ∧ (endFits u o = true)) ∧
    (∃ (s : State) (r : CmdRef) (i : Nat) (o : ItemOutcome) (c : Cmd) (it : Item) (u : UnitId), (findCmd s r = some c) ∧ (c.items[i]? = some it) ∧ (it.state = .inService u) ∧ (endFits u o = false)) ∧
    (∃ (s : State) (r : CmdRef) (i : Nat) (o : ItemOutcome), ((findCmd s r).bind (fun c => c.items[i]?) = none ∨ (∃ it, (findCmd s r).bind (fun c => c.items[i]?) = some it ∧ ∀ u, it.state ≠ .inService u))) ∧
    (∃ (s : State) (r : CmdRef) (i k : Nat) (ok : Bool), ((findCmd s r).bind (fun c => c.items[i]?) = none)) ∧
    (∃ (s : State) (p : Fin 256) (key : BitVec 32) (v : BitVec 16), (holdCount s p.val key v = 0) ∧ ((getKey s p.val key).version ≠ v ∨ (∃ h ∈ s.ks.holds, holdMatch p.val key v h = true ∧ h.shadow.isSome = true))) ∧
    (∃ (u : UnitId) (s : State), ((unitServes s u) = false)) ∧
    (∃ (p : Fin 256) (key : BitVec 32) (v : BitVec 16) (s : State), ((holdCount s p.val key v == 0 && (s.ks.holds.any (fun h => holdMatch p.val key v h && h.shadow.isSome) || (getKey s p.val key).version != v)) = false)) :=
  ⟨⟨tFlight tDawn (tCmd 0x0101 [] [tItem .core []]), .core 0, ((choose (tFlight tDawn (tCmd 0x0101 [] [tItem .core []])) (.core 0)).get (by decide)).1, ((choose (tFlight tDawn (tCmd 0x0101 [] [tItem .core []])) (.core 0)).get (by decide)).2, by decide, by simp, by decide, by decide⟩,
   ⟨tChain, .facet 0, ((choose tChain (.facet 0)).get (by decide)).1, ((choose tChain (.facet 0)).get (by decide)).2, by decide, by simp, by decide, by decide, by decide⟩,
   ⟨tChainBad, .facet 0, ((choose tChainBad (.facet 0)).get (by decide)).1, ((choose tChainBad (.facet 0)).get (by decide)).2, (streamVerdict tChainBad ((choose tChainBad (.facet 0)).get (by decide)).1.cmd).get (by decide), by decide, by simp, by decide, by decide, by simp⟩,
   ⟨tLostSave, .facet 0, ((choose tLostSave (.facet 0)).get (by decide)).1, ((choose tLostSave (.facet 0)).get (by decide)).2, by decide, by simp, by decide⟩,
   ⟨State.reset, .core 0, by decide⟩,
   ⟨{ tFlight tDawn (tCmd 0x0101 [] [tItem .core []]) with clk := { tDawn.clk with ns := 400 } }, ⟨0, 0, 0⟩, 0, tItem .core [], 0, by decide, by decide, by decide, by decide⟩,
   ⟨tFlight tDawn (tCmd 0x0101 [] [tItem .core []]), ⟨0, 0, 0⟩, 0, tItem .core [], rfl, .inr (.inr ⟨0, rfl, by decide⟩)⟩,
   ⟨{ tFlight tDawn (tCmd 0x0101 [] [tItem .core []]) with clk := { tDawn.clk with ns := 2000 } }, ⟨0, 0, 0⟩, tCmd 0x0101 [] [tItem .core []], 0, tItem .core [], 0, rfl, rfl, rfl, rfl, by decide, .inl (by decide)⟩,
   ⟨tBusyEngines, ⟨0, 0, 0⟩, tPkCmd, 0, tPkItem, 0, 0, rfl, rfl, rfl, rfl, by decide, rfl, by decide +kernel⟩,
   ⟨tFlight tDawn (tCmd 0x0101 [] [tItem .core []]), ⟨0, 0, 0⟩, tCmd 0x0101 [] [tItem .core []], 0, tItem .core [], rfl, rfl, .inr (.inr ⟨0, rfl, by decide⟩)⟩,
   ⟨State.reset, 0, by decide, by decide⟩,
   ⟨tFlight tKeyed1 (tCmd 0x0401 [] [tItem .facet [tLoad1]]), ⟨0, 0, 0⟩, 0, 0, tCmd 0x0401 [] [tItem .facet [tLoad1]], tItem .facet [tLoad1], tLoad1, tVal, .slot (physical tKeyed1 0 tLoad1.key), rfl, by decide, .inl (by decide), by decide, by decide, by decide⟩,
   ⟨tFlight tKeyed1 (tCmd 0x0401 [] [tItem .facet [tLoad1]]), ⟨0, 0, 0⟩, 0, 0, tCmd 0x0401 [] [tItem .facet [tLoad1]], tItem .facet [tLoad1], tLoad1, false, tVal, .slot (physical tKeyed1 0 tLoad1.key), rfl, by decide, .inl (by decide), by decide, by decide, .inl rfl⟩,
   ⟨tFlight tDawn (tCmd 0x0401 [] [tItem .facet [tLoad]]), ⟨0, 0, 0⟩, 0, 0, tCmd 0x0401 [] [tItem .facet [tLoad]], tItem .facet [tLoad], tLoad, true, rfl, by decide, .inl (by decide), by decide⟩,
   ⟨tFlight tKeyedC (tCmd 0x0401 [] [tItem .facet [tLoadC]]), ⟨0, 0, 0⟩, 0, 0, tCmd 0x0401 [] [tItem .facet [tLoadC]], tItem .facet [tLoadC], tLoadC, true, tVal, rfl, by decide, .inl (by decide), by decide, by decide⟩,
   ⟨{ tFlight tKeyed1 (tCmd 0x0401 [] [tItem .facet [tLoad1]]) with ks := { tKeyed1.ks with sealed := true } }, ⟨0, 0, 0⟩, 0, 0, tCmd 0x0401 [] [tItem .facet [tLoad1]], tItem .facet [tLoad1], tLoad1, true, rfl, .inl (by decide)⟩,
   ⟨tFlight tKeyedC (tCmd 0x0401 [] [tItem .facet [tLoadC]]), ⟨0, 0, 0⟩, 0, 0, tCmd 0x0401 [] [tItem .facet [tLoadC]], tItem .facet [tLoadC], tLoadC, tVal, .hot 0 0, rfl, by decide, by decide, by decide, by decide, by decide, by decide, by decide, by decide⟩,
   ⟨tFlight tKeyedC (tCmd 0x0401 [] [tItem .facet [tLoadC]]), ⟨0, 0, 0⟩, 0, 0, tCmd 0x0401 [] [tItem .facet [tLoadC]], tItem .facet [tLoadC], tLoadC, tVal, false, rfl, by decide, by decide, by decide, by decide, by decide, by decide, .inl rfl⟩,
   ⟨tFlight tDawn (tCmd 0x0401 [] [tItem .facet [tLoadC]]), ⟨0, 0, 0⟩, 0, 0, tCmd 0x0401 [] [tItem .facet [tLoadC]], tItem .facet [tLoadC], tLoadC, true, rfl, by decide, by decide, by decide, by decide, by decide, by decide⟩,
   ⟨tFlight tDawn (tCmd 0x0401 [] [tItem .facet [tLoad]]), ⟨0, 0, 0⟩, 0, 0, tCmd 0x0401 [] [tItem .facet [tLoad]], tItem .facet [tLoad], tLoad, true, rfl, .inr (.inl (by decide))⟩,
   ⟨tFlight tDawn (tCmd 0x0101 [] [{ tItem .core [] with state := .inService (.core 0) }]), ⟨0, 0, 0⟩, 0, .ok, tCmd 0x0101 [] [{ tItem .core [] with state := .inService (.core 0) }], { tItem .core [] with state := .inService (.core 0) }, .core 0, by decide, by decide, by decide, by decide⟩,
   ⟨tFlight tDawn (tCmd 0x0101 [] [{ tItem .core [] with state := .inService (.core 0) }]), ⟨0, 0, 0⟩, 0, .mismatch, tCmd 0x0101 [] [{ tItem .core [] with state := .inService (.core 0) }], { tItem .core [] with state := .inService (.core 0) }, .core 0, by decide, by decide, by decide, by decide⟩,
   ⟨tFlight tDawn (tCmd 0x0101 [] [tItem .core []]), ⟨0, 0, 0⟩, 0, .ok, .inr ⟨tItem .core [], rfl, by intro u; simp [tItem]⟩⟩,
   ⟨State.reset, ⟨0, 0, 0⟩, 0, 0, true, by decide⟩,
   ⟨State.reset, 0, 1, 5, by decide, .inl (by decide)⟩,
   ⟨.facet 0, tDomainOff, by decide⟩,
   ⟨0, 0, 0, State.reset, by decide⟩⟩

theorem witness_CapacityIsNeverLent :
    (∃ (s : State) (k : UnitKind) (n p : Nat), (s.pm.logP = some n) ∧ (n ≤ 8) ∧ (p < 2 ^ n)) ∧
    (∃ (s t : State) (k : UnitKind) (n p : Nat), (s.pm.logP = some n) ∧ (t.pm.logP = some n) ∧ (n ≤ 8) ∧ (p < 2 ^ n) ∧ (servingCount s k = servingCount t k) ∧ (credit s k p = credit t k p)) ∧
    (∃ (s : State) (u : UnitId) (x : Candidate) (b : Bool), (choose s u = some (x, b))) :=
  ⟨⟨tParts 1 .disabled, .facet, 2, 3, rfl, by decide, by decide⟩,
   ⟨tParts 1 .disabled, tParts 2 .active, .core, 2, 3, rfl, rfl, by decide, by decide, by decide +kernel, rfl⟩,
   ⟨(tFlight tDawn (tCmd 0x0101 [] [tItem .core []])), .core 0, ((choose (tFlight tDawn (tCmd 0x0101 [] [tItem .core []])) (.core 0)).get (by decide)).1, ((choose (tFlight tDawn (tCmd 0x0101 [] [tItem .core []])) (.core 0)).get (by decide)).2, by simp⟩⟩

theorem witness_TimersAndDomainChangesEnd :
    (∃ (s : State) (g : Fin 1024) (at_ : Nat), ((getRing s g.val).coalNs = some at_) ∧ (at_ ≤ s.clk.ns)) ∧
    (∃ (s : State), (s.prism.trcMark < marksDue s)) ∧
    (∃ (s : State) (i : Nat), ((getSess s i).allocated = true) ∧ ((getSess s i).transient = false) ∧ (idlePassed s (getSess s i) = true)) ∧
    (∃ (s : State) (d : Fin 32), ((getDomain s d.val).draining.isSome = true) ∧ ((getDomain s d.val).on = true) ∧ (domainWork s d.val = [])) ∧
    (∃ (s : State) (d : Fin 32), ((getDomain s d.val).draining.isSome = true ∨ domainWants s d.val false = true) ∧ ((getDomain s d.val).on = false) ∧ (domainWork s d.val = [])) ∧
    (∃ (s : State) (d : Fin 32) (at_ : Nat), ((getDomain s d.val).draining = some at_) ∧ (at_ + 50000 ≤ s.clk.ns) ∧ (domainWork s d.val ≠ [])) ∧
    (∃ (s : State) (d : Fin 32), ((getDomain s d.val).draining = none ∨ domainWork s d.val = [] ∨ (∃ a, (getDomain s d.val).draining = some a ∧ s.clk.ns < a + 50000))) ∧
    (∃ (s : State) (d : Fin 32), ((getDomain s d.val).on = true) ∧ ((getDomain s d.val).testing = true) ∧ (retainedWaits s d.val = false)) ∧
    (∃ (s : State) (d : Fin 32) (l : List Nat), ((getDomain s d.val).on = true) ∧ ((getDomain s d.val).testing = true) ∧ (retainedWaits s d.val = false) ∧ (l ≠ [])) ∧
    (∃ (s : State) (d : Fin 32) (l : List Nat), ((getDomain s d.val).on = false) ∧ (domainWants s d.val true = true)) ∧
    (∃ (ring : Fin 1024) (s : State), ((match (getRing s ring.val).coalNs with | none => false | some t => decide (t ≤ s.clk.ns)) = false)) ∧
    (∃ (s : State), ((decide (s.prism.trcMark < marksDue s)) = false)) ∧
    (∃ (i : Nat) (s : State), (((getSess s i).allocated && !(getSess s i).transient && idlePassed s (getSess s i)) = false)) ∧
    (∃ (d : Fin 32) (s : State), ((((getDomain s d.val).draining.isSome || (!(getDomain s d.val).on && domainWants s d.val false)) && (domainWork s d.val).isEmpty) = false)) :=
  ⟨⟨{ State.reset with rings := [(2, { ringReset with coalNs := some 0 })] }, 2, 0, by decide, by decide⟩,
   ⟨{ State.reset with clk := { State.resetClock with ns := 900000000 } }, by decide⟩,
   ⟨{ State.reset with sess := { ctxs := [(4, { sessionReset with allocated := true, idle := 1 })], fresh := [], freed := [] }, hzn := { State.resetHorizon with time := 32769 } }, 4, by decide, by decide, by decide⟩,
   ⟨{ State.reset with domains := [(6, { domainReset with on := true, draining := some 0 })] }, 6, by decide, by decide, by decide⟩,
   ⟨{ State.reset with domains := [(6, { domainReset with on := false, draining := some 0 })] }, 6, .inl (by decide), by decide, by decide⟩,
   ⟨{ tFlight tDawn (tCmd 0x0401 [] [{ tItem .facet [] with state := .inService (.facet 0) }]) with domains := [(6, { domainReset with draining := some 0 })], clk := { tDawn.clk with ns := 50000 } }, 6, 0, by decide, by decide, by decide⟩,
   ⟨State.reset, 6, .inl (by decide)⟩,
   ⟨{ State.reset with domains := [(6, { domainReset with testing := true })] }, 6, by decide, by decide, by decide⟩,
   ⟨{ State.reset with domains := [(6, { domainReset with testing := true })] }, 6, [0], by decide, by decide, by decide, by decide⟩,
   ⟨{ tFlight State.reset { tCmd 0x0103 [6, 1] [] with started := true } with domains := [(6, { domainReset with on := false })] }, 6, [], by decide, by decide⟩,
   ⟨0, State.reset, by decide⟩,
   ⟨State.reset, by decide⟩,
   ⟨0, State.reset, by decide⟩,
   ⟨0, State.reset, by decide⟩⟩

theorem witness_GeneratorEventsFollowItsStates :
    (∃ (s : State), (s.rng.running = true) ∧ (s.rng.state = .testing) ∧ (s.rng.katKnown = false) ∧ (s.rng.startNs + 15000 ≤ s.clk.ns)) ∧
    (∃ (s : State), (s.rng.running = true) ∧ (s.rng.state = .testing) ∧ (s.rng.katKnown = false) ∧ (s.rng.startNs + 15000 ≤ s.clk.ns)) ∧
    (∃ (s : State) (a b : List (List Bool)), (s.rng.running = true) ∧ (s.rng.state = .testing) ∧ (s.rng.katKnown = true) ∧ (s.rng.verdict = false) ∧ (s.rng.startNs + 102400 ≤ s.clk.ns) ∧ (sampled (a ++ b) = true) ∧ (((a ++ b).headD []).length = 1024) ∧ (admitted (~~~ (failMask (a ++ b) { s.rng with tests := List.replicate 4 State.resetTest, cond := [] })) < 2)) ∧
    (∃ (s : State) (a b : List (List Bool)), (s.rng.running = true) ∧ (s.rng.state = .testing) ∧ (s.rng.katKnown = true) ∧ (s.rng.verdict = false) ∧ (s.rng.startNs + 102400 ≤ s.clk.ns) ∧ (sampled (a ++ b) = true) ∧ (((a ++ b).headD []).length = 1024) ∧ (2 ≤ admitted (~~~ (failMask (a ++ b) { s.rng with tests := List.replicate 4 State.resetTest, cond := [] })))) ∧
    (∃ (s : State) (k : Fin 4) (l : List (List Bool)), (s.rng.running = true) ∧ (s.rng.verdict = true) ∧ (sampled l = true) ∧ (bit (failMask l s.rng).toNat k.val = true) ∧ (failMask l s.rng &&& s.rng.srcOk = 0)) ∧
    (∃ (s : State) (k : Fin 4) (l : List (List Bool)), (s.rng.running = true) ∧ (s.rng.verdict = true) ∧ (sampled l = true) ∧ (bit (failMask l s.rng).toNat k.val = true) ∧ (failMask l s.rng &&& s.rng.srcOk ≠ 0) ∧ (2 ≤ admitted (s.rng.srcOk &&& ~~~ (failMask l s.rng &&& s.rng.srcOk)) ∨ s.rng.state = .failed)) ∧
    (∃ (s : State) (k : Fin 4) (l : List (List Bool)), (s.rng.running = true) ∧ (s.rng.verdict = true) ∧ (sampled l = true) ∧ (bit (failMask l s.rng).toNat k.val = true) ∧ (failMask l s.rng &&& s.rng.srcOk ≠ 0) ∧ (admitted (s.rng.srcOk &&& ~~~ (failMask l s.rng &&& s.rng.srcOk)) < 2) ∧ (s.rng.state ≠ .failed)) ∧
    (∃ (s : State) (l : List (List Bool)), (s.rng.state = .healthy) ∧ (sampled l = true) ∧ (failMask l s.rng &&& s.rng.srcOk = 0) ∧ (1536 ≤ (absorb l s.rng).cond.length) ∧ ((absorb l s.rng).cond.length < 3072) ∧ (s.rng.pool.length < 64)) ∧
    (∃ (s : State) (l : List (List Bool)), (s.rng.state = .healthy) ∧ (sampled l = true) ∧ (failMask l s.rng &&& s.rng.srcOk = 0) ∧ (1536 ≤ (absorb l s.rng).cond.length) ∧ ((absorb l s.rng).cond.length < 3072) ∧ (64 ≤ s.rng.pool.length)) ∧
    (∃ (s : State) (x : Bytes) (l : List Bytes), (s.rng.pool = x :: l) ∧ (s.rng.state = .healthy) ∧ (s.rng.moduleNs + 1000000 ≤ s.clk.ns)) ∧
    (∃ (s : State), (s.rng.pool = [] ∨ s.rng.state ≠ .healthy ∨ s.clk.ns < s.rng.moduleNs + 1000000)) ∧
    (∃ (s : State), (s.rng.state = .healthy) ∧ (s.rng.maskNs + 1000000 ≤ s.clk.ns)) ∧
    (∃ (s : State) (p : Fin 256) (r : CmdRef), (frontDraw s p.val = some r) ∧ (waitSince s r + 5000000 ≤ s.clk.ns)) ∧
    (∃ (s : State) (p : Fin 256), (frontDraw s p.val = none ∨ (∃ r, frontDraw s p.val = some r ∧ s.clk.ns < waitSince s r + 5000000))) ∧
    (∃ (s : State) (p : Fin 256) (r : CmdRef), (frontDraw s p.val = some r) ∧ (s.rng.state = .healthy) ∧ ((reseedDue s p.val && !(s.rng.shared && s.ilu.mirror == .standby)) = false)) ∧
    (∃ (s : State) (p : Fin 256) (r : CmdRef) (x : Bytes) (l : List Bytes), (frontDraw s p.val = some r) ∧ (s.rng.state = .healthy) ∧ ((reseedDue s p.val && !(s.rng.shared && s.ilu.mirror == .standby)) = true) ∧ (s.rng.pool = x :: l)) ∧
    (∃ (s : State) (p : Fin 256) (r : CmdRef), (frontDraw s p.val = some r) ∧ (s.rng.state ≠ .healthy ∨ ((reseedDue s p.val && !(s.rng.shared && s.ilu.mirror == .standby)) = true ∧ s.rng.pool = []))) ∧
    (∃ (s : State) (p : Fin 256), (frontDraw s p.val = none)) ∧
    (∃ (pass : Bool) (s : State), ((s.rng.running && s.rng.state == .testing && !s.rng.katKnown && decide (s.rng.startNs + 15000 ≤ s.clk.ns)) = false)) ∧
    (∃ (s : State), ((s.rng.state == .healthy && decide (s.rng.maskNs + 1000000 ≤ s.clk.ns)) = false)) :=
  ⟨⟨{ tOn with rng := { State.resetRng with running := true }, clk := { tOn.clk with ns := 15000 } }, by decide, by decide, by decide, by decide⟩,
   ⟨{ tOn with rng := { State.resetRng with running := true }, clk := { tOn.clk with ns := 15000 } }, by decide, by decide, by decide, by decide⟩,
   ⟨{ tOn with rng := { State.resetRng with running := true, katKnown := true }, clk := { tOn.clk with ns := 102400 } }, (List.replicate 2 (List.replicate 1024 true)), (List.replicate 2 (List.replicate 1024 true)), by decide, by decide, by decide, by decide, by decide, by decide +kernel, by decide +kernel, by decide +kernel⟩,
   ⟨{ tOn with rng := { State.resetRng with running := true, katKnown := true }, clk := { tOn.clk with ns := 102400 } }, tSamples.take 2, tSamples.drop 2, by decide, by decide, by decide, by decide, by decide, by decide +kernel, by decide +kernel, by decide +kernel⟩,
   ⟨{ tOn with rng := { State.resetRng with running := true, verdict := true, srcOk := 0xE } }, 0, tStuck, by decide, by decide, by decide +kernel, by decide +kernel, by decide +kernel⟩,
   ⟨{ tOn with rng := { State.resetRng with running := true, verdict := true, srcOk := 0xF } }, 0, tStuck, by decide, by decide, by decide +kernel, by decide +kernel, by decide +kernel, .inl (by decide +kernel)⟩,
   ⟨{ tOn with rng := { State.resetRng with running := true, verdict := true, srcOk := 3 } }, 0, tStuck, by decide, by decide, by decide +kernel, by decide +kernel, by decide +kernel, by decide +kernel, by decide⟩,
   ⟨tSeeding, tOneMore, by decide, by decide +kernel, by decide +kernel, by decide +kernel, by decide +kernel, by decide⟩,
   ⟨{ tSeeding with rng := { tSeeding.rng with pool := List.replicate 64 [] } }, tOneMore, by decide, by decide +kernel, by decide +kernel, by decide +kernel, by decide +kernel, by decide⟩,
   ⟨{ tDraw with rng := { tDraw.rng with pool := [[1]] }, clk := { tDraw.clk with ns := 1000000 } }, [1], [], by decide, by decide, by decide⟩,
   ⟨State.reset, .inl rfl⟩,
   ⟨{ tDraw with clk := { tDraw.clk with ns := 1000000 } }, by decide, by decide⟩,
   ⟨{ tDraw with clk := { tDraw.clk with ns := 5000000 } }, 0, ⟨0, 0, 0⟩, by decide, by decide⟩,
   ⟨State.reset, 0, .inl rfl⟩,
   ⟨{ tDraw with parts := [(0, { partReset with drbgDue := false, drbgTime := 0 })] }, 0, ⟨0, 0, 0⟩, by decide, by decide, by decide⟩,
   ⟨{ tDraw with rng := { tDraw.rng with pool := [[1]] }, parts := [(0, { partReset with drbgDue := true })] }, 0, ⟨0, 0, 0⟩, [1], [], by decide, by decide, by decide, by decide⟩,
   ⟨{ tDraw with rng := { tDraw.rng with state := .testing } }, 0, ⟨0, 0, 0⟩, by decide, .inl (by decide)⟩,
   ⟨State.reset, 0, by decide⟩,
   ⟨true, State.reset, by decide⟩,
   ⟨State.reset, by decide⟩⟩

theorem witness_KeyStoreAndMemoryBackgroundWork :
    (∃ (s : State) (l : List Nat), (s.svc.phase ≠ .dark) ∧ (s.ks.scrubNs + 100000000 ≤ s.clk.ns)) ∧
    (∃ (s : State), (s.ks.rewrap = true) ∧ (s.svc.phase ≠ .dark)) ∧
    (∃ (s : State) (l : List LineRead), (s.clk.powered = true)) ∧
    (∃ (s : State) (l : LineRead), (s.clk.powered = true) ∧ (l.corrected = true)) ∧
    (∃ (s : State) (l : LineRead), (s.clk.powered = true) ∧ (l.corrected = false) ∧ (l.line ∉ s.flt.poisonedLines)) ∧
    (∃ (s : State) (l : LineRead), (s.clk.powered = true) ∧ (l.corrected = false) ∧ (l.line ∈ s.flt.poisonedLines)) ∧
    (∃ (s : State) (r : Fin 16), (s.svc.rank0 = true) ∧ (r.val ∉ s.flt.offRanks)) ∧
    (∃ (s : State) (r : Nat) (l : List (Nat × Bytes)), (s.flt.rebuilding = some r) ∧ (s.flt.evacuating = true)) ∧
    (∃ (s : State) (r : Nat) (l : List (Nat × Bytes)), (s.flt.rebuilding = some r) ∧ (s.flt.evacuating = false)) ∧
    (∃ (s : State) (l : List (Nat × Bytes)), (s.flt.rebuilding = none)) ∧
    (∃ (s : State) (l : List MemRegion), (s.flt.evacuating = true) ∧ (s.flt.rebuilding = none)) ∧
    (∃ (failed : List Nat) (s : State), ((s.svc.phase != .dark && decide (s.ks.scrubNs + 100000000 ≤ s.clk.ns)) = false)) ∧
    (∃ (s : State), ((s.ks.rewrap && s.svc.phase != .dark) = false)) ∧
    (∃ (lines : List LineRead) (s : State), ((s.clk.powered) = false)) ∧
    (∃ (rank : Fin 16) (ok : Bool) (s : State), ((s.svc.rank0 && !s.flt.offRanks.contains rank.val && !ok) = false)) ∧
    (∃ (unreadable : List MemRegion) (s : State), ((s.flt.evacuating && s.flt.rebuilding.isNone) = false)) :=
  ⟨⟨{ tDawn with clk := { tDawn.clk with ns := 100000000 } }, [0x40000001], by decide, by decide⟩,
   ⟨tRewrap, by decide, by decide⟩,
   ⟨tOn, [{ line := 0, region := .session 0, corrected := true }], by decide⟩,
   ⟨tOn, { line := 0, region := .session 0, corrected := true }, by decide, by decide⟩,
   ⟨tOn, { line := 0, region := .session 0, corrected := false }, by decide, by decide, by decide⟩,
   ⟨{ tOn with flt := { State.resetFaults with poisonedLines := [0] } }, { line := 0, region := .session 0, corrected := false }, by decide, by decide, by decide⟩,
   ⟨{ tDawn with svc := { tDawn.svc with rank0 := true } }, 3, by decide, by decide⟩,
   ⟨{ State.reset with flt := { State.resetFaults with rebuilding := some 0, evacuating := true } }, 0, [], by decide, by decide⟩,
   ⟨{ State.reset with flt := { State.resetFaults with rebuilding := some 3 } }, 3, [], by decide, by decide⟩,
   ⟨State.reset, [], by decide⟩,
   ⟨{ State.reset with flt := { State.resetFaults with evacuating := true } }, [], by decide, by decide⟩,
   ⟨[], State.reset, by decide⟩,
   ⟨State.reset, by decide⟩,
   ⟨[], State.reset, by decide⟩,
   ⟨0, true, State.reset, by decide⟩,
   ⟨[], State.reset, by decide⟩⟩

theorem witness_CeremonyAndTransferExpiries :
    (∃ (s : State) (p : Fin 256), ((getPart s p.val).lock.state = .collecting ∨ (getPart s p.val).lock.state = .authorised) ∧ ((getPart s p.val).lock.expiry.toNat ≤ s.hzn.time.toNat)) ∧
    (∃ (s : State) (p : Fin 256) (o : Offer), ((getPart s p.val).moveOffer = some o) ∧ (o.expiry.toNat ≤ s.hzn.time.toNat)) ∧
    (∃ (s : State) (p : Fin 256) (o : Offer), ((getPart s p.val).keyOffer = some o) ∧ (o.expiry.toNat ≤ s.hzn.time.toNat)) ∧
    (∃ (s : State) (p : Fin 256) (n : Nonce), (n ∈ (getPart s p.val).nonces) ∧ (n.issued.toNat + secTicks 600 ≤ s.hzn.time.toNat)) ∧
    (∃ (s : State) (p : Fin 256) (b : Blob), ((getPart s p.val).backup = some b) ∧ (b.issued.toNat + secTicks 600 ≤ s.hzn.time.toNat ∨ b.chunks.length ≤ b.nextRead)) ∧
    (∃ (s : State) (p : Fin 256) (r : CmdRef) (c : Cmd), ((getPart s p.val).freezeCmd = some r) ∧ ((getPart s p.val).state = .freezing) ∧ (owedOf s p.val = 0) ∧ (findCmd s r = some c) ∧ (c.result = none)) ∧
    (∃ (s : State) (p : Fin 256) (r : CmdRef) (c : Cmd), ((getPart s p.val).freezeCmd = some r) ∧ ((getPart s p.val).state = .freezing) ∧ ((getPart s p.val).freezeNs ≤ s.clk.ns) ∧ (owedOf s p.val ≠ 0) ∧ (findCmd s r = some c) ∧ (c.result = none)) ∧
    (∃ (s : State) (p : Fin 256), ((getPart s p.val).freezeCmd = none ∨ (getPart s p.val).state ≠ .freezing ∨ owedOf s p.val ≠ 0)) ∧
    (∃ (s : State) (p : Fin 256), ((getPart s p.val).freezeCmd = none ∨ (getPart s p.val).state ≠ .freezing ∨ s.clk.ns < (getPart s p.val).freezeNs ∨ owedOf s p.val = 0)) ∧
    (∃ (s : State) (p : Fin 256) (g : Staging), ((getPart s p.val).state = .importing) ∧ ((getPart s p.val).staging = some g) ∧ (g.last.toNat + secTicks 600 ≤ s.hzn.time.toNat)) ∧
    (∃ (part : Fin 256) (s : State), ((let l := (getPart s part.val).lock; (l.state == .collecting || l.state == .authorised) && decide (l.expiry.toNat ≤ s.hzn.time.toNat)) = false)) ∧
    (∃ (part : Fin 256) (nonceId : BitVec 32) (s : State), (((getPart s part.val).nonces.any (fun n => n.id == nonceId && tenMinutes s n.issued)) = false)) ∧
    (∃ (part : Fin 256) (s : State), ((match (getPart s part.val).backup with | none => false | some b => tenMinutes s b.issued || decide (b.chunks.length ≤ b.nextRead)) = false)) ∧
    (∃ (part : Fin 256) (s : State), ((let x := getPart s part.val; x.state == .importing && (match x.staging with | none => false | some g => tenMinutes s g.last)) = false)) :=
  ⟨⟨{ State.reset with parts := [(0, { partReset with lock := { lockReset with state := .collecting } })] }, 0, by decide, by decide⟩,
   ⟨{ State.reset with parts := [(0, { partReset with moveOffer := some tOffer })] }, 0, tOffer, by decide, by decide⟩,
   ⟨{ State.reset with parts := [(0, { partReset with keyOffer := some tOffer })] }, 0, tOffer, by decide, by decide⟩,
   ⟨{ State.reset with parts := [(0, { partReset with nonces := [tNonce] })], hzn := { State.resetHorizon with time := 19660800 } }, 0, tNonce, by decide, by decide⟩,
   ⟨{ State.reset with parts := [(0, { partReset with backup := some tBlob })] }, 0, tBlob, by decide, by decide⟩,
   ⟨tFreeze [], 0, ⟨0, 0, 0⟩, { tCmd 0x0C20 [] [] with started := true }, rfl, rfl, by decide, rfl, rfl⟩,
   ⟨tFreeze [{ tCmd 0x0101 [] [] with ref := ⟨0, 1, 0⟩ }], 0, ⟨0, 0, 0⟩, { tCmd 0x0C20 [] [] with started := true }, rfl, rfl, by decide, by decide, rfl, rfl⟩,
   ⟨State.reset, 0, .inl (by decide)⟩,
   ⟨State.reset, 0, .inl (by decide)⟩,
   ⟨{ State.reset with parts := [(0, { partReset with state := .importing, staging := some tStaging })], hzn := { State.resetHorizon with time := 19660800 } }, 0, tStaging, by decide, by decide, by decide⟩,
   ⟨0, State.reset, by decide⟩,
   ⟨0, 0, State.reset, by decide⟩,
   ⟨0, State.reset, by decide⟩,
   ⟨0, State.reset, by decide⟩⟩

theorem witness_TamperAndHorizonEventsTakeEffect :
    (∃ (s : State) (l : Fin 4) (ohms : Nat) (x : Bool), (s.hzn.powered = true) ∧ (s.clk.powered = false) ∧ (meshVerdict s l.val ohms x = none)) ∧
    (∃ (s : State) (l : Fin 4) (ohms c : Nat) (x : Bool), (s.hzn.powered = true) ∧ (s.clk.powered = false) ∧ (meshVerdict s l.val ohms x = some c)) ∧
    (∃ (s : State) (c : Fin 9) (l : Fin 4), (s.hzn.powered = true) ∧ (causeArmed s c.val l.val = true) ∧ (s.hzn.active &&& causeBit c.val = 0) ∧ (s.clk.powered = true) ∧ (s.hzn.latch = false)) ∧
    (∃ (s : State) (c : Fin 9) (l : Fin 4), (s.hzn.powered = true) ∧ (causeArmed s c.val l.val = true) ∧ (s.hzn.active &&& causeBit c.val = 0) ∧ (s.clk.powered = false) ∧ (s.hzn.latch = false)) ∧
    (∃ (s : State) (c : Fin 9) (l : Fin 4), (s.hzn.powered = true) ∧ (causeArmed s c.val l.val = true) ∧ (s.hzn.active &&& causeBit c.val = 0) ∧ (s.hzn.latch = true)) ∧
    (∃ (s : State) (c : Fin 9) (l : Fin 4), (s.hzn.powered = true) ∧ (causeArmed s c.val l.val = false ∨ s.hzn.active &&& causeBit c.val ≠ 0)) ∧
    (∃ (s : State), (s.clk.powered = true) ∧ (s.hzn.latch = true) ∧ (s.hzn.responding = true)) ∧
    (∃ (s : State) (ch : Fin 16) (v : BitVec 12), (s.clk.powered = true) ∧ (warnLimit (noteBattery ch.val v.toNat s) ch.val v.toNat = false) ∧ (tamperLimit s ch.val v.toNat = false)) ∧
    (∃ (s : State) (ch : Fin 16) (v : BitVec 12), (s.clk.powered = true) ∧ (warnLimit (noteBattery ch.val v.toNat s) ch.val v.toNat = true) ∧ (tamperLimit s ch.val v.toNat = false)) ∧
    (∃ (s : State) (ch : Fin 16) (v : BitVec 12), (s.clk.powered = true) ∧ (tamperLimit s ch.val v.toNat = true) ∧ ((s.hzn.channels.at ch.val chanReset).crossed = false ∨ (s.hzn.channels.at ch.val chanReset).fired = true)) ∧
    (∃ (s : State) (ch : Fin 16) (v : BitVec 12), (s.clk.powered = true) ∧ (tamperLimit s ch.val v.toNat = true) ∧ ((s.hzn.channels.at ch.val chanReset).crossed = true) ∧ ((s.hzn.channels.at ch.val chanReset).fired = false)) ∧
    (∃ (s : State) (p : CalPoint) (m : Int) (r : CmdRef) (c : Cmd), (s.hzn.calCmd = some r) ∧ (s.hzn.calNs + 40000000000 ≤ s.clk.ns) ∧ (findCmd s r = some c) ∧ (c.result = none)) ∧
    (∃ (s : State) (p : CalPoint) (m : Int), (s.hzn.calCmd = none ∨ s.clk.ns < s.hzn.calNs + 40000000000)) ∧
    (∃ (s : State) (l : List (Nat × Nat)), (s.clk.powered = true) ∧ (s.svc.calLoaded = true)) ∧
    (∃ (s : State), (s.clk.powered = true) ∧ (s.svc.dawnDone = true) ∧ (s.hzn.checkNs + 3600000000000 ≤ s.clk.ns)) ∧
    (∃ (s : State) (d : Nat), (s.clk.powered = true) ∧ (d ≤ 500)) ∧
    (∃ (s : State) (d : Nat), (s.clk.powered = true) ∧ (500 < d) ∧ (d ≤ 1000)) ∧
    (∃ (s : State) (d : Nat) (st : Bool), (s.clk.powered = true) ∧ (st = true ∨ 1000 < d) ∧ (s.hzn.skyTicks = true)) ∧
    (∃ (s : State) (d : Nat) (st : Bool), (s.clk.powered = true) ∧ (st = true ∨ 1000 < d) ∧ (s.hzn.skyTicks = false)) ∧
    (∃ (loop : Fin 4) (ohms : Nat) (crossed : Bool) (s : State), ((s.hzn.powered && !mains s) = false)) ∧
    (∃ (cause : Fin 9) (loop : Fin 4) (s : State), ((s.hzn.powered) = false)) ∧
    (∃ (s : State), ((mains s && s.hzn.latch && s.hzn.responding) = false)) ∧
    (∃ (ch : Fin 16) (value : BitVec 12) (s : State), ((mains s) = false)) ∧
    (∃ (s : State), ((mains s && s.svc.dawnDone && decide (s.hzn.checkNs + 3600000000000 ≤ s.clk.ns)) = false)) ∧
    (∃ (deviationPpm : Nat) (stopped : Bool) (s : State), ((mains s) = false)) :=
  ⟨⟨{ State.reset with hzn := { State.resetHorizon with powered := true } }, 0, 1200, false, by decide, by decide, by decide⟩,
   ⟨{ State.reset with hzn := { State.resetHorizon with powered := true } }, 0, 2401, 0, false, by decide, by decide, by decide⟩,
   ⟨{ tOn with hzn := { State.resetHorizon with powered := true } }, 4, 0, by decide, by decide, by decide, by decide, by decide⟩,
   ⟨{ State.reset with hzn := { State.resetHorizon with powered := true } }, 4, 0, by decide, by decide, by decide, by decide, by decide⟩,
   ⟨{ tOn with hzn := { State.resetHorizon with powered := true, latch := true } }, 4, 0, by decide, by decide, by decide, by decide⟩,
   ⟨{ tOn with hzn := { State.resetHorizon with powered := true } }, 7, 0, by decide, by decide⟩,
   ⟨{ tOn with hzn := { State.resetHorizon with powered := true, latch := true, responding := true } }, by decide, by decide, by decide⟩,
   ⟨tOn, 0, 750, by decide, by decide, by decide⟩,
   ⟨tOn, 3, 0, by decide, by decide, by decide⟩,
   ⟨tOn, 0, 0, by decide, by decide, .inl (by decide)⟩,
   ⟨{ tOn with hzn := { State.resetHorizon with channels := [(0, { chanReset with crossed := true })] } }, 0, 0, by decide, by decide, by decide, by decide⟩,
   ⟨{ tFlight tDawn (tCmd 0x0105 [] []) with hzn := { State.resetHorizon with calCmd := some ⟨0, 0, 0⟩ }, clk := { tDawn.clk with ns := 40000000000 } }, State.shippedLight, 0, ⟨0, 0, 0⟩, tCmd 0x0105 [] [], rfl, by decide, rfl, rfl⟩,
   ⟨State.reset, State.shippedLight, 0, .inl rfl⟩,
   ⟨{ tOn with svc := { State.resetService with calLoaded := true } }, [], by decide, by decide⟩,
   ⟨{ tOn with svc := { State.resetService with dawnDone := true }, clk := { tOn.clk with ns := 3600000000000 } }, by decide, by decide, by decide⟩,
   ⟨tOn, 500, by decide, by decide⟩,
   ⟨tOn, 1000, by decide, by decide, by decide⟩,
   ⟨{ tOn with hzn := { State.resetHorizon with skyTicks := true } }, 1001, false, by decide, by decide, by decide⟩,
   ⟨tOn, 1001, false, by decide, by decide, by decide⟩,
   ⟨0, 0, true, State.reset, by decide⟩,
   ⟨0, 0, State.reset, by decide⟩,
   ⟨State.reset, by decide⟩,
   ⟨0, 0, State.reset, by decide⟩,
   ⟨State.reset, by decide⟩,
   ⟨0, true, State.reset, by decide⟩⟩

theorem witness_PlatformSequenceAdvances :
    (∃ (s : State), (s.svc.dawnDone = true) ∧ (drives s = true) ∧ (s.plat.bootWanted ≠ 0) ∧ (s.plat.booting = 0) ∧ (s.plat.wait = .idle) ∧ (pcMagic (pcfgUse { s with plat := { s.plat with used := s.plat.pcfg, bootWanted := 0 } }) = false)) ∧
    (∃ (s : State), (s.svc.dawnDone = true) ∧ (drives s = true) ∧ (s.plat.bootWanted ≠ 0) ∧ (s.plat.booting = 0) ∧ (s.plat.wait = .idle) ∧ (pcMagic (pcfgUse { s with plat := { s.plat with used := s.plat.pcfg, bootWanted := 0 } }) = true)) ∧
    (∃ (s : State) (n : Fin 8) (d : Nat), (s.plat.wait = .pg n.val d)) ∧
    (∃ (s : State) (n : Fin 8), (∀ d, s.plat.wait ≠ .pg n.val d)) ∧
    (∃ (s : State) (n d : Nat), (s.plat.wait = .pg n d) ∧ (d ≤ s.clk.ns)) ∧
    (∃ (s : State), (∀ n d, s.plat.wait = .pg n d → s.clk.ns < d)) ∧
    (∃ (s : State) (d : Nat), (s.plat.wait = .delay d) ∧ (d ≤ s.clk.ns)) ∧
    (∃ (s : State) (d : Nat) (l : List Bytes), (s.plat.wait = .down d l) ∧ (d ≤ s.clk.ns)) ∧
    (∃ (s : State), (∀ d l, s.plat.wait = .delay d ∨ s.plat.wait = .down d l → s.clk.ns < d)) ∧
    (∃ (s : State), (s.plat.wait = .pmbus)) ∧
    (∃ (s : State) (b : Bool), (s.plat.wait ≠ .pmbus)) ∧
    (∃ (s : State), (wantsHost s = true) ∧ (wantsBmc s = false)) ∧
    (∃ (s : State), (wantsBmc s = true)) ∧
    (∃ (s : State), (wantsHost s = true) ∧ (s.plat.pwrgd = true) ∧ (s.plat.kind1Durable = true) ∧ (s.plat.pwrgdNs + 1000000 ≤ s.clk.ns)) ∧
    (∃ (s : State) (d : Nat) (m : BitVec 2), (s.plat.rebootAt = some (d, m, false)) ∧ (d ≤ s.clk.ns)) ∧
    (∃ (s : State) (d : Nat) (m : BitVec 2), (s.plat.rebootAt = some (d, m, true)) ∧ (d ≤ s.clk.ns)) ∧
    (∃ (s : State), (∀ r, s.plat.rebootAt = some r → s.clk.ns < r.1)) ∧
    (∃ (s : State), ((s.svc.dawnDone && drives s && s.plat.bootWanted != 0 && s.plat.booting == 0 && s.plat.wait == .idle) = false)) ∧
    (∃ (s : State), ((wantsHost s && s.plat.pwrgd && s.plat.kind1Durable && decide (s.plat.pwrgdNs + 1000000 ≤ s.clk.ns)) = false)) :=
  ⟨⟨{ tDawn with svc := { tDawn.svc with dawnDone := true }, plat := { State.resetPlatform with driven := true, bootWanted := 3 } }, by decide, by decide, by decide, by decide, by decide, by decide⟩,
   ⟨{ tDawn with svc := { tDawn.svc with dawnDone := true }, plat := { State.resetPlatform with driven := true, pcfg := some (toLe 4 0x55475043 ++ zeros 1404), bootWanted := 3 } }, by decide, by decide, by decide, by decide, by decide, by decide +kernel⟩,
   ⟨{ tDawn with plat := { State.resetPlatform with wait := .pg 2 5 } }, 2, 5, by decide⟩,
   ⟨State.reset, 3, by intro d; simp [State.reset, State.resetPlatform]⟩,
   ⟨{ tDawn with plat := { State.resetPlatform with wait := .pg 2 0 } }, 2, 0, by decide, by decide⟩,
   ⟨State.reset, by intro n d h; simp [State.reset, State.resetPlatform] at h⟩,
   ⟨{ tDawn with plat := { State.resetPlatform with wait := .delay 0 } }, 0, by decide, by decide⟩,
   ⟨{ tDawn with plat := { State.resetPlatform with wait := .down 0 [] } }, 0, [], by decide, by decide⟩,
   ⟨State.reset, by intro d l h; simp [State.reset, State.resetPlatform] at h⟩,
   ⟨{ tDawn with plat := { State.resetPlatform with wait := .pmbus } }, by decide⟩,
   ⟨State.reset, true, by decide⟩,
   ⟨{ tDawn with plat := { State.resetPlatform with booting := 1 } }, by decide, by decide⟩,
   ⟨{ tDawn with plat := { State.resetPlatform with booting := 3 } }, by decide⟩,
   ⟨{ tDawn with clk := { tDawn.clk with ns := 1000000 }, plat := { State.resetPlatform with booting := 1, pwrgd := true, kind1Durable := true } }, by decide, by decide, by decide, by decide⟩,
   ⟨{ tDawn with plat := { State.resetPlatform with rebootAt := some (0, 1, false) } }, 0, 1, by decide, by decide⟩,
   ⟨{ tDawn with plat := { State.resetPlatform with rebootAt := some (0, 3, true) } }, 0, 3, by decide, by decide⟩,
   ⟨State.reset, by intro r h; simp [State.reset, State.resetPlatform] at h⟩,
   ⟨State.reset, by decide⟩,
   ⟨State.reset, by decide⟩⟩

theorem witness_ManifestAndRecordsAreKept :
    (∃ (s : State) (alt : Bool) (b : Bytes), (s.plat.booting ≠ 0) ∧ (1 ≤ s.plat.stage) ∧ (s.plat.manifestDone = false) ∧ (s.plat.manFailed = alt) ∧ (manifestRead s alt b.length = true)) ∧
    (∃ (s : State) (d src rr : List (Nat × Bytes)), (bit s.plat.booting.toNat 1 = true) ∧ (s.plat.manifestOk = true) ∧ (ownerRead s true = true) ∧ (toRecover s true d = false) ∧ (recoveryFree s true d = true) ∧ (s.plat.bmcHashed = none)) ∧
    (∃ (s : State) (d src rr : List (Nat × Bytes)), (bit s.plat.booting.toNat 0 = true) ∧ (s.plat.manifestOk = true) ∧ (ownerRead s false = true) ∧ (toRecover s false d = false) ∧ (recoveryFree s false d = true) ∧ (s.plat.hostHashed = none) ∧ (s.plat.bmcHashed ≠ none ∨ wantsBmc s = false)) ∧
    (∃ (s : State) (d src rr : List (Nat × Bytes)), (bit s.plat.booting.toNat 1 = true) ∧ (s.plat.manifestOk = true) ∧ (ownerRead s true = true) ∧ (toRecover s true d = true) ∧ (s.plat.bmcHashed = none)) ∧
    (∃ (s : State) (d src rr : List (Nat × Bytes)), (bit s.plat.booting.toNat 0 = true) ∧ (s.plat.manifestOk = true) ∧ (ownerRead s false = true) ∧ (toRecover s false d = true) ∧ (s.plat.hostHashed = none) ∧ (s.plat.bmcHashed ≠ none ∨ wantsBmc s = false)) ∧
    (∃ (s : State) (b : Bytes), (nextDue s = some b) ∧ (s.svc.dawnDone = true)) ∧
    (∃ (s : State), (nextDue s = none ∨ s.svc.dawnDone = false)) ∧
    (∃ (s : State) (i : Fin 64) (r : Region), (s.plat.regions[i.val]? = some r) ∧ (i.val ∈ measuredIdx s) ∧ (s.svc.dawnDone = true) ∧ (i.val ∈ s.plat.readDone)) ∧
    (∃ (s : State) (i : Fin 64) (r : Region) (d : Bytes), (s.plat.regions[i.val]? = some r) ∧ (i.val ∈ measuredIdx s) ∧ (s.svc.dawnDone = true) ∧ (i.val ∈ s.plat.readDone) ∧ (d ≠ r.digest)) ∧
    (∃ (s : State) (i : Fin 64) (d : Bytes), (s.plat.regions[i.val]? = none ∨ i.val ∉ measuredIdx s ∨ s.svc.dawnDone = false ∨ i.val ∉ s.plat.readDone)) ∧
    (∃ (s : State) (k : Fin 4), (s.svc.dawnDone = true)) ∧
    (∃ (alternate : Bool) (bytes : Bytes) (s : State), ((s.plat.booting != 0 && decide (1 ≤ s.plat.stage) && !s.plat.manifestDone && alternate == s.plat.manFailed && manifestRead s alternate bytes.length) = false)) ∧
    (∃ (port : Fin 4) (s : State), ((s.svc.dawnDone) = false)) :=
  ⟨⟨{ tDawn with plat := { State.resetPlatform with booting := 1, stage := 1 } }, false, [], by decide, by decide, by decide, by decide, by decide⟩,
   ⟨tBadRegion, [(0, [9])], [], [], by decide, by decide, by decide, by decide, by decide, by decide⟩,
   ⟨{ tDawn with plat := { State.resetPlatform with booting := 1, manifestOk := true } }, [], [], [], by decide, by decide, by decide, by decide, by decide, by decide, .inr (by decide)⟩,
   ⟨tSourced, [], [], [], by decide, by decide, by decide, by decide, by decide⟩,
   ⟨{ tSourced with plat := { tSourced.plat with booting := 1, regions := [{ tRegion with bmc := false, recovery := 1 }] } }, [], [], [], by decide, by decide, by decide, by decide, by decide, .inr (by decide)⟩,
   ⟨{ tDawn with svc := { tDawn.svc with dawnDone := true }, plat := { State.resetPlatform with recordDue := [[2]] } }, [2], by decide, by decide⟩,
   ⟨State.reset, .inl (by decide)⟩,
   ⟨{ tMeasured with plat := { tMeasured.plat with readDone := [0] } }, 0, tRegion, by decide, by decide, by decide, by decide⟩,
   ⟨{ tMeasured with plat := { tMeasured.plat with readDone := [0] } }, 0, tRegion, [1], by decide, by decide, by decide, by decide, by decide⟩,
   ⟨State.reset, 0, [], .inl (by decide)⟩,
   ⟨tMeasured, 0, by decide⟩,
   ⟨true, [], State.reset, by decide⟩,
   ⟨0, State.reset, by decide⟩⟩

theorem witness_LensTransactionsAreJudged :
    (∃ (s : State) (x : LensTxn), (s.clk.powered = true)) ∧
    (∃ (s : State) (x : LensTxn), (portMaster (activeBank s) x.port.val ≠ masterNum x.master ∨ portBusy s x = true)) ∧
    (∃ (s : State) (x : LensTxn), (portMaster (activeBank s) x.port.val = masterNum x.master) ∧ (portBusy s x = false) ∧ ((let a := if x.master then (activeBank s).allowBmc else (activeBank s).allowHost; (txnClass s x = 0 ∨ bit (a.getD (x.opcode.toNat / 8) 0).toNat (x.opcode.toNat % 8) = false)))) ∧
    (∃ (s : State) (x : LensTxn), (portMaster (activeBank s) x.port.val = masterNum x.master) ∧ (portBusy s x = false) ∧ ((let a := if x.master then (activeBank s).allowBmc else (activeBank s).allowHost; bit (a.getD (x.opcode.toNat / 8) 0).toNat (x.opcode.toNat % 8) = true)) ∧ (4 ≤ txnClass s x)) ∧
    (∃ (s : State) (x : LensTxn) (n ok : Nat), (portMaster (activeBank s) x.port.val = masterNum x.master) ∧ (portBusy s x = false) ∧ ((let a := if x.master then (activeBank s).allowBmc else (activeBank s).allowHost; bit (a.getD (x.opcode.toNat / 8) 0).toNat (x.opcode.toNat % 8) = true)) ∧ (0 < txnClass s x) ∧ (txnClass s x < 4) ∧ (touched s (activeBank s) x (txnClass s x) = (n, ok))) ∧
    (∃ (s : State) (m : Bool) (k : Fin 4) (i : InFlight), (s.plat.inflight.find? (fun i => i.master == m && i.port == k.val) = some i)) ∧
    (∃ (s : State) (m : Bool) (k : Fin 4), (s.plat.inflight.find? (fun i => i.master == m && i.port == k.val) = none)) ∧
    (∃ (t : LensTxn) (s : State), ((s.clk.powered) = false)) :=
  ⟨⟨tOn, { master := true, port := 0, opcode := 3, second := 0, addr := 0, count := 0 }, by decide⟩,
   ⟨tOn, { master := true, port := 0, opcode := 3, second := 0, addr := 0, count := 0 }, .inl (by decide)⟩,
   ⟨tLens [], { master := true, port := 0, opcode := 3, second := 0, addr := 0, count := 0 }, by decide, by decide, .inr (by decide)⟩,
   ⟨tLens (List.replicate 32 0xFF), { master := true, port := 0, opcode := 5, second := 0, addr := 0, count := 0 }, by decide, by decide, by decide, by decide +kernel⟩,
   ⟨tLens (List.replicate 32 0xFF), { master := true, port := 0, opcode := 3, second := 0, addr := 0, count := 0 }, 0, 0, by decide, by decide, by decide, by decide +kernel, by decide +kernel, by decide +kernel⟩,
   ⟨{ tDawn with plat := { State.resetPlatform with inflight := [{ master := true, port := 1, bank := false }] } }, true, 1, { master := true, port := 1, bank := false }, by decide⟩,
   ⟨State.reset, true, 1, by decide⟩,
   ⟨{ master := true, port := 0, opcode := 3, second := 0, addr := 0, count := 0 }, State.reset, by decide⟩⟩

theorem witness_RecoveryLoaderFollowsItsFrames :
    (∃ (s : State), (s.svc.recovery = true) ∧ (s.fw.loaderLen = none) ∧ (s.fw.loaderNs + 1000000000 ≤ s.clk.ns)) ∧
    (∃ (s : State) (n : BitVec 32), (s.svc.recovery = true) ∧ (n.toNat ≤ 1048576)) ∧
    (∃ (s : State) (n : BitVec 32), (s.svc.recovery = true) ∧ (1048576 < n.toNat)) ∧
    (∃ (s : State) (n : BitVec 32), (s.svc.recovery = true)) ∧
    (∃ (s : State) (o : BitVec 32) (d : Bytes) (n : Nat), (s.svc.recovery = true) ∧ (s.fw.loaderLen = some n) ∧ (d ≠ []) ∧ (d.length ≤ 4096) ∧ (o.toNat = s.fw.loaderBuf.length) ∧ (s.fw.loaderBuf.length + d.length ≤ n)) ∧
    (∃ (s : State) (o : BitVec 32) (d : Bytes) (n : Nat), (s.svc.recovery = true) ∧ (s.fw.loaderLen = some n) ∧ (d ≠ []) ∧ (d.length ≤ 4096) ∧ (o.toNat ≠ s.fw.loaderBuf.length)) ∧
    (∃ (s : State) (o : BitVec 32) (d : Bytes) (ok : Bool), (s.svc.recovery = true) ∧ (s.fw.loaderLen = none ∨ ok = false ∨ d = [] ∨ 4096 < d.length ∨ (o.toNat = s.fw.loaderBuf.length ∧ ∃ n, s.fw.loaderLen = some n ∧ n < s.fw.loaderBuf.length + d.length))) ∧
    (∃ (s : State), (s.svc.recovery = true) ∧ (s.fw.loaderLen.isSome = true)) ∧
    (∃ (s : State) (ok : Bool), (s.svc.recovery = true) ∧ (ok = false ∨ s.fw.loaderLen = none)) ∧
    (∃ (s : State), (s.svc.recovery = true) ∧ (s.fw.loaderLen.isSome = true) ∧ (s.fw.loaderNs + 2000000000 < s.clk.ns)) ∧
    (∃ (s : State), ((s.svc.recovery && s.fw.loaderLen.isNone && decide (s.fw.loaderNs + 1000000000 ≤ s.clk.ns)) = false)) ∧
    (∃ (length : BitVec 32) (crcOk : Bool) (s : State), ((s.svc.recovery) = false)) ∧
    (∃ (offset : BitVec 32) (data : Bytes) (crcOk : Bool) (s : State), ((s.svc.recovery) = false)) ∧
    (∃ (crcOk : Bool) (s : State), ((s.svc.recovery) = false)) ∧
    (∃ (s : State), ((s.svc.recovery && s.fw.loaderLen.isSome && decide (s.fw.loaderNs + 2000000000 < s.clk.ns)) = false)) :=
  ⟨⟨{ tRec with clk := { tRec.clk with ns := 1000000000 } }, by decide, by decide, by decide⟩,
   ⟨tRec, 100, by decide, by decide⟩,
   ⟨tRec, 1048577, by decide, by decide⟩,
   ⟨tRec, 100, by decide⟩,
   ⟨{ tRec with fw := { tRec.fw with loaderLen := some 4 } }, 0, [1, 2], 4, by decide, by decide, by decide, by decide, by decide, by decide⟩,
   ⟨{ tRec with fw := { tRec.fw with loaderLen := some 4 } }, 1, [1, 2], 4, by decide, by decide, by decide, by decide, by decide⟩,
   ⟨tRec, 1, [1, 2], true, by decide, .inl (by decide)⟩,
   ⟨{ tRec with fw := { tRec.fw with loaderLen := some 4 } }, by decide, by decide⟩,
   ⟨tRec, true, by decide, .inr (by decide)⟩,
   ⟨{ tRec with fw := { tRec.fw with loaderLen := some 4 }, clk := { tRec.clk with ns := 2000000001 } }, by decide, by decide, by decide⟩,
   ⟨State.reset, by decide⟩,
   ⟨0, true, State.reset, by decide⟩,
   ⟨0, [], true, State.reset, by decide⟩,
   ⟨true, State.reset, by decide⟩,
   ⟨State.reset, by decide⟩⟩

theorem witness_MctpControlIsServed :
    (∃ (s : State) (port : Fin 3) (src : BitVec 8) (seq : BitVec 2) (tag : BitVec 4) (body : Bytes) (k : Nat), (portServes s port.val = true) ∧ (body.length ≤ 64) ∧ (typeKnown body = true) ∧ (bufferOf s port.val src tag = none) ∧ (freeBuffer s = some k)) ∧
    (∃ (s : State) (port : Fin 3) (src : BitVec 8) (seq : BitVec 2) (tag : BitVec 4) (eom : Bool) (body : Bytes), (portServes s port.val = true) ∧ (body.length ≤ 64) ∧ (typeKnown body = false) ∧ (bufferOf s port.val src tag = none)) ∧
    (∃ (s : State) (port : Fin 3) (src : BitVec 8) (seq : BitVec 2) (tag : BitVec 4) (eom : Bool) (body : Bytes), (portServes s port.val = true) ∧ (body.length ≤ 64) ∧ (typeKnown body = true) ∧ (bufferOf s port.val src tag = none) ∧ (freeBuffer s = none)) ∧
    (∃ (s : State) (k : Fin 8) (b : Reasm), (s.mbus.buffers.look k.val = some b) ∧ (b.lastNs + 100000000 < s.clk.ns)) ∧
    (∃ (s : State) (port : Fin 3) (src dst : BitVec 8) (eom : Bool) (seq : BitVec 2) (tag : BitVec 4) (body : Bytes), (portServes s port.val = true) ∧ (body.length ≤ 64) ∧ (dst = s.mbus.eid ∨ dst = 0 ∨ dst = 0xFF)) ∧
    (∃ (s : State) (port : Fin 3) (src dst : BitVec 8) (eom : Bool) (seq : BitVec 2) (tag : BitVec 4) (body : Bytes), (portServes s port.val = true) ∧ (body.length ≤ 64) ∧ (dst = s.mbus.eid ∨ dst = 0 ∨ dst = 0xFF)) ∧
    (∃ (s : State) (k : Fin 8), (∀ b, s.mbus.buffers.look k.val = some b → s.clk.ns ≤ b.lastNs + 100000000)) ∧
    (∃ (s : State) (port : Fin 3) (eid : BitVec 8), (portServes s port.val = true) ∧ (eid = 0 ∨ eid = 0xFF)) ∧
    (∃ (s : State) (port : Fin 3) (eid : BitVec 8), (portServes s port.val = true) ∧ (eid ≠ 0) ∧ (eid ≠ 0xFF)) ∧
    (∃ (s : State) (port : Fin 3), (portServes s port.val = true)) ∧
    (∃ (s : State) (port : Fin 3), (portServes s port.val = true)) ∧
    (∃ (s : State) (port : Fin 3), (portServes s port.val = true)) ∧
    (∃ (s : State) (port : Fin 3), (portServes s port.val = true)) ∧
    (∃ (port : Fin 3) (src : BitVec 8) (dst : BitVec 8) (som : Bool) (eom : Bool) (seq : BitVec 2) (tag : BitVec 4) (body : Bytes) (s : State), ((portServes s port.val && decide (body.length ≤ 64) && (dst == s.mbus.eid || dst == 0 || dst == 0xFF)) = false)) ∧
    (∃ (port : Fin 3) (eid : BitVec 8) (s : State), ((portServes s port.val) = false)) ∧
    (∃ (port : Fin 3) (s : State), ((portServes s port.val) = false)) ∧
    (∃ (port : Fin 3) (s : State), ((portServes s port.val) = false)) ∧
    (∃ (port : Fin 3) (s : State), ((portServes s port.val) = false)) ∧
    (∃ (port : Fin 3) (s : State), ((portServes s port.val) = false)) :=
  ⟨⟨tDawn, 0, 9, 0, 0, [5], 0, by decide, by decide, by decide, by decide, by decide⟩,
   ⟨tDawn, 0, 9, 0, 0, true, [1], by decide, by decide, by decide, by decide⟩,
   ⟨tFullBuffers, 0, 9, 0, 0, true, [5], by decide, by decide, by decide, by decide, by decide⟩,
   ⟨{ tFullBuffers with clk := { tFullBuffers.clk with ns := 200000000 } }, 0, tReasm, by decide, by decide⟩,
   ⟨tDawn, 0, 9, 0, true, 0, 0, [5], by decide, by decide, .inr (.inl rfl)⟩,
   ⟨tDawn, 0, 9, 0, true, 0, 0, [5], by decide, by decide, .inr (.inl rfl)⟩,
   ⟨State.reset, 0, by intro b h; simp [State.reset, State.resetMbus, Tab.look] at h⟩,
   ⟨tDawn, 0, 0, by decide, by decide⟩,
   ⟨tDawn, 0, 9, by decide, by decide, by decide⟩,
   ⟨tDawn, 0, by decide⟩,
   ⟨tDawn, 0, by decide⟩,
   ⟨tDawn, 0, by decide⟩,
   ⟨tDawn, 0, by decide⟩,
   ⟨0, 0, 0, true, true, 0, 0, [], State.reset, by decide⟩,
   ⟨0, 0, State.reset, by decide⟩,
   ⟨0, State.reset, by decide⟩,
   ⟨0, State.reset, by decide⟩,
   ⟨0, State.reset, by decide⟩,
   ⟨0, State.reset, by decide⟩⟩

theorem witness_SpdmNegotiationIsServedToAnyone :
    (∃ (s : State) (src : SpdmSource) (a : Audience) (act : State → State), (portServes s src.port.val = false)) ∧
    (∃ (s : State) (src : SpdmSource) (a : Audience) (act : State → State), (portServes s src.port.val = true) ∧ (src.session.isSome = true) ∧ (sourceSession s src = none)) ∧
    (∃ (s : State) (src : SpdmSource) (a : Audience) (act : State → State), (portServes s src.port.val = true) ∧ (src.session = none)) ∧
    (∃ (s : State) (src : SpdmSource) (a : Audience) (act : State → State) (x : SpdmSession), (portServes s src.port.val = true) ∧ (sourceSession s src = some x)) ∧
    (∃ (s : State) (src : SpdmSource), (heard src s)) ∧
    (∃ (s : State) (src : SpdmSource) (flags : BitVec 32), (heard src s) ∧ ((dialogOf s src.eid).isSome = true)) ∧
    (∃ (s : State) (src : SpdmSource) (a b c d e f g : BitVec 32), (heard src s) ∧ ((dialogOf s src.eid).isSome = true) ∧ (offerFits ⟨a.toNat, b.toNat, c.toNat, d.toNat, e.toNat, f.toNat, g.toNat⟩ = true)) ∧
    (∃ (s : State) (src : SpdmSource) (a b c d e f g : BitVec 32), (heard src s) ∧ ((dialogOf s src.eid).isSome = true) ∧ (offerFits ⟨a.toNat, b.toNat, c.toNat, d.toNat, e.toNat, f.toNat, g.toNat⟩ = false)) ∧
    (∃ (s : State) (src : SpdmSource), (heard src s) ∧ (agreed s src.eid = true)) ∧
    (∃ (s : State) (src : SpdmSource) (offset length : Nat), (heard src s) ∧ (agreed s src.eid = true)) ∧
    (∃ (s : State) (src : SpdmSource) (slot offset length : Nat), (heard src s) ∧ (agreed s src.eid = true) ∧ (slot ≠ 0)) ∧
    (∃ (s : State) (src : SpdmSource) (q : BitVec 16) (x : Bytes), (heard src s) ∧ (agreed s src.eid = true) ∧ (s.mbus.sessions.length < 4)) ∧
    (∃ (s : State) (src : SpdmSource) (q : BitVec 16) (x : Bytes), (heard src s) ∧ (agreed s src.eid = true) ∧ (4 ≤ s.mbus.sessions.length)) ∧
    (∃ (s : State) (src : SpdmSource) (f : BitVec 32) (a b c d e g h : BitVec 32), (heard src s) ∧ (dialogOf s src.eid = none)) ∧
    (∃ (s : State) (src : SpdmSource) (slot offset length : Nat) (q : BitVec 16) (x : Bytes), (heard src s) ∧ (agreed s src.eid = false)) ∧
    (∃ (s : State) (src : SpdmSource) (x : SpdmSession) (chain signature verify : Bytes), (portServes s src.port.val = true) ∧ (sourceSession s src = some x) ∧ (x.handshake = true) ∧ (x.ended = false) ∧ ((meter src (heardIn src x s)).1 = true)) :=
  ⟨⟨State.reset, stranger, .anyone, id, by decide⟩,
   ⟨tDawn, secured, .anyone, id, by decide, by decide, by decide⟩,
   ⟨tDawn, stranger, .anyone, id, by decide, by decide⟩,
   ⟨tSecured, secured, .anyone, id, tSession, by decide, by decide⟩,
   ⟨tDawn, stranger, by decide⟩,
   ⟨tAgreed, stranger, 0, by decide, by decide⟩,
   ⟨tAgreed, stranger, 0x80, 2, 0x40, 0x10, 2, 0x80, 1, by decide, by decide, by decide⟩,
   ⟨tAgreed, stranger, 0, 2, 0x40, 0x10, 2, 0x80, 1, by decide, by decide, by decide⟩,
   ⟨tAgreed, stranger, by decide, by decide⟩,
   ⟨tAgreed, stranger, 0, 0, by decide, by decide⟩,
   ⟨tAgreed, stranger, 1, 0, 0, by decide, by decide, by decide⟩,
   ⟨tAgreed, stranger, 0, [], by decide, by decide, by decide⟩,
   ⟨tFour, stranger, 0, [], by decide, by decide, by decide⟩,
   ⟨tDawn, stranger, 0, 0, 0, 0, 0, 0, 0, 0, by decide, by decide⟩,
   ⟨tDawn, stranger, 0, 0, 0, 0, [], by decide, by decide⟩,
   ⟨tHandshake, inHand, { tSession with handshake := true, known := false }, [], [], [], by decide, by decide, by decide, by decide, by decide⟩⟩

theorem witness_SecuredRequestsAreServed :
    (∃ (s : State) (src : SpdmSource) (x : SpdmSession) (nonce : Bytes), (inSession src x s)) ∧
    (∃ (s : State) (src : SpdmSource) (x : SpdmSession) (slot : Nat) (nonce : Bytes), (inSession src x s) ∧ (slot ≠ 0)) ∧
    (∃ (s : State) (src : SpdmSource) (x : SpdmSession) (i : BitVec 8) (nonce : Bytes), (inSession src x s) ∧ (i ≠ 0) ∧ (i = 0xFF ∨ (∃ b ∈ measurementBlocks s, b.1 = i.toNat))) ∧
    (∃ (s : State) (src : SpdmSource) (x : SpdmSession) (i : BitVec 8) (nonce : Bytes), (inSession src x s) ∧ (i ≠ 0) ∧ (i ≠ 0xFF) ∧ (∀ b ∈ measurementBlocks s, b.1 ≠ i.toNat)) ∧
    (∃ (s : State) (src : SpdmSource) (x : SpdmSession) (nonce : Bytes), (inSession src x s)) ∧
    (∃ (s : State) (src : SpdmSource) (x : SpdmSession), (inSession src x s)) ∧
    (∃ (s : State) (src : SpdmSource) (x : SpdmSession) (op tag : BitVec 8), (inSession src x s) ∧ (op = 1 ∨ op = 2 ∨ op = 3)) ∧
    (∃ (s : State) (src : SpdmSource) (x : SpdmSession) (op tag : BitVec 8), (inSession src x s) ∧ (op = 0 ∨ 3 < op.toNat)) ∧
    (∃ (s : State) (src : SpdmSource) (x : SpdmSession), (inSession src x s)) ∧
    (∃ (s : State) (src : SpdmSource) (x : SpdmSession) (h : BitVec 8) (size : Nat) (data : Bytes), (inSession src x s) ∧ (data.length ≤ 4084) ∧ (data.length ≤ size) ∧ (size ≤ 65536)) ∧
    (∃ (s : State) (src : SpdmSource) (x : SpdmSession) (h : BitVec 8) (n : BitVec 16) (last : Bool) (size : Nat) (data : Bytes), (inSession src x s) ∧ ((let c : Chunking := if n = 0 then { eid := src.eid, handle := h, data := [], next := 0, size := size } else (s.mbus.chunksIn.find? (fun c => c.eid == src.eid && c.handle == h)).getD { eid := src.eid, handle := h, data := [], next := 0, size := 0 };
  n.toNat ≠ c.next ∨ 4084 < data.length ∨ 65536 < c.size ∨ c.size < c.data.length + data.length ∨ (last = true ∧ c.data.length + data.length ≠ c.size)))) ∧
    (∃ (s : State) (src : SpdmSource) (x : SpdmSession) (h : BitVec 8) (n : BitVec 16) (last : Bool) (size : Nat) (data : Bytes), (inSession src x s) ∧ ((let c : Chunking := if n = 0 then { eid := src.eid, handle := h, data := [], next := 0, size := size } else (s.mbus.chunksIn.find? (fun c => c.eid == src.eid && c.handle == h)).getD { eid := src.eid, handle := h, data := [], next := 0, size := 0 };
  n.toNat = c.next ∧ data.length ≤ 4084 ∧ c.size ≤ 65536 ∧ c.data.length + data.length ≤ c.size ∧ (last = true → c.data.length + data.length = c.size)))) ∧
    (∃ (s : State) (src : SpdmSource) (x : SpdmSession) (h : BitVec 8) (n : BitVec 16), (inSession src x s) ∧ (∀ c, s.mbus.chunksOut.find? (fun d => d.eid == src.eid && d.handle == h) = some c → n.toNat ≠ c.next)) ∧
    (∃ (s : State) (src : SpdmSource) (x : SpdmSession) (c : Chunking) (n : BitVec 16), (inSession src x s) ∧ (s.mbus.chunksOut.find? (fun d => d.eid == src.eid && d.handle == c.handle) = some c) ∧ (c.next = n.toNat)) ∧
    (∃ (s : State) (src : SpdmSource) (x : SpdmSession) (c : Chunking), (inSession src x s) ∧ (s.mbus.chunksOut.find? (fun d => d.eid == src.eid && d.handle == c.handle) = some c) ∧ (c.next = 0) ∧ (c.data.length ≤ 4080)) ∧
    (∃ (s : State) (src : SpdmSource) (x : SpdmSession) (header payload : Bytes), (inSession src x s) ∧ (header.length = 64) ∧ (s.life.fenced = false)) ∧
    (∃ (s : State) (src : SpdmSource) (x : SpdmSession) (std ven : BitVec 16) (header payload : Bytes), (inSession src x s) ∧ (std ≠ 3 ∨ ven ≠ 0x1FA7 ∨ header.length ≠ 64)) ∧
    (∃ (s : State) (src : SpdmSource) (x : SpdmSession) (header payload : Bytes), (inSession src x s) ∧ (header.length = 64) ∧ (s.life.fenced = true)) ∧
    (∃ (s : State) (i : BitVec 32), (∀ x, s.mbus.sessions.find? (fun y => y.id == i) = some x → s.clk.ns < x.lastNs + 60000000000)) ∧
    (∃ (s : State) (x : SpdmSession), (s.mbus.sessions.find? (fun y => y.id == x.id) = some x) ∧ (x.lastNs + 60000000000 ≤ s.clk.ns)) :=
  ⟨⟨tSecured, secured, tSession, [], by decide⟩,
   ⟨tSecured, secured, tSession, 1, [], by decide, by decide⟩,
   ⟨tSecured, secured, tSession, 1, [], by decide, by decide, .inr ⟨_, List.mem_cons_self .., rfl⟩⟩,
   ⟨tSecured, secured, tSession, 9, [], by decide, by decide, by decide, by decide⟩,
   ⟨tSecured, secured, tSession, [], by decide⟩,
   ⟨tSecured, secured, tSession, by decide⟩,
   ⟨tSecured, secured, tSession, 1, 0, by decide, by decide⟩,
   ⟨tSecured, secured, tSession, 0, 0, by decide, .inl rfl⟩,
   ⟨tSecured, secured, tSession, by decide⟩,
   ⟨tSecured, secured, tSession, 1, 4, [1], by decide, by decide, by decide, by decide⟩,
   ⟨tSecured, secured, tSession, 1, 0, true, 4, [1], by decide, by decide⟩,
   ⟨tSecured, secured, tSession, 1, 0, false, 4, [1], by decide, by decide⟩,
   ⟨tSecured, secured, tSession, 1, 0, by decide, by intro c h; simp [tSecured, State.resetMbus] at h⟩,
   ⟨tChunked, secured, tSession, tChunk, 0, by decide, by decide, by decide⟩,
   ⟨tChunked, secured, tSession, tChunk, by decide, by decide, by decide, by decide⟩,
   ⟨tSecured, secured, tSession, zeros 64, [], by decide, by decide, by decide⟩,
   ⟨tSecured, secured, tSession, 1, 0x1FA7, zeros 64, [], by decide, by decide⟩,
   ⟨{ tSecured with life := { tSecured.life with fenced := true } }, secured, tSession, zeros 64, [], by decide, by decide, by decide⟩,
   ⟨State.reset, 0, by intro x h; simp [State.reset, State.resetMbus] at h⟩,
   ⟨{ tSecured with clk := { tSecured.clk with ns := 60000000000 } }, tSession, by decide, by decide⟩⟩

theorem witness_BusEventsAreCountedAndRetried :
    (∃ (s : State) (port : Fin 3) (used : Nat), (portServes s port.val = true) ∧ ((busPort s port.val).losses < 7) ∧ (s.mbus.ports.length = 3)) ∧
    (∃ (s : State) (port : Fin 3) (used : Nat), (portServes s port.val = true) ∧ (7 ≤ (busPort s port.val).losses) ∧ (s.mbus.ports.length = 3)) ∧
    (∃ (s : State) (port : Fin 3), (∀ n, (busPort s port.val).backoff = some n → s.clk.ns < n)) ∧
    (∃ (s : State) (port : Fin 3) (n : Nat), ((busPort s port.val).backoff = some n) ∧ (n ≤ s.clk.ns) ∧ (s.mbus.ports.length = 3)) ∧
    (∃ (s : State) (port : Fin 3), (portServes s port.val = true)) ∧
    (∃ (s : State), (portServes s 2 = true) ∧ ((busPort s 2).retries < 3)) ∧
    (∃ (s : State), (portServes s 2 = true) ∧ (3 ≤ (busPort s 2).retries)) ∧
    (∃ (s : State), (portServes s 2 = true)) ∧
    (∃ (s : State), (portServes s 2 = true)) ∧
    (∃ (s : State), (portServes s 2 = true)) ∧
    (∃ (s : State) (port : Fin 3), (portServes s port.val = true) ∧ (port.val < 2)) ∧
    (∃ (s : State) (port : Fin 3), (portServes s port.val = true) ∧ (port.val < 2) ∧ (s.mbus.ports.length = 3)) ∧
    (∃ (s : State) (port : Fin 3) (a : BitVec 7), (portServes s port.val = true) ∧ (port.val < 2) ∧ (s.mbus.ports.length = 3)) ∧
    (∃ (port : Fin 3) (used : Nat) (s : State), ((portServes s port.val) = false)) ∧
    (∃ (port : Fin 3) (s : State), ((portServes s port.val) = false)) ∧
    (∃ (port : Fin 3) (s : State), ((portServes s port.val && port.val == 2) = false)) ∧
    (∃ (port : Fin 3) (s : State), ((portServes s port.val && port.val == 2) = false)) ∧
    (∃ (port : Fin 3) (freed : Bool) (s : State), ((portServes s port.val && port.val == 2) = false)) ∧
    (∃ (port : Fin 3) (s : State), ((portServes s port.val && decide (port.val < 2)) = false)) ∧
    (∃ (port : Fin 3) (s : State), ((portServes s port.val && decide (port.val < 2)) = false)) ∧
    (∃ (port : Fin 3) (addr : BitVec 7) (s : State), ((portServes s port.val && decide (port.val < 2)) = false)) :=
  ⟨⟨tDawn, 0, 3, by decide, by decide, by decide⟩,
   ⟨tSeven, 0, 0, by decide, by decide, by decide⟩,
   ⟨State.reset, 0, by decide⟩,
   ⟨tBackoff, 0, 0, by decide, by decide, by decide⟩,
   ⟨tDawn, 2, by decide⟩,
   ⟨tDawn, by decide, by decide⟩,
   ⟨tRetried, by decide, by decide⟩,
   ⟨tDawn, by decide⟩,
   ⟨tDawn, by decide⟩,
   ⟨tDawn, by decide⟩,
   ⟨tDawn, 1, by decide, by decide⟩,
   ⟨tDawn, 1, by decide, by decide, by decide⟩,
   ⟨tDawn, 1, 9, by decide, by decide, by decide⟩,
   ⟨0, 0, State.reset, by decide⟩,
   ⟨0, State.reset, by decide⟩,
   ⟨0, State.reset, by decide⟩,
   ⟨0, State.reset, by decide⟩,
   ⟨0, true, State.reset, by decide⟩,
   ⟨0, State.reset, by decide⟩,
   ⟨0, State.reset, by decide⟩,
   ⟨0, 0, State.reset, by decide⟩⟩

theorem witness_DebugPortInstructionsAct :
    (∃ (s : State) (b kb sig : Bytes) (w : Bool) (g : DapRegion) (a : BitVec 40) (d : BitVec 64) (c : Fin 8) (op : BitVec 8) (n : Nat) (x : Byte), (s.clk.powered = false)) ∧
    (∃ (s : State) (b kb sig : Bytes) (w : Bool) (g : DapRegion) (a : BitVec 40) (d : BitVec 64) (c : Fin 8) (op : BitVec 8) (n : Nat) (x : Byte), (s.clk.powered = true)) ∧
    (∃ (s : State), (s.clk.powered = true)) ∧
    (∃ (s : State), (s.clk.powered = true) ∧ (irPermitted s 0x01 = true)) ∧
    (∃ (s : State), (s.clk.powered = true) ∧ (irPermitted s 0xFF = true)) ∧
    (∃ (s : State) (b : Bytes), (s.clk.powered = true) ∧ (irPermitted s 0x02 = true)) ∧
    (∃ (s : State) (b : Bytes), (s.clk.powered = true) ∧ (irPermitted s 0x03 = true)) ∧
    (∃ (s : State), (s.clk.powered = true) ∧ (irPermitted s 0x04 = true)) ∧
    (∃ (s : State), (s.clk.powered = true) ∧ (irPermitted s 0x05 = true)) ∧
    (∃ (s : State), (s.clk.powered = true) ∧ (irPermitted s 0x10 = true)) ∧
    (∃ (s : State), (s.clk.powered = true) ∧ (irPermitted s 0x11 = true)) ∧
    (∃ (s : State) (h kb sig : Bytes), (s.clk.powered = true) ∧ (irPermitted s 0x12 = true)) ∧
    (∃ (s : State) (c : Bytes) (n : BitVec 64), (s.life.challenge = some (c, n)) ∧ (n.toNat + secTicks 600 ≤ s.hzn.time.toNat)) ∧
    (∃ (s : State) (a : BitVec 40) (d : BitVec 64), (s.clk.powered = true) ∧ (irPermitted s 0x20 = true)) ∧
    (∃ (s : State) (a : BitVec 40) (d : BitVec 64), (s.clk.powered = true) ∧ (irPermitted s 0x20 = true)) ∧
    (∃ (s : State) (a : BitVec 40) (d : BitVec 64), (s.clk.powered = true) ∧ (irPermitted s 0x20 = true)) ∧
    (∃ (s : State) (a : BitVec 40) (d : BitVec 64), (s.clk.powered = true) ∧ (irPermitted s 0x20 = true)) ∧
    (∃ (s : State) (core : Fin 8) (d : BitVec 64), (s.clk.powered = true) ∧ (irPermitted s 0x21 = true)) ∧
    (∃ (s : State) (core : Fin 8) (op : BitVec 8) (d : BitVec 64), (s.clk.powered = true) ∧ (irPermitted s 0x21 = true)) ∧
    (∃ (s : State) (op : BitVec 8) (d : BitVec 64), (s.clk.powered = true) ∧ (irPermitted s 0x22 = true)) ∧
    (∃ (s : State) (op : BitVec 8) (d : BitVec 64), (s.clk.powered = true) ∧ (irPermitted s 0x30 = true)) ∧
    (∃ (s : State) (a : Nat) (b : Byte), (s.clk.powered = true) ∧ (irPermitted s 0x31 = true) ∧ (lifeCycle s = .raw) ∧ (factoryField a = true)) ∧
    (∃ (s : State) (a : Nat) (b : Byte), (s.clk.powered = true) ∧ (irPermitted s 0x31 = true) ∧ (lifeCycle s = .raw) ∧ (factoryField a = false)) ∧
    (∃ (s : State) (a : Nat) (b : Byte), (s.clk.powered = true) ∧ (irPermitted s 0x31 = true) ∧ (lifeCycle s ≠ .raw)) ∧
    (∃ (s : State), ((s.clk.powered) = false)) ∧
    (∃ (s : State), ((s.life.challenge.isSome && (challengeLive s).isNone) = false)) :=
  ⟨⟨State.reset, [], [], [], false, .other, 0, 0, 0, 0, 0, 0, by decide⟩,
   ⟨tOn, [], [], [], false, .other, 0, 0, 0, 0, 0, 0, by decide⟩,
   ⟨tOn, by decide⟩,
   ⟨tOn, by decide, by decide⟩,
   ⟨tOn, by decide, by decide⟩,
   ⟨tOn, [5], by decide, by decide⟩,
   ⟨tRaw, [5], by decide, by decide⟩,
   ⟨tRaw, by decide, by decide⟩,
   ⟨tRaw, by decide, by decide⟩,
   ⟨tOn, by decide, by decide⟩,
   ⟨tOn, by decide, by decide⟩,
   ⟨tOn, [], [], [], by decide, by decide⟩,
   ⟨{ State.reset with life := { State.resetLife with challenge := some ([], 0) }, hzn := { State.resetHorizon with time := 19660800 } }, [], 0, by decide, by decide⟩,
   ⟨tRaw, 5, 0, by decide, by decide⟩,
   ⟨tRaw, 5, 0, by decide, by decide⟩,
   ⟨tRaw, 5, 0, by decide, by decide⟩,
   ⟨tRaw, 5, 0, by decide, by decide⟩,
   ⟨tRaw, 5, 0, by decide, by decide⟩,
   ⟨tRaw, 5, 2, 0, by decide, by decide⟩,
   ⟨tRaw, 5, 0, by decide, by decide⟩,
   ⟨tRaw, 5, 0, by decide, by decide⟩,
   ⟨tRaw, 5, 0, by decide, by decide, by decide, by decide⟩,
   ⟨tRaw, 0x5000, 0, by decide, by decide, by decide, by decide⟩,
   ⟨tTest, 0x900, 0, by decide, by decide, by decide⟩,
   ⟨State.reset, by decide⟩,
   ⟨State.reset, by decide⟩⟩

theorem witness_LinkEventsTrainAcknowledgeAndReplay :
    (∃ (s : State) (port : Bool) (n : Nat), ((getDomain s (portDomain port)).on = true) ∧ ((getDomain s (portDomain port)).katPass = true) ∧ (s.svc.phase ≠ .dark) ∧ (n = 1 ∨ n = 2 ∨ n = 4) ∧ (n ≤ lanesLeft (iluPort s port))) ∧
    (∃ (s : State) (port : Bool), ((iluPort s port).up = true)) ∧
    (∃ (s : State), (s.ilu.mirror ≠ .active)) ∧
    (∃ (s : State) (c : Cmd) (v : Nat) (m : Bytes), (s.ilu.mirror = .active) ∧ (s.prism.cmds = [c]) ∧ (c.acked = false) ∧ (c.verdict = some (v, m))) ∧
    (∃ (s : State) (port : Bool) (q : BitVec 16) (e : BitVec 16 × Bytes) (l : List (BitVec 16 × Bytes)), ((iluPort s port).unacked.dropWhile (fun e => e.1 != q) = e :: l)) ∧
    (∃ (s : State) (port : Bool) (q : BitVec 16), (∀ e ∈ (iluPort s port).unacked, e.1 ≠ q)) ∧
    (∃ (s : State) (port : Bool) (q : BitVec 16) (e : BitVec 16 × Bytes) (l : List (BitVec 16 × Bytes)), ((iluPort s port).unacked.dropWhile (fun e => e.1 != q) = e :: l)) ∧
    (∃ (s : State) (port : Bool) (q : BitVec 16), (∀ e ∈ (iluPort s port).unacked, e.1 ≠ q)) ∧
    (∃ (s : State) (port : Bool) (q : Option (BitVec 16)), ((iluPort s port).up = true) ∧ (q ≠ some (iluPort s port).recvSeq)) ∧
    (∃ (s : State) (port : Bool) (lane : Fin 4), ((iluPort s port).up = true)) ∧
    (∃ (s : State) (port : Bool) (lane : Fin 4) (a b : Nat), ((iluPort s port).up = true) ∧ ((iluPort s port).laneErrs.at lane.val [] = [a, b]) ∧ (s.clk.ns < a + 1000) ∧ (s.clk.ns < b + 1000)) ∧
    (∃ (s : State) (f : Frame) (typ : BitVec 8), ((iluPort s f.port).up = true) ∧ (f.dst ≠ s.ilu.position ∨ isBroadcast f = true) ∧ (ownFrame s f = false)) ∧
    (∃ (s : State) (f : Frame) (typ : BitVec 8), (bit f.flags.toNat 3 = true) ∧ (f.payload.length = 4096)) ∧
    (∃ (s : State) (f : Frame) (typ : BitVec 8), (delivered f typ.toNat s) ∧ (bit f.flags.toNat 3 = true) ∧ (f.payload.length = 4096) ∧ ((iluPort s f.port).train = []) ∧ (¬ s.ilu.claim.toNat < f.claim.toNat) ∧ (s.ilu.mirror ≠ .held) ∧ (s.ilu.mirror ≠ .solo) ∧ (isBroadcast f = false)) ∧
    (∃ (s : State) (f : Frame) (roles load n m : Nat) (b1 b2 b3 b4 : Bytes) (d : BitVec 2) (r : CmdRef) (e : PairEvent) (st : BitVec 16) (role : Bool) (term : BitVec 64) (votes : List (Nat × Bool × Nat)) (vs : List (Nat × Nat)), ((iluPort s f.port).up = false)) ∧
    (∃ (s : State) (f : Frame) (roles load n m : Nat) (b1 b2 b3 b4 : Bytes) (d : BitVec 2) (r : CmdRef) (e : PairEvent) (st : BitVec 16) (role : Bool) (term : BitVec 64) (votes : List (Nat × Bool × Nat)) (vs : List (Nat × Nat)), ((iluPort s f.port).up = true) ∧ (f.linkSeq ≠ (iluPort s f.port).recvSeq)) ∧
    (∃ (s : State) (f : Frame) (typ : Nat) (act : State → State), ((iluPort s f.port).up = true) ∧ (f.linkSeq = (iluPort s f.port).recvSeq) ∧ (f.tagOk = false) ∧ (acts s f typ = true)) ∧
    (∃ (s : State) (f : Frame) (typ : Nat) (act : State → State), ((iluPort s f.port).up = true) ∧ (f.linkSeq = (iluPort s f.port).recvSeq) ∧ (acts s f typ = false)) ∧
    (∃ (s : State) (f : Frame) (roles load n m : Nat) (b1 b2 b3 b4 : Bytes) (d : BitVec 2) (r : CmdRef) (e : PairEvent) (st : BitVec 16) (role : Bool) (term : BitVec 64) (votes : List (Nat × Bool × Nat)) (vs : List (Nat × Nat)), ((iluPort s f.port).up = true) ∧ (f.linkSeq = (iluPort s f.port).recvSeq)) ∧
    (∃ (port : Bool) (lanes : Nat) (s : State), (((getDomain s (portDomain port)).on && (getDomain s (portDomain port)).katPass && s.svc.phase != .dark && (lanes == 1 || lanes == 2 || lanes == 4) && decide (lanes ≤ lanesLeft (iluPort s port))) = false)) ∧
    (∃ (port : Bool) (s : State), (((iluPort s port).up) = false)) ∧
    (∃ (port : Bool) (seq : BitVec 16) (s : State), ((!(heldFrom (iluPort s port) seq).isEmpty) = false)) ∧
    (∃ (port : Bool) (seq : BitVec 16) (s : State), ((!(heldFrom (iluPort s port) seq).isEmpty) = false)) ∧
    (∃ (port : Bool) (lane : Fin 4) (s : State), (((iluPort s port).up) = false)) ∧
    (∃ (f : Frame) (typ : BitVec 8) (s : State), (((iluPort s f.port).up && (f.dst != s.ilu.position || isBroadcast f) && !ownFrame s f) = false)) ∧
    (∃ (f : Frame) (typ : BitVec 8) (s : State), ((bit f.flags.toNat 3 && f.payload.length == 4096) = false)) :=
  ⟨⟨{ tDawn with domains := [(28, { domainReset with on := true, katPass := true })] }, true, 4, by decide, by decide, by decide, by decide, by decide⟩,
   ⟨tPorts, true, by decide⟩,
   ⟨State.reset, by decide⟩,
   ⟨{ tPair .active with prism := { State.resetPrism with cmds := [{ tCmd 0x0701 [] [] with acked := false, verdict := some (0, []) }] } }, { tCmd 0x0701 [] [] with acked := false, verdict := some (0, []) }, 0, [], by decide, by decide, by decide, by decide⟩,
   ⟨modPort true (fun p => { p with unacked := [(0, []), (1, [])] }) tPorts, true, 0, (0, []), [(1, [])], by decide⟩,
   ⟨tPorts, true, 0, by decide⟩,
   ⟨modPort true (fun p => { p with unacked := [(0, []), (1, [])] }) tPorts, true, 0, (0, []), [(1, [])], by decide⟩,
   ⟨tPorts, true, 0, by decide⟩,
   ⟨tPorts, true, none, by decide, by decide⟩,
   ⟨modPort true (fun p => { p with laneErrs := [(1, [0, 0])] }) tPorts, true, 1, by decide⟩,
   ⟨modPort true (fun p => { p with laneErrs := [(1, [0, 0])] }) tPorts, true, 1, 0, 0, by decide, by decide, by decide, by decide⟩,
   ⟨tPorts, { tFrame with dst := 3, src := 2 }, 0x40, by decide, .inl (by decide), by decide⟩,
   ⟨tPorts, { tFrame with flags := 8, payload := zeros 4096 }, 0x50, by decide, List.length_replicate⟩,
   ⟨tPorts, { tFrame with flags := 8, payload := zeros 4096 }, 0x50, by decide, by decide, List.length_replicate, by decide, by decide, by decide, by decide, by decide⟩,
   ⟨State.reset, tFrame, 0, 0, 0, 0, [], [], [], [], 0, ⟨0, 0, 0⟩, .boundary 0, 0, true, 0, [], [], by decide⟩,
   ⟨tPorts, { tFrame with linkSeq := 1 }, 0, 0, 0, 0, [], [], [], [], 0, ⟨0, 0, 0⟩, .boundary 0, 0, true, 0, [], [], by decide, by decide⟩,
   ⟨tPorts, { tFrame with tagOk := false }, 1, id, by decide, by decide, by decide, by decide⟩,
   ⟨tPorts, { tFrame with dst := 3 }, 0x10, id, by decide, by decide, by decide⟩,
   ⟨tPorts, { tFrame with tagOk := false }, 0, 0, 0, 0, [], [], [], [], 0, ⟨0, 0, 0⟩, .boundary 0, 0, true, 0, [], [], by decide, by decide⟩,
   ⟨true, 0, State.reset, by decide⟩,
   ⟨true, State.reset, by decide⟩,
   ⟨true, 0, State.reset, by decide⟩,
   ⟨true, 0, State.reset, by decide⟩,
   ⟨true, 0, State.reset, by decide⟩,
   ⟨tFrame, 0, State.reset, by decide⟩,
   ⟨tFrame, 0, State.reset, by decide⟩⟩

theorem witness_HeartbeatsMarksAndFormation :
    (∃ (s : State) (port : Bool), ((iluPort s port).up = true) ∧ ((iluPort s port).idleNs + 1000 ≤ s.clk.ns)) ∧
    (∃ (s : State) (port : Bool) (typ dst : Nat) (claim : BitVec 64) (b : Bytes), ((iluPort s port).up = true) ∧ (b ≠ []) ∧ (b.length ≤ 4096)) ∧
    (∃ (s : State) (port : Bool) (typ dst : Nat) (claim : BitVec 64) (b : Bytes), ((iluPort s port).up = true) ∧ (4096 < b.length)) ∧
    (∃ (s : State) (f : Frame) (roles load : Nat), (delivered f 0x01 s)) ∧
    (∃ (s : State) (f : Frame) (roles load : Nat), (delivered f 0x01 s) ∧ (¬ s.ilu.claim.toNat < f.claim.toNat) ∧ (s.ilu.mirror ≠ .held)) ∧
    (∃ (s : State), (s.ilu.formed = true) ∧ ((∀ p ∈ s.ilu.live, s.ilu.position ≤ p)) ∧ (s.ilu.markNs + 100000 ≤ s.clk.ns)) ∧
    (∃ (s : State) (f : Frame) (m : Nat), (delivered f 0x02 s) ∧ (ownFrame (arrived f 0x02 s) f = false)) ∧
    (∃ (s : State) (f : Frame) (m : Nat), (delivered f 0x02 s) ∧ (ownFrame (arrived f 0x02 s) f = true)) ∧
    (∃ (s : State) (pos : Nat) (rk : Bytes), (s.ilu.members ≠ 0) ∧ (pos < s.ilu.members)) ∧
    (∃ (s : State) (f : Frame) (r : CmdRef), (delivered f 0x11 s)) ∧
    (∃ (s : State) (f : Frame) (r : CmdRef), (delivered f 0x11 s) ∧ ((findCmd (arrived f 0x11 s) r).isSome = true)) ∧
    (∃ (port : Bool) (s : State), (((iluPort s port).up && decide ((iluPort s port).idleNs + 1000 ≤ s.clk.ns)) = false)) ∧
    (∃ (s : State), ((s.ilu.formed && s.ilu.live.all (fun p => decide (s.ilu.position ≤ p)) && decide (s.ilu.markNs + 100000 ≤ s.clk.ns)) = false)) ∧
    (∃ (live : Nat) (position : Nat) (rk : Bytes) (s : State), ((s.ilu.members != 0 && live == s.ilu.members && decide (position < s.ilu.members)) = false)) :=
  ⟨⟨{ tPorts with clk := { tPorts.clk with ns := 1000 } }, true, by decide, by decide⟩,
   ⟨tPorts, true, 1, 0, 0, [0], by decide, by decide, by decide⟩,
   ⟨tPorts, true, 0x50, 0, 0, zeros 4097, by decide, by rw [zeros, List.length_replicate]; decide⟩,
   ⟨tPorts, tFrame, 0, 0, by decide⟩,
   ⟨tPorts, tFrame, 0, 0, by decide, by decide, by decide⟩,
   ⟨{ tPorts with ilu := { tPorts.ilu with formed := true, live := [0, 1] }, clk := { tPorts.clk with ns := 100000 } }, by decide, by decide, by decide⟩,
   ⟨tPorts, tFrame, 0, by decide, by decide⟩,
   ⟨{ tLease with ilu := { tLease.ilu with markDue := 1 } }, { tFrame with flags := 1 }, 0, by decide, by decide⟩,
   ⟨tLease, 1, [], by decide, by decide⟩,
   ⟨tPorts, tFrame, ⟨0, 0, 0⟩, by decide⟩,
   ⟨{ tPorts with prism := { State.resetPrism with cmds := [tCmd 0x0701 [] []] } }, tFrame, ⟨0, 0, 0⟩, by decide, by decide⟩,
   ⟨true, State.reset, by decide⟩,
   ⟨State.reset, by decide⟩,
   ⟨0, 0, [], State.reset, by decide⟩⟩

theorem witness_PairFramesKeepTheMirror :
    (∃ (s : State) (f : Frame) (header payload reseed check : Bytes) (idx : Nat) (d : BitVec 2), (delivered f 0x10 s) ∧ ((arrived f 0x10 s).ilu.mirror = .standby) ∧ (¬ f.claim.toNat < (arrived f 0x10 s).ilu.claim.toNat)) ∧
    (∃ (s : State) (header payload reseed check : Bytes) (idx d : Nat) (o : OpSpec), (opSpec (forwardReq s header payload).opcode = some o) ∧ (idx < 65536)) ∧
    (∃ (s : State) (f : Frame) (header payload reseed check : Bytes) (idx : Nat) (d : BitVec 2), (delivered f 0x10 s) ∧ ((arrived f 0x10 s).ilu.mirror = .standby) ∧ (f.claim.toNat < (arrived f 0x10 s).ilu.claim.toNat)) ∧
    (∃ (s : State) (f : Frame) (header payload reseed check : Bytes) (idx : Nat) (d : BitVec 2), (delivered f 0x10 s) ∧ ((arrived f 0x10 s).ilu.mirror ≠ .standby)) ∧
    (∃ (s : State) (f : Frame) (e : PairEvent), (delivered f 0x12 s) ∧ ((arrived f 0x12 s).ilu.mirror = .standby) ∧ (f.claim.toNat < (arrived f 0x12 s).ilu.claim.toNat)) ∧
    (∃ (s : State) (f : Frame) (g : Nat), (delivered f 0x12 s) ∧ (¬ ((arrived f 0x12 s).ilu.mirror = .standby ∧ f.claim.toNat < (arrived f 0x12 s).ilu.claim.toNat))) ∧
    (∃ (s : State) (f : Frame) (p : Nat), (delivered f 0x12 s) ∧ (¬ ((arrived f 0x12 s).ilu.mirror = .standby ∧ f.claim.toNat < (arrived f 0x12 s).ilu.claim.toNat))) ∧
    (∃ (s : State) (f : Frame) (ring seq v k : Nat), (delivered f 0x12 s) ∧ (¬ ((arrived f 0x12 s).ilu.mirror = .standby ∧ f.claim.toNat < (arrived f 0x12 s).ilu.claim.toNat))) ∧
    (∃ (s : State) (f : Frame) (n : Nat), (delivered f 0x12 s) ∧ (¬ ((arrived f 0x12 s).ilu.mirror = .standby ∧ f.claim.toNat < (arrived f 0x12 s).ilu.claim.toNat))) ∧
    (∃ (s : State) (f : Frame) (r : CmdRef) (st : BitVec 16) (n : Nat) (d : Bytes), (delivered f 0x13 s) ∧ ((arrived f 0x13 s).ilu.mirror ≠ .standby)) ∧
    (∃ (s : State) (f : Frame) (r : CmdRef) (st : BitVec 16) (n : Nat) (d : Bytes), (delivered f 0x13 s) ∧ ((arrived f 0x13 s).ilu.mirror = .standby)) ∧
    (∃ (s : State) (f : Frame) (c : Nat), (delivered f 0x14 s) ∧ (c = 1)) ∧
    (∃ (s : State) (f : Frame) (c : Nat), (delivered f 0x14 s) ∧ (c ≠ 1)) ∧
    (∃ (s : State), (s.ilu.paired = true) ∧ (s.ilu.partnerSeen = true) ∧ (s.ilu.heardNs + 20000 ≤ s.clk.ns)) ∧
    (∃ (s : State), (s.ilu.paired = true) ∧ (s.ilu.partnerSeen = true) ∧ (s.ilu.heardNs + 20000 ≤ s.clk.ns) ∧ (s.ilu.mirror = .active)) ∧
    (∃ (s : State) (f : Frame) (ph pct : Nat) (b : Bytes), (delivered f 0x50 s) ∧ ((arrived f 0x50 s).ilu.mirror = .syncTarget) ∧ (ph ≠ 0) ∧ (ph ≠ 6)) ∧
    (∃ (s : State) (f : Frame) (ph pct : Nat) (b : Bytes), (delivered f 0x50 s) ∧ ((arrived f 0x50 s).ilu.mirror ≠ .syncTarget ∨ ph = 0 ∨ ph = 6)) ∧
    (∃ (s : State) (f : Frame) (ph pct : Nat) (b : Bytes), (delivered f 0x50 s) ∧ (ph ≠ 0) ∧ (ph ≠ 6) ∧ ((arrived f 0x50 s).ilu.mirror = .syncTarget) ∧ (¬ s.ilu.claim.toNat < f.claim.toNat)) ∧
    (∃ (s : State) (n : Nat), (s.ilu.mirror = .syncSource) ∧ (n < 16777216)) ∧
    (∃ (s : State) (n : Nat), (s.ilu.mirror = .syncSource) ∧ (n < 16777216)) ∧
    (∃ (s : State), ((s.ilu.paired && s.ilu.partnerSeen && decide (s.ilu.heardNs + 20000 ≤ s.clk.ns)) = false)) ∧
    (∃ (dirtyBytes : Nat) (s : State), ((s.ilu.mirror == .syncSource && decide (dirtyBytes < 16777216)) = false)) :=
  ⟨⟨tPair .standby, tFrame, zeros 6 ++ [1, 7] ++ zeros 56, [], [], [], 0, 0, by decide, by decide, by decide⟩,
   ⟨tPair .standby, zeros 6 ++ [1, 7] ++ zeros 56, [], [], [], 0, 0, specRngGenerate, rfl, by decide⟩,
   ⟨{ tPair .standby with ilu := { (tPair .standby).ilu with claim := 5, topClaim := 5 } }, tFrame, [], [], [], [], 0, 0, by decide, by decide, by decide⟩,
   ⟨tPair .active, tFrame, [], [], [], [], 0, 0, by decide, by decide⟩,
   ⟨{ tPair .standby with ilu := { (tPair .standby).ilu with claim := 5, topClaim := 5 } }, tFrame, .boundary 0, by decide, by decide, by decide⟩,
   ⟨tPair .standby, tFrame, 1, by decide, by decide⟩,
   ⟨tPair .standby, tFrame, 1, by decide, by decide⟩,
   ⟨tPair .standby, tFrame, 0, 0, 0, 0, by decide, by decide⟩,
   ⟨tPair .standby, tFrame, 0, by decide, by decide⟩,
   ⟨tPair .active, tFrame, ⟨0, 0, 0⟩, 0, 0, [], by decide, by decide⟩,
   ⟨tPair .standby, tFrame, ⟨0, 0, 0⟩, 0, 0, [], by decide, by decide⟩,
   ⟨tPair .active, tFrame, 1, by decide, by decide⟩,
   ⟨tPair .standby, tFrame, 2, by decide, by decide⟩,
   ⟨{ tPair .active with clk := { tPorts.clk with ns := 20000 } }, by decide, by decide, by decide⟩,
   ⟨{ tPair .active with clk := { tPorts.clk with ns := 20000 } }, by decide, by decide, by decide, by decide⟩,
   ⟨tPair .syncTarget, tFrame, 2, 0, [], by decide, by decide, by decide, by decide⟩,
   ⟨tLease, { tFrame with dst := 1, src := 0 }, 0, 0, [], by decide, .inr (.inl rfl)⟩,
   ⟨tPair .syncTarget, tFrame, 2, 0, [], by decide, by decide, by decide, by decide, by decide⟩,
   ⟨tPair .syncSource, 0, by decide, by decide⟩,
   ⟨tPair .syncSource, 0, by decide, by decide⟩,
   ⟨State.reset, by decide⟩,
   ⟨0, State.reset, by decide⟩⟩

theorem witness_LeasesReplicationAndSpill :
    (∃ (s : State) (f : Frame) (role : Bool) (term : BitVec 64) (h n : Nat) (votes : List (Nat × Bool × Nat)), (delivered f 0x20 s) ∧ ((arrived f 0x20 s).ilu.leaseMode = false)) ∧
    (∃ (s : State) (f : Frame) (role : Bool) (term : BitVec 64) (h n : Nat) (votes : List (Nat × Bool × Nat)), (delivered f 0x20 s) ∧ ((arrived f 0x20 s).ilu.leaseMode = true) ∧ (ownFrame (arrived f 0x20 s) f = true)) ∧
    (∃ (s : State) (f : Frame) (role : Bool) (term : BitVec 64) (h n : Nat) (votes : List (Nat × Bool × Nat)), (delivered f 0x20 s) ∧ ((arrived f 0x20 s).ilu.leaseMode = true) ∧ (ownFrame (arrived f 0x20 s) f = false)) ∧
    (∃ (s : State) (role : Bool) (votes : List (Nat × Bool × Nat)), (acksBack (leaseOf (wayBack role votes s) role) < majority s)) ∧
    (∃ (s : State) (role : Bool) (votes : List (Nat × Bool × Nat)), (majority s ≤ acksBack (leaseOf (wayBack role votes s) role)) ∧ ((leaseOf s role).acts = true ∨ topBack (leaseOf (wayBack role votes s) role) ≤ s.ilu.applied)) ∧
    (∃ (s : State) (role : Bool) (votes : List (Nat × Bool × Nat)), (majority s ≤ acksBack (leaseOf (wayBack role votes s) role)) ∧ ((leaseOf s role).acts = false) ∧ (s.ilu.applied < topBack (leaseOf (wayBack role votes s) role))) ∧
    (∃ (s : State) (f : Frame) (role : Bool) (term : BitVec 64) (h n : Nat), (delivered f 0x20 s) ∧ (s.ilu.leaseMode = true) ∧ (s.ilu.mirror = .none) ∧ (s.ilu.paired = false) ∧ (ownFrame s f = false) ∧ ((leaseOf s role).term.toNat < term.toNat) ∧ ((leaseOf s role).expiry ≤ s.clk.ns)) ∧
    (∃ (s : State) (role : Bool), (s.ilu.leaseMode = true) ∧ (s.ilu.formed = true) ∧ ((leaseOf s role).acts = true) ∧ ((leaseOf s role).holder = s.ilu.position) ∧ ((leaseOf s role).sent + leaseLen s / 2 ≤ s.clk.ns) ∧ ((leaseOf s role).asked ≤ (leaseOf s role).sent) ∧ (mayAct s role = true)) ∧
    (∃ (s : State) (role : Bool), (s.ilu.leaseMode = true) ∧ (s.ilu.formed = true) ∧ ((leaseOf s role).acts = true) ∧ ((leaseOf s role).holder = s.ilu.position) ∧ ((leaseOf s role).sent + leaseLen s / 2 ≤ s.clk.ns) ∧ ((leaseOf s role).asked ≤ (leaseOf s role).sent) ∧ (mayAct s role = true)) ∧
    (∃ (s : State) (role : Bool), (s.ilu.leaseMode = true) ∧ ((leaseOf s role).acts = true) ∧ (mayAct s role = false)) ∧
    (∃ (s : State) (role : Bool), (s.ilu.leaseMode = true) ∧ ((leaseOf s role).expiry ≤ s.clk.ns) ∧ ((leaseOf s role).votes ≠ 0)) ∧
    (∃ (s : State) (role : Bool), (s.ilu.leaseMode = true) ∧ (s.ilu.formed = true) ∧ ((leaseOf s role).acts = false) ∧ ((leaseOf s role).expiry + rttMax s + 1000 + 4 * rttMax s * takeoverTurn s (leaseOf s role).holder ≤ s.clk.ns)) ∧
    (∃ (s : State) (role : Bool), (s.ilu.leaseMode = true) ∧ (s.ilu.formed = true) ∧ ((leaseOf s role).acts = false) ∧ ((leaseOf s role).expiry + rttMax s + 1000 + 4 * rttMax s * takeoverTurn s (leaseOf s role).holder ≤ s.clk.ns)) ∧
    (∃ (s : State) (f : Frame) (role : Bool) (seq : Nat) (ch : Bytes) (st : Status), (delivered f 0x30 s) ∧ (replicateRefusal f role (arrived f 0x30 s) = some st)) ∧
    (∃ (s : State) (f : Frame) (role : Bool) (seq : Nat) (ch : Bytes), (delivered f 0x30 s) ∧ (replicateRefusal f role (arrived f 0x30 s) = none) ∧ ((arrived f 0x30 s).ilu.applied + 1 < seq)) ∧
    (∃ (s : State) (f : Frame) (role : Bool) (seq : Nat) (ch : Bytes), (delivered f 0x30 s) ∧ (replicateRefusal f role (arrived f 0x30 s) = none) ∧ (seq ≤ (arrived f 0x30 s).ilu.applied)) ∧
    (∃ (s : State) (f : Frame) (role : Bool) (seq : Nat) (ch : Bytes), (delivered f 0x30 s) ∧ (replicateRefusal f role (arrived f 0x30 s) = none) ∧ (seq = (arrived f 0x30 s).ilu.applied + 1)) ∧
    (∃ (s : State) (f : Frame) (r : CmdRef) (st : BitVec 16), (delivered f 0x31 s) ∧ (findCmd (arrived f 0x31 s) r = none)) ∧
    (∃ (s : State) (f : Frame) (r : CmdRef) (c : Cmd), (delivered f 0x31 s) ∧ (findCmd (arrived f 0x31 s) r = some c)) ∧
    (∃ (s : State) (f : Frame) (r : CmdRef) (c : Cmd) (st : BitVec 16), (delivered f 0x31 s) ∧ (findCmd (arrived f 0x31 s) r = some c) ∧ (st ≠ 0)) ∧
    (∃ (s : State) (f : Frame) (r : CmdRef) (c : Cmd), (delivered f 0x31 s) ∧ (findCmd (arrived f 0x31 s) r = some c) ∧ ((arrived f 0x31 s).ks = s.ks)) ∧
    (∃ (s : State) (f : Frame) (header payload seed : Bytes) (v : List (Nat × Nat)), (delivered f 0x40 s) ∧ (opSpec (forwardReq (arrived f 0x40 s) header payload).opcode = none)) ∧
    (∃ (s : State) (f : Frame) (header payload seed : Bytes) (v : List (Nat × Nat)) (o : OpSpec), (delivered f 0x40 s) ∧ (opSpec (forwardReq (arrived f 0x40 s) header payload).opcode = some o)) ∧
    (∃ (s : State) (f : Frame) (header payload seed : Bytes) (v : List (Nat × Nat)) (o : OpSpec), (delivered f 0x40 s) ∧ (opSpec (forwardReq (arrived f 0x40 s) header payload).opcode = some o) ∧ (paymentGroup (forwardReq (arrived f 0x40 s) header payload).opcode = true) ∧ ((getPart (arrived f 0x40 s) (forwardReq (arrived f 0x40 s) header payload).part).state = .active) ∧ ((spillCmd (arrived f 0x40 s) o (forwardReq (arrived f 0x40 s) header payload) f.src v seed).keys.all (fun k => (versionVal (arrived f 0x40 s) (forwardReq (arrived f 0x40 s) header payload).part k.1 k.2).isSome) = true)) ∧
    (∃ (s : State) (f : Frame) (r : CmdRef) (c : Cmd) (x : Bool) (st : BitVec 16) (b : Bytes), (delivered f 0x41 s) ∧ (findCmd (arrived f 0x41 s) r = some c) ∧ (c.spilled.isSome = true) ∧ (c.result = none)) ∧
    (∃ (s : State) (f : Frame) (r : CmdRef) (c : Cmd) (st : BitVec 16) (b : Bytes), (delivered f 0x41 s) ∧ (findCmd (arrived f 0x41 s) r = some c) ∧ (c.spilled.isSome = true) ∧ (c.result = none)) ∧
    (∃ (s : State) (f : Frame) (r : CmdRef) (x : Bool) (st : BitVec 16) (b : Bytes), (delivered f 0x41 s) ∧ (∀ c, findCmd (arrived f 0x41 s) r = some c → c.spilled = none ∨ c.result ≠ none)) ∧
    (∃ (s : State) (r : CmdRef) (c : Cmd) (n : Nat), (findCmd s r = some c) ∧ (c.spilled = some n) ∧ (n + 200000 ≤ s.clk.ns)) ∧
    (∃ (s : State) (r : CmdRef), (∀ c n, findCmd s r = some c → c.spilled = some n → s.clk.ns < n + 200000)) ∧
    (∃ (role : Bool) (s : State), ((let r := leaseOf s role; s.ilu.leaseMode && s.ilu.formed && r.acts && r.holder == s.ilu.position && decide (r.sent + leaseLen s / 2 ≤ s.clk.ns) && decide (r.asked ≤ r.sent) && mayAct s role) = false)) ∧
    (∃ (role : Bool) (s : State), ((s.ilu.leaseMode && (leaseOf s role).acts && !mayAct s role) = false)) ∧
    (∃ (role : Bool) (s : State), ((s.ilu.leaseMode && decide ((leaseOf s role).expiry ≤ s.clk.ns) && (leaseOf s role).votes != 0) = false)) ∧
    (∃ (role : Bool) (s : State), ((let r := leaseOf s role; s.ilu.leaseMode && s.ilu.formed && !r.acts && decide (r.expiry + rttMax s + 1000 + 4 * rttMax s * takeoverTurn s r.holder ≤ s.clk.ns)) = false)) :=
  ⟨⟨tPorts, tFrame, false, 0, 0, 0, [], by decide, by decide⟩,
   ⟨tLease, { tFrame with flags := 1 }, false, 0, 1, 0, [(0, true, 0), (1, true, 0)], by decide, by decide, by decide⟩,
   ⟨tLease, { tFrame with flags := 1, src := 0 }, false, 5, 0, 100, [], by decide, by decide, by decide⟩,
   ⟨{ tHolder with ilu := { tHolder.ilu with keyLease := { tHolder.ilu.keyLease with due := 1 } } }, false, [], by decide⟩,
   ⟨{ tHolder with ilu := { tHolder.ilu with keyLease := { tHolder.ilu.keyLease with due := 1 } } }, false, [(0, true, 0)], by decide, .inl (by decide)⟩,
   ⟨{ tHolder with ilu := { tHolder.ilu with keyLease := { tHolder.ilu.keyLease with due := 1, acts := false } } }, false, [(0, true, 5)], by decide, by decide, by decide⟩,
   ⟨tLease, { tFrame with src := 0, flags := 1 }, false, 5, 0, 100, by decide, by decide, by decide, by decide, by decide, by decide, by decide⟩,
   ⟨tHolder, false, by decide, by decide, by decide, by decide, by decide, by decide, by decide⟩,
   ⟨tHolder, false, by decide, by decide, by decide, by decide, by decide, by decide, by decide⟩,
   ⟨{ tHolder with clk := { tHolder.clk with ns := 64000 } }, false, by decide, by decide, by decide⟩,
   ⟨{ tHolder with clk := { tHolder.clk with ns := 64000 } }, false, by decide, by decide, by decide⟩,
   ⟨{ tLease with clk := { tLease.clk with ns := 5000 } }, false, by decide, by decide, by decide, by decide⟩,
   ⟨{ tLease with clk := { tLease.clk with ns := 5000 } }, false, by decide, by decide, by decide, by decide⟩,
   ⟨{ tPorts with ilu := { tPorts.ilu with topClaim := 5 } }, tFrame, false, 1, [], stClaimSuperseded, by decide, by decide⟩,
   ⟨tPorts, tFrame, false, 2, [], by decide, by decide, by decide⟩,
   ⟨tPorts, tFrame, false, 0, [], by decide, by decide, by decide⟩,
   ⟨tPorts, tFrame, false, 1, [], by decide, by decide, by decide⟩,
   ⟨tPorts, tFrame, ⟨0, 0, 0⟩, 0, by decide, by decide⟩,
   ⟨{ tPorts with prism := { State.resetPrism with cmds := [tCmd 0x0701 [] []] } }, tFrame, ⟨0, 0, 0⟩, tCmd 0x0701 [] [], by decide, rfl⟩,
   ⟨{ tPorts with prism := { State.resetPrism with cmds := [tCmd 0x0701 [] []] } }, tFrame, ⟨0, 0, 0⟩, tCmd 0x0701 [] [], 0x0106, by decide, rfl, by decide⟩,
   ⟨{ tPorts with prism := { State.resetPrism with cmds := [tCmd 0x0701 [] []] } }, tFrame, ⟨0, 0, 0⟩, tCmd 0x0701 [] [], by decide, rfl, by decide⟩,
   ⟨tPorts, tFrame, zeros 64, [], [], [], by decide, rfl⟩,
   ⟨tKeyed, tFrame, zeros 6 ++ [0x01, 0x09] ++ zeros 56, [], [], [], specCvv false, by decide, rfl⟩,
   ⟨tKeyed, tFrame, zeros 6 ++ [0x01, 0x09] ++ zeros 56, [], [], [], specCvv false, by decide, rfl, by decide, by decide, by decide⟩,
   ⟨{ tPorts with prism := { State.resetPrism with cmds := [{ tCmd 0x0801 [] [] with spilled := some 0 }] } }, tFrame, ⟨0, 0, 0⟩, { tCmd 0x0801 [] [] with spilled := some 0 }, true, 0, [], by decide, rfl, rfl, rfl⟩,
   ⟨{ tPorts with prism := { State.resetPrism with cmds := [{ tCmd 0x0801 [] [] with spilled := some 0 }] } }, tFrame, ⟨0, 0, 0⟩, { tCmd 0x0801 [] [] with spilled := some 0 }, 0, [], by decide, rfl, rfl, rfl⟩,
   ⟨tPorts, tFrame, ⟨0, 0, 0⟩, true, 0, [], by decide, by intro c h; cases h⟩,
   ⟨{ tPorts with prism := { State.resetPrism with cmds := [{ tCmd 0x0801 [] [] with spilled := some 0 }] }, clk := { tPorts.clk with ns := 200000 } }, ⟨0, 0, 0⟩, { tCmd 0x0801 [] [] with spilled := some 0 }, 0, rfl, rfl, by decide⟩,
   ⟨State.reset, ⟨0, 0, 0⟩, by intro c n h; cases h⟩,
   ⟨true, State.reset, by decide⟩,
   ⟨true, State.reset, by decide⟩,
   ⟨true, State.reset, by decide⟩,
   ⟨true, State.reset, by decide⟩⟩

theorem witness_DeviceCommandsEndAsSpecified :
    (∃ (s : State) (r : CmdRef) (c : Cmd), (AtWork 0x0101 s r c)) ∧
    (∃ (s : State) (r : CmdRef) (c : Cmd), (AtWork 0x0102 s r c) ∧ (jFind s c.ref.part ((reqOf c).pay 0 2) (BitVec.ofNat 64 ((reqOf c).pay 8 8)) = none)) ∧
    (∃ (s : State) (r : CmdRef) (c : Cmd) (i : Nat) (e : JEntry), (AtWork 0x0102 s r c) ∧ (jFind s c.ref.part ((reqOf c).pay 0 2) (BitVec.ofNat 64 ((reqOf c).pay 8 8)) = some (i, e)) ∧ (neverAborted e.opcode.toNat = true)) ∧
    (∃ (s : State) (r : CmdRef) (c : Cmd) (i : Nat) (e : JEntry), (AtWork 0x0102 s r c) ∧ (jFind s c.ref.part ((reqOf c).pay 0 2) (BitVec.ofNat 64 ((reqOf c).pay 8 8)) = some (i, e)) ∧ (neverAborted e.opcode.toNat = false) ∧ (e.done = true)) ∧
    (∃ (s : State) (r : CmdRef) (c : Cmd), (AtWork 0x0103 s r c) ∧ ((getDomain s (dmDomain (reqOf c))).on = dmOn (reqOf c))) ∧
    (∃ (s : State) (r : CmdRef) (c : Cmd), (AtWork 0x0103 s r c) ∧ ((getDomain s (dmDomain (reqOf c))).on = false) ∧ (dmOn (reqOf c) = true) ∧ (s.hzn.calCmd = none)) ∧
    (∃ (s : State) (r : CmdRef) (c : Cmd), (AtWork 0x0103 s r c) ∧ ((getDomain s (dmDomain (reqOf c))).on = true) ∧ (dmOn (reqOf c) = false) ∧ (s.hzn.calCmd = none)) ∧
    (∃ (s : State) (r : CmdRef) (c : Cmd), (AtWork 0x0104 s r c)) ∧
    (∃ (s : State) (r : CmdRef) (c : Cmd), (AtWork 0x0104 s r c) ∧ (s.hzn.calCmd = none)) ∧
    (∃ (s : State) (r : CmdRef) (c : Cmd), (AtWork 0x0105 s r c)) :=
  ⟨⟨tFlight tDawn (tCmd 0x0101 [] []), ⟨0, 0, 0⟩, tCmd 0x0101 [] [], ⟨rfl, by decide, by decide⟩⟩,
   ⟨tFlight tDawn (tCmd 0x0102 (zeros 16) []), ⟨0, 0, 0⟩, tCmd 0x0102 (zeros 16) [], ⟨rfl, by decide, by decide⟩, by decide⟩,
   ⟨tFlight tJournal (tCmd 0x0102 (zeros 16) []), ⟨0, 0, 0⟩, tCmd 0x0102 (zeros 16) [], 0, tEntry 0x0101 true, ⟨rfl, by decide, by decide⟩, rfl, rfl⟩,
   ⟨tFlight tJournalSym (tCmd 0x0102 (zeros 16) []), ⟨0, 0, 0⟩, tCmd 0x0102 (zeros 16) [], 0, tEntry 0x0401 true, ⟨rfl, by decide, by decide⟩, rfl, rfl, rfl⟩,
   ⟨tFlight tDomain6 (tCmd 0x0103 [6, 1, 0, 0] []), ⟨0, 0, 0⟩, tCmd 0x0103 [6, 1, 0, 0] [], ⟨rfl, by decide, by decide⟩, by decide⟩,
   ⟨tFlight tDomainOff (tCmd 0x0103 [6, 1, 0, 0] []), ⟨0, 0, 0⟩, tCmd 0x0103 [6, 1, 0, 0] [], ⟨rfl, by decide, by decide⟩, by decide, by decide, by decide⟩,
   ⟨tFlight tDomain6 (tCmd 0x0103 [6, 0, 0, 0] []), ⟨0, 0, 0⟩, tCmd 0x0103 [6, 0, 0, 0] [], ⟨rfl, by decide, by decide⟩, by decide, by decide, by decide⟩,
   ⟨tFlight tDawn (tCmd 0x0104 [1, 5, 0, 0] []), ⟨0, 0, 0⟩, tCmd 0x0104 [1, 5, 0, 0] [], ⟨rfl, by decide, by decide⟩⟩,
   ⟨tFlight tDawn (tCmd 0x0104 [1, 5, 0, 0] []), ⟨0, 0, 0⟩, tCmd 0x0104 [1, 5, 0, 0] [], ⟨rfl, by decide, by decide⟩, by decide⟩,
   ⟨tFlight tDawn (tCmd 0x0105 [] []), ⟨0, 0, 0⟩, tCmd 0x0105 [] [], ⟨rfl, by decide, by decide⟩⟩⟩

theorem witness_SessionAndJournalCommandsEndAsSpecified :
    (∃ (s : State) (r : CmdRef) (c : Cmd), (AtWork 0x0201 s r c) ∧ (c.transient = none)) ∧
    (∃ (s : State) (r : CmdRef) (c : Cmd) (i : Nat), (AtWork 0x0201 s r c) ∧ (c.transient = some i)) ∧
    (∃ (s : State) (r : CmdRef) (c : Cmd), (AtWork 0x0202 s r c) ∧ (sessionStands s c = true)) ∧
    (∃ (s : State) (r : CmdRef) (c : Cmd), (AtWork 0x0202 s r c) ∧ (sessionStands s c = false)) ∧
    (∃ (s : State) (r : CmdRef) (c : Cmd), (AtWork 0x0203 s r c) ∧ (sessionStands s c = true)) ∧
    (∃ (s : State) (r : CmdRef) (c : Cmd), (AtWork 0x0203 s r c) ∧ (sessionStands s c = false)) ∧
    (∃ (s : State) (r : CmdRef) (c : Cmd), (AtWork 0x0B01 s r c)) ∧
    (∃ (s : State) (r : CmdRef) (c : Cmd), (AtWork 0x0B02 s r c) ∧ (jFind s c.ref.part ((reqOf c).pay 0 2) (BitVec.ofNat 64 ((reqOf c).pay 8 8)) = none)) ∧
    (∃ (s : State) (r : CmdRef) (c : Cmd) (i : Nat) (e : JEntry), (AtWork 0x0B02 s r c) ∧ (jFind s c.ref.part ((reqOf c).pay 0 2) (BitVec.ofNat 64 ((reqOf c).pay 8 8)) = some (i, e))) :=
  ⟨⟨tFlight tDawn (tCmd 0x0201 [] []), ⟨0, 0, 0⟩, tCmd 0x0201 [] [], ⟨rfl, by decide, by decide⟩, rfl⟩,
   ⟨tFlight tOpenTransient ({ tCmd 0x0201 [7] [] with transient := some 0 }), ⟨0, 0, 0⟩, { tCmd 0x0201 [7] [] with transient := some 0 }, 0, ⟨rfl, by decide, by decide⟩, rfl⟩,
   ⟨tFlight tOpenCtx ({ tCmd 0x0202 [] [] with handle := 0x400000 }), ⟨0, 0, 0⟩, { tCmd 0x0202 [] [] with handle := 0x400000 }, ⟨rfl, by decide, by decide⟩, by decide⟩,
   ⟨tFlight tDawn ({ tCmd 0x0202 [] [] with handle := 0x400000 }), ⟨0, 0, 0⟩, { tCmd 0x0202 [] [] with handle := 0x400000 }, ⟨rfl, by decide, by decide⟩, by decide⟩,
   ⟨tFlight tOpenCtx ({ tCmd 0x0203 [] [] with handle := 0x400000 }), ⟨0, 0, 0⟩, { tCmd 0x0203 [] [] with handle := 0x400000 }, ⟨rfl, by decide, by decide⟩, by decide⟩,
   ⟨tFlight tDawn ({ tCmd 0x0203 [] [] with handle := 0x400000 }), ⟨0, 0, 0⟩, { tCmd 0x0203 [] [] with handle := 0x400000 }, ⟨rfl, by decide, by decide⟩, by decide⟩,
   ⟨tFlight tDawn (tCmd 0x0B01 (zeros 8) []), ⟨0, 0, 0⟩, tCmd 0x0B01 (zeros 8) [], ⟨rfl, by decide, by decide⟩⟩,
   ⟨tFlight tDawn (tCmd 0x0B02 (zeros 16) []), ⟨0, 0, 0⟩, tCmd 0x0B02 (zeros 16) [], ⟨rfl, by decide, by decide⟩, by decide⟩,
   ⟨tFlight tJournal (tCmd 0x0B02 (zeros 16) []), ⟨0, 0, 0⟩, tCmd 0x0B02 (zeros 16) [], 0, tEntry 0x0101 true, ⟨rfl, by decide, by decide⟩, rfl⟩⟩

theorem witness_PartitionCommandsChangePartitions :
    (∃ (s : State) (r : CmdRef) (c : Cmd), (AtWork 0x0C01 s r c) ∧ (ownCreate s (reqOf c) = none)) ∧
    (∃ (s : State) (r : CmdRef) (c : Cmd), (AtWork 0x0C01 s r c) ∧ (ownCreate s (reqOf c) = some stPolicyDenied)) ∧
    (∃ (s : State) (r : CmdRef) (c : Cmd), (AtWork 0x0C02 s r c) ∧ (ownState .disabled false s (reqOf c) = none)) ∧
    (∃ (s : State) (r : CmdRef) (c : Cmd), (AtWork 0x0C02 s r c) ∧ (ownState .disabled false s (reqOf c) = some stPolicyDenied)) ∧
    (∃ (s : State) (r : CmdRef) (c : Cmd), (AtWork 0x0C03 s r c) ∧ (ownState .active true s (reqOf c) = none)) ∧
    (∃ (s : State) (r : CmdRef) (c : Cmd), (AtWork 0x0C04 s r c) ∧ (ownState .disabled false s (reqOf c) = none) ∧ ((reqOf c).pay 0 2 ≠ r.part)) ∧
    (∃ (s : State) (r : CmdRef) (c : Cmd), (AtWork 0x0C05 s r c) ∧ (ownMap s (reqOf c) = none)) ∧
    (∃ (s : State) (r : CmdRef) (c : Cmd), (AtWork 0x0C06 s r c) ∧ (ownPolicySet s (reqOf c) = none)) ∧
    (∃ (s : State) (r : CmdRef) (c : Cmd), (AtWork 0x0C07 s r c)) ∧
    (∃ (s : State) (r : CmdRef) (c : Cmd), (AtWork 0x0C08 s r c) ∧ (ownEnrol s (reqOf c) = none)) ∧
    (∃ (s : State) (r : CmdRef) (c : Cmd), (AtWork 0x0C09 s r c) ∧ (ownRemove s (reqOf c) = none)) ∧
    (∃ (s : State) (r : CmdRef) (c : Cmd), (AtWork 0x0C0A s r c)) ∧
    (∃ (s : State) (r : CmdRef) (c : Cmd), (AtWork 0x0106 s r c) ∧ (ownProvision s (reqOf c) = none)) ∧
    (∃ (s : State) (r : CmdRef) (c : Cmd), (AtWork 0x0107 s r c) ∧ (ownTamperArm s (reqOf c) = none)) :=
  ⟨⟨tFlight (tParts 1 .empty) (tCmd 0x0C01 ([1, 0, 0, 0, 2, 2, 0, 0] ++ zeros 432 ++ tOfficerRec 1 ++ tOfficerRec 2) []), ⟨0, 0, 0⟩, tCmd 0x0C01 ([1, 0, 0, 0, 2, 2, 0, 0] ++ zeros 432 ++ tOfficerRec 1 ++ tOfficerRec 2) [], ⟨rfl, by decide, by decide⟩, by decide +kernel⟩,
   ⟨tFlight tDawn (tCmd 0x0C01 (zeros 8) []), ⟨0, 0, 0⟩, tCmd 0x0C01 (zeros 8) [], ⟨rfl, by decide, by decide⟩, by decide⟩,
   ⟨tFlight (tParts 1 .disabled) (tCmd 0x0C02 [1, 0, 0, 0, 0, 0, 0, 0] []), ⟨0, 0, 0⟩, tCmd 0x0C02 [1, 0, 0, 0, 0, 0, 0, 0] [], ⟨rfl, by decide, by decide⟩, by decide⟩,
   ⟨tFlight (tParts 1 .active) (tCmd 0x0C02 [1, 0, 0, 0, 0, 0, 0, 0] []), ⟨0, 0, 0⟩, tCmd 0x0C02 [1, 0, 0, 0, 0, 0, 0, 0] [], ⟨rfl, by decide, by decide⟩, by decide⟩,
   ⟨tFlight (tParts 1 .active) (tCmd 0x0C03 [1, 0, 0, 0, 0, 0, 0, 0] []), ⟨0, 0, 0⟩, tCmd 0x0C03 [1, 0, 0, 0, 0, 0, 0, 0] [], ⟨rfl, by decide, by decide⟩, by decide⟩,
   ⟨tFlight (tParts 1 .disabled) (tCmd 0x0C04 [1, 0, 0, 0, 0, 0, 0, 0] []), ⟨0, 0, 0⟩, tCmd 0x0C04 [1, 0, 0, 0, 0, 0, 0, 0] [], ⟨rfl, by decide, by decide⟩, by decide, by decide⟩,
   ⟨tFlight (tParts 1 .active) (tCmd 0x0C05 [7, 0, 1, 0, 0x40, 0, 4, 0] []), ⟨0, 0, 0⟩, tCmd 0x0C05 [7, 0, 1, 0, 0x40, 0, 4, 0] [], ⟨rfl, by decide, by decide⟩, by decide +kernel⟩,
   ⟨tFlight tDawn (tCmd 0x0C06 (zeros 432) []), ⟨0, 0, 0⟩, tCmd 0x0C06 (zeros 432) [], ⟨rfl, by decide, by decide⟩, by decide +kernel⟩,
   ⟨tFlight tDawn (tCmd 0x0C07 (zeros 8) []), ⟨0, 0, 0⟩, tCmd 0x0C07 (zeros 8) [], ⟨rfl, by decide, by decide⟩⟩,
   ⟨tFlight tOfficers (tCmd 0x0C08 ([2, 0, 0, 0] ++ tOfficerRec 4) []), ⟨0, 0, 0⟩, tCmd 0x0C08 ([2, 0, 0, 0] ++ tOfficerRec 4) [], ⟨rfl, by decide, by decide⟩, by decide +kernel⟩,
   ⟨tFlight tOfficers (tCmd 0x0C09 [3, 2, 0, 0] []), ⟨0, 0, 0⟩, tCmd 0x0C09 [3, 2, 0, 0] [], ⟨rfl, by decide, by decide⟩, by decide⟩,
   ⟨tFlight tDawn (tCmd 0x0C0A (zeros 8) []), ⟨0, 0, 0⟩, tCmd 0x0C0A (zeros 8) [], ⟨rfl, by decide, by decide⟩⟩,
   ⟨tFlight tDawn (tCmd 0x0106 ([2, 2, 2, 0] ++ zeros 432 ++ tOfficerRec 1 ++ tOfficerRec 2) []), ⟨0, 0, 0⟩, tCmd 0x0106 ([2, 2, 2, 0] ++ zeros 432 ++ tOfficerRec 1 ++ tOfficerRec 2) [], ⟨rfl, by decide, by decide⟩, by decide +kernel⟩,
   ⟨tFlight tDawn (tCmd 0x0107 (zeros 8) []), ⟨0, 0, 0⟩, tCmd 0x0107 (zeros 8) [], ⟨rfl, by decide, by decide⟩, by decide⟩⟩

theorem witness_CeremoniesCollectAndAuthorise :
    (∃ (s : State) (r : CmdRef) (c : Cmd), (AtWork 0x0C10 s r c) ∧ (ownOpen s (reqOf c) = none)) ∧
    (∃ (s : State) (r : CmdRef) (c : Cmd) (o : Officer), (AtWork 0x0C11 s r c) ∧ (ownSign s (reqOf c) = none) ∧ (signOfficer (lockNow s (cerPart cerSign (reqOf c))) (reqOf c) = some o)) ∧
    (∃ (s : State) (r : CmdRef) (c : Cmd), (AtWork 0x0C12 s r c) ∧ (ownCancel s (reqOf c) = none)) ∧
    (∃ (s : State) (r : CmdRef) (c : Cmd), (AtWork 0x0C12 s r c) ∧ (ownCancel s (reqOf c) = some stPolicyDenied)) ∧
    (∃ (s : State) (r : CmdRef) (c : Cmd), (AtWork 0x0C13 s r c) ∧ (ownQuery s (reqOf c) = none)) :=
  ⟨⟨tFlight tOfficers (tCmd 0x0C10 (zeros 40) []), ⟨0, 0, 0⟩, tCmd 0x0C10 (zeros 40) [], ⟨rfl, by decide, by decide⟩, by decide⟩,
   ⟨tFlight tCeremony (tCmd 0x0C11 ([1, 0, 0, 0, 1, 0, 0, 0] ++ zeros 8 ++ zeros 3309) []), ⟨0, 0, 0⟩, tCmd 0x0C11 ([1, 0, 0, 0, 1, 0, 0, 0] ++ zeros 8 ++ zeros 3309) [], tOfficer 1, ⟨rfl, by decide, by decide⟩, by decide +kernel, by decide +kernel⟩,
   ⟨tFlight tCeremony (tCmd 0x0C12 [1, 0, 0, 0, 0, 0, 0, 0] []), ⟨0, 0, 0⟩, tCmd 0x0C12 [1, 0, 0, 0, 0, 0, 0, 0] [], ⟨rfl, by decide, by decide⟩, by decide⟩,
   ⟨tFlight tCeremony (tCmd 0x0C12 [2, 0, 0, 0, 0, 0, 0, 0] []), ⟨0, 0, 0⟩, tCmd 0x0C12 [2, 0, 0, 0, 0, 0, 0, 0] [], ⟨rfl, by decide, by decide⟩, by decide⟩,
   ⟨tFlight tCeremony (tCmd 0x0C13 (zeros 8) []), ⟨0, 0, 0⟩, tCmd 0x0C13 (zeros 8) [], ⟨rfl, by decide, by decide⟩, by decide⟩⟩

theorem witness_MigrationMovesAPartition :
    (∃ (s : State) (r : CmdRef) (c : Cmd), (AtWork 0x0C20 s r c) ∧ (ownFreeze s (reqOf c) = none)) ∧
    (∃ (s : State) (r : CmdRef) (c : Cmd), (AtWork 0x0C21 s r c) ∧ (ownThaw s (reqOf c) = none) ∧ ((getPart s ((reqOf c).pay 0 2)).state = .frozen)) ∧
    (∃ (s : State) (r : CmdRef) (c : Cmd), (AtWork 0x0C21 s r c) ∧ (ownThaw s (reqOf c) = none) ∧ ((getPart s ((reqOf c).pay 0 2)).state = .importing) ∧ ((reqOf c).pay 0 2 ≠ r.part)) ∧
    (∃ (s : State) (r : CmdRef) (c : Cmd), (AtWork 0x0C21 s r c) ∧ (ownThaw s (reqOf c) = none) ∧ ((getPart s ((reqOf c).pay 0 2)).state = .exported)) ∧
    (∃ (s : State) (r : CmdRef) (c : Cmd), (AtWork 0x0C22 s r c) ∧ (ownOffer s (reqOf c) = none)) ∧
    (∃ (s : State) (r : CmdRef) (c : Cmd), (AtWork 0x0C23 s r c)) ∧
    (∃ (s : State) (r : CmdRef) (c : Cmd) (b : Blob), (AtWork 0x0C24 s r c) ∧ (ownExportChunk s (reqOf c) = none) ∧ ((getPart s ((reqOf c).pay 0 2)).blob = some b)) ∧
    (∃ (s : State) (r : CmdRef) (c : Cmd) (o : Offer), (AtWork 0x0C25 s r c) ∧ (ownImport s (reqOf c) = none) ∧ ((getPart s ((reqOf c).pay 0 2)).moveOffer = some o) ∧ (fld (imHeader (reqOf c)) 0x10 4 ≠ o.id.toNat ∨ o.expiry.toNat ≤ s.hzn.time.toNat)) ∧
    (∃ (s : State) (r : CmdRef) (c : Cmd) (o : Offer), (AtWork 0x0C25 s r c) ∧ (ownImport s (reqOf c) = none) ∧ ((getPart s ((reqOf c).pay 0 2)).moveOffer = some o) ∧ (fld (imHeader (reqOf c)) 0x10 4 = o.id.toNat) ∧ (s.hzn.time.toNat < o.expiry.toNat)) ∧
    (∃ (s : State) (r : CmdRef) (c : Cmd) (g : Staging), (AtWork 0x0C26 s r c) ∧ (ownImporting s (reqOf c) = none) ∧ ((getPart s ((reqOf c).pay 0 2)).staging = some g) ∧ (g.have_.length < g.chunks)) ∧
    (∃ (s : State) (r : CmdRef) (c : Cmd) (g : Staging), (AtWork 0x0C27 s r c) ∧ (ownImporting s (reqOf c) = none) ∧ ((getPart s ((reqOf c).pay 0 2)).staging = some g) ∧ (importedImage g = none) ∧ ((reqOf c).pay 0 2 ≠ r.part)) ∧
    (∃ (s : State) (r : CmdRef) (c : Cmd), (AtWork 0x0C28 s r c) ∧ (ownCommit s (reqOf c) = none) ∧ (c.payload.length = 4) ∧ ((reqOf c).pay 0 2 ≠ r.part)) :=
  ⟨⟨tFlight (tParts 1 .active) (tCmd 0x0C20 [1, 0, 0, 0, 0, 0, 0, 0] []), ⟨0, 0, 0⟩, tCmd 0x0C20 [1, 0, 0, 0, 0, 0, 0, 0] [], ⟨rfl, by decide, by decide⟩, by decide⟩,
   ⟨tFlight (tParts 1 .frozen) (tCmd 0x0C21 [1, 0, 0, 0] []), ⟨0, 0, 0⟩, tCmd 0x0C21 [1, 0, 0, 0] [], ⟨rfl, by decide, by decide⟩, by decide, by decide⟩,
   ⟨tFlight (tParts 1 .importing) (tCmd 0x0C21 [1, 0, 0, 0] []), ⟨0, 0, 0⟩, tCmd 0x0C21 [1, 0, 0, 0] [], ⟨rfl, by decide, by decide⟩, by decide, by decide, by decide⟩,
   ⟨tFlight (tParts 1 .exported) (tCmd 0x0C21 [1, 0, 0, 0] []), ⟨0, 0, 0⟩, tCmd 0x0C21 [1, 0, 0, 0] [], ⟨rfl, by decide, by decide⟩, by decide, by decide⟩,
   ⟨tFlight (tParts 1 .empty) (tCmd 0x0C22 [1, 0, 0, 0] []), ⟨0, 0, 0⟩, tCmd 0x0C22 [1, 0, 0, 0] [], ⟨rfl, by decide, by decide⟩, by decide⟩,
   ⟨tFlight tDawn (tCmd 0x0C23 (zeros 6421) []), ⟨0, 0, 0⟩, tCmd 0x0C23 (zeros 6421) [], ⟨rfl, by decide, by decide⟩⟩,
   ⟨tFlight tExported (tCmd 0x0C24 [1, 0, 0, 0, 0, 0, 0, 0] []), ⟨0, 0, 0⟩, tCmd 0x0C24 [1, 0, 0, 0, 0, 0, 0, 0] [], { tBlob with chunks := [[7]] }, ⟨rfl, by decide, by decide⟩, by decide, rfl⟩,
   ⟨tFlight (tOffered2 1) (tCmd 0x0C25 (([1, 0, 0, 0] ++ zeros 0x10 ++ [9, 0, 0, 0] ++ zeros 2 ++ [2, 0]) ++ zeros 1742) []), ⟨0, 0, 0⟩, tCmd 0x0C25 (([1, 0, 0, 0] ++ zeros 0x10 ++ [9, 0, 0, 0] ++ zeros 2 ++ [2, 0]) ++ zeros 1742) [], { tOffer with expiry := 100 }, ⟨rfl, by decide, by decide⟩, by decide +kernel, rfl, by decide +kernel⟩,
   ⟨tFlight (tOffered2 1) (tCmd 0x0C25 (([1, 0, 0, 0] ++ zeros 0x10 ++ [1, 0, 0, 0] ++ zeros 2 ++ [2, 0]) ++ zeros 1742) []), ⟨0, 0, 0⟩, tCmd 0x0C25 (([1, 0, 0, 0] ++ zeros 0x10 ++ [1, 0, 0, 0] ++ zeros 2 ++ [2, 0]) ++ zeros 1742) [], { tOffer with expiry := 100 }, ⟨rfl, by decide, by decide⟩, by decide +kernel, rfl, by decide +kernel, by decide⟩,
   ⟨tFlight tImporting (tCmd 0x0C26 ([1, 0, 0, 0] ++ zeros 36) []), ⟨0, 0, 0⟩, tCmd 0x0C26 ([1, 0, 0, 0] ++ zeros 36) [], tStaging, ⟨rfl, by decide, by decide⟩, by decide, rfl, by decide⟩,
   ⟨tFlight tImporting (tCmd 0x0C27 [1, 0, 0, 0] []), ⟨0, 0, 0⟩, tCmd 0x0C27 [1, 0, 0, 0] [], tStaging, ⟨rfl, by decide, by decide⟩, by decide, rfl, rfl, by decide⟩,
   ⟨tFlight tExported (tCmd 0x0C28 [1, 0, 0, 0] []), ⟨0, 0, 0⟩, tCmd 0x0C28 [1, 0, 0, 0] [], ⟨rfl, by decide, by decide⟩, by decide, by decide, by decide⟩⟩

theorem witness_KeyCommandsWriteAndReadKeys :
    (∃ (s : State) (r : CmdRef) (c : Cmd), (AtWork 0x0301 s r c)) ∧
    (∃ (s : State) (r : CmdRef) (c : Cmd) (v : KeyVal), (AtWork 0x0302 s r c) ∧ (loadKey s c ((reqOf c).key 0) = some v) ∧ (kbpkChk uUnwrap (kbVersion (impBlock (reqOf c))) v.attr = none)) ∧
    (∃ (s : State) (r : CmdRef) (c : Cmd) (k w : KeyVal), (AtWork 0x0303 s r c) ∧ (loadKey s c ((reqOf c).key 0) = some k) ∧ (loadKey s c ((reqOf c).key 4) = some w) ∧ (exportChk (reqOf c) k.attr = none) ∧ (wrapperChk (reqOf c) w.attr = none) ∧ (strengthChk k.attr w.attr = none) ∧ (expFormat (reqOf c) = 0)) ∧
    (∃ (s : State) (r : CmdRef) (c : Cmd) (i o : KeyVal), (AtWork 0x0304 s r c) ∧ (loadKey s c ((reqOf c).key 0) = some i) ∧ (loadKey s c ((reqOf c).key 4) = some o) ∧ (kbpkChk uUnwrap (kbVersion (impBlock (reqOf c))) i.attr = none) ∧ (kbpkChk uWrap (trVersion (reqOf c)) o.attr = none)) ∧
    (∃ (s : State) (r : CmdRef) (c : Cmd), (AtWork 0x0305 s r c) ∧ ((getKey s r.part ((reqOf c).key 0)).pending.head? = some r)) ∧
    (∃ (s : State) (r : CmdRef) (c : Cmd) (v : KeyVal), (AtWork 0x0306 s r c) ∧ ((getKey s r.part ((reqOf c).key 0)).cur = some v) ∧ ((getKey s r.part ((reqOf c).key 0)).failed = false)) ∧
    (∃ (s : State) (r : CmdRef) (c : Cmd), (AtWork 0x0306 s r c) ∧ ((getKey s r.part ((reqOf c).key 0)) = keyEmpty)) ∧
    (∃ (s : State) (r : CmdRef) (c : Cmd), (AtWork 0x030A s r c) ∧ (loadKey s c ((reqOf c).key 0) = none)) ∧
    (∃ (s : State) (r : CmdRef) (c : Cmd) (v : KeyVal), (AtWork 0x030A s r c) ∧ (loadKey s c ((reqOf c).key 0) = some v) ∧ (proveChk v.attr = none)) :=
  ⟨⟨tFlight tDawn (tCmd 0x0301 (zeros 32) []), ⟨0, 0, 0⟩, tCmd 0x0301 (zeros 32) [], ⟨rfl, by decide, by decide⟩⟩,
   ⟨tFlight (tHolds tK1 tVal) ({ tCmd 0x0302 (tRefs ++ zeros 8 ++ [0x44]) [] with keys := tTaken }), ⟨0, 0, 0⟩, { tCmd 0x0302 (tRefs ++ zeros 8 ++ [0x44]) [] with keys := tTaken }, tK1, ⟨rfl, by decide, by decide⟩, rfl, by decide⟩,
   ⟨tFlight (tHolds (tKey 0x12 256 [0x44, 0x30]) tK1) ({ tCmd 0x0303 (tRefs ++ [0, 0x44] ++ zeros 6) [] with keys := tTaken }), ⟨0, 0, 0⟩, { tCmd 0x0303 (tRefs ++ [0, 0x44] ++ zeros 6) [] with keys := tTaken }, tKey 0x12 256 [0x44, 0x30], tK1, ⟨rfl, by decide, by decide⟩, rfl, rfl, by decide, by decide, by decide, by decide⟩,
   ⟨tFlight (tHolds tK1 tK1) ({ tCmd 0x0304 (tRefs ++ [0x44] ++ zeros 7 ++ [0x44]) [] with keys := tTaken }), ⟨0, 0, 0⟩, { tCmd 0x0304 (tRefs ++ [0x44] ++ zeros 7 ++ [0x44]) [] with keys := tTaken }, tK1, tK1, ⟨rfl, by decide, by decide⟩, rfl, rfl, by decide, by decide⟩,
   ⟨tFlight tPendingDestroy (tCmd 0x0305 tRefs []), ⟨0, 0, 0⟩, tCmd 0x0305 tRefs [], ⟨rfl, by decide, by decide⟩, by decide⟩,
   ⟨tFlight (tHolds tK1 tVal) (tCmd 0x0306 tRefs []), ⟨0, 0, 0⟩, tCmd 0x0306 tRefs [], tK1, ⟨rfl, by decide, by decide⟩, rfl, rfl⟩,
   ⟨tFlight tDawn (tCmd 0x0306 tRefs []), ⟨0, 0, 0⟩, tCmd 0x0306 tRefs [], ⟨rfl, by decide, by decide⟩, rfl⟩,
   ⟨tFlight tDawn (tCmd 0x030A (zeros 40) []), ⟨0, 0, 0⟩, tCmd 0x030A (zeros 40) [], ⟨rfl, by decide, by decide⟩, by decide⟩,
   ⟨tFlight (tHolds tK1 tVal) ({ tCmd 0x030A (tRefs ++ zeros 32) [] with keys := tTaken }), ⟨0, 0, 0⟩, { tCmd 0x030A (tRefs ++ zeros 32) [] with keys := tTaken }, tK1, ⟨rfl, by decide, by decide⟩, rfl, by decide⟩⟩

theorem witness_TokensAndTheMasterKey :
    (∃ (s : State) (r : CmdRef) (c : Cmd), (AtWork 0x0307 s r c)) ∧
    (∃ (s : State) (r : CmdRef) (c : Cmd) (v : KeyVal), (AtWork 0x0308 s r c) ∧ (loadKey s c ((reqOf c).key 0) = some v)) ∧
    (∃ (s : State) (r : CmdRef) (c : Cmd), (AtWork 0x0309 s r c)) ∧
    (∃ (s : State) (r : CmdRef) (c : Cmd), (AtWork 0x030B s r c)) ∧
    (∃ (s : State) (r : CmdRef) (c : Cmd), (AtWork 0x030C s r c)) :=
  ⟨⟨tFlight tDawn (tCmd 0x0307 (zeros 136) []), ⟨0, 0, 0⟩, tCmd 0x0307 (zeros 136) [], ⟨rfl, by decide, by decide⟩⟩,
   ⟨tFlight (tHolds tK1 tVal) ({ tCmd 0x0308 tRefs [] with keys := tTaken }), ⟨0, 0, 0⟩, { tCmd 0x0308 tRefs [] with keys := tTaken }, tK1, ⟨rfl, by decide, by decide⟩, rfl⟩,
   ⟨tFlight tDawn (tCmd 0x0309 (zeros 8) []), ⟨0, 0, 0⟩, tCmd 0x0309 (zeros 8) [], ⟨rfl, by decide, by decide⟩⟩,
   ⟨tFlight tDawn (tCmd 0x030B (zeros 8) []), ⟨0, 0, 0⟩, tCmd 0x030B (zeros 8) [], ⟨rfl, by decide, by decide⟩⟩,
   ⟨tFlight tDawn (tCmd 0x030C (zeros 8) []), ⟨0, 0, 0⟩, tCmd 0x030C (zeros 8) [], ⟨rfl, by decide, by decide⟩⟩⟩

theorem witness_TransportBackupAndRestore :
    (∃ (s : State) (r : CmdRef) (c : Cmd), (AtWork 0x0310 s r c)) ∧
    (∃ (s : State) (r : CmdRef) (c : Cmd) (k d : KeyVal), (AtWork 0x0311 s r c) ∧ (loadKey s c ((reqOf c).key 0) = some k) ∧ (loadKey s c ((reqOf c).key 4) = some d) ∧ (k.attr.export_ ≠ 0) ∧ (rsaKeyChk uSign d.attr = none)) ∧
    (∃ (s : State) (r : CmdRef) (c : Cmd) (k : KeyVal) (n : Nonce), (AtWork 0x0312 s r c) ∧ (loadKey s c ((reqOf c).key 0) = some k) ∧ (rsaKeyChk uDecrypt k.attr = none) ∧ ((getPart s r.part).nonces.find? (fun m => m.id == ((reqOf c).key 8)) = some n)) ∧
    (∃ (s : State) (r : CmdRef) (c : Cmd) (k : KeyVal), (AtWork 0x0312 s r c) ∧ (loadKey s c ((reqOf c).key 0) = some k) ∧ (rsaKeyChk uDecrypt k.attr = none) ∧ ((getPart s r.part).nonces.find? (fun m => m.id == ((reqOf c).key 8)) = none)) ∧
    (∃ (s : State) (r : CmdRef) (c : Cmd), (AtWork 0x0318 s r c) ∧ (backupTurn s r = true)) ∧
    (∃ (s : State) (r : CmdRef) (c : Cmd) (b : Blob) (d : Bytes), (AtWork 0x0319 s r c) ∧ ((getPart s r.part).backup = some b) ∧ (b.chunks[(reqOf c).pay 4 4]? = some d)) ∧
    (∃ (s : State) (r : CmdRef) (c : Cmd), (AtWork 0x031A s r c)) ∧
    (∃ (s : State) (r : CmdRef) (c : Cmd), (AtWork 0x031B s r c) ∧ ((getPart s r.part).keyOffer = none)) ∧
    (∃ (s : State) (r : CmdRef) (c : Cmd) (o : Offer), (AtWork 0x031B s r c) ∧ ((getPart s r.part).keyOffer = some o) ∧ (o.id = ((reqOf c).key 0)) ∧ (s.hzn.time.toNat < o.expiry.toNat)) ∧
    (∃ (s : State) (r : CmdRef) (c : Cmd) (g : Staging), (AtWork 0x031C s r c) ∧ ((getPart s r.part).restore = some g) ∧ (g.have_.length < g.chunks)) ∧
    (∃ (s : State) (r : CmdRef) (c : Cmd) (g : Staging), (AtWork 0x031D s r c) ∧ ((getPart s r.part).restore = some g)) :=
  ⟨⟨tFlight tDawn (tCmd 0x0310 [] []), ⟨0, 0, 0⟩, tCmd 0x0310 [] [], ⟨rfl, by decide, by decide⟩⟩,
   ⟨tFlight (tHolds tK1 (tKey 0x30 2048 [0x44, 0x30])) ({ tCmd 0x0311 (tRefs ++ zeros 24) [] with keys := tTaken }), ⟨0, 0, 0⟩, { tCmd 0x0311 (tRefs ++ zeros 24) [] with keys := tTaken }, tK1, tKey 0x30 2048 [0x44, 0x30], ⟨rfl, by decide, by decide⟩, rfl, rfl, by decide, by decide⟩,
   ⟨tFlight tTr34 ({ tCmd 0x0312 (tRefs ++ [1, 0, 0, 0] ++ zeros 20) [] with keys := tTaken }), ⟨0, 0, 0⟩, { tCmd 0x0312 (tRefs ++ [1, 0, 0, 0] ++ zeros 20) [] with keys := tTaken }, tKey 0x30 2048 [0x44, 0x30], tNonce, ⟨rfl, by decide, by decide⟩, rfl, by decide, rfl⟩,
   ⟨tFlight tTr34 ({ tCmd 0x0312 (tRefs ++ [7, 0, 0, 0] ++ zeros 20) [] with keys := tTaken }), ⟨0, 0, 0⟩, { tCmd 0x0312 (tRefs ++ [7, 0, 0, 0] ++ zeros 20) [] with keys := tTaken }, tKey 0x30 2048 [0x44, 0x30], ⟨rfl, by decide, by decide⟩, rfl, by decide, rfl⟩,
   ⟨tFlight tOfficers (tCmd 0x0318 (zeros 8) []), ⟨0, 0, 0⟩, tCmd 0x0318 (zeros 8) [], ⟨rfl, by decide, by decide⟩, by decide⟩,
   ⟨tFlight tBackup (tCmd 0x0319 (zeros 8) []), ⟨0, 0, 0⟩, tCmd 0x0319 (zeros 8) [], { tBlob with chunks := [[7], [8]] }, [7], ⟨rfl, by decide, by decide⟩, rfl, rfl⟩,
   ⟨tFlight tDawn (tCmd 0x031A (zeros 8) []), ⟨0, 0, 0⟩, tCmd 0x031A (zeros 8) [], ⟨rfl, by decide, by decide⟩⟩,
   ⟨tFlight tDawn (tCmd 0x031B (zeros 32) []), ⟨0, 0, 0⟩, tCmd 0x031B (zeros 32) [], ⟨rfl, by decide, by decide⟩, by decide⟩,
   ⟨tFlight tKeyOffer (tCmd 0x031B ([1, 0, 0, 0] ++ zeros 28) []), ⟨0, 0, 0⟩, tCmd 0x031B ([1, 0, 0, 0] ++ zeros 28) [], { tOffer with expiry := 100 }, ⟨rfl, by decide, by decide⟩, rfl, by decide, by decide⟩,
   ⟨tFlight tRestore (tCmd 0x031C (zeros 32) []), ⟨0, 0, 0⟩, tCmd 0x031C (zeros 32) [], tStaging, ⟨rfl, by decide, by decide⟩, rfl, by decide⟩,
   ⟨tFlight tRestore (tCmd 0x031D (zeros 8) []), ⟨0, 0, 0⟩, tCmd 0x031D (zeros 8) [], tStaging, ⟨rfl, by decide, by decide⟩, rfl⟩⟩

theorem witness_CiphersRunOneShotAndAsStreams :
    (∃ (s : State) (r : CmdRef) (c : Cmd) (v : KeyVal), (AtWork 0x0401 s r c) ∧ (loadKey s c ((reqOf c).key 0) = some v) ∧ (symKeyChk true (reqOf c) v.attr = none) ∧ (symMode (reqOf c) ≠ 7)) ∧
    (∃ (s : State) (r : CmdRef) (c : Cmd) (v : KeyVal), (AtWork 0x0401 s r c) ∧ (loadKey s c ((reqOf c).key 0) = some v) ∧ (symKeyChk true (reqOf c) v.attr = none) ∧ (symMode (reqOf c) = 7)) ∧
    (∃ (s : State) (r : CmdRef) (c : Cmd) (v : KeyVal), (AtWork 0x0402 s r c) ∧ (loadKey s c ((reqOf c).key 0) = some v) ∧ (symKeyChk false (reqOf c) v.attr = none) ∧ (symMode (reqOf c) ≠ 7)) ∧
    (∃ (s : State) (r : CmdRef) (c : Cmd) (v : KeyVal), (AtWork 0x0402 s r c) ∧ (loadKey s c ((reqOf c).key 0) = some v) ∧ (symKeyChk false (reqOf c) v.attr = none) ∧ (symMode (reqOf c) = 7)) ∧
    (∃ (s : State) (r : CmdRef) (c : Cmd) (st : Status), (AtEnd 0x0401 s r c st)) ∧
    (∃ (s : State) (r : CmdRef) (c : Cmd) (st : Status), (AtEnd 0x0402 s r c st)) ∧
    (∃ (s : State) (r : CmdRef) (c : Cmd), (AtWork 0x0401 s r c) ∧ (loadKey s c ((reqOf c).key 0) = none)) ∧
    (∃ (s : State) (r : CmdRef) (c : Cmd), (AtWork 0x0402 s r c) ∧ (loadKey s c ((reqOf c).key 0) = none)) :=
  ⟨⟨tFlight (tHolds (tKey 0x12 256 [0x44, 0x30]) tVal) ({ tCmd 0x0401 ([1, 0, 0, 0x40, 1, 0, 12, 0] ++ zeros 56) [] with keys := tTaken }), ⟨0, 0, 0⟩, { tCmd 0x0401 ([1, 0, 0, 0x40, 1, 0, 12, 0] ++ zeros 56) [] with keys := tTaken }, tKey 0x12 256 [0x44, 0x30], ⟨rfl, by decide, by decide⟩, rfl, by decide, by decide⟩,
   ⟨tFlight (tHolds (tKey 0x12 256 [0x44, 0x30]) tVal) ({ tCmd 0x0401 ([1, 0, 0, 0x40, 7, 0, 12, 0] ++ zeros 56) [] with keys := tTaken }), ⟨0, 0, 0⟩, { tCmd 0x0401 ([1, 0, 0, 0x40, 7, 0, 12, 0] ++ zeros 56) [] with keys := tTaken }, tKey 0x12 256 [0x44, 0x30], ⟨rfl, by decide, by decide⟩, rfl, by decide, by decide⟩,
   ⟨tFlight (tHolds (tKey 0x12 256 [0x44, 0x30]) tVal) ({ tCmd 0x0402 ([1, 0, 0, 0x40, 1, 0, 12, 0] ++ zeros 56) [] with keys := tTaken }), ⟨0, 0, 0⟩, { tCmd 0x0402 ([1, 0, 0, 0x40, 1, 0, 12, 0] ++ zeros 56) [] with keys := tTaken }, tKey 0x12 256 [0x44, 0x30], ⟨rfl, by decide, by decide⟩, rfl, by decide, by decide⟩,
   ⟨tFlight (tHolds (tKey 0x12 256 [0x44, 0x30]) tVal) ({ tCmd 0x0402 ([1, 0, 0, 0x40, 7, 0, 12, 0] ++ zeros 56) [] with keys := tTaken }), ⟨0, 0, 0⟩, { tCmd 0x0402 ([1, 0, 0, 0x40, 7, 0, 12, 0] ++ zeros 56) [] with keys := tTaken }, tKey 0x12 256 [0x44, 0x30], ⟨rfl, by decide, by decide⟩, rfl, by decide, by decide⟩,
   ⟨tFlight tDawn { tCmd 0x0401 (zeros 64) [] with cut := some stAborted, abort := some 4 }, ⟨0, 0, 0⟩, { tCmd 0x0401 (zeros 64) [] with cut := some stAborted, abort := some 4 }, stAborted, ⟨rfl, by decide, rfl⟩⟩,
   ⟨tFlight tDawn { tCmd 0x0402 (zeros 64) [] with cut := some stAborted, abort := some 4 }, ⟨0, 0, 0⟩, { tCmd 0x0402 (zeros 64) [] with cut := some stAborted, abort := some 4 }, stAborted, ⟨rfl, by decide, rfl⟩⟩,
   ⟨tFlight tDawn (tCmd 0x0401 (zeros 64) []), ⟨0, 0, 0⟩, tCmd 0x0401 (zeros 64) [], ⟨rfl, by decide, by decide⟩, by decide⟩,
   ⟨tFlight tDawn (tCmd 0x0402 (zeros 64) []), ⟨0, 0, 0⟩, tCmd 0x0402 (zeros 64) [], ⟨rfl, by decide, by decide⟩, by decide⟩⟩

theorem witness_DigestsAndMacsRunOneShotAndAsStreams :
    (∃ (s : State) (r : CmdRef) (c : Cmd), (AtWork 0x0501 s r c)) ∧
    (∃ (s : State) (r : CmdRef) (c : Cmd), (AtWork 0x0502 s r c)) ∧
    (∃ (s : State) (r : CmdRef) (c : Cmd) (v : KeyVal), (AtWork 0x0503 s r c) ∧ (loadKey s c ((reqOf c).key 0) = some v) ∧ (macKeyChk false (reqOf c) v.attr = none)) ∧
    (∃ (s : State) (r : CmdRef) (c : Cmd) (v : KeyVal), (AtWork 0x0504 s r c) ∧ (loadKey s c ((reqOf c).key 0) = some v) ∧ (macKeyChk true (reqOf c) v.attr = none)) ∧
    (∃ (s : State) (r : CmdRef) (c : Cmd) (st : Status), (AtEnd 0x0501 s r c st)) ∧
    (∃ (s : State) (r : CmdRef) (c : Cmd) (st : Status), (AtEnd 0x0502 s r c st)) ∧
    (∃ (s : State) (r : CmdRef) (c : Cmd) (st : Status), (AtEnd 0x0503 s r c st)) ∧
    (∃ (s : State) (r : CmdRef) (c : Cmd) (st : Status), (AtEnd 0x0504 s r c st)) ∧
    (∃ (s : State) (r : CmdRef) (c : Cmd), (AtWork 0x0503 s r c) ∧ (loadKey s c ((reqOf c).key 0) = none)) ∧
    (∃ (s : State) (r : CmdRef) (c : Cmd), (AtWork 0x0504 s r c) ∧ (loadKey s c ((reqOf c).key 0) = none)) :=
  ⟨⟨tFlight tDawn (tCmd 0x0501 (zeros 4 ++ [2] ++ zeros 91) []), ⟨0, 0, 0⟩, tCmd 0x0501 (zeros 4 ++ [2] ++ zeros 91) [], ⟨rfl, by decide, by decide⟩⟩,
   ⟨tFlight tDawn (tCmd 0x0502 (zeros 4 ++ [2] ++ zeros 91) []), ⟨0, 0, 0⟩, tCmd 0x0502 (zeros 4 ++ [2] ++ zeros 91) [], ⟨rfl, by decide, by decide⟩⟩,
   ⟨tFlight (tHolds (tKey 0x12 256 [0x44, 0x30]) tVal) ({ tCmd 0x0503 ([1, 0, 0, 0x40, 0x40] ++ zeros 91) [] with keys := tTaken }), ⟨0, 0, 0⟩, { tCmd 0x0503 ([1, 0, 0, 0x40, 0x40] ++ zeros 91) [] with keys := tTaken }, tKey 0x12 256 [0x44, 0x30], ⟨rfl, by decide, by decide⟩, rfl, by decide⟩,
   ⟨tFlight (tHolds (tKey 0x12 256 [0x44, 0x30]) tVal) ({ tCmd 0x0504 ([1, 0, 0, 0x40, 0x40] ++ zeros 91) [] with keys := tTaken }), ⟨0, 0, 0⟩, { tCmd 0x0504 ([1, 0, 0, 0x40, 0x40] ++ zeros 91) [] with keys := tTaken }, tKey 0x12 256 [0x44, 0x30], ⟨rfl, by decide, by decide⟩, rfl, by decide⟩,
   ⟨tFlight tDawn { tCmd 0x0501 (zeros 96) [] with cut := some stAborted, abort := some 4 }, ⟨0, 0, 0⟩, { tCmd 0x0501 (zeros 96) [] with cut := some stAborted, abort := some 4 }, stAborted, ⟨rfl, by decide, rfl⟩⟩,
   ⟨tFlight tDawn { tCmd 0x0502 (zeros 96) [] with cut := some stAborted, abort := some 4 }, ⟨0, 0, 0⟩, { tCmd 0x0502 (zeros 96) [] with cut := some stAborted, abort := some 4 }, stAborted, ⟨rfl, by decide, rfl⟩⟩,
   ⟨tFlight tDawn { tCmd 0x0503 (zeros 96) [] with cut := some stAborted, abort := some 4 }, ⟨0, 0, 0⟩, { tCmd 0x0503 (zeros 96) [] with cut := some stAborted, abort := some 4 }, stAborted, ⟨rfl, by decide, rfl⟩⟩,
   ⟨tFlight tDawn { tCmd 0x0504 (zeros 96) [] with cut := some stAborted, abort := some 4 }, ⟨0, 0, 0⟩, { tCmd 0x0504 (zeros 96) [] with cut := some stAborted, abort := some 4 }, stAborted, ⟨rfl, by decide, rfl⟩⟩,
   ⟨tFlight tDawn (tCmd 0x0503 (zeros 96) []), ⟨0, 0, 0⟩, tCmd 0x0503 (zeros 96) [], ⟨rfl, by decide, by decide⟩, by decide⟩,
   ⟨tFlight tDawn (tCmd 0x0504 (zeros 96) []), ⟨0, 0, 0⟩, tCmd 0x0504 (zeros 96) [], ⟨rfl, by decide, by decide⟩, by decide⟩⟩

theorem witness_PublicKeyCommandsSignAgreeAndEncrypt :
    (∃ (s : State) (r : CmdRef) (c : Cmd) (v : KeyVal), (AtWork 0x0601 s r c) ∧ (loadKey s c ((reqOf c).key 0) = some v) ∧ (pkKeyChk 1 (reqOf c) v.attr = none) ∧ (((reqOf c).key 4) = 0)) ∧
    (∃ (s : State) (r : CmdRef) (c : Cmd) (v w : KeyVal), (AtWork 0x0601 s r c) ∧ (loadKey s c ((reqOf c).key 0) = some v) ∧ (pkKeyChk 1 (reqOf c) v.attr = none) ∧ (((reqOf c).key 4) ≠ 0) ∧ (loadKey s c ((reqOf c).key 4) = some w) ∧ (pkKey2Chk w.attr = none)) ∧
    (∃ (s : State) (r : CmdRef) (c : Cmd), (AtWork 0x0602 s r c) ∧ (pkAlg2 (reqOf c) = 0)) ∧
    (∃ (s : State) (r : CmdRef) (c : Cmd), (AtWork 0x0602 s r c) ∧ (pkAlg2 (reqOf c) ≠ 0) ∧ (verifyInputs (pkAlg (reqOf c)) (pkA (reqOf c)) (pkB (reqOf c)) = none) ∧ (verifyInputs (pkAlg2 (reqOf c)) (pkC (reqOf c)) (pkD (reqOf c)) = none)) ∧
    (∃ (s : State) (r : CmdRef) (c : Cmd) (v : KeyVal), (AtWork 0x0603 s r c) ∧ (loadKey s c ((reqOf c).key 0) = some v) ∧ (pkKeyChk 3 (reqOf c) v.attr = none)) ∧
    (∃ (s : State) (r : CmdRef) (c : Cmd), (AtWork 0x0604 s r c)) ∧
    (∃ (s : State) (r : CmdRef) (c : Cmd) (v : KeyVal), (AtWork 0x0605 s r c) ∧ (loadKey s c ((reqOf c).key 0) = some v) ∧ (pkKeyChk 5 (reqOf c) v.attr = none)) ∧
    (∃ (s : State) (r : CmdRef) (c : Cmd), (AtWork 0x0606 s r c)) ∧
    (∃ (s : State) (r : CmdRef) (c : Cmd) (v : KeyVal), (AtWork 0x0607 s r c) ∧ (loadKey s c ((reqOf c).key 0) = some v) ∧ (pkKeyChk 7 (reqOf c) v.attr = none)) ∧
    (∃ (s : State) (r : CmdRef) (c : Cmd) (v : KeyVal), (AtWork 0x0608 s r c) ∧ (loadKey s c ((reqOf c).key 0) = some v) ∧ (pkKeyChk 8 (reqOf c) v.attr = none)) ∧
    (∃ (s : State) (r : CmdRef) (c : Cmd), (AtWork 0x0601 s r c) ∧ (loadKey s c ((reqOf c).key 0) = none)) ∧
    (∃ (s : State) (r : CmdRef) (c : Cmd), (AtWork 0x0608 s r c) ∧ (loadKey s c ((reqOf c).key 0) = none)) :=
  ⟨⟨tFlight (tHolds (tKey 0x30 2048 [0x44, 0x30]) (tVal)) ({ tCmd 0x0601 ([1, 0, 0, 0x40] ++ zeros 4 ++ [1, 2] ++ zeros 54) [] with keys := tTaken }), ⟨0, 0, 0⟩, { tCmd 0x0601 ([1, 0, 0, 0x40] ++ zeros 4 ++ [1, 2] ++ zeros 54) [] with keys := tTaken }, tKey 0x30 2048 [0x44, 0x30], ⟨rfl, by decide, by decide⟩, rfl, by decide, by decide⟩,
   ⟨tFlight (tHolds (tKey 0x51 0 [0x44, 0x30]) (tKey 0x40 256 [0x44, 0x30])) ({ tCmd 0x0601 ([1, 0, 0, 0x40, 2, 0, 0, 0x40, 0x30, 0x10] ++ zeros 54) [] with keys := tTaken }), ⟨0, 0, 0⟩, { tCmd 0x0601 ([1, 0, 0, 0x40, 2, 0, 0, 0x40, 0x30, 0x10] ++ zeros 54) [] with keys := tTaken }, tKey 0x51 0 [0x44, 0x30], tKey 0x40 256 [0x44, 0x30], ⟨rfl, by decide, by decide⟩, rfl, by decide, by decide, rfl, by decide⟩,
   ⟨tFlight tDawn (tCmd 0x0602 (zeros 64) []), ⟨0, 0, 0⟩, tCmd 0x0602 (zeros 64) [], ⟨rfl, by decide, by decide⟩, by decide⟩,
   ⟨tFlight tDawn (tCmd 0x0602 (zeros 13 ++ [0x33] ++ zeros 50) []), ⟨0, 0, 0⟩, tCmd 0x0602 (zeros 13 ++ [0x33] ++ zeros 50) [], ⟨rfl, by decide, by decide⟩, by decide, by decide, by decide⟩,
   ⟨tFlight (tHolds (tKey 0x40 256 [0x44, 0x30]) (tVal)) ({ tCmd 0x0603 ([1, 0, 0, 0x40] ++ zeros 12 ++ [65, 0, 0, 0] ++ zeros 44) [] with keys := tTaken }), ⟨0, 0, 0⟩, { tCmd 0x0603 ([1, 0, 0, 0x40] ++ zeros 12 ++ [65, 0, 0, 0] ++ zeros 44) [] with keys := tTaken }, tKey 0x40 256 [0x44, 0x30], ⟨rfl, by decide, by decide⟩, rfl, by decide⟩,
   ⟨tFlight tDawn (tCmd 0x0604 (zeros 64) []), ⟨0, 0, 0⟩, tCmd 0x0604 (zeros 64) [], ⟨rfl, by decide, by decide⟩⟩,
   ⟨tFlight (tHolds (tKey 0x58 0 [0x44, 0x30]) (tVal)) ({ tCmd 0x0605 ([1, 0, 0, 0x40] ++ zeros 12 ++ [0, 3, 0, 0] ++ zeros 44) [] with keys := tTaken }), ⟨0, 0, 0⟩, { tCmd 0x0605 ([1, 0, 0, 0x40] ++ zeros 12 ++ [0, 3, 0, 0] ++ zeros 44) [] with keys := tTaken }, tKey 0x58 0 [0x44, 0x30], ⟨rfl, by decide, by decide⟩, rfl, by decide⟩,
   ⟨tFlight tDawn (tCmd 0x0606 (zeros 64) []), ⟨0, 0, 0⟩, tCmd 0x0606 (zeros 64) [], ⟨rfl, by decide, by decide⟩⟩,
   ⟨tFlight (tHolds (tKey 0x30 2048 [0x44, 0x30]) (tVal)) ({ tCmd 0x0607 ([1, 0, 0, 0x40] ++ zeros 12 ++ [0, 1, 0, 0] ++ zeros 44) [] with keys := tTaken }), ⟨0, 0, 0⟩, { tCmd 0x0607 ([1, 0, 0, 0x40] ++ zeros 12 ++ [0, 1, 0, 0] ++ zeros 44) [] with keys := tTaken }, tKey 0x30 2048 [0x44, 0x30], ⟨rfl, by decide, by decide⟩, rfl, by decide⟩,
   ⟨tFlight (tHolds (tKey 0x30 2048 [0x44, 0x30]) (tVal)) ({ tCmd 0x0608 ([1, 0, 0, 0x40] ++ zeros 60) [] with keys := tTaken }), ⟨0, 0, 0⟩, { tCmd 0x0608 ([1, 0, 0, 0x40] ++ zeros 60) [] with keys := tTaken }, tKey 0x30 2048 [0x44, 0x30], ⟨rfl, by decide, by decide⟩, rfl, by decide⟩,
   ⟨tFlight tDawn (tCmd 0x0601 (zeros 64) []), ⟨0, 0, 0⟩, tCmd 0x0601 (zeros 64) [], ⟨rfl, by decide, by decide⟩, by decide⟩,
   ⟨tFlight tDawn (tCmd 0x0608 (zeros 64) []), ⟨0, 0, 0⟩, tCmd 0x0608 (zeros 64) [], ⟨rfl, by decide, by decide⟩, by decide⟩⟩

theorem witness_GeneratorCommandsEndAsSpecified :
    (∃ (s : State) (r : CmdRef) (c : Cmd), (AtWork 0x0701 s r c)) ∧
    (∃ (s : State) (r : CmdRef) (c : Cmd), (AtWork 0x0702 s r c) ∧ ((reqOf c).pay 0 1 = 0)) ∧
    (∃ (s : State) (r : CmdRef) (c : Cmd) (cond expd : Bool), (AtWork 0x0702 s r c) ∧ ((reqOf c).pay 0 1 = 0) ∧ ((cond && expd) = false) ∧ (r ∉ s.rng.restartCmds)) ∧
    (∃ (s : State) (r : CmdRef) (c : Cmd) (cond expd : Bool), (AtWork 0x0702 s r c) ∧ ((reqOf c).pay 0 1 = 1)) ∧
    (∃ (s : State) (r : CmdRef) (c : Cmd) (cond expd : Bool), (AtWork 0x0702 s r c) ∧ ((reqOf c).pay 0 1 ≠ 0) ∧ ((reqOf c).pay 0 1 ≠ 1)) ∧
    (∃ (s : State) (r : CmdRef) (c : Cmd), (AtWork 0x0703 s r c)) ∧
    (∃ (s : State) (r : CmdRef) (c : Cmd) (samples : Bytes), (AtWork 0x0704 s r c)) :=
  ⟨⟨tFlight tDawn (tCmd 0x0701 [4, 0, 0, 0] []), ⟨0, 0, 0⟩, tCmd 0x0701 [4, 0, 0, 0] [], ⟨rfl, by decide, by decide⟩⟩,
   ⟨tFlight tDawn (tCmd 0x0702 (zeros 152) []), ⟨0, 0, 0⟩, tCmd 0x0702 (zeros 152) [], ⟨rfl, by decide, by decide⟩, by decide⟩,
   ⟨tFlight tDawn (tCmd 0x0702 (zeros 152) []), ⟨0, 0, 0⟩, tCmd 0x0702 (zeros 152) [], true, false, ⟨rfl, by decide, by decide⟩, by decide, rfl, by decide⟩,
   ⟨tFlight tDawn (tCmd 0x0702 ([1] ++ zeros 152) []), ⟨0, 0, 0⟩, tCmd 0x0702 ([1] ++ zeros 152) [], true, true, ⟨rfl, by decide, by decide⟩, by decide⟩,
   ⟨tFlight tDawn (tCmd 0x0702 ([2] ++ zeros 151) []), ⟨0, 0, 0⟩, tCmd 0x0702 ([2] ++ zeros 151) [], true, true, ⟨rfl, by decide, by decide⟩, by decide, by decide⟩,
   ⟨tFlight tDawn (tCmd 0x0703 [] []), ⟨0, 0, 0⟩, tCmd 0x0703 [] [], ⟨rfl, by decide, by decide⟩⟩,
   ⟨tFlight tDawn (tCmd 0x0704 [0, 0, 0, 0, 16, 0, 0, 0] []), ⟨0, 0, 0⟩, tCmd 0x0704 [0, 0, 0, 0, 16, 0, 0, 0] [], [1, 2], ⟨rfl, by decide, by decide⟩⟩⟩

theorem witness_PinCommandsVerifyAndTranslate :
    (∃ (s : State) (r : CmdRef) (c : Cmd) (v w : KeyVal), (AtWork 0x0801 s r c) ∧ (loadKey s c ((reqOf c).key 0) = some v) ∧ (loadKey s c ((reqOf c).key 0x3C) = some w) ∧ (pinKeyChk (reqOf c) v.attr = none) ∧ (firstFail [trOutChk (reqOf c) w.attr, trBits c.policy (reqOf c) v.attr w.attr] = none)) ∧
    (∃ (s : State) (r : CmdRef) (c : Cmd) (v w : KeyVal), (AtWork 0x0802 s r c) ∧ (loadKey s c ((reqOf c).key 0) = some v) ∧ (loadKey s c ((reqOf c).key 0x3C) = some w) ∧ (pinKeyChk (reqOf c) v.attr = none) ∧ (pvkChk true w.attr = none)) ∧
    (∃ (s : State) (r : CmdRef) (c : Cmd) (v w : KeyVal), (AtWork 0x0804 s r c) ∧ (loadKey s c ((reqOf c).key 0) = some v) ∧ (loadKey s c ((reqOf c).key 0x3C) = some w) ∧ (pinKeyChk (reqOf c) v.attr = none) ∧ (pvkChk true w.attr = none)) ∧
    (∃ (s : State) (r : CmdRef) (c : Cmd) (v w : KeyVal), (AtWork 0x0803 s r c) ∧ (loadKey s c ((reqOf c).key 0) = some v) ∧ (loadKey s c ((reqOf c).key 0x3C) = some w) ∧ (pinKeyChk (reqOf c) v.attr = none) ∧ (pvkChk false w.attr = none)) ∧
    (∃ (s : State) (r : CmdRef) (c : Cmd) (v w : KeyVal), (AtWork 0x0805 s r c) ∧ (loadKey s c ((reqOf c).key 0) = some v) ∧ (loadKey s c ((reqOf c).key 0x3C) = some w) ∧ (pinKeyChk (reqOf c) v.attr = none) ∧ (pvkChk false w.attr = none)) ∧
    (∃ (s : State) (r : CmdRef) (c : Cmd), (AtWork 0x0801 s r c) ∧ (loadKey s c ((reqOf c).key 0) = none)) ∧
    (∃ (s : State) (r : CmdRef) (c : Cmd), (AtWork 0x0802 s r c) ∧ (loadKey s c ((reqOf c).key 0) = none)) ∧
    (∃ (s : State) (r : CmdRef) (c : Cmd), (AtWork 0x0803 s r c) ∧ (loadKey s c ((reqOf c).key 0) = none)) ∧
    (∃ (s : State) (r : CmdRef) (c : Cmd), (AtWork 0x0804 s r c) ∧ (loadKey s c ((reqOf c).key 0) = none)) ∧
    (∃ (s : State) (r : CmdRef) (c : Cmd), (AtWork 0x0805 s r c) ∧ (loadKey s c ((reqOf c).key 0) = none)) :=
  ⟨⟨tFlight (tHolds (tKey 0x01 128 [0x44, 0x30]) (tKey 0x01 128 [0x44, 0x30])) ({ tCmd 0x0801 ([1, 0, 0, 0x40] ++ zeros 56 ++ [2, 0, 0, 0x40] ++ zeros 40) [] with keys := tTaken }), ⟨0, 0, 0⟩, { tCmd 0x0801 ([1, 0, 0, 0x40] ++ zeros 56 ++ [2, 0, 0, 0x40] ++ zeros 40) [] with keys := tTaken }, tKey 0x01 128 [0x44, 0x30], tKey 0x01 128 [0x44, 0x30], ⟨rfl, by decide, by decide⟩, rfl, rfl, by decide, by decide⟩,
   ⟨tFlight (tHolds (tKey 0x01 128 [0x44, 0x30]) (tKey 0x01 128 [0x44, 0x30])) ({ tCmd 0x0802 ([1, 0, 0, 0x40] ++ zeros 56 ++ [2, 0, 0, 0x40] ++ zeros 40) [] with keys := tTaken }), ⟨0, 0, 0⟩, { tCmd 0x0802 ([1, 0, 0, 0x40] ++ zeros 56 ++ [2, 0, 0, 0x40] ++ zeros 40) [] with keys := tTaken }, tKey 0x01 128 [0x44, 0x30], tKey 0x01 128 [0x44, 0x30], ⟨rfl, by decide, by decide⟩, rfl, rfl, by decide, by decide⟩,
   ⟨tFlight (tHolds (tKey 0x01 128 [0x44, 0x30]) (tKey 0x01 128 [0x44, 0x30])) ({ tCmd 0x0804 ([1, 0, 0, 0x40] ++ zeros 56 ++ [2, 0, 0, 0x40] ++ zeros 40) [] with keys := tTaken }), ⟨0, 0, 0⟩, { tCmd 0x0804 ([1, 0, 0, 0x40] ++ zeros 56 ++ [2, 0, 0, 0x40] ++ zeros 40) [] with keys := tTaken }, tKey 0x01 128 [0x44, 0x30], tKey 0x01 128 [0x44, 0x30], ⟨rfl, by decide, by decide⟩, rfl, rfl, by decide, by decide⟩,
   ⟨tFlight (tHolds (tKey 0x01 128 [0x44, 0x30]) (tKey 0x01 128 [0x44, 0x30])) ({ tCmd 0x0803 ([1, 0, 0, 0x40] ++ zeros 56 ++ [2, 0, 0, 0x40] ++ zeros 40) [] with keys := tTaken }), ⟨0, 0, 0⟩, { tCmd 0x0803 ([1, 0, 0, 0x40] ++ zeros 56 ++ [2, 0, 0, 0x40] ++ zeros 40) [] with keys := tTaken }, tKey 0x01 128 [0x44, 0x30], tKey 0x01 128 [0x44, 0x30], ⟨rfl, by decide, by decide⟩, rfl, rfl, by decide, by decide⟩,
   ⟨tFlight (tHolds (tKey 0x01 128 [0x44, 0x30]) (tKey 0x01 128 [0x44, 0x30])) ({ tCmd 0x0805 ([1, 0, 0, 0x40] ++ zeros 56 ++ [2, 0, 0, 0x40] ++ zeros 40) [] with keys := tTaken }), ⟨0, 0, 0⟩, { tCmd 0x0805 ([1, 0, 0, 0x40] ++ zeros 56 ++ [2, 0, 0, 0x40] ++ zeros 40) [] with keys := tTaken }, tKey 0x01 128 [0x44, 0x30], tKey 0x01 128 [0x44, 0x30], ⟨rfl, by decide, by decide⟩, rfl, rfl, by decide, by decide⟩,
   ⟨tFlight tDawn (tCmd 0x0801 (zeros 72) []), ⟨0, 0, 0⟩, tCmd 0x0801 (zeros 72) [], ⟨rfl, by decide, by decide⟩, by decide⟩,
   ⟨tFlight tDawn (tCmd 0x0802 (zeros 72) []), ⟨0, 0, 0⟩, tCmd 0x0802 (zeros 72) [], ⟨rfl, by decide, by decide⟩, by decide⟩,
   ⟨tFlight tDawn (tCmd 0x0803 (zeros 72) []), ⟨0, 0, 0⟩, tCmd 0x0803 (zeros 72) [], ⟨rfl, by decide, by decide⟩, by decide⟩,
   ⟨tFlight tDawn (tCmd 0x0804 (zeros 72) []), ⟨0, 0, 0⟩, tCmd 0x0804 (zeros 72) [], ⟨rfl, by decide, by decide⟩, by decide⟩,
   ⟨tFlight tDawn (tCmd 0x0805 (zeros 72) []), ⟨0, 0, 0⟩, tCmd 0x0805 (zeros 72) [], ⟨rfl, by decide, by decide⟩, by decide⟩⟩

theorem witness_CardAndDukptCommandsEndAsSpecified :
    (∃ (s : State) (r : CmdRef) (c : Cmd) (v : KeyVal), (AtWork 0x0901 s r c) ∧ (loadKey s c ((reqOf c).key 0) = some v) ∧ (cvvChk v.attr = none)) ∧
    (∃ (s : State) (r : CmdRef) (c : Cmd) (v : KeyVal), (AtWork 0x0902 s r c) ∧ (loadKey s c ((reqOf c).key 0) = some v) ∧ (cvvChk v.attr = none)) ∧
    (∃ (s : State) (r : CmdRef) (c : Cmd) (v : KeyVal), (AtWork 0x0903 s r c) ∧ (loadKey s c ((reqOf c).key 0) = some v) ∧ (arqcKeyChk (reqOf c) v.attr = none)) ∧
    (∃ (s : State) (r : CmdRef) (c : Cmd) (v : KeyVal), (AtWork 0x0904 s r c) ∧ (loadKey s c ((reqOf c).key 0) = some v) ∧ (emvChk uIssuerScript v.attr = none)) ∧
    (∃ (s : State) (r : CmdRef) (c : Cmd) (v : KeyVal), (AtWork 0x0A01 s r c) ∧ (loadKey s c ((reqOf c).key 0) = some v) ∧ (duInitChk (reqOf c) v.attr = none)) ∧
    (∃ (s : State) (r : CmdRef) (c : Cmd) (v : KeyVal), (AtWork 0x0A02 s r c) ∧ (loadKey s c ((reqOf c).key 0) = some v) ∧ (duChk (reqOf c) v.attr = none)) ∧
    (∃ (s : State) (r : CmdRef) (c : Cmd) (v : KeyVal), (AtWork 0x0A03 s r c) ∧ (loadKey s c ((reqOf c).key 0) = some v) ∧ (duChk (reqOf c) v.attr = none)) ∧
    (∃ (s : State) (r : CmdRef) (c : Cmd) (v : KeyVal), (AtWork 0x0A04 s r c) ∧ (loadKey s c ((reqOf c).key 0) = some v) ∧ (duChk (reqOf c) v.attr = none)) ∧
    (∃ (s : State) (r : CmdRef) (c : Cmd), (AtWork 0x0901 s r c) ∧ (loadKey s c ((reqOf c).key 0) = none)) ∧
    (∃ (s : State) (r : CmdRef) (c : Cmd), (AtWork 0x0903 s r c) ∧ (loadKey s c ((reqOf c).key 0) = none)) ∧
    (∃ (s : State) (r : CmdRef) (c : Cmd), (AtWork 0x0A01 s r c) ∧ (loadKey s c ((reqOf c).key 0) = none)) ∧
    (∃ (s : State) (r : CmdRef) (c : Cmd), (AtWork 0x0A04 s r c) ∧ (loadKey s c ((reqOf c).key 0) = none)) :=
  ⟨⟨tFlight (tHolds (tKey 0x01 128 [0x44, 0x30]) tVal) ({ tCmd 0x0901 ([1, 0, 0, 0x40] ++ zeros 36) [] with keys := tTaken }), ⟨0, 0, 0⟩, { tCmd 0x0901 ([1, 0, 0, 0x40] ++ zeros 36) [] with keys := tTaken }, tKey 0x01 128 [0x44, 0x30], ⟨rfl, by decide, by decide⟩, rfl, by decide⟩,
   ⟨tFlight (tHolds (tKey 0x01 128 [0x44, 0x30]) tVal) ({ tCmd 0x0902 ([1, 0, 0, 0x40] ++ zeros 36) [] with keys := tTaken }), ⟨0, 0, 0⟩, { tCmd 0x0902 ([1, 0, 0, 0x40] ++ zeros 36) [] with keys := tTaken }, tKey 0x01 128 [0x44, 0x30], ⟨rfl, by decide, by decide⟩, rfl, by decide⟩,
   ⟨tFlight (tHolds (tKey 0x01 128 [0x44, 0x30]) tVal) ({ tCmd 0x0903 ([1, 0, 0, 0x40, 0, 0, 1, 0] ++ zeros 57) [] with keys := tTaken }), ⟨0, 0, 0⟩, { tCmd 0x0903 ([1, 0, 0, 0x40, 0, 0, 1, 0] ++ zeros 57) [] with keys := tTaken }, tKey 0x01 128 [0x44, 0x30], ⟨rfl, by decide, by decide⟩, rfl, by decide⟩,
   ⟨tFlight (tHolds (tKey 0x01 128 [0x44, 0x30]) tVal) ({ tCmd 0x0904 ([1, 0, 0, 0x40, 0, 0, 4, 0] ++ zeros 25) [] with keys := tTaken }), ⟨0, 0, 0⟩, { tCmd 0x0904 ([1, 0, 0, 0x40, 0, 0, 4, 0] ++ zeros 25) [] with keys := tTaken }, tKey 0x01 128 [0x44, 0x30], ⟨rfl, by decide, by decide⟩, rfl, by decide⟩,
   ⟨tFlight (tHolds (tKey 0x12 256 [0x44, 0x30]) tVal) ({ tCmd 0x0A01 ([1, 0, 0, 0x40, 1, 0, 0, 0] ++ zeros 24) [] with keys := tTaken }), ⟨0, 0, 0⟩, { tCmd 0x0A01 ([1, 0, 0, 0x40, 1, 0, 0, 0] ++ zeros 24) [] with keys := tTaken }, tKey 0x12 256 [0x44, 0x30], ⟨rfl, by decide, by decide⟩, rfl, by decide⟩,
   ⟨tFlight (tHolds (tKey 0x12 256 [0x44, 0x30]) tVal) ({ tCmd 0x0A02 ([1, 0, 0, 0x40, 1, 0x12, 0, 8] ++ zeros 40) [] with keys := tTaken }), ⟨0, 0, 0⟩, { tCmd 0x0A02 ([1, 0, 0, 0x40, 1, 0x12, 0, 8] ++ zeros 40) [] with keys := tTaken }, tKey 0x12 256 [0x44, 0x30], ⟨rfl, by decide, by decide⟩, rfl, by decide⟩,
   ⟨tFlight (tHolds (tKey 0x12 256 [0x44, 0x30]) tVal) ({ tCmd 0x0A03 ([1, 0, 0, 0x40, 1, 0x12, 0, 8] ++ zeros 40) [] with keys := tTaken }), ⟨0, 0, 0⟩, { tCmd 0x0A03 ([1, 0, 0, 0x40, 1, 0x12, 0, 8] ++ zeros 40) [] with keys := tTaken }, tKey 0x12 256 [0x44, 0x30], ⟨rfl, by decide, by decide⟩, rfl, by decide⟩,
   ⟨tFlight (tHolds (tKey 0x12 256 [0x44, 0x30]) tVal) ({ tCmd 0x0A04 ([1, 0, 0, 0x40, 1, 0x12, 0, 8] ++ zeros 40) [] with keys := tTaken }), ⟨0, 0, 0⟩, { tCmd 0x0A04 ([1, 0, 0, 0x40, 1, 0x12, 0, 8] ++ zeros 40) [] with keys := tTaken }, tKey 0x12 256 [0x44, 0x30], ⟨rfl, by decide, by decide⟩, rfl, by decide⟩,
   ⟨tFlight tDawn (tCmd 0x0901 (zeros 48) []), ⟨0, 0, 0⟩, tCmd 0x0901 (zeros 48) [], ⟨rfl, by decide, by decide⟩, by decide⟩,
   ⟨tFlight tDawn (tCmd 0x0903 (zeros 48) []), ⟨0, 0, 0⟩, tCmd 0x0903 (zeros 48) [], ⟨rfl, by decide, by decide⟩, by decide⟩,
   ⟨tFlight tDawn (tCmd 0x0A01 (zeros 48) []), ⟨0, 0, 0⟩, tCmd 0x0A01 (zeros 48) [], ⟨rfl, by decide, by decide⟩, by decide⟩,
   ⟨tFlight tDawn (tCmd 0x0A04 (zeros 48) []), ⟨0, 0, 0⟩, tCmd 0x0A04 (zeros 48) [], ⟨rfl, by decide, by decide⟩, by decide⟩⟩

theorem witness_VaultCommandsFindInsertAndDelete :
    (∃ (s : State) (r : CmdRef) (c : Cmd) (v : KeyVal), (AtWork 0x1101 s r c) ∧ (vaultTurn s r = true) ∧ (loadKey s c ((reqOf c).key 0) = some v) ∧ (vlKeyChk v.attr = none) ∧ (vaultPoison r.part (vaultTag v.material (vlDomain (reqOf c)) (panDigits (vlIn (reqOf c)))) s = none)) ∧
    (∃ (s : State) (r : CmdRef) (c : Cmd) (v : KeyVal), (AtWork 0x1101 s r c) ∧ (vaultTurn s r = true) ∧ (loadKey s c ((reqOf c).key 0) = some v) ∧ (vlKeyChk v.attr = none)) ∧
    (∃ (s : State) (r : CmdRef) (c : Cmd) (v : KeyVal), (AtWork 0x1102 s r c) ∧ (vaultTurn s r = true) ∧ (loadKey s c ((reqOf c).key 0) = some v) ∧ (vlKeyChk v.attr = none) ∧ (vaultPoison r.part (vaultTag v.material (vlDomain (reqOf c)) (vlCipher false (reqOf c) v.material (panDigits (vlIn (reqOf c))))) s = none)) ∧
    (∃ (s : State) (r : CmdRef) (c : Cmd) (v : KeyVal), (AtWork 0x1102 s r c) ∧ (vaultTurn s r = true) ∧ (loadKey s c ((reqOf c).key 0) = some v) ∧ (vlKeyChk v.attr = none)) ∧
    (∃ (s : State) (r : CmdRef) (c : Cmd) (v : KeyVal), (AtWork 0x1103 s r c) ∧ (vaultTurn s r = true) ∧ (loadKey s c ((reqOf c).key 0) = some v) ∧ (vlKeyChk v.attr = none) ∧ (vaultPoison r.part (vaultTag v.material (vlDomain (reqOf c)) (vlCipher false (reqOf c) v.material (panDigits (vlIn (reqOf c))))) s = none)) ∧
    (∃ (s : State) (r : CmdRef) (c : Cmd) (v : KeyVal), (AtWork 0x1103 s r c) ∧ (vaultTurn s r = true) ∧ (loadKey s c ((reqOf c).key 0) = some v) ∧ (vlKeyChk v.attr = none)) ∧
    (∃ (s : State) (r : CmdRef) (c : Cmd) (v : KeyVal), (AtWork 0x1104 s r c) ∧ (vaultTurn s r = true) ∧ (loadKey s c ((reqOf c).key 0) = some v) ∧ (vlKeyChk v.attr = none) ∧ (c.out = none)) ∧
    (∃ (s : State) (r : CmdRef), (vaultTurn s r = false)) ∧
    (∃ (s : State) (r : CmdRef), (vaultTurn s r = false)) :=
  ⟨⟨tFlight (tHolds (tKey 0x12 256 [0x44, 0x30]) tVal) ({ tCmd 0x1101 ([1, 0, 0, 0x40] ++ zeros 36) [] with keys := tTaken }), ⟨0, 0, 0⟩, { tCmd 0x1101 ([1, 0, 0, 0x40] ++ zeros 36) [] with keys := tTaken }, tKey 0x12 256 [0x44, 0x30], ⟨rfl, by decide, by decide⟩, by decide, rfl, by decide, rfl⟩,
   ⟨tFlight (tHolds (tKey 0x12 256 [0x44, 0x30]) tVal) ({ tCmd 0x1101 ([1, 0, 0, 0x40] ++ zeros 36) [] with keys := tTaken }), ⟨0, 0, 0⟩, { tCmd 0x1101 ([1, 0, 0, 0x40] ++ zeros 36) [] with keys := tTaken }, tKey 0x12 256 [0x44, 0x30], ⟨rfl, by decide, by decide⟩, by decide, rfl, by decide⟩,
   ⟨tFlight (tHolds (tKey 0x12 256 [0x44, 0x30]) tVal) ({ tCmd 0x1102 ([1, 0, 0, 0x40] ++ zeros 36) [] with keys := tTaken }), ⟨0, 0, 0⟩, { tCmd 0x1102 ([1, 0, 0, 0x40] ++ zeros 36) [] with keys := tTaken }, tKey 0x12 256 [0x44, 0x30], ⟨rfl, by decide, by decide⟩, by decide, rfl, by decide, rfl⟩,
   ⟨tFlight (tHolds (tKey 0x12 256 [0x44, 0x30]) tVal) ({ tCmd 0x1102 ([1, 0, 0, 0x40] ++ zeros 36) [] with keys := tTaken }), ⟨0, 0, 0⟩, { tCmd 0x1102 ([1, 0, 0, 0x40] ++ zeros 36) [] with keys := tTaken }, tKey 0x12 256 [0x44, 0x30], ⟨rfl, by decide, by decide⟩, by decide, rfl, by decide⟩,
   ⟨tFlight (tHolds (tKey 0x12 256 [0x44, 0x30]) tVal) ({ tCmd 0x1103 ([1, 0, 0, 0x40] ++ zeros 36) [] with keys := tTaken }), ⟨0, 0, 0⟩, { tCmd 0x1103 ([1, 0, 0, 0x40] ++ zeros 36) [] with keys := tTaken }, tKey 0x12 256 [0x44, 0x30], ⟨rfl, by decide, by decide⟩, by decide, rfl, by decide, rfl⟩,
   ⟨tFlight (tHolds (tKey 0x12 256 [0x44, 0x30]) tVal) ({ tCmd 0x1103 ([1, 0, 0, 0x40] ++ zeros 36) [] with keys := tTaken }), ⟨0, 0, 0⟩, { tCmd 0x1103 ([1, 0, 0, 0x40] ++ zeros 36) [] with keys := tTaken }, tKey 0x12 256 [0x44, 0x30], ⟨rfl, by decide, by decide⟩, by decide, rfl, by decide⟩,
   ⟨tFlight (tHolds (tKey 0x12 256 [0x44, 0x30]) tVal) ({ tCmd 0x1104 ([1, 0, 0, 0x40] ++ zeros 36) [] with keys := tTaken }), ⟨0, 0, 0⟩, { tCmd 0x1104 ([1, 0, 0, 0x40] ++ zeros 36) [] with keys := tTaken }, tKey 0x12 256 [0x44, 0x30], ⟨rfl, by decide, by decide⟩, by decide, rfl, by decide, rfl⟩,
   ⟨tVaultBusy, ⟨0, 1, 0⟩, by decide⟩,
   ⟨tVaultBusy, ⟨0, 1, 0⟩, by decide⟩⟩

theorem witness_FirmwareCommandsStageCheckAndRelease :
    (∃ (s : State) (r : CmdRef) (c : Cmd), (AtWork 0x0D01 s r c) ∧ (ownAppBegin s (reqOf c) = none)) ∧
    (∃ (s : State) (r : CmdRef) (c : Cmd), (AtWork 0x0D01 s r c) ∧ (ownAppBegin s (reqOf c) = some stPolicyDenied)) ∧
    (∃ (s : State) (r : CmdRef) (c : Cmd), (AtWork 0x0D02 s r c) ∧ (ownAppChunk s (reqOf c) = none)) ∧
    (∃ (s : State) (r : CmdRef) (c : Cmd), (AtWork 0x0D02 s r c) ∧ (ownAppChunk s (reqOf c) = some stPolicyDenied)) ∧
    (∃ (s : State) (r : CmdRef) (c : Cmd), (AtWork 0x0D03 s r c) ∧ (ownAppVerify s (reqOf c) = none)) ∧
    (∃ (s : State) (r : CmdRef) (c : Cmd), (AtWork 0x0D03 s r c) ∧ (ownAppVerify s (reqOf c) = some stPolicyDenied)) ∧
    (∃ (s : State) (r : CmdRef) (c : Cmd), (AtWork 0x0D04 s r c) ∧ (ownAppRelease s (reqOf c) = none)) ∧
    (∃ (s : State) (r : CmdRef) (c : Cmd), (AtWork 0x0D04 s r c) ∧ (ownAppRelease s (reqOf c) = none)) ∧
    (∃ (s : State) (r : CmdRef) (c : Cmd), (AtWork 0x0D04 s r c) ∧ (ownAppRelease s (reqOf c) = some stPolicyDenied)) ∧
    (∃ (s : State) (r : CmdRef) (c : Cmd), (AtWork 0x0D05 s r c) ∧ (ownRotBegin s (reqOf c) = none)) ∧
    (∃ (s : State) (r : CmdRef) (c : Cmd), (AtWork 0x0D05 s r c) ∧ (ownRotBegin s (reqOf c) = some stPolicyDenied)) ∧
    (∃ (s : State) (r : CmdRef) (c : Cmd), (AtWork 0x0D06 s r c) ∧ (ownRotChunk s (reqOf c) = none)) ∧
    (∃ (s : State) (r : CmdRef) (c : Cmd), (AtWork 0x0D06 s r c) ∧ (ownRotChunk s (reqOf c) = some stPolicyDenied)) ∧
    (∃ (s : State) (r : CmdRef) (c : Cmd) (ok : Bool), (AtWork 0x0D07 s r c) ∧ (ownRotCommit s (reqOf c) = none)) ∧
    (∃ (s : State) (r : CmdRef) (c : Cmd), (AtWork 0x0D07 s r c) ∧ (ownRotCommit s (reqOf c) = some stPolicyDenied)) ∧
    (∃ (s : State) (r : CmdRef) (c : Cmd), (AtWork 0x0D08 s r c) ∧ (ownWarm s (reqOf c) = none)) ∧
    (∃ (s : State) (r : CmdRef) (c : Cmd), (AtWork 0x0D08 s r c) ∧ (ownWarm s (reqOf c) = some stPolicyDenied)) :=
  ⟨⟨tFlight tDawn (tCmd 0x0D01 ([0, 0x20, 0, 0, 0, 0, 0, 0]) []), ⟨0, 0, 0⟩, tCmd 0x0D01 ([0, 0x20, 0, 0, 0, 0, 0, 0]) [], ⟨rfl, by decide, by decide⟩, by decide⟩,
   ⟨tFlight tDawn (tCmd 0x0D01 (zeros 8) []), ⟨0, 0, 0⟩, tCmd 0x0D01 (zeros 8) [], ⟨rfl, by decide, by decide⟩, by decide⟩,
   ⟨tFlight tStaged (tCmd 0x0D02 (zeros 24) []), ⟨0, 0, 0⟩, tCmd 0x0D02 (zeros 24) [], ⟨rfl, by decide, by decide⟩, by decide⟩,
   ⟨tFlight tDawn (tCmd 0x0D02 (zeros 24) []), ⟨0, 0, 0⟩, tCmd 0x0D02 (zeros 24) [], ⟨rfl, by decide, by decide⟩, by decide⟩,
   ⟨tFlight tStaged0 (tCmd 0x0D03 (zeros 8) []), ⟨0, 0, 0⟩, tCmd 0x0D03 (zeros 8) [], ⟨rfl, by decide, by decide⟩, by decide⟩,
   ⟨tFlight tDawn (tCmd 0x0D03 (zeros 8) []), ⟨0, 0, 0⟩, tCmd 0x0D03 (zeros 8) [], ⟨rfl, by decide, by decide⟩, by decide⟩,
   ⟨tFlight tVerified (tCmd 0x0D04 (zeros 8) []), ⟨0, 0, 0⟩, tCmd 0x0D04 (zeros 8) [], ⟨rfl, by decide, by decide⟩, by decide⟩,
   ⟨tFlight tVerified (tCmd 0x0D04 (zeros 8) []), ⟨0, 0, 0⟩, tCmd 0x0D04 (zeros 8) [], ⟨rfl, by decide, by decide⟩, by decide⟩,
   ⟨tFlight tDawn (tCmd 0x0D04 (zeros 8) []), ⟨0, 0, 0⟩, tCmd 0x0D04 (zeros 8) [], ⟨rfl, by decide, by decide⟩, by decide⟩,
   ⟨tFlight tDawn (tCmd 0x0D05 ([0, 0x20, 0, 0, 0, 0, 0, 0]) []), ⟨0, 0, 0⟩, tCmd 0x0D05 ([0, 0x20, 0, 0, 0, 0, 0, 0]) [], ⟨rfl, by decide, by decide⟩, by decide⟩,
   ⟨tFlight tDawn (tCmd 0x0D05 (zeros 8) []), ⟨0, 0, 0⟩, tCmd 0x0D05 (zeros 8) [], ⟨rfl, by decide, by decide⟩, by decide⟩,
   ⟨tFlight tRotStaged (tCmd 0x0D06 (zeros 24) []), ⟨0, 0, 0⟩, tCmd 0x0D06 (zeros 24) [], ⟨rfl, by decide, by decide⟩, by decide⟩,
   ⟨tFlight tDawn (tCmd 0x0D06 (zeros 24) []), ⟨0, 0, 0⟩, tCmd 0x0D06 (zeros 24) [], ⟨rfl, by decide, by decide⟩, by decide⟩,
   ⟨tFlight tRotFull (tCmd 0x0D07 (zeros 8) []), ⟨0, 0, 0⟩, tCmd 0x0D07 (zeros 8) [], true, ⟨rfl, by decide, by decide⟩, by decide⟩,
   ⟨tFlight tDawn (tCmd 0x0D07 (zeros 8) []), ⟨0, 0, 0⟩, tCmd 0x0D07 (zeros 8) [], ⟨rfl, by decide, by decide⟩, by decide⟩,
   ⟨tFlight tDawn (tCmd 0x0D08 ([1] ++ zeros 7) []), ⟨0, 0, 0⟩, tCmd 0x0D08 ([1] ++ zeros 7) [], ⟨rfl, by decide, by decide⟩, by decide⟩,
   ⟨tFlight tDawn (tCmd 0x0D08 ([2] ++ zeros 7) []), ⟨0, 0, 0⟩, tCmd 0x0D08 ([2] ++ zeros 7) [], ⟨rfl, by decide, by decide⟩, by decide⟩⟩

theorem witness_AttestationAndLifeCycleCommandsEndAsSpecified :
    (∃ (s : State) (r : CmdRef) (c : Cmd), (AtWork 0x0E01 s r c)) ∧
    (∃ (s : State) (r : CmdRef) (c : Cmd), (AtWork 0x0E02 s r c)) ∧
    (∃ (s : State) (r : CmdRef) (c : Cmd), (AtWork 0x0E10 s r c)) ∧
    (∃ (s : State) (r : CmdRef) (c : Cmd) (g : LifeCycle), (AtWork 0x0E11 s r c) ∧ (ownLcRequest s (reqOf c) = none) ∧ (rqTarget (reqOf c) = some g) ∧ (4 ≤ rqKey (reqOf c))) ∧
    (∃ (s : State) (r : CmdRef) (c : Cmd) (g : LifeCycle) (e : Nat), (AtWork 0x0E11 s r c) ∧ (ownLcRequest s (reqOf c) = none) ∧ (rqTarget (reqOf c) = some g) ∧ (rqKey (reqOf c) < 4)) ∧
    (∃ (s : State) (r : CmdRef) (c : Cmd), (AtWork 0x0E11 s r c) ∧ (ownLcRequest s (reqOf c) = some stPolicyDenied)) ∧
    (∃ (s : State) (r : CmdRef) (c : Cmd), (AtWork 0x0E20 s r c)) ∧
    (∃ (s : State) (r : CmdRef) (c : Cmd) (b : Bytes), (AtWork 0x0E21 s r c) ∧ (certAt s r.part ((reqOf c).pay 0 1) = some b)) ∧
    (∃ (s : State) (r : CmdRef) (c : Cmd), (AtWork 0x0E21 s r c) ∧ (certAt s r.part ((reqOf c).pay 0 1) = none)) :=
  ⟨⟨tFlight tDawn (tCmd 0x0E01 (zeros 32) []), ⟨0, 0, 0⟩, tCmd 0x0E01 (zeros 32) [], ⟨rfl, by decide, by decide⟩⟩,
   ⟨tFlight tDawn (tCmd 0x0E02 (zeros 8) []), ⟨0, 0, 0⟩, tCmd 0x0E02 (zeros 8) [], ⟨rfl, by decide, by decide⟩⟩,
   ⟨tFlight tDawn (tCmd 0x0E10 (zeros 8) []), ⟨0, 0, 0⟩, tCmd 0x0E10 (zeros 8) [], ⟨rfl, by decide, by decide⟩⟩,
   ⟨tFlight tDeployed0 (tCmd 0x0E11 tLcPayload []), ⟨0, 0, 0⟩, tCmd 0x0E11 tLcPayload [], .scrap, ⟨rfl, by decide, by decide⟩, by decide +kernel, by decide, by decide⟩,
   ⟨tFlight tReturned0 (tCmd 0x0E11 tLcVendor []), ⟨0, 0, 0⟩, tCmd 0x0E11 tLcVendor [], .scrap, 0, ⟨rfl, by decide, by decide⟩, by decide +kernel, by decide, by decide⟩,
   ⟨tFlight tDawn (tCmd 0x0E11 (zeros 64) []), ⟨0, 0, 0⟩, tCmd 0x0E11 (zeros 64) [], ⟨rfl, by decide, by decide⟩, by decide⟩,
   ⟨tFlight tDawn (tCmd 0x0E20 (zeros 8) []), ⟨0, 0, 0⟩, tCmd 0x0E20 (zeros 8) [], ⟨rfl, by decide, by decide⟩⟩,
   ⟨tFlight { tDawn with life := { tDawn.life with certs := some ([7], [8]) } } (tCmd 0x0E21 (zeros 8) []), ⟨0, 0, 0⟩, tCmd 0x0E21 (zeros 8) [], [7], ⟨rfl, by decide, by decide⟩, rfl⟩,
   ⟨tFlight tDawn (tCmd 0x0E21 ([9] ++ zeros 7) []), ⟨0, 0, 0⟩, tCmd 0x0E21 ([9] ++ zeros 7) [], ⟨rfl, by decide, by decide⟩, rfl⟩⟩

theorem witness_RingAndPairCommandsEndAsSpecified :
    (∃ (s : State) (r : CmdRef) (c : Cmd), (AtWork 0x0F01 s r c)) ∧
    (∃ (s : State) (r : CmdRef) (c : Cmd), (AtWork 0x0F02 s r c)) ∧
    (∃ (s : State) (r : CmdRef) (c : Cmd), (AtWork 0x0F02 s r c)) ∧
    (∃ (s : State) (r : CmdRef) (c : Cmd) (k : Bytes), (AtWork 0x0F03 s r c)) ∧
    (∃ (s : State) (r : CmdRef) (c : Cmd), (AtWork 0x0F03 s r c)) ∧
    (∃ (s : State) (r : CmdRef) (c : Cmd) (k : Option Bytes), (AtWork 0x0F03 s r c)) ∧
    (∃ (s : State) (r : CmdRef) (c : Cmd), (AtWork 0x0F04 s r c)) ∧
    (∃ (s : State) (r : CmdRef) (c : Cmd), (AtWork 0x0F05 s r c) ∧ (s.ilu.mirror = .standby) ∧ (s.ilu.partnerSeen = true)) ∧
    (∃ (s : State) (r : CmdRef) (c : Cmd), (AtWork 0x0F05 s r c) ∧ (s.ilu.mirror = .standby) ∧ (s.ilu.partnerSeen = false)) ∧
    (∃ (s : State) (r : CmdRef) (c : Cmd), (AtWork 0x0F05 s r c) ∧ (s.ilu.mirror = .held)) ∧
    (∃ (s : State) (r : CmdRef) (c : Cmd), (AtWork 0x0F05 s r c) ∧ (s.ilu.mirror = .detached)) ∧
    (∃ (s : State) (r : CmdRef) (c : Cmd), (AtWork 0x0F05 s r c) ∧ (s.ilu.mirror = .none)) ∧
    (∃ (s : State) (r : CmdRef) (c : Cmd), (AtWork 0x0F06 s r c)) :=
  ⟨⟨tFlight tHolder (tCmd 0x0F01 (zeros 8) []), ⟨0, 0, 0⟩, tCmd 0x0F01 (zeros 8) [], ⟨rfl, by decide, by decide⟩⟩,
   ⟨tFlight tDawn (tCmd 0x0F02 ([5, 0, 0, 0, 0, 0, 0, 0, 3, 1, 4] ++ zeros 5) []), ⟨0, 0, 0⟩, tCmd 0x0F02 ([5, 0, 0, 0, 0, 0, 0, 0, 3, 1, 4] ++ zeros 5) [], ⟨rfl, by decide, by decide⟩⟩,
   ⟨tFlight tDawn (tCmd 0x0F02 (zeros 16) []), ⟨0, 0, 0⟩, tCmd 0x0F02 (zeros 16) [], ⟨rfl, by decide, by decide⟩⟩,
   ⟨tFlight tPorts (tCmd 0x0F03 ([5, 0, 0, 0, 0, 0, 0, 0, 1, 1] ++ zeros 6) []), ⟨0, 0, 0⟩, tCmd 0x0F03 ([5, 0, 0, 0, 0, 0, 0, 0, 1, 1] ++ zeros 6) [], [1], ⟨rfl, by decide, by decide⟩⟩,
   ⟨tFlight tPorts (tCmd 0x0F03 (zeros 16) []), ⟨0, 0, 0⟩, tCmd 0x0F03 (zeros 16) [], ⟨rfl, by decide, by decide⟩⟩,
   ⟨tFlight tPorts (tCmd 0x0F03 (zeros 16) []), ⟨0, 0, 0⟩, tCmd 0x0F03 (zeros 16) [], none, ⟨rfl, by decide, by decide⟩⟩,
   ⟨tFlight (tPair .standby) (tCmd 0x0F04 (zeros 8) []), ⟨0, 0, 0⟩, tCmd 0x0F04 (zeros 8) [], ⟨rfl, by decide, by decide⟩⟩,
   ⟨tFlight (tPair .standby) (tCmd 0x0F05 (zeros 8) []), ⟨0, 0, 0⟩, tCmd 0x0F05 (zeros 8) [], ⟨rfl, by decide, by decide⟩, by decide, by decide⟩,
   ⟨tFlight { tPair .standby with ilu := { (tPair .standby).ilu with partnerSeen := false } } (tCmd 0x0F05 (zeros 8) []), ⟨0, 0, 0⟩, tCmd 0x0F05 (zeros 8) [], ⟨rfl, by decide, by decide⟩, by decide, by decide⟩,
   ⟨tFlight (tPair .held) (tCmd 0x0F05 (zeros 8) []), ⟨0, 0, 0⟩, tCmd 0x0F05 (zeros 8) [], ⟨rfl, by decide, by decide⟩, by decide⟩,
   ⟨tFlight (tPair .detached) (tCmd 0x0F05 (zeros 8) []), ⟨0, 0, 0⟩, tCmd 0x0F05 (zeros 8) [], ⟨rfl, by decide, by decide⟩, by decide⟩,
   ⟨tFlight tLease (tCmd 0x0F05 (zeros 8) []), ⟨0, 0, 0⟩, tCmd 0x0F05 (zeros 8) [], ⟨rfl, by decide, by decide⟩, by decide⟩,
   ⟨tFlight tDawn (tCmd 0x0F06 ([80] ++ zeros 7) []), ⟨0, 0, 0⟩, tCmd 0x0F06 ([80] ++ zeros 7) [], ⟨rfl, by decide, by decide⟩⟩⟩

theorem witness_PlatformAndLensCommandsEndAsSpecified :
    (∃ (s : State) (r : CmdRef) (c : Cmd), (AtWork 0x1001 s r c)) ∧
    (∃ (s : State) (r : CmdRef) (c : Cmd), (AtWork 0x1002 s r c) ∧ (ownConfigSet s (reqOf c) = none)) ∧
    (∃ (s : State) (r : CmdRef) (c : Cmd), (AtWork 0x1002 s r c) ∧ (ownConfigSet s (reqOf c) = some stPolicyDenied)) ∧
    (∃ (s : State) (r : CmdRef) (c : Cmd), (AtWork 0x1003 s r c)) ∧
    (∃ (s : State) (r : CmdRef) (c : Cmd), (AtWork 0x1004 s r c) ∧ (ownReboot s (reqOf c) = none)) ∧
    (∃ (s : State) (r : CmdRef) (c : Cmd), (AtWork 0x1004 s r c) ∧ (ownReboot s (reqOf c) = some stPolicyDenied)) ∧
    (∃ (s : State) (r : CmdRef) (c : Cmd), (AtWork 0x1005 s r c) ∧ (ownLock s (reqOf c) = none) ∧ ((reqOf c).pay 0 1 = 1)) ∧
    (∃ (s : State) (r : CmdRef) (c : Cmd), (AtWork 0x1005 s r c) ∧ (ownLock s (reqOf c) = none) ∧ ((reqOf c).pay 0 1 ≠ 1)) ∧
    (∃ (s : State) (r : CmdRef) (c : Cmd) (e : Status), (AtWork 0x1005 s r c) ∧ (ownLock s (reqOf c) = some e)) ∧
    (∃ (s : State) (r : CmdRef) (c : Cmd) (m : Bytes), (AtWork 0x1006 s r c) ∧ (ownStage s (reqOf c) = none) ∧ (s.plat.manifest = some m)) ∧
    (∃ (s : State) (r : CmdRef) (c : Cmd), (AtWork 0x1006 s r c) ∧ (ownStage s (reqOf c) = some stPolicyDenied)) ∧
    (∃ (s : State) (r : CmdRef) (c : Cmd), (AtWork 0x1007 s r c) ∧ (ownSwap s (reqOf c) = none) ∧ (swapFault (bankOf s (!activeIdx s)) = none)) ∧
    (∃ (s : State) (r : CmdRef) (c : Cmd) (i j : Nat), (AtWork 0x1007 s r c) ∧ (ownSwap s (reqOf c) = none) ∧ (swapFault (bankOf s (!activeIdx s)) = some (.pair i j))) ∧
    (∃ (s : State) (r : CmdRef) (c : Cmd) (f : SwapFault), (AtWork 0x1007 s r c) ∧ (ownSwap s (reqOf c) = none) ∧ (swapFault (bankOf s (!activeIdx s)) = some f)) ∧
    (∃ (s : State) (r : CmdRef) (c : Cmd) (e : Status), (AtWork 0x1007 s r c) ∧ (ownSwap s (reqOf c) = some e)) ∧
    (∃ (s : State) (r : CmdRef) (c : Cmd), (AtWork 0x1008 s r c)) ∧
    (∃ (s : State) (r : CmdRef) (c : Cmd) (b : Bytes), (AtWork 0x1009 s r c) ∧ (recordAt s ((reqOf c).pay 0 8) = some b)) ∧
    (∃ (s : State) (r : CmdRef) (c : Cmd), (AtWork 0x1009 s r c) ∧ (recordAt s ((reqOf c).pay 0 8) = none)) ∧
    (∃ (s : State) (r : CmdRef) (c : Cmd), (AtWork 0x100A s r c) ∧ (ownRecordAck s (reqOf c) = none)) ∧
    (∃ (s : State) (r : CmdRef) (c : Cmd), (AtWork 0x100A s r c) ∧ (ownRecordAck s (reqOf c) = some stPolicyDenied)) ∧
    (∃ (s : State) (r : CmdRef) (c : Cmd), (AtWork 0x100B s r c) ∧ (ownMbusSet s (reqOf c) = none)) ∧
    (∃ (s : State) (r : CmdRef) (c : Cmd), (AtWork 0x100B s r c) ∧ (ownMbusSet s (reqOf c) = some stPolicyDenied)) ∧
    (∃ (s : State) (r : CmdRef) (c : Cmd), (AtWork 0x100C s r c)) :=
  ⟨⟨tFlight tDawn (tCmd 0x1001 (zeros 8) []), ⟨0, 0, 0⟩, tCmd 0x1001 (zeros 8) [], ⟨rfl, by decide, by decide⟩⟩,
   ⟨tFlight tDawn (tCmd 0x1002 (toLe 4 0x55475043 ++ toLe 2 1 ++ zeros 1402) []), ⟨0, 0, 0⟩, tCmd 0x1002 (toLe 4 0x55475043 ++ toLe 2 1 ++ zeros 1402) [], ⟨rfl, by decide, by decide⟩, by decide +kernel⟩,
   ⟨tFlight tDawn (tCmd 0x1002 (zeros 1408) []), ⟨0, 0, 0⟩, tCmd 0x1002 (zeros 1408) [], ⟨rfl, by decide, by decide⟩, by decide⟩,
   ⟨tFlight tDawn (tCmd 0x1003 (zeros 8) []), ⟨0, 0, 0⟩, tCmd 0x1003 (zeros 8) [], ⟨rfl, by decide, by decide⟩⟩,
   ⟨tFlight tDawn (tCmd 0x1004 ([1] ++ zeros 7) []), ⟨0, 0, 0⟩, tCmd 0x1004 ([1] ++ zeros 7) [], ⟨rfl, by decide, by decide⟩, by decide⟩,
   ⟨tFlight tDawn (tCmd 0x1004 (zeros 8) []), ⟨0, 0, 0⟩, tCmd 0x1004 (zeros 8) [], ⟨rfl, by decide, by decide⟩, by decide⟩,
   ⟨tFlight tDawn (tCmd 0x1005 ([1] ++ zeros 7) []), ⟨0, 0, 0⟩, tCmd 0x1005 ([1] ++ zeros 7) [], ⟨rfl, by decide, by decide⟩, by decide, by decide⟩,
   ⟨tFlight tDawn (tCmd 0x1005 (zeros 8) []), ⟨0, 0, 0⟩, tCmd 0x1005 (zeros 8) [], ⟨rfl, by decide, by decide⟩, by decide, by decide⟩,
   ⟨tFlight tLensBroken (tCmd 0x1005 ([1] ++ zeros 7) []), ⟨0, 0, 0⟩, tCmd 0x1005 ([1] ++ zeros 7) [], stLockBroken, ⟨rfl, by decide, by decide⟩, by decide⟩,
   ⟨tFlight tLensHeld (tCmd 0x1006 (zeros 8) []), ⟨0, 0, 0⟩, tCmd 0x1006 (zeros 8) [], tManifest, ⟨rfl, by decide, by decide⟩, by decide, rfl⟩,
   ⟨tFlight tDawn (tCmd 0x1006 (zeros 8) []), ⟨0, 0, 0⟩, tCmd 0x1006 (zeros 8) [], ⟨rfl, by decide, by decide⟩, by decide⟩,
   ⟨tFlight tLensHeld (tCmd 0x1007 (zeros 8) []), ⟨0, 0, 0⟩, tCmd 0x1007 (zeros 8) [], ⟨rfl, by decide, by decide⟩, by decide, by decide⟩,
   ⟨tFlight tLensClash (tCmd 0x1007 (zeros 8) []), ⟨0, 0, 0⟩, tCmd 0x1007 (zeros 8) [], 0, 1, ⟨rfl, by decide, by decide⟩, by decide, by decide⟩,
   ⟨tFlight tLensClash (tCmd 0x1007 (zeros 8) []), ⟨0, 0, 0⟩, tCmd 0x1007 (zeros 8) [], .pair 0 1, ⟨rfl, by decide, by decide⟩, by decide, by decide⟩,
   ⟨tFlight tDawn (tCmd 0x1007 (zeros 8) []), ⟨0, 0, 0⟩, tCmd 0x1007 (zeros 8) [], stPolicyDenied, ⟨rfl, by decide, by decide⟩, by decide⟩,
   ⟨tFlight tDawn (tCmd 0x1008 (zeros 8) []), ⟨0, 0, 0⟩, tCmd 0x1008 (zeros 8) [], ⟨rfl, by decide, by decide⟩⟩,
   ⟨tFlight tRecord (tCmd 0x1009 ([1] ++ zeros 7) []), ⟨0, 0, 0⟩, tCmd 0x1009 ([1] ++ zeros 7) [], zeros 8 ++ [1] ++ zeros 8, ⟨rfl, by decide, by decide⟩, by decide⟩,
   ⟨tFlight tDawn (tCmd 0x1009 (zeros 8) []), ⟨0, 0, 0⟩, tCmd 0x1009 (zeros 8) [], ⟨rfl, by decide, by decide⟩, by decide⟩,
   ⟨tFlight tRecord (tCmd 0x100A ([1] ++ zeros 7) []), ⟨0, 0, 0⟩, tCmd 0x100A ([1] ++ zeros 7) [], ⟨rfl, by decide, by decide⟩, by decide⟩,
   ⟨tFlight tDawn (tCmd 0x100A ([9] ++ zeros 7) []), ⟨0, 0, 0⟩, tCmd 0x100A ([9] ++ zeros 7) [], ⟨rfl, by decide, by decide⟩, by decide⟩,
   ⟨tFlight tDawn (tCmd 0x100B (zeros 144) []), ⟨0, 0, 0⟩, tCmd 0x100B (zeros 144) [], ⟨rfl, by decide, by decide⟩, by decide +kernel⟩,
   ⟨tFlight tDawn (tCmd 0x100B (zeros 8) []), ⟨0, 0, 0⟩, tCmd 0x100B (zeros 8) [], ⟨rfl, by decide, by decide⟩, by decide⟩,
   ⟨tFlight tDawn (tCmd 0x100C (zeros 8) []), ⟨0, 0, 0⟩, tCmd 0x100C (zeros 8) [], ⟨rfl, by decide, by decide⟩⟩⟩

theorem witness_StepRunsTheFrontCommand :
    (∃ (c : Instr) (s : State) (rest : List Instr), (s.pending = c :: rest)) :=
  ⟨.clearTimeout, { State.reset with pending := [.clearTimeout] }, [], rfl⟩

theorem witness_IdleStepPassesOneMicrosecond :
    (∃ (s : State), (s.pending = [])) ∧
    (∃ (s : State), (s.pending = []) ∧ (s.rng.running = false ∨ s.rng.state ≠ .testing ∨ s.rng.verdict = false) ∧ (s.svc.dawnDone = false)) ∧
    (∃ (s : State), (s.pending = []) ∧ (s.rng.running = true) ∧ (s.rng.state = .testing) ∧ (s.rng.verdict = true) ∧ (s.rng.startNs + 120000 ≤ s.clk.ns + 1000)) :=
  ⟨⟨State.reset, rfl⟩,
   ⟨State.reset, rfl, .inl rfl, rfl⟩,
   ⟨{ State.reset with rng := { State.resetRng with state := .testing, running := true, verdict := true }, clk := { State.resetClock with ns := 120000 } }, by decide, by decide, by decide, by decide, by decide⟩⟩

theorem witness_OtpKeepsItsFormAndItsBits :
    (∃ (s t : State), (otpSound s) ∧ (step s = .next t)) :=
  ⟨State.reset, passTime State.reset, by unfold otpSound; decide, rfl⟩

theorem witness_CommandsLeaveTheQueue :
    (∃ (i : Instr) (s t : State), (exec i s = .next t)) :=
  ⟨.clearTimeout, State.reset, State.reset, rfl⟩

theorem witness_HostCommandsLeaveTheRest :
    (∃ (i : Instr) (l : List Area) (s : State), (hostTouches i = some l)) ∧
    (∃ (i : Instr) (l : List Area) (s : State), (hostTouchesMany i = some l)) ∧
    (∃ (i : Instr) (l : List Area) (op : Nat) (r : CmdRef) (c : Cmd) (s : State), (hostTouches i = some l) ∧ (.ks ∉ l) ∧ (hostRow i = some (op, r)) ∧ (findCmd s r = some c) ∧ (c.out = none)) :=
  ⟨⟨.policyGet ⟨0, 0, 0⟩, [], tDawn, rfl⟩,
   ⟨.deviceDomain ⟨0, 0, 0⟩, [.prism, .domains, .hzn], tDawn, rfl⟩,
   ⟨.policyGet ⟨0, 0, 0⟩, [], 0x0C07, ⟨0, 0, 0⟩, tCmd 0x0102 [] [], tFlight tDawn (tCmd 0x0102 [] []), rfl, by decide, rfl, rfl, rfl⟩⟩

theorem witness_EventsLeaveTheRest :
    (∃ (i : Instr) (l : List Area) (s : State), (eventTouches i = some l) ∧ (barAccess i = none)) ∧
    (∃ (i : Instr) (l : List Area) (b : Bool) (s : State), (eventTouches i = some l) ∧ (barAccess i = some b) ∧ (s.svc.linkUp = false ∨ b = true)) ∧
    (∃ (i : Instr) (s : State), (barAccess i = some false) ∧ (s.svc.linkUp = true)) :=
  ⟨⟨.clearTimeout, [], State.reset, rfl, rfl⟩,
   ⟨.halfReadLatch 0 ⟨0, 0x20, 4⟩, [.fns, .out], true, tLink, rfl, rfl, .inr rfl⟩,
   ⟨.halfReadLatch 0 ⟨0, 0x10000000, 4⟩, tLink, rfl, rfl⟩⟩

theorem witness_HostCommandsWaitOrEndWithTheirFailure :
    (∃ (i : Instr) (op : Nat) (r : CmdRef) (s : State), (hostRow i = some (op, r)) ∧ (∀ c, findCmd s r = some c → ready op s c = false)) ∧
    (∃ (i : Instr) (op : Nat) (r : CmdRef) (c : Cmd) (st : Status) (s : State), (hostRow i = some (op, r)) ∧ (AtEnd op s r c st) ∧ ((isVaultOp c.opcode = true → vaultTurn s r = true)) ∧ ((op = 0x0318 → backupTurn s r = true))) :=
  ⟨⟨.policyGet ⟨0, 0, 0⟩, 0x0C07, ⟨0, 0, 0⟩, tDawn, rfl, by intro c h; cases h⟩,
   ⟨.policyGet ⟨0, 0, 0⟩, 0x0C07, ⟨0, 0, 0⟩, { tCmd 0x0C07 [] [] with cut := some stAborted }, stAborted, tFlight tDawn { tCmd 0x0C07 [] [] with cut := some stAborted }, rfl, ⟨rfl, by decide, rfl⟩, by decide, by decide⟩⟩

theorem witness_FailedItemsCancelTheRest :
    (∃ (r : CmdRef) (n : Nat) (st : Status) (s : State) (c : Cmd), (findCmd s r = some c)) ∧
    (∃ (i : Instr) (op : Nat) (r : CmdRef) (c : Cmd) (s : State) (n : Nat) (x : Item) (st : Status), (hostRow i = some (op, r)) ∧ (findCmd s r = some c) ∧ (ready op s c = true) ∧ (c.cut = none) ∧ (c.items[n]? = some x) ∧ (x.fail = some st) ∧ (∀ j y, j < n → c.items[j]? = some y → y.fail = none) ∧ ((isVaultOp c.opcode = true → vaultTurn s r = true)) ∧ ((op = 0x0318 → backupTurn s r = true))) :=
  ⟨⟨⟨0, 0, 0⟩, 0, stFault, tFlight tDawn (tCmd 0x0401 [] [tItem .facet []]), tCmd 0x0401 [] [tItem .facet []], rfl⟩,
   ⟨.symEncrypt ⟨0, 0, 0⟩, 0x0401, ⟨0, 0, 0⟩, tFailed, tFlight tDawn tFailed, 0, { tItem .facet [] with state := .ended, fail := some stFault }, stFault, rfl, rfl, by decide, rfl, rfl, rfl, by omega, by decide, by decide⟩⟩

end Sys2Proof.Tests
end

section
/-! The resets of the module and of its functions, and the reads of the BARs (R8, R40, R41, R44, R106, R111, R293, R452, R457). -/

namespace Sys2Proof.Proofs

open Sys2Proof Sys2Proof.Machine Sys2Proof.Laws

/-! ## When each reset event takes effect -/

theorem exec_warmReset (c : WarmCause) (s : State) :
    exec (.warmReset c) s = guarded (s.clk.powered && (c != .other || warmDue s)) warmReset s := rfl

theorem exec_perstNAssert (s : State) :
    exec .perstNAssert s =
      guarded (!s.svc.perst) (fun s => resetVfs (hostReset 0 { s with svc := { s.svc with perst := true, linkUp := false } })) s := rfl

theorem exec_perstNDeassert (s : State) :
    exec .perstNDeassert s = guarded s.svc.perst (fun s => { s with svc := { s.svc with perst := false, perstNs := s.clk.ns } }) s := rfl

theorem exec_functionLevelReset (f : Fin 256) (s : State) :
    exec (.functionLevelReset f) s = guarded s.svc.linkUp (hostReset f.val) s := rfl

theorem exec_vfEnableClear (s : State) : exec .vfEnableClear s = guarded s.svc.linkUp resetVfs s := rfl

/-- The VFs are reset one after the other, VF 1 first (R111). -/
theorem resetVfs_eq (s : State) : resetVfs s = (List.range 255).foldl (fun u f => hostReset (f + 1) u) s := List.foldl_map

/-! ## What a warm reset leaves (R8, R112, R293)

`warmReset_frame` names what the reset does to every field; these read off the fields that `ResetEventsTakeEffect` speaks of. -/

theorem warmReset_svc (s : State) : (warmReset s).svc = darkService s.svc s.clk.ns true := by
  obtain ⟨_, _, _, _, _, _, _, _, h⟩ := warmReset_frame s
  rw [h]

theorem warmReset_prism (s : State) : (warmReset s).prism = warmPrism s.prism := by
  obtain ⟨_, _, _, _, _, _, _, _, h⟩ := warmReset_frame s
  rw [h]

theorem warmReset_rings (s : State) : (warmReset s).rings = warmRings s.rings := by
  obtain ⟨_, _, _, _, _, _, _, _, h⟩ := warmReset_frame s
  rw [h]

theorem warmReset_pending (s : State) : (warmReset s).pending = s.pending := by
  obtain ⟨_, _, _, _, _, _, _, _, h⟩ := warmReset_frame s
  rw [h]

/-- The MWK and the token epochs outlive a warm reset, which may cut off a write of the first NOR device (R132, R153). -/
theorem warmReset_ks (s : State) : ∃ n, (warmReset s).ks = warmKeys { s.ks with nor0 := n } := by
  obtain ⟨_, _, n, _, _, _, _, _, h⟩ := warmReset_frame s
  exact ⟨n, by rw [h]⟩

theorem getRing_warmReset (s : State) {g : Nat} (hg : g < 1024) :
    (getRing (warmReset s) g).enable = false ∧ (getRing (warmReset s) g).gen = (getRing s g).gen + 1 := by
  unfold getRing
  rw [warmReset_rings]
  exact warmRings_at s.rings hg

/-- Settles O4: each event is guarded by its condition, and a warm reset is taken field by field. -/
theorem resetEventsTakeEffect : Obligations.ResetEventsTakeEffect := by
  unfold Obligations.ResetEventsTakeEffect
  refine ⟨fun s w hp hw => ?warm, fun s h => ?assert, fun s h => ?deassert, fun s f h => ?flr, fun s h => ?vfs,
    fun c s h => ?warmNot, fun s h => ?assertNot, fun s h => ?deassertNot, fun f s h => ?flrNot, fun s h => ?vfsNot⟩
  case warm =>
    have due : (s.clk.powered && (w != .other || warmDue s)) = true := by simpa [hp] using hw
    obtain ⟨n, hks⟩ := warmReset_ks s
    refine guarded_runs (exec_warmReset w s) due ?_
    rw [warmReset_svc, warmReset_prism, hks, warmReset_pending]
    exact ⟨rfl, rfl, rfl, rfl, rfl, rfl, rfl, fun _ => getRing_warmReset s, warmReset_otp s, rfl⟩
  case assert => exact (exec_perstNAssert s).trans (guarded_true (by simp [h]))
  case deassert => exact (exec_perstNDeassert s).trans (guarded_true h)
  case flr => exact (exec_functionLevelReset f s).trans (guarded_true h)
  case vfs => exact (exec_vfEnableClear s).trans ((guarded_true h).trans (congrArg _ (resetVfs_eq s)))
  -- An event whose time or condition has not come changes nothing (log entry 124).
  case warmNot => exact (exec_warmReset c s).trans (guarded_false h)
  case assertNot => exact (exec_perstNAssert s).trans (guarded_false h)
  case deassertNot => exact (exec_perstNDeassert s).trans (guarded_false h)
  case flrNot => exact (exec_functionLevelReset f s).trans (guarded_false h)
  case vfsNot => exact (exec_vfEnableClear s).trans (guarded_false h)

/-! ## What a read of a BAR answers (R40, R41, R44) -/

theorem readBar_bar0_word (s : State) (f : Nat) {off : Nat} (ha : off % 4 = 0) : readBar s f 0 off 4 = readHalf s f off := by
  simp [readBar, ha]

theorem readBar_bar0_pair (s : State) (f : Nat) {off : Nat} (ha : off % 8 = 0) :
    readBar s f 0 off 8 = bar0Word s f off + 2 ^ 32 * bar0Word s f (off + 4) := by
  simp [readBar, ha]

/-- BAR0 answers aligned reads of 32 and 64 bits alone (R41). -/
theorem readBar_bar0_misfit (s : State) (f : Nat) {off size : Nat} (h4 : size ≠ 4 ∨ off % 4 ≠ 0) (h8 : size ≠ 8 ∨ off % 8 ≠ 0) :
    readBar s f 0 off size = 0 := by
  have n4 : ¬(size = 4 ∧ off % 4 = 0) := by omega
  have n8 : ¬(size = 8 ∧ off % 8 = 0) := by omega
  simp [readBar, n4, n8]

theorem readBar_bar2 (s : State) (f off size : Nat) : readBar s f 2 off size = 0 := rfl

theorem readBar_bar4_word (s : State) (f : Nat) {off : Nat} (ha : off % 4 = 0) : readBar s f 4 off 4 = bar4Word s f off := by
  simp [readBar, ha]

theorem latchAfter_wide {s : State} {f off : Nat} (h : wideReg f off = true) :
    latchAfter s f off = (Tab.del (getFn s f).latch off).put (off + 4) (BitVec.ofNat 32 (bar0Word s f (off + 4))) := by
  simp [latchAfter, h]

theorem latchAfter_narrow {s : State} {f off : Nat} (h : wideReg f off = false) :
    latchAfter s f off = Tab.del (getFn s f).latch off := by
  simp [latchAfter, h]

/-! ## What a read of a BAR does (R6, R41, R457) -/

theorem exec_halfReadLatch_linkDown {s : State} (f : Fin 256) (w : BarRead) (hl : s.svc.linkUp = false) :
    exec (.halfReadLatch f w) s = .next s := by
  show execHalfReadLatch f w s = _
  simp [execHalfReadLatch, hl]

/-- An access beyond its BAR is the model's one fault (R40; log entry 14). -/
theorem exec_halfReadLatch_outside {s : State} (f : Fin 256) {w : BarRead} (hl : s.svc.linkUp = true) (ho : barSize w.bar ≤ w.off) :
    exec (.halfReadLatch f w) s = .fault .outsideBar := by
  show execHalfReadLatch f w s = _
  simp [execHalfReadLatch, hl, ho]

/-- An aligned 32-bit read of BAR0 is the one read that touches the latches (R41). -/
theorem exec_halfReadLatch_word {s : State} (f : Fin 256) {off : Nat} (hl : s.svc.linkUp = true) (ho : off < 65536) (ha : off % 4 = 0) :
    exec (.halfReadLatch f ⟨0, off, 4⟩) s = .next (emit (.readData f.val 0 off 4 (BitVec.ofNat 64 (readHalf s f.val off)))
      (setFn s f.val { getFn s f.val with latch := latchAfter s f.val off })) := by
  show execHalfReadLatch f ⟨0, off, 4⟩ s = _
  have hin : ¬ barSize 0 ≤ off := Nat.not_le.mpr ho
  simp [execHalfReadLatch, hl, hin, ha, readBar_bar0_word, modFn]

/-- Every other read answers its value and changes nothing else. -/
theorem exec_halfReadLatch_pure {s : State} (f : Fin 256) {bar off size : Nat} (hl : s.svc.linkUp = true) (ho : off < barSize bar)
    (hw : ¬(bar = 0 ∧ size = 4 ∧ off % 4 = 0)) :
    exec (.halfReadLatch f ⟨bar, off, size⟩) s =
      .next (emit (.readData f.val bar off size (BitVec.ofNat 64 (readBar s f.val bar off size))) s) := by
  show execHalfReadLatch f ⟨bar, off, size⟩ s = _
  have hw' : ¬((bar = 0 ∧ size = 4) ∧ off % 4 = 0) := by rwa [and_assoc]
  simp [execHalfReadLatch, hl, Nat.not_le.mpr ho, hw']

/-- Settles O5: a read is one of link down, beyond the BAR, a 32-bit word of BAR0, or a read that changes nothing. -/
theorem registerReadsAnswerTheirWord : Obligations.RegisterReadsAnswerTheirWord := by
  unfold Obligations.RegisterReadsAnswerTheirWord
  refine ⟨fun s f off hl ho ha hw => ?low, fun s f off hl ho ha hw => ?narrow, fun s f off hl ho ha => ?pair,
    fun s f off size hl ho hm => ?misfit, fun s f off size hl ho => ?bar2, fun s f off hl ho ha => ?bar4,
    fun s f bar off size hl ho => ?outside, fun s f bar off size hl => ?down⟩
  case low => rw [exec_halfReadLatch_word f hl ho ha, latchAfter_wide hw]; rfl
  case narrow => rw [exec_halfReadLatch_word f hl ho ha, latchAfter_narrow hw]; rfl
  case pair => rw [exec_halfReadLatch_pure f hl ho (by simp), readBar_bar0_pair s f.val ha]
  case misfit =>
    obtain ⟨h4, h8⟩ := hm
    rw [exec_halfReadLatch_pure f hl ho (by omega), readBar_bar0_misfit s f.val h4 h8]
    rfl
  case bar2 => rw [exec_halfReadLatch_pure f hl ho (by simp), readBar_bar2]; rfl
  case bar4 => rw [exec_halfReadLatch_pure f hl ho (by simp), readBar_bar4_word s f.val ha]
  case outside => exact exec_halfReadLatch_outside f hl ho
  case down => exact exec_halfReadLatch_linkDown f _ hl

end Sys2Proof.Proofs
end

section
/-! A command's durable result and its completion (R31, R32, R46, R60, R63, R108, R132, R412, R421). -/

namespace Sys2Proof.Proofs

open Sys2Proof Sys2Proof.Machine Sys2Proof.Laws

/-! ## The backing records of a result (R132) -/

/-- Writing records touches the two NOR devices alone. -/
theorem foldl_writeBoth_frame (l : List Backing) (s : State) :
    ∃ a b, l.foldl (fun s b => writeBoth b s) s = { s with ks := { s.ks with nor0 := a, nor1 := b } } := by
  refine foldl_rel (fun s t => ∃ a b, t = { s with ks := { s.ks with nor0 := a, nor1 := b } }) (fun s => ⟨s.ks.nor0, s.ks.nor1, rfl⟩) ?_ _
    (fun s b => ⟨_, _, rfl⟩) l s
  rintro u v w ⟨a, b, rfl⟩ ⟨a', b', rfl⟩
  exact ⟨a', b', rfl⟩

theorem findCmd_foldl_writeBoth (l : List Backing) (s : State) (r : CmdRef) :
    findCmd (l.foldl (fun s b => writeBoth b s) s) r = findCmd s r := by
  obtain ⟨a, b, e⟩ := foldl_writeBoth_frame l s
  exact findCmd_congr (by rw [e]) r

/-- A command whose records stand in both devices. -/
def madeDurable (c : Cmd) : Cmd := { c with durable := true, backing := [] }

theorem exec_backingDurable {s : State} {r : CmdRef} {c : Cmd} (h : findCmd s r = some c) :
    exec (.backingDurable r) s = guarded (c.result.isSome && !c.durable && backingTurn s c)
      (fun s => modCmd r madeDurable (c.backing.foldl (fun s b => writeBoth b s) s)) s := by
  show execBackingDurable r s = _
  unfold execBackingDurable
  rw [h]
  rfl

theorem exec_backingDurable_absent {s : State} {r : CmdRef} (h : findCmd s r = none) : exec (.backingDurable r) s = .next s := by
  show execBackingDurable r s = _
  unfold execBackingDurable
  rw [h]

/-! ## The completion (R32, R46, R108) -/

theorem exec_completionDue {s : State} {r : CmdRef} {c : Cmd} {v : Result} (h : findCmd s r = some c) (hv : c.result = some v) :
    exec (.completionDue r) s = guarded (mayComplete s c) (complete c v) s := by
  show execCompletionDue r s = _
  unfold execCompletionDue
  rw [h]
  dsimp only
  rw [hv]

theorem exec_completionDue_noResult {s : State} {r : CmdRef} {c : Cmd} (h : findCmd s r = some c) (hv : c.result = none) :
    exec (.completionDue r) s = .next s := by
  show execCompletionDue r s = _
  unfold execCompletionDue
  rw [h]
  dsimp only
  rw [hv]

theorem exec_completionDue_absent {s : State} {r : CmdRef} (h : findCmd s r = none) : exec (.completionDue r) s = .next s := by
  show execCompletionDue r s = _
  unfold execCompletionDue
  rw [h]

@[simp] theorem findCmd_dropCmd (r : CmdRef) (s : State) : findCmd (dropCmd r s) r = none := by
  simp [findCmd, dropCmd, setCmds]

/-- A command has left when its account is done (R80, R88). -/
@[simp] theorem findCmd_afterCompletion (c : Cmd) (s : State) : findCmd (afterCompletion c s) c.ref = none := findCmd_dropCmd _ _

theorem afterOk_prism (c : Cmd) (s : State) : (afterOk c s).prism = s.prism := by
  unfold afterOk
  split <;> rfl

theorem endAfterResponse_prism (s : State) : (endAfterResponse s).prism = s.prism := by
  unfold endAfterResponse dropSessions
  dsimp only
  split <;> rfl

/-- What follows a completion brings no command back. -/
theorem findCmd_completed (c : Cmd) (st : Status) (s : State) (r : CmdRef) :
    findCmd (endAfterResponse (if st = stOk then afterOk c s else s)) r = findCmd s r := by
  refine findCmd_congr ?_ r
  rw [endAfterResponse_prism]
  split
  · rw [afterOk_prism]
  · rfl

/-- The completion of a command that another member spilled answers that member (R421). -/
theorem complete_spilled {c : Cmd} {n : Nat} (h : c.spillFrom = some n) (v : Result) (s : State) :
    complete c v s = dropCmd c.ref (sendFrame (nextTo s true == n) 0x41 n s.ilu.claim (toLe 2 v.status.toNat ++ v.reply) s) := by
  unfold complete
  rw [h]

/-- The completion of a command of this module, step by step (R32, R58, R108, R412). -/
theorem complete_own {c : Cmd} (h : c.spillFrom = none) (v : Result) (s : State) :
    complete c v s =
      (let u := afterCompletion c (releaseHelds c.ref v.status v.reply.length (lockstep c v.status v.reply (countStatus c v.status (deliver c v.status v.reply (finalUpdate c v.status v.reply s)))));
       endAfterResponse (if v.status = stOk then afterOk c u else u)) := by
  unfold complete
  rw [h]

/-- Settles O10: the records are written before the command is durable, and a completion ends with the command dropped. -/
theorem completionsEndCommands : Obligations.CompletionsEndCommands := by
  unfold Obligations.CompletionsEndCommands
  refine ⟨fun s r c hf hv hd ht => ?durable, fun s r c v hf hv hm hs => ?own, fun s r c v n hf hv hm hs => ?spilled,
    fun s r c hf hn => ?wait, fun s r hf => ⟨exec_backingDurable_absent hf, exec_completionDue_absent hf⟩⟩
  case durable =>
    refine guarded_runs (exec_backingDurable hf) (by simp [hv, hd, ht]) ?_
    obtain ⟨a, b, e⟩ := foldl_writeBoth_frame c.backing s
    refine ⟨?_, ?_, ?_, rfl, ?_⟩
    · rw [findCmd_modCmd r madeDurable _ (fun _ => rfl), findCmd_foldl_writeBoth, hf]
      rfl
    all_goals simp [e]
  case own =>
    refine guarded_runs (exec_completionDue hf hv) hm ?_
    rw [complete_own hs, ← found_ref hf]
    exact ⟨(findCmd_completed ..).trans (findCmd_afterCompletion ..), rfl⟩
  case spilled =>
    refine guarded_runs (exec_completionDue hf hv) hm ?_
    rw [complete_spilled hs, ← found_ref hf]
    exact ⟨findCmd_dropCmd _ _, rfl⟩
  case wait =>
    cases hv : c.result with
    | none => exact exec_completionDue_noResult hf hv
    | some v => exact (exec_completionDue hf hv).trans (guarded_false (hn.resolve_left (by simp [hv])))

end Sys2Proof.Proofs
end

section
/-! Supplies, clocks and the phases of service (R18, R19, R24, R25, R28 to R30, R292, R309, R310, R389, R395, R440, R441). -/

namespace Sys2Proof.Proofs

open Sys2Proof Sys2Proof.Machine Sys2Proof.Laws

/-! ## When each supply and clock event takes effect -/

theorem exec_powerOn (a b : Nat) (s : State) : exec (.powerOn a b) s = execPowerOn a b s := rfl

theorem exec_powerFail (s : State) :
    exec .powerFail s = guarded (s.clk.powered && decide (s.clk.feedA < 10000) && decide (s.clk.feedB < 10000))
      (fun s => if batteryAlive s then feedsLost s else horizonOff (feedsLost s)) s := rfl

theorem exec_pllLock (s : State) :
    exec .pllLock s = guarded (starting s && s.clk.pllEnabled && !s.clk.pllLocked)
      (fun s => { s with clk := { s.clk with pllLocked := true, pllLockNs := s.clk.ns } }) s := rfl

theorem exec_pllLockTimeout (s : State) :
    exec .pllLockTimeout s = guarded (starting s && s.clk.pllEnabled && !s.clk.pllLocked && decide (s.clk.porNs + 2000000 ≤ s.clk.ns))
      clockFault s := rfl

theorem exec_islandClockSwitch (s : State) : exec .islandClockSwitch s = execIslandClockSwitch s := rfl

theorem exec_clockCheck (count : Nat) (lost : Bool) (s : State) :
    exec (.clockCheck count lost) s = guarded (s.clk.powered && s.clk.pllLocked &&
      (lost || decide (108 * 1024 < 100 * count) || decide (100 * count < 92 * 1024))) clockFault s := rfl

/-! ## Power-on (R389, R441) -/

/-- A response that begins touches the Horizon domain alone, and leaves its supply. -/
theorem tamperBegin_frame (cause channel : Nat) (battery : Bool) (sample : Nat) (s : State) :
    ∃ h, tamperBegin cause channel battery sample s = { s with hzn := h } ∧ h.powered = s.hzn.powered := ⟨_, rfl, rfl⟩

theorem latchAtPowerUp_frame (s : State) : ∃ h, latchAtPowerUp s = { s with hzn := h } ∧ h.powered = s.hzn.powered := by
  unfold latchAtPowerUp
  (repeat' split)
  · exact tamperBegin_frame ..
  · exact ⟨_, rfl, rfl⟩
  · exact tamperBegin_frame ..
  · exact ⟨_, rfl, rfl⟩

/-- A key register with keys in it whose CRC fails counts as a tamper latch (R389). -/
theorem latchAtPowerUp_badCrc {s : State} (hl : s.hzn.lost = false) (hg : s.ks.mwkGen ≠ 0) (hc : s.ks.regCrcOk = false) :
    (latchAtPowerUp s).hzn.latch = true := by
  have hg' : (s.ks.mwkGen != 0) = true := bne_iff_ne.mpr hg
  unfold latchAtPowerUp
  rw [hl, hg', hc]
  rfl

/-! ## Loss of both feeds (R24, R395, R440) -/

/-- Losing both feeds leaves the module unpowered and Dark: OTP changes only where an intent is cut off (R362). -/
theorem feedsLost_dark (s : State) :
    (feedsLost s).clk.powered = false ∧ (feedsLost s).svc.phase = .dark ∧ (feedsLost s).prism.cmds = [] ∧ (feedsLost s).rings = [] ∧
      (feedsLost s).life.otp = (cutIntent s).life.otp ∧ (feedsLost s).clk.ns = s.clk.ns := by
  refine ⟨rfl, rfl, rfl, rfl, ?_, ?_⟩
  · show (cutWrites s).life.otp = _
    rw [cutWrites_life]
  · obtain ⟨n, a, b, o, e, f, h⟩ := cutWrites_frame s
    show (cutWrites s).clk.ns = s.clk.ns
    rw [h]

/-- The loss of the Horizon domain leaves the clock, the service, the commands, the rings and the OTP. -/
theorem horizonOff_frame (s : State) :
    ∃ k p h i f e, horizonOff s = { s with ks := k, parts := p, hzn := h, ilu := i, facets := f, engines := e } := ⟨_, _, _, _, _, _, rfl⟩

/-! ## Clock faults (R19) -/

theorem warmReset_clk (s : State) : (warmReset s).clk = darkClock s.clk := by
  obtain ⟨_, _, _, _, _, _, _, _, h⟩ := warmReset_frame s
  rw [h]

/-- A clock fault is a warm reset that is counted; the third within one second holds the module in Dark. -/
theorem clockFault_effect (s : State) :
    (clockFault s).svc.phase = .dark ∧ (clockFault s).svc.warmCount = s.svc.warmCount + 1 ∧ (clockFault s).clk.pllLocked = false ∧
      (clockFault s).clk.faults = s.clk.faults.filter (fun x => decide (s.clk.ns < x + 1000000000)) ++ [s.clk.ns] ∧
      (clockFault s).clk.holdDark = decide (3 ≤ (clockFault s).clk.faults.length) := by
  have hs : (clockFault s).svc = darkService s.svc s.clk.ns true := warmReset_svc s
  have hl : (clockFault s).clk.pllLocked = false := congrArg Clock.pllLocked (warmReset_clk s)
  rw [hs]
  exact ⟨rfl, rfl, hl, rfl, rfl⟩

/-- Settles O1: each event is guarded by its condition; both clock faults are one operation. -/
theorem supplyAndClockEventsTakeEffect : Obligations.SupplyAndClockEventsTakeEffect := by
  unfold Obligations.SupplyAndClockEventsTakeEffect
  refine ⟨fun s a b hp hf => ?powerOn, fun s a b => rfl, fun s hp ha hb => ?powerFail, fun s hs he hl => ?lock,
    fun s hs he hl ht => ?lockTimeout, fun s hs hl hi ht => ?switch, fun s n lost hp hl hc => ?check, fun s n h1 h2 => ?checkGood,
    fun a b s h => ?powerOnNot, fun s h => ?powerFailNot, fun s h => ?lockNot, fun s h => ?lockTimeoutNot, fun s h => ?switchNot⟩
  case powerOn =>
    refine guarded_runs (exec_powerOn a b s) (by simpa [hp] using hf) ?_
    refine ⟨?_, ?_, ?_, fun hl hg hc => latchAtPowerUp_badCrc hl hg hc⟩
    all_goals
      obtain ⟨h, e, hw⟩ := latchAtPowerUp_frame _
      rw [e]
    exact hw
  case powerFail =>
    refine guarded_runs (exec_powerFail s) (by simp [hp, ha, hb]) ?_
    split
    · exact feedsLost_dark s
    · obtain ⟨_, _, _, _, _, _, e⟩ := horizonOff_frame (feedsLost s)
      rw [e]
      exact feedsLost_dark s
  case lock => exact (exec_pllLock s).trans (guarded_true (by simp [hs, he, hl]))
  case lockTimeout => exact guarded_runs (exec_pllLockTimeout s) (by simp [hs, he, hl, ht]) (clockFault_effect s)
  case switch =>
    exact guarded_runs (exec_islandClockSwitch s) (by simp [hs, hl, hi, ht]) ⟨rfl, rfl, rfl, rfl, rfl, rfl, rfl, rfl⟩
  case check =>
    exact guarded_runs (exec_clockCheck n lost s) (by simpa [hp, hl, or_assoc] using hc) (clockFault_effect s)
  case checkGood => exact (exec_clockCheck n false s).trans (guarded_false (by simp; omega))
  case powerOnNot => exact (exec_powerOn a b s).trans (guarded_false h)
  case powerFailNot => exact (exec_powerFail s).trans (guarded_false h)
  case lockNot => exact (exec_pllLock s).trans (guarded_false h)
  case lockTimeoutNot => exact (exec_pllLockTimeout s).trans (guarded_false h)
  case switchNot => exact (exec_islandClockSwitch s).trans (guarded_false h)

/-! ## The phases of service (R25, R28 to R30, R309, R310) -/

theorem exec_appStartReport (s : State) :
    exec .appStartReport s = guarded (s.svc.phase == .dawn && s.fw.load == 3 && releaseWritten s)
      (fun s => loadCalibration (startTests (enterPhase .overcast s))) s := rfl

theorem exec_appStartTimeout (s : State) :
    exec .appStartTimeout s = guarded (s.svc.phase == .dawn && s.fw.load == 3 && releaseWritten s && decide (s.svc.releaseNs + 500000000 ≤ s.clk.ns))
      (fun s => warmReset { s with fw := { s.fw with lastResult := 10 } }) s := rfl

theorem exec_memoryPortsTrained (s : State) :
    exec .memoryPortsTrained s = guarded (s.svc.phase == .overcast) (fun s => { s with svc := { s.svc with memTrained := true } }) s := rfl

theorem exec_enterClear (s : State) :
    exec .enterClear s = guarded (s.svc.phase == .overcast && s.svc.memTrained && s.svc.calLoaded && katDone s)
      (fun s => layVaults (enterPhase .clear { s with svc := { s.svc with capped := !s.svc.calFull } })) s := rfl

/-- What a warm reset leaves of the firmware, the two slots apart (R302, R310, R311). -/
theorem warmReset_fw (s : State) : ∃ a b, (warmReset s).fw = warmFw s.svc.discardApp { s.fw with slotA := a, slotB := b } := by
  obtain ⟨_, _, _, a, b, _, _, _, h⟩ := warmReset_frame s
  exact ⟨a, b, by rw [h]⟩

/-- The image that a failed start discards is not retained (R310). -/
theorem warmFw_startFailed (d : Bool) (w : Firmware) (h : w.lastResult = 10) :
    (warmFw d w).lastResult = 10 ∧ (warmFw d w).load = 0 ∧ (warmFw d w).stage = [] := by
  simp [warmFw, h]

/-- Settles O3: each phase is entered under its guard, and its entry touches only what the frames of `Laws.Reset` name. -/
theorem phaseEventsReachOvercastAndClear : Obligations.PhaseEventsReachOvercastAndClear := by
  unfold Obligations.PhaseEventsReachOvercastAndClear
  refine ⟨fun s hp hl hr => ?start, fun s hp hl hr ht => ?timeout, fun s hp => ?ports, fun s hp hm hc hk => ?clear, fun s => rfl,
    fun s h => ?startNot, fun s h => ?timeoutNot, fun s h => ?portsNot, fun s h => ?clearNot⟩
  case start =>
    refine guarded_runs (exec_appStartReport s) (by simp [hp, hl, hr]) ?_
    obtain ⟨a, b, e⟩ := enterPhase_frame .overcast s
    obtain ⟨d, e'⟩ := startTests_frame (enterPhase .overcast s)
    rw [e', e]
    exact ⟨rfl, rfl, rfl, rfl, rfl, rfl, rfl, rfl⟩
  case timeout =>
    refine guarded_runs (exec_appStartTimeout s) (by simp [hp, hl, hr, ht]) ?_
    obtain ⟨a, b, e⟩ := warmReset_fw { s with fw := { s.fw with lastResult := 10 } }
    rw [warmReset_svc, e]
    exact ⟨rfl, rfl, warmFw_startFailed _ _ rfl⟩
  case ports => exact (exec_memoryPortsTrained s).trans (guarded_true (by simp [hp]))
  case clear =>
    refine guarded_runs (exec_enterClear s) (by simp [hp, hm, hc, hk]) ?_
    obtain ⟨a, b, e⟩ := enterPhase_frame .clear { s with svc := { s.svc with capped := !s.svc.calFull } }
    obtain ⟨p, f, e'⟩ := layVaults_frame (enterPhase .clear { s with svc := { s.svc with capped := !s.svc.calFull } })
    rw [e', e]
    exact ⟨rfl, rfl, rfl, rfl, rfl⟩
  case startNot => exact (exec_appStartReport s).trans (guarded_false h)
  case timeoutNot => exact (exec_appStartTimeout s).trans (guarded_false h)
  case portsNot => exact (exec_memoryPortsTrained s).trans (guarded_false h)
  case clearNot => exact (exec_enterClear s).trans (guarded_false h)

end Sys2Proof.Proofs
end

section
/-! The start: transitions left open, the tamper latch, the ROM's boot, Dawn entry and the retained image (R15, R27, R292, R299, R301, R305,
R309, R311, R361, R364, R390, R391). -/

namespace Sys2Proof.Proofs

open Sys2Proof Sys2Proof.Machine Sys2Proof.Laws

/-! ## Transitions left open and the tamper latch (R361, R364, R390, R391) -/

/-- What the ROM does with the open record `i`: an incomplete intent is voided, a complete one rolled forward (R364). -/
theorem exec_lcRollForward {s : State} {i : Nat} (h : openRecord s = some i) :
    exec .lcRollForward s = guarded (romActs s && !s.hzn.latch) (fun s =>
      match recIntent s i with
      | none => let u := programOtp (0x400 + 16 * i) (List.replicate 8 0xFF) s
                { u with life := { u.life with fenced := false, rolling := false } }
      | some t => finishTransition i t (destroyTenants s)) s := by
  show execLcRollForward s = _
  unfold execLcRollForward
  rewrite [h]
  rfl

theorem exec_lcRollForward_noRecord {s : State} (h : openRecord s = none) : exec .lcRollForward s = .next s := by
  show execLcRollForward s = _
  unfold execLcRollForward
  rw [h]

/-- A destruction, after which the latch is no more (R391). -/
def latchLifted (s : State) : State := { destroyTenants s with hzn := { (destroyTenants s).hzn with latch := false } }

theorem exec_tamperCompletion (s : State) :
    exec .tamperCompletion s = guarded (romActs s && s.hzn.latch) (fun s =>
      match openIntent (latchLifted s) with
      | none => latchLifted s
      | some (i, t) => finishTransition i t (latchLifted s)) s := rfl

/-- Every key goes with the key register (R154, R361, R390). -/
theorem destroyTenants_ks (s : State) : ∃ k, (destroyTenants s).ks = { (destroyAllKeys (zeroiseRegister s)).ks with memKey := k } := by
  obtain ⟨r, f, h⟩ := islandDraw_frame 64 (destroyAllKeys (zeroiseRegister s))
  refine ⟨(islandDraw 64 (destroyAllKeys (zeroiseRegister s))).1, ?_⟩
  show { (islandDraw 64 (destroyAllKeys (zeroiseRegister s))).2.ks with memKey := (islandDraw 64 (destroyAllKeys (zeroiseRegister s))).1 } = _
  rw [h]

/-- Of the Horizon domain a destruction changes JNL_EPOCH alone (R64). -/
theorem destroyTenants_hzn (s : State) : (destroyTenants s).hzn = { s.hzn with epoch := s.hzn.epoch + 1 } := by
  obtain ⟨r, f, h⟩ := islandDraw_frame 64 (destroyAllKeys (zeroiseRegister s))
  show { (islandDraw 64 (destroyAllKeys (zeroiseRegister s))).2.hzn with
    epoch := (islandDraw 64 (destroyAllKeys (zeroiseRegister s))).2.hzn.epoch + 1 } = _
  rw [h]
  rfl

/-- What every destruction takes from the tenants (R361, R390). -/
theorem destroyTenants_effect (s : State) :
    (destroyTenants s).ks.keys = [] ∧ (destroyTenants s).ks.nor0 = [] ∧ (destroyTenants s).ks.nor1 = [] ∧ (destroyTenants s).ks.mwkGen = 0 ∧
      (destroyTenants s).ks.mwk = zeros 32 ∧ (destroyTenants s).prism.cmds = [] ∧ (destroyTenants s).replies = [] ∧
      (destroyTenants s).pm.logP = none ∧ (destroyTenants s).svc.jnlLost = true := by
  obtain ⟨k, h⟩ := destroyTenants_ks s
  rw [h]
  exact ⟨rfl, rfl, rfl, rfl, rfl, rfl, rfl, rfl, rfl⟩

theorem destroyTenants_life (s : State) : (destroyTenants s).life = s.life := by
  obtain ⟨r, f, h⟩ := islandDraw_frame 64 (destroyAllKeys (zeroiseRegister s))
  show (islandDraw 64 (destroyAllKeys (zeroiseRegister s))).2.life = _
  rw [h]
  rfl

/-- The record left open is what the OTP says (R362, R364). -/
theorem openIntent_congr {s t : State} (h : t.life = s.life) : openIntent t = openIntent s := by
  unfold openIntent openRecord lastRecord recIntent
  unfold recDone recStarted recWord otp
  rw [h]

theorem openIntent_latchLifted (s : State) : openIntent (latchLifted s) = openIntent s := openIntent_congr (destroyTenants_life s)

/-- Voiding identity seeds programs OTP alone. -/
theorem foldl_voidSeed_frame (l : List Nat) (s : State) :
    ∃ o, l.foldl (fun s i => voidSeed i s) s = { s with life := { s.life with otp := o } } := by
  refine foldl_rel (fun s t => ∃ o, t = { s with life := { s.life with otp := o } }) (fun s => ⟨s.life.otp, rfl⟩) ?_ _ (fun s i => ⟨_, rfl⟩) l s
  rintro a b c ⟨x, rfl⟩ ⟨y, rfl⟩
  exact ⟨y, rfl⟩

/-- Programming a seed the island draws touches OTP, the state of the module's own generator and the count of free values alone. -/
theorem programSeed_frame (a : Nat) (s : State) : ∃ o r f, programOtp a (padTo 32 (islandDraw 32 s).1) (islandDraw 32 s).2 =
    { s with life := { s.life with otp := o }, rng := { s.rng with module := r }, free := f } := by
  obtain ⟨r, f, h⟩ := islandDraw_frame 32 s
  refine ⟨otpProgramBytes s.life.otp a (padTo 32 (islandDraw 32 s).1), r, f, ?_⟩
  rw [h]
  rfl

theorem newSeed_frame (s : State) :
    ∃ o r f, newSeed s = { s with life := { s.life with otp := o }, rng := { s.rng with module := r }, free := f } := by
  obtain ⟨o, h⟩ := foldl_voidSeed_frame ((List.range 8).filter (fun i => !seedBlank s i && !seedVoid s i)) s
  unfold newSeed
  dsimp only
  rw [h]
  split
  · exact ⟨o, s.rng.module, s.free, rfl⟩
  · exact programSeed_frame _ _

theorem eraseIdentity_frame (s : State) :
    ∃ l p m, eraseIdentity s = { s with life := l, plat := p, mbus := m } := by
  obtain ⟨o, h⟩ := foldl_voidSeed_frame ((List.range 8).filter (fun i => !seedVoid s i)) s
  unfold eraseIdentity
  rw [h]
  exact ⟨_, _, _, rfl⟩

/-- What the target of a transition asks of the identity (R364). -/
def identityFor (l : LifeCycle) (s : State) : State :=
  match l with
  | .personalised => newSeed s
  | .returned => eraseIdentity s
  | .scrap => eraseIdentity s
  | _ => s

theorem identityFor_frame (l : LifeCycle) (s : State) :
    ∃ x r f p m, identityFor l s = { s with life := x, rng := r, free := f, plat := p, mbus := m } := by
  cases l with
  | raw | test | deployed => exact ⟨s.life, s.rng, s.free, s.plat, s.mbus, rfl⟩
  | personalised =>
    obtain ⟨o, r, f, h⟩ := newSeed_frame s
    exact ⟨_, _, f, s.plat, s.mbus, h⟩
  | returned | scrap =>
    obtain ⟨x, p, m, h⟩ := eraseIdentity_frame s
    exact ⟨x, s.rng, s.free, p, m, h⟩

/-- A roll-forward does what its target asks of the identity, then programs STATE and DONE, and ends the fence (R364). -/
theorem finishTransition_eq (i : Nat) (l : LifeCycle) (s : State) :
    finishTransition i l s =
      (let u := programOtp (0x400 + 16 * i + 12) (toLe 4 recDoneWord) (programOtp (0x400 + 16 * i + 8) (toLe 4 (lcWord l))
         (identityFor l { s with fw := { s.fw with stage := [], stageLen := 0 } }));
       { u with life := { u.life with fenced := false, rolling := false } }) := by
  cases l <;> rfl

/-- A roll-forward takes the staged image and leaves the Horizon domain as it is (R361, R364). -/
theorem finishTransition_effect (i : Nat) (l : LifeCycle) (s : State) :
    (finishTransition i l s).fw = { s.fw with stage := [], stageLen := 0 } ∧ (finishTransition i l s).hzn = s.hzn ∧
      (finishTransition i l s).life.fenced = false ∧ (finishTransition i l s).life.rolling = false := by
  obtain ⟨x, r, f, p, m, h⟩ := identityFor_frame l { s with fw := { s.fw with stage := [], stageLen := 0 } }
  rw [finishTransition_eq, h]
  exact ⟨rfl, rfl, rfl, rfl⟩

/-! ## The ROM's boot (R297, R301) -/

/-- An image is judged by its bytes and the OTP (R297). -/
theorem imageCheck_congr {s t : State} (h : t.life = s.life) (i : Bytes) (typ rotSvn : Nat) (readable : Bool) :
    imageCheck t i typ rotSvn readable = imageCheck s i typ rotSvn readable := by
  unfold imageCheck keyRevoked revokeByte imgKeyDigest svnCount otp
  rw [h]

@[simp] theorem slotOf_setSlot (b : Bool) (x : Slot) (s : State) : slotOf (setSlot b x s) b = x := by cases b <;> rfl

@[simp] theorem slotOf_setSlot_other (b : Bool) (x : Slot) (s : State) : slotOf (setSlot b x s) (!b) = slotOf s (!b) := by cases b <;> rfl

@[simp] theorem slotOf_setSlot_not (b : Bool) (x : Slot) (s : State) : slotOf (setSlot (!b) x s) b = slotOf s b := by cases b <;> rfl

@[simp] theorem setSlot_life (b : Bool) (x : Slot) (s : State) : (setSlot b x s).life = s.life := by cases b <;> rfl

@[simp] theorem setSlot_svc (b : Bool) (x : Slot) (s : State) : (setSlot b x s).svc = s.svc := by cases b <;> rfl

@[simp] theorem setSlot_flags (b : Bool) (x : Slot) (s : State) : (setSlot b x s).fw.flags = s.fw.flags := by cases b <;> rfl

@[simp] theorem slotOf_startRot (b c f : Bool) (s : State) : slotOf (startRot b f s) c = slotOf s c := rfl

/-- The result code of a slot's image, as the ROM finds it (R297). -/
def romResult (readA readB : Bool) (s : State) (b : Bool) : Nat := imageCheck s (slotOf s b).image 1 0 (if b then readB else readA)

/-- The state in which the ROM tries the first slot: both results are clear and FLAGS_STATE stands. -/
def romTrial (readA readB : Bool) (s : State) : State :=
  { s with fw := { s.fw with slotA := { s.fw.slotA with result := 0 }, slotB := { s.fw.slotB with result := 0 }, flags := (trialOrder s readA readB).2 } }

/-- A slot with its result stored. -/
def romTried (readA readB b : Bool) (s : State) : State := setSlot b { slotOf s b with result := BitVec.ofNat 4 (romResult readA readB s b) } s

theorem romResult_congr {s t : State} {b : Bool} (hl : t.life = s.life) (hi : (slotOf t b).image = (slotOf s b).image) (readA readB : Bool) :
    romResult readA readB t b = romResult readA readB s b := by
  unfold romResult
  rw [imageCheck_congr hl, hi]

/-- The ROM starts the first slot that verifies, and enters the recovery loader when none does (R301, R305). -/
theorem bootRot_eq (readA readB : Bool) (s : State) :
    bootRot readA readB s =
      (let a := (trialOrder s readA readB).1
       let u := romTried readA readB a (romTrial readA readB s)
       let v := romTried readA readB (!a) u
       if romResult readA readB (romTrial readA readB s) a == 1 then startRot a false u
       else if romResult readA readB u (!a) == 1 then startRot (!a) true v
       else { v with svc := { v.svc with romStarted := true, recovery := true }, fw := { v.fw with loaderNs := v.clk.ns } }) := rfl

/-- What the trial of the first slot finds is what stood in the flash before it. -/
theorem romResult_trial (readA readB b : Bool) (s : State) : romResult readA readB (romTrial readA readB s) b = romResult readA readB s b :=
  romResult_congr (s := s) (t := romTrial readA readB s) rfl (by cases b <;> rfl) readA readB

/-- Nor does the trial of one slot change what the trial of the other finds. -/
theorem romResult_tried (readA readB b : Bool) (s : State) : romResult readA readB (romTried readA readB b s) (!b) = romResult readA readB s (!b) :=
  romResult_congr (setSlot_life ..) (congrArg Slot.image (slotOf_setSlot_other ..)) readA readB

theorem slotOf_romTried (readA readB b : Bool) (s : State) :
    (slotOf (romTried readA readB b s) b).result = BitVec.ofNat 4 (romResult readA readB s b) := congrArg Slot.result (slotOf_setSlot ..)

theorem exec_romBoot (ra rb : Bool) (s : State) :
    exec (.romBoot ra rb) s =
      guarded (starting s && s.clk.islandClock && !s.svc.romStarted && (openRecord s).isNone && !s.hzn.latch && lifeCycle s != .scrap)
        (bootRot ra rb) s := rfl

@[simp] theorem romTried_svc (readA readB b : Bool) (s : State) : (romTried readA readB b s).svc = s.svc := setSlot_svc ..

@[simp] theorem romTried_flags (readA readB b : Bool) (s : State) : (romTried readA readB b s).fw.flags = s.fw.flags := setSlot_flags ..

@[simp] theorem slotOf_romTried_not (readA readB b : Bool) (s : State) : slotOf (romTried readA readB (!b) s) b = slotOf s b :=
  slotOf_setSlot_not ..

/-- What the ROM's boot leaves: the result of the first slot of the order `a`, FLAGS_STATE, and the slot that runs or the recovery loader
(R301, R305). -/
theorem bootRot_effect (ra rb : Bool) (s : State) {a : Bool} (ha : (trialOrder s ra rb).1 = a) :
    (bootRot ra rb s).svc.romStarted = true ∧ (bootRot ra rb s).fw.flags = (trialOrder s ra rb).2 ∧
      (slotOf (bootRot ra rb s) a).result = BitVec.ofNat 4 (romResult ra rb s a) ∧
      (romResult ra rb s a = 1 → (bootRot ra rb s).svc.phase = .dawn ∧ (bootRot ra rb s).svc.romFound = true ∧
        (bootRot ra rb s).fw.running = a ∧ (bootRot ra rb s).fw.fallback = false) ∧
      (romResult ra rb s a ≠ 1 → romResult ra rb s (!a) = 1 → (bootRot ra rb s).svc.phase = .dawn ∧ (bootRot ra rb s).svc.romFound = true ∧
        (bootRot ra rb s).fw.running = !a ∧ (bootRot ra rb s).fw.fallback = true) ∧
      (romResult ra rb s a ≠ 1 → romResult ra rb s (!a) ≠ 1 →
        (bootRot ra rb s).svc.phase = s.svc.phase ∧ (bootRot ra rb s).svc.recovery = true) := by
  obtain ⟨u, hu⟩ : ∃ u, u = romTried ra rb a (romTrial ra rb s) := ⟨_, rfl⟩
  have first : romResult ra rb (romTrial ra rb s) a = romResult ra rb s a := romResult_trial ra rb a s
  have second : romResult ra rb u (!a) = romResult ra rb s (!a) := by
    rw [hu, romResult_tried, romResult_trial]
  have result : (slotOf u a).result = BitVec.ofNat 4 (romResult ra rb s a) := by rw [hu, slotOf_romTried, first]
  have flags : u.fw.flags = (trialOrder s ra rb).2 := by rw [hu, romTried_flags]; rfl
  have phase : u.svc.phase = s.svc.phase := by rw [hu, romTried_svc]; rfl
  rw [bootRot_eq]
  simp only [ha, ← hu, first, second, beq_iff_eq]
  by_cases h1 : romResult ra rb s a = 1
  · simp only [if_pos h1]
    exact ⟨rfl, flags, result, fun _ => ⟨rfl, rfl, rfl, rfl⟩, fun h => absurd h1 h, fun h => absurd h1 h⟩
  · by_cases h2 : romResult ra rb s (!a) = 1
    · simp only [if_neg h1, if_pos h2]
      refine ⟨rfl, (romTried_flags ..).trans flags, ?_, fun h => absurd h h1, fun _ _ => ⟨rfl, rfl, rfl, rfl⟩, fun _ h => absurd h2 h⟩
      rw [slotOf_startRot, slotOf_romTried_not, result]
    · simp only [if_neg h1, if_neg h2]
      refine ⟨trivial, (romTried_flags ..).trans flags, ?_, fun h => absurd h h1, fun _ h => absurd h h2, fun _ _ => ⟨?_, trivial⟩⟩
      · exact (congrArg Slot.result (slotOf_romTried_not ra rb a u)).trans result
      · exact (congrArg Service.phase (romTried_svc ra rb (!a) u)).trans phase

theorem starting_phase {s : State} (h : starting s = true) : s.svc.phase = .dark := by
  unfold starting at h
  simp only [Bool.and_eq_true, beq_iff_eq] at h
  exact h.2

/-! ## Dawn entry, the first rank and the retained image (R15, R27, R98, R309, R311) -/

theorem exec_dawnEntry (bad : BadRecords) (s : State) :
    exec (.dawnEntry bad) s = guarded (s.svc.phase == .dawn && !s.svc.dawnDone && !islandStalls s) (fun s =>
      let u := drawStartKeys (deriveAliases (writeCheckpoint (restoreHorizon (settleSlots (applyFloor s)))))
      let v := platformAtStart (mirrorAtStart (domainsAtStart (loadMapping (finaliseJournals (reloadKeys bad u)))))
      reportLoss (flushDebugLog { v with svc := { v.svc with dawnDone := true } })) s := rfl

theorem exec_rankTrained (ok : Bool) (s : State) :
    exec (.rankTrained ok) s = guarded (s.svc.phase == .dawn && s.svc.dawnDone && !s.svc.rank0) (fun s =>
      if ok then { s with svc := { s.svc with rank0 := true, linkUp := linkReady s.clk.ns s.svc } }
      else transient { kind := 6, index := 0 } s) s := rfl

theorem exec_retainedAppRecheck (s : State) :
    exec .retainedAppRecheck s = guarded (s.svc.phase == .dawn && s.svc.rank0 && s.fw.load == 0 && !s.fw.stage.isEmpty) (fun s =>
      let u := { s with fw := { s.fw with lastResult := BitVec.ofNat 4 (stageCheck s) } }
      if stageCheck s = 1 then modDomain 2 (fun d => { d with testing := true, katPass := false }) { u with fw := { u.fw with load := 2 } }
      else { u with fw := { u.fw with stage := [], stageLen := 0 } }) s := rfl

theorem exec_domainKatDone (d : Fin 32) (failed : List Nat) (s : State) :
    exec (.domainKatDone d failed) s =
      guarded (((getDomain s d.val).on && (getDomain s d.val).testing) || (!(getDomain s d.val).on && domainWants s d.val true)) (fun s =>
        if !(getDomain s d.val).on then endDomainCmd d.val stFault s
        else if retainedWaits s d.val then endRetained failed.isEmpty s
        else if failed.isEmpty then endDomainCmd d.val stOk (modDomain d.val (fun x => { x with testing := false, katPass := true }) s)
        else endDomainCmd d.val stFault (domainFail d.val s)) s := rfl

/-- The service's own state after a loss of the journals has been reported (R64). -/
theorem reportLoss_svc (s : State) : (reportLoss s).svc = { s.svc with jnlLost := false } := by
  obtain ⟨a, b, h⟩ := reportLoss_frame s
  rw [h]

/-- The release of an application image counts as the known-answer test of control cores 0 and 1 (R309). -/
theorem getDomain_releaseApp (retained : Bool) (s : State) :
    getDomain (releaseApp retained s) 2 = { getDomain s 2 with katPass := true, testing := false } := by
  refine (getDomain_congr ?_ 2).trans (getDomain_modDomain s 2 (fun d => { d with katPass := true, testing := false }))
  unfold releaseApp
  dsimp only
  split <;> rfl

theorem releaseApp_effect (retained : Bool) (s : State) :
    (releaseApp retained s).fw.load = 3 ∧ (releaseApp retained s).fw.retained = retained ∧ (releaseApp retained s).fw.stage = s.fw.stage ∧
      (releaseApp retained s).svc.releaseNs = s.clk.ns := by
  unfold releaseApp
  dsimp only
  split <;> exact ⟨rfl, rfl, rfl, rfl⟩

/-- A test of control cores 0 and 1 that a retained image waits for decides on that image (R15, R309). -/
theorem exec_domainKatDone_retained {s : State} (failed : List Nat) (hp : s.svc.phase = .dawn) (hl : s.fw.load = 2)
    (ho : (getDomain s 2).on = true) (ht : (getDomain s 2).testing = true) :
    exec (.domainKatDone 2 failed) s = .next (endRetained failed.isEmpty s) := by
  have hw : retainedWaits s 2 = true := by simp [retainedWaits, hp, hl]
  refine ((exec_domainKatDone 2 failed s).trans (guarded_true (by simp [ho, ht]))).trans ?_
  simp [ho, hw]

/-- Settles O2: each event is guarded by its condition, and each operation behind a guard has its own lemma above. -/
theorem startEventsRunTheRom : Obligations.StartEventsRunTheRom := by
  unfold Obligations.StartEventsRunTheRom
  refine ⟨fun s i hr hi ha hl => ?voided, fun s i l hr hi ha hl => ?forward, fun i l s => ?destroyed, fun s h => ?forwardNot,
    fun s ha hl hi => ?latch, fun s i l ha hl hi => ?latchIntent, fun s h => ?latchNot,
    fun s ra rb hs hc hn hr hl hf => ?rom, fun s ra rb h => ?romNot, fun s bad hp hd hi => ?dawn, fun s bad h => ?dawnNot,
    fun s hp hd hr => ?rank, fun s hp hd hr => ?rankFails, fun s b h => ?rankNot, fun s hp hr hl hs => ?recheck,
    fun s hp hl ho ht => ?katPasses, fun s l hp hl ho ht hf => ?katFails, fun s h => ?recheckNot, fun d failed s h => ?katNot⟩
  case voided =>
    refine guarded_runs (exec_lcRollForward hr) (by simp [ha, hl]) ?_
    rewrite [hi]
    exact ⟨rfl, rfl, rfl, rfl, rfl⟩
  case forward =>
    obtain ⟨-, -, hfenced, hrolling⟩ := finishTransition_effect i l (destroyTenants s)
    refine guarded_runs (exec_lcRollForward hr) (by simp [ha, hl]) ?_
    rewrite [hi]
    exact ⟨rfl, hfenced, hrolling⟩
  case destroyed =>
    obtain ⟨hk, h0, h1, hg, -, hc, hq, hp, -⟩ := destroyTenants_effect s
    obtain ⟨hw, -⟩ := finishTransition_effect i l s
    rw [hw]
    exact ⟨hk, h0, h1, hg, hp, hq, hc, rfl, rfl⟩
  case forwardNot =>
    cases hr : openRecord s with
    | none => exact exec_lcRollForward_noRecord hr
    | some i =>
      have h' := h.resolve_left (by simp [hr])
      exact (exec_lcRollForward hr).trans (guarded_false (by simpa [imp_iff_not_or] using h'))
  case latch =>
    obtain ⟨hk, h0, h1, hg, hm, hc, hq, hp, hj⟩ := destroyTenants_effect s
    refine guarded_runs (exec_tamperCompletion s) (by simp [ha, hl]) ?_
    rewrite [openIntent_latchLifted, hi]
    exact ⟨rfl, hk, h0, h1, hg, hm, hc, hq, hp, hj, congrArg Horizon.epoch (destroyTenants_hzn s)⟩
  case latchIntent =>
    obtain ⟨-, hh, -⟩ := finishTransition_effect i l (latchLifted s)
    refine guarded_runs (exec_tamperCompletion s) (by simp [ha, hl]) ?_
    rewrite [openIntent_latchLifted, hi]
    exact ⟨congrArg Horizon.latch hh, rfl⟩
  case latchNot => exact (exec_tamperCompletion s).trans (guarded_false (by simpa [imp_iff_not_or] using h))
  case rom =>
    intro a r
    obtain ⟨hrom, hflags, hres, h1, h2, h3⟩ := bootRot_effect ra rb s (a := a) rfl
    refine guarded_runs (exec_romBoot ra rb s) (by simp [hs, hc, hn, hr, hl, hf]) ⟨hrom, hflags, hres, h1, h2, fun ha hb => ?_⟩
    obtain ⟨hp, hv⟩ := h3 ha hb
    exact ⟨hp.trans (starting_phase hs), hv⟩
  case romNot =>
    refine (exec_romBoot ra rb s).trans (guarded_false ?_)
    rcases h with h | h | h | h | h | h <;> simp [h]
  case dawn =>
    refine guarded_runs (exec_dawnEntry bad s) (by simp [hp, hd, hi]) ?_
    dsimp only
    generalize platformAtStart _ = v
    exact ⟨congrArg Service.dawnDone (reportLoss_svc _), congrArg Service.jnlLost (reportLoss_svc _), rfl⟩
  case dawnNot =>
    refine (exec_dawnEntry bad s).trans (guarded_false ?_)
    rcases h with h | h | h <;> simp [h]
  case rank => exact (exec_rankTrained true s).trans (guarded_true (by simp [hp, hd, hr]))
  case rankFails => exact (exec_rankTrained false s).trans (guarded_true (by simp [hp, hd, hr]))
  case rankNot =>
    refine (exec_rankTrained b s).trans (guarded_false ?_)
    rcases h with h | h | h <;> simp [h]
  case recheck =>
    refine guarded_runs (exec_retainedAppRecheck s) (by simp [hp, hr, hl, hs]) ?_
    by_cases hc : stageCheck s = 1
    · dsimp only
      rw [if_pos hc]
      exact ⟨rfl, rfl, fun _ => ⟨rfl, rfl, by simp, by simp⟩, fun h => absurd hc h⟩
    · dsimp only
      rw [if_neg hc]
      exact ⟨rfl, rfl, fun h => absurd h hc, fun _ => ⟨hl, rfl, rfl, rfl⟩⟩
  case katPasses =>
    obtain ⟨h1, h2, h3, h4⟩ := releaseApp_effect true s
    refine ⟨_, exec_domainKatDone_retained [] hp hl ho ht, rfl, h1, h2, h3, h4, ?_⟩
    show (getDomain (releaseApp true s) 2).katPass = true ∧ (getDomain (releaseApp true s) 2).testing = false
    rw [getDomain_releaseApp]
    exact ⟨rfl, rfl⟩
  case katFails =>
    have hf : l.isEmpty = false := by simpa using hf
    rw [exec_domainKatDone_retained l hp hl ho ht, hf]
    rfl
  case recheckNot =>
    refine (exec_retainedAppRecheck s).trans (guarded_false ?_)
    rcases h with h | h | h | h
    · simp [h]
    · simp [h]
    · rw [beq_eq_false_iff_ne.mpr h]
      simp
    · simp [h]
  case katNot => exact (exec_domainKatDone d failed s).trans (guarded_false h)

end Sys2Proof.Proofs
end

section
/-! Tamper causes and the response, the measurement channels, calibration, checkpoints and the crystal (R29, R286, R381, R382, R384 to R386,
R388 to R390, R393, R394, R447). -/

namespace Sys2Proof.Proofs

open Sys2Proof Sys2Proof.Machine Sys2Proof.Laws

/-! ## When each event takes effect -/

theorem exec_meshSample (l : Fin 4) (ohms : Nat) (x : Bool) (s : State) : exec (.meshSample l ohms x) s = execMeshSample l ohms x s := rfl

theorem exec_tamperCauseFire (c : Fin 9) (l : Fin 4) (s : State) :
    exec (.tamperCauseFire c l) s = guarded s.hzn.powered (comparator c.val l.val) s := rfl

theorem exec_tamperResponseEnd (s : State) :
    exec .tamperResponseEnd s = guarded (mains s && s.hzn.latch && s.hzn.responding) (fun s =>
      let u := destroyTenants s
      warmReset { u with hzn := { u.hzn with latch := false, responding := false } }) s := rfl

theorem exec_envelopeRecompute (l : List (Nat × Nat)) (s : State) :
    exec (.envelopeRecompute l) s = guarded (mains s && s.svc.calLoaded)
      (fun s => { s with hzn := { s.hzn with envelopes := l.filterMap (fun x => envelope s x.1 x.2) } }) s := rfl

theorem exec_horizonCheckpoint (s : State) :
    exec .horizonCheckpoint s = guarded (mains s && s.svc.dawnDone && decide (s.hzn.checkNs + 3600000000000 ≤ s.clk.ns)) writeCheckpoint s := rfl

theorem exec_crystalCheck (d : Nat) (stopped : Bool) (s : State) :
    exec (.crystalCheck d stopped) s = guarded (mains s) (fun s =>
      if stopped || decide (1000 < d) then
        let u := { s with hzn := { s.hzn with skyTicks := true, goodSecs := 0 } }
        if s.hzn.skyTicks then u else setFltCause 1 (faultLog 0 1 0 0 u)
      else if d ≤ 500 then
        { s with hzn := { s.hzn with goodSecs := s.hzn.goodSecs + 1, skyTicks := s.hzn.skyTicks && decide (s.hzn.goodSecs + 1 < 10) } }
      else { s with hzn := { s.hzn with goodSecs := 0 } }) s := rfl

/-! ## Comparator conditions (R382, R384, R385) -/

theorem noteCondition_frame (c l : Nat) (s : State) :
    ∃ o m, noteCondition c l s = { s with hzn := { s.hzn with enclOpen := o, meshTrue := m } } := by
  unfold noteCondition
  (repeat' split)
  · exact ⟨_, s.hzn.meshTrue, rfl⟩
  · exact ⟨s.hzn.enclOpen, _, rfl⟩
  · exact ⟨s.hzn.enclOpen, s.hzn.meshTrue, rfl⟩

theorem noteCondition_enclOpen (c l : Nat) (s : State) : (noteCondition c l s).hzn.enclOpen = (s.hzn.enclOpen || c == 7) := by
  unfold noteCondition
  split
  · simp_all
  · split <;> simp_all

/-- The loops noted for the mesh causes: the one that holds an armed mesh cause true joins them (R384). -/
theorem mem_noteCondition_meshTrue (c l : Nat) (s : State) (e : Nat × Nat) :
    e ∈ (noteCondition c l s).hzn.meshTrue ↔ e ∈ s.hzn.meshTrue ∨ (e = (c, l) ∧ c ≤ 1 ∧ causeArmed s c l = true) := by
  unfold noteCondition
  split
  · next h => subst h; simp
  · split
    · next h =>
      simp only [Bool.and_eq_true, decide_eq_true_eq] at h
      by_cases he : e = (c, l)
      · simp [he, h]
      · simp [he, List.mem_erase_of_ne he]
    · next h =>
      simp only [Bool.and_eq_true, decide_eq_true_eq] at h
      simp [h]

/-- The state in which a cause that has gone active fires (R384). -/
def causeActive (c l : Nat) (s : State) : State :=
  { noteCondition c l s with hzn := { (noteCondition c l s).hzn with active := s.hzn.active ||| causeBit c } }

theorem causeActive_frame (c l : Nat) (s : State) :
    ∃ o m, causeActive c l s = { s with hzn := { s.hzn with enclOpen := o, meshTrue := m, active := s.hzn.active ||| causeBit c } } := by
  obtain ⟨o, m, h⟩ := noteCondition_frame c l s
  exact ⟨o, m, by unfold causeActive; rw [h]⟩

/-- The latch, its causes and the count of tampers do not depend on what is noted of a condition. -/
theorem causeActive_hzn (c l : Nat) (s : State) :
    (causeActive c l s).hzn.latch = s.hzn.latch ∧ (causeActive c l s).hzn.latched = s.hzn.latched ∧
      (causeActive c l s).hzn.tampers = s.hzn.tampers := by
  obtain ⟨o, m, h⟩ := causeActive_frame c l s
  rw [h]
  exact ⟨rfl, rfl, rfl⟩

theorem causeActive_clk (c l : Nat) (s : State) : (causeActive c l s).clk = s.clk := by
  obtain ⟨o, m, h⟩ := causeActive_frame c l s
  rw [h]

theorem comparator_edge {c l : Nat} {s : State} (ha : causeArmed s c l = true) (he : s.hzn.active &&& causeBit c = 0) :
    comparator c l s = fireTamper c (causeChannel c l) 0 (causeActive c l s) := by
  simp [comparator, ha, he, causeActive]

theorem comparator_quiet {c l : Nat} {s : State} (h : causeArmed s c l = false ∨ s.hzn.active &&& causeBit c ≠ 0) :
    comparator c l s = noteCondition c l s := by
  unfold comparator
  refine if_neg ?_
  rcases h with h | h
  · simp [h]
  · rw [beq_eq_false_iff_ne.mpr h]
    simp

/-! ## The response (R388 to R390) -/

theorem fireTamper_latched {s : State} (h : s.hzn.latch = true) (cause channel sample : Nat) :
    fireTamper cause channel sample s = tamperRecord cause channel (!s.clk.powered) sample s := by
  simp [fireTamper, h, mains]

theorem fireTamper_mains {s : State} (h : s.hzn.latch = false) (hp : s.clk.powered = true) (cause channel sample : Nat) :
    fireTamper cause channel sample s = responseStart (tamperBegin cause channel false sample s) := by
  have : (tamperBegin cause channel false sample s).clk.powered = true := hp
  simp [fireTamper, h, hp, mains, this]

theorem fireTamper_battery {s : State} (h : s.hzn.latch = false) (hp : s.clk.powered = false) (cause channel sample : Nat) :
    fireTamper cause channel sample s = zeroiseRegister (tamperBegin cause channel true sample s) := by
  have : (tamperBegin cause channel true sample s).clk.powered = false := hp
  simp [fireTamper, h, hp, mains, this]

theorem leaveFailed_frame (cause : Byte) (s : State) :
    ∃ i b o, leaveFailed cause s = { s with ilu := i, rng := { s.rng with shared := b }, out := o } := by
  unfold leaveFailed
  split
  · obtain ⟨i, o, -, h⟩ := sendPartner_sent 0x14 [cause] s
    rw [h]
    exact ⟨_, _, _, rfl⟩
  · split
    · exact ⟨s.ilu, s.rng.shared, s.out, rfl⟩
    · obtain ⟨i, o, -, h⟩ := broadcast_sent 0x14 s.ilu.claim [cause] s
      rw [h]
      exact ⟨_, s.rng.shared, _, rfl⟩

/-- A response with mains present: the Horizon register and every key on the die are gone (R388). -/
theorem responseStart_effect (s : State) :
    (responseStart s).hzn = { s.hzn with responding := true, calCmd := none } ∧ (responseStart s).ks.keys = [] ∧
      (responseStart s).ks.holds = [] ∧ (responseStart s).ks.hot = [] ∧ (responseStart s).ks.mwk = zeros 32 ∧
      (responseStart s).ks.mwkGen = 0 := by
  obtain ⟨i, b, o, h⟩ := leaveFailed_frame 2 s
  unfold responseStart
  rw [h]
  exact ⟨rfl, rfl, rfl, rfl, rfl, rfl⟩

theorem warmReset_hzn (s : State) : (warmReset s).hzn = warmHorizon s.hzn := by
  obtain ⟨_, _, _, _, _, _, _, _, h⟩ := warmReset_frame s
  rw [h]

theorem warmReset_logP (s : State) : (warmReset s).pm.logP = s.pm.logP := by
  obtain ⟨_, _, _, _, _, _, _, _, h⟩ := warmReset_frame s
  rw [h]

theorem warmReset_replies (s : State) : (warmReset s).replies = s.replies := by
  obtain ⟨_, _, _, _, _, _, _, _, h⟩ := warmReset_frame s
  rw [h]

/-! ## The measurement channels (R386) -/

/-- The state after a sample of a channel has been stored. -/
def channelSampled (ch : Nat) (v : BitVec 12) (crossed fired : Bool) (s : State) : State :=
  let u := noteBattery ch v.toNat s
  let m := s.hzn.channels.at ch chanReset
  { u with hzn := { u.hzn with channels := u.hzn.channels.put ch { m with value := v, crossed := crossed, fired := fired } } }

/-- A value outside the warning limits warns. -/
def warnedAt (ch v : Nat) (s : State) : State := if warnLimit s ch v then channelWarn ch s else s

/-- A sample is stored, warns, and fires cause 9 when it is the second in a row outside the tamper limits and none has fired (R386). -/
theorem exec_channelSample (ch : Fin 16) (v : BitVec 12) (s : State) :
    exec (.channelSample ch v) s = guarded (mains s) (fun s =>
      let m := s.hzn.channels.at ch.val chanReset
      let cross := tamperLimit s ch.val v.toNat
      let fire := cross && m.crossed && !m.fired
      let u := warnedAt ch.val v.toNat (channelSampled ch.val v cross (cross && (m.fired || fire)) s)
      if fire then fireTamper 9 ch.val v.toNat u else u) s := rfl

/-- The warning limits do not depend on what the channels last read. -/
theorem warnLimit_channelSampled (ch v : Nat) (w : BitVec 12) (c f : Bool) (s : State) :
    warnLimit (channelSampled ch w c f s) ch v = warnLimit (noteBattery ch w.toNat s) ch v := rfl

/-! ## Calibration (R29, R286, R394) -/

theorem exec_calibrationDone {s : State} {r : CmdRef} (h : s.hzn.calCmd = some r) (p : CalPoint) (m : Int) :
    exec (.calibrationDone p m) s = guarded (decide (s.hzn.calNs + 40000000000 ≤ s.clk.ns)) (fun s =>
      let u := { s with hzn := { s.hzn with calFull := some { p with crcOk := true }, calCmd := none }, svc := { s.svc with calFull := true, capped := false } }
      endCmd r stOk (calReply m) (if s.svc.capped = true then setCauseAll causePhase u else u)) s := by
  show execCalibrationDone p m s = _
  unfold execCalibrationDone
  rewrite [h]
  rfl

theorem exec_calibrationDone_none {s : State} (h : s.hzn.calCmd = none) (p : CalPoint) (m : Int) :
    exec (.calibrationDone p m) s = .next s := by
  show execCalibrationDone p m s = _
  unfold execCalibrationDone
  rw [h]

/-- Telling the functions of a changed phase, or not, leaves everything but them and the messages. -/
theorem tellPhase_frame (b : Bool) (s : State) : ∃ f o, (if b = true then setCauseAll causePhase s else s) = { s with fns := f, out := o } := by
  split
  · exact setCauseAll_frame causePhase s
  · exact ⟨s.fns, s.out, rfl⟩

/-- Settles O17: a sample, a cause and the crystal are taken by what they find; the response and its end are taken field by field. -/
theorem tamperAndHorizonEventsTakeEffect : Obligations.TamperAndHorizonEventsTakeEffect := by
  unfold Obligations.TamperAndHorizonEventsTakeEffect
  refine ⟨fun s l ohms x hh hp hv => ?meshGood, fun s l ohms c x hh hp hv => ?meshBad, fun s c l hh ha he hp hl => ?fireMains,
    fun s c l hh ha he hp hl => ?fireBattery, fun s c l hh ha he hl => ?fireLatched, fun s c l hh hq => ?fireNone,
    fun s c l => ⟨noteCondition_enclOpen c l s, mem_noteCondition_meshTrue c l s⟩, fun s c => rfl, fun s hp hl hr => ?responseEnd,
    fun s ch v hp hw ht => ?sampleGood, fun s ch v hp hw ht => ?sampleWarns, fun s ch v hp ht hm => ?sampleCrosses,
    fun s ch v hp ht hc hf => ?sampleFires, fun s p m r c hr ht hf hn => ?calibrated, fun s p m h => ?calibratedNot,
    fun s l hp hc => ?envelopes, fun s hp hd ht => ?checkpoint, fun s d hp hd => ?crystalGood, fun s d hp hl hd => ?crystalOff,
    fun s d st hp hb hk => ?crystalSky, fun s d st hp hb hk => ?crystalLost, fun l ohms x s h => ?meshNot, fun c l s h => ?fireNot,
    fun s h => ?responseEndNot, fun ch v s h => ?sampleNot, fun s h => ?checkpointNot, fun d st s h => ?crystalNot⟩
  case meshGood =>
    refine ((exec_meshSample l ohms x s).trans (guarded_true (by simp [hh, mains, hp]))).trans ?_
    rw [hv]
  case meshBad =>
    refine guarded_runs (exec_meshSample l ohms x s) (by simp [hh, mains, hp]) ?_
    rw [hv]
    exact ⟨fun h => by simp [h], fun h => by simp [h]⟩
  case fireMains =>
    intro u v
    obtain ⟨hlatch, hlatched, htampers⟩ := causeActive_hzn c.val l.val s
    obtain ⟨hz, h1, h2, h3, h4, h5⟩ := responseStart_effect (tamperBegin c.val (causeChannel c.val l.val) false 0 v)
    refine guarded_runs (exec_tamperCauseFire c l s) hh ?_
    rw [comparator_edge ha he, fireTamper_mains (hlatch.trans hl) (by rw [causeActive_clk]; exact hp)]
    refine ⟨rfl, congrArg Horizon.latch hz, congrArg Horizon.responding hz, h1, h2, h3, h4, h5, ?_, ?_⟩
    · exact (congrArg Horizon.latched hz).trans (congrArg (· ||| (1#12 <<< c.val)) hlatched)
    · exact (congrArg Horizon.tampers hz).trans (congrArg (satAdd 8 · 1) htampers)
  case fireBattery =>
    intro u v
    obtain ⟨hlatch, -, -⟩ := causeActive_hzn c.val l.val s
    refine guarded_runs (exec_tamperCauseFire c l s) hh ?_
    rw [comparator_edge ha he, fireTamper_battery (hlatch.trans hl) (by rw [causeActive_clk]; exact hp)]
    exact ⟨rfl, rfl, rfl⟩
  case fireLatched =>
    intro u v
    obtain ⟨hlatch, -, -⟩ := causeActive_hzn c.val l.val s
    refine ((exec_tamperCauseFire c l s).trans (guarded_true hh)).trans ?_
    rw [comparator_edge ha he, fireTamper_latched (hlatch.trans hl), causeActive_clk]
    rfl
  case fireNone => exact ((exec_tamperCauseFire c l s).trans (guarded_true hh)).trans (congrArg _ (comparator_quiet hq))
  case responseEnd =>
    obtain ⟨hk, -, h1, hg, -, -, hq, hlp, -⟩ := destroyTenants_effect s
    refine guarded_runs (exec_tamperResponseEnd s) (by simp [mains, hp, hl, hr]) ?_
    dsimp only
    obtain ⟨n, hks⟩ := warmReset_ks { destroyTenants s with hzn := { (destroyTenants s).hzn with latch := false, responding := false } }
    rw [warmReset_svc, warmReset_hzn, hks, warmReset_logP, warmReset_replies]
    refine ⟨rfl, rfl, rfl, rfl, ?_, h1, hg, hlp, hq, congrArg Horizon.epoch (destroyTenants_hzn s)⟩
    simp [warmKeys, hk]
  case sampleGood =>
    intro m u
    refine ((exec_channelSample ch v s).trans (guarded_true hp)).trans ?_
    simp only [ht, Bool.false_and, Bool.false_eq_true, if_false, warnedAt, warnLimit_channelSampled, hw]
    rfl
  case sampleWarns =>
    intro m u
    refine ((exec_channelSample ch v s).trans (guarded_true hp)).trans ?_
    simp only [ht, Bool.false_and, Bool.false_eq_true, if_false, warnedAt, warnLimit_channelSampled, hw, if_true]
    rfl
  case sampleCrosses =>
    intro m u w
    have hfire : ((s.hzn.channels.at ch.val chanReset).crossed && !(s.hzn.channels.at ch.val chanReset).fired) = false := by
      rcases hm with h | h <;> simp [h]
    refine ((exec_channelSample ch v s).trans (guarded_true hp)).trans ?_
    simp only [ht, Bool.true_and, hfire, Bool.or_false, Bool.false_eq_true, if_false]
    rfl
  case sampleFires =>
    intro m u w
    refine ((exec_channelSample ch v s).trans (guarded_true hp)).trans ?_
    simp only [ht, hc, hf, Bool.true_and, Bool.not_false, Bool.false_or, if_true]
    rfl
  case calibrated =>
    intro u
    obtain ⟨f, o, e⟩ := tellPhase_frame s.svc.capped u
    obtain ⟨w, hw⟩ : ∃ w, w = if s.svc.capped = true then setCauseAll causePhase u else u := ⟨_, rfl⟩
    rw [← hw] at e ⊢
    have found : findCmd w r = some c := by rw [e]; exact hf
    have ends := endCmd_ends r stOk (calReply m) w
    have hz : (endCmd r stOk (calReply m) w).hzn = u.hzn := by rw [ends.hzn, e]
    have hs : (endCmd r stOk (calReply m) w).svc = u.svc := by rw [ends.svc, e]
    refine ⟨_, ?_, rfl, endCmd_result found hn stOk (calReply m), congrArg Horizon.calFull hz, congrArg Horizon.calCmd hz,
      congrArg Service.calFull hs, congrArg Service.capped hs⟩
    rw [hw]
    exact (exec_calibrationDone hr p m).trans (guarded_true (by simp [ht]))
  case calibratedNot =>
    cases hc : s.hzn.calCmd with
    | none => exact exec_calibrationDone_none hc p m
    | some r =>
      have ht := h.resolve_left (by simp [hc])
      exact (exec_calibrationDone hc p m).trans (guarded_false (by simpa using ht))
  case envelopes => exact (exec_envelopeRecompute l s).trans (guarded_true (by simp [mains, hp, hc]))
  case checkpoint => exact guarded_runs (exec_horizonCheckpoint s) (by simp [mains, hp, hd, ht]) ⟨rfl, rfl, rfl⟩
  case crystalGood =>
    refine ((exec_crystalCheck d false s).trans (guarded_true hp)).trans ?_
    have hfar : ¬ 1000 < d := by omega
    simp [hfar, hd]
  case crystalOff =>
    refine ((exec_crystalCheck d false s).trans (guarded_true hp)).trans ?_
    have hfar : ¬ 1000 < d := by omega
    have hgood : ¬ d ≤ 500 := by omega
    simp [hfar, hgood]
  case crystalSky =>
    refine ((exec_crystalCheck d st s).trans (guarded_true hp)).trans ?_
    simp [hb, hk]
  case crystalLost =>
    refine ((exec_crystalCheck d st s).trans (guarded_true hp)).trans ?_
    simp [hb, hk]
  case meshNot => exact (exec_meshSample l ohms x s).trans (guarded_false h)
  case fireNot => exact (exec_tamperCauseFire c l s).trans (guarded_false h)
  case responseEndNot => exact (exec_tamperResponseEnd s).trans (guarded_false h)
  case sampleNot => exact (exec_channelSample ch v s).trans (guarded_false h)
  case checkpointNot => exact (exec_horizonCheckpoint s).trans (guarded_false h)
  case crystalNot => exact (exec_crystalCheck d st s).trans (guarded_false h)

end Sys2Proof.Proofs
end

section
/-! The module as shipped (R25, R98, R316, R385, R407, R453). -/

namespace Sys2Proof.Proofs

open Sys2Proof Sys2Proof.Machine Sys2Proof.Laws

/-- Of the OTP as shipped, transition record 1 is the last that is done, and its target is Personalised (R362, R453). -/
theorem reset_lifeCycle : lifeCycle State.reset = .personalised := by decide

/-- Settles O52: the flag records are those of `reset_slots`; the rest is read off the reset state. -/
theorem resetIsTheModuleAsShipped : Obligations.ResetIsTheModuleAsShipped := by
  obtain ⟨hA, hB, hseq⟩ := reset_slots
  have anchors : allZero (bsub State.reset.mbus.config 8 128) = true := by decide
  exact ⟨rfl, rfl, reset_lifeCycle, rfl, rfl, rfl, rfl, anchors, rfl, rfl, rfl, hA, hB, hseq, rfl, rfl, fun _ => rfl, rfl, rfl, rfl, rfl, rfl⟩

end Sys2Proof.Proofs
end

section
/-! The doorbells and the control of the rings (R42 to R45, R97, R99, R104, R106, R410, R456). -/

namespace Sys2Proof.Proofs

open Sys2Proof Sys2Proof.Machine Sys2Proof.Laws

/-! ## Causes and vectors (R47, R97) -/

/-- A write of a function that keeps its strays keeps those of every function. -/
theorem setFn_stray {s : State} {f : Nat} {x : Fn} (h : x.stray = (getFn s f).stray) (k : Nat) :
    (getFn (setFn s f x) k).stray = (getFn s k).stray := by
  by_cases hk : k = f
  · rw [hk, getFn_setFn, h]
  · rw [getFn_setFn_ne _ _ hk]

theorem raiseVector_stray (f v : Nat) (s : State) (k : Nat) : (getFn (raiseVector f v s) k).stray = (getFn s k).stray := by
  unfold raiseVector
  dsimp only
  (repeat' split)
  · rfl
  · exact setFn_stray (by rfl) k
  · rfl

/-- Setting a cause touches a function's cause bits and pending vectors; its strays stand. -/
theorem setCause_stray (f : Nat) (c : BitVec 5) (s : State) (k : Nat) : (getFn (setCause f c s) k).stray = (getFn s k).stray := by
  unfold setCause
  dsimp only
  split
  · exact setFn_stray (by rfl) k
  · exact (raiseVector_stray f 0 _ k).trans (setFn_stray (by rfl) k)

@[simp] theorem setCause_rings (f : Nat) (c : BitVec 5) (s : State) : (setCause f c s).rings = s.rings := by
  obtain ⟨_, _, h⟩ := setCause_frame f c s
  rw [h]

@[simp] theorem raiseVector_rings (f v : Nat) (s : State) : (raiseVector f v s).rings = s.rings := by
  obtain ⟨_, _, h⟩ := raiseVector_frame f v s
  rw [h]

/-! ## Doorbells (R44, R45, R456) -/

theorem exec_sqTailWrite (f : Fin 256) (n : Fin 64) (size : Nat) (v : BitVec 32) (s : State) :
    exec (.sqTailWrite f n size v) s = guarded s.svc.linkUp (doorbell false f.val n.val size v.toNat) s := rfl

theorem exec_cqHeadWrite (f : Fin 256) (n : Fin 64) (size : Nat) (v : BitVec 32) (s : State) :
    exec (.cqHeadWrite f n size v) s = guarded s.svc.linkUp (doorbell true f.val n.val size v.toNat) s := rfl

/-- A doorbell of a block without a ring is noted as a stray of that block. -/
theorem doorbell_stray {s : State} {f n : Nat} (h : (getFn s f).mapped = false ∨ (getFn s f).ringCount ≤ n) (head : Bool) (size v : Nat) :
    doorbell head f n size v s = setCause f causeDb (setFn s f { getFn s f with
      stray := if (getFn s f).stray.contains n then (getFn s f).stray else (getFn s f).stray ++ [n] }) := by
  have none : (!((getFn s f).mapped && decide (n < (getFn s f).ringCount))) = true := by
    rcases h with h | h <;> simp [h]
  unfold doorbell
  simp only [none, if_true]

/-- A doorbell of another width, of a ring that is off, or at or above the ring size, sets BAD_DOORBELL. -/
theorem doorbell_bad {s : State} {f n size v : Nat} (hm : (getFn s f).mapped = true) (hn : n < (getFn s f).ringCount)
    (hb : size ≠ 4 ∨ (getRing s ((getFn s f).ringBase + n)).enable = false ∨
      ringSize (getRing s ((getFn s f).ringBase + n)) ≤ v % 65536) (head : Bool) :
    doorbell head f n size v s = badDoorbell f ((getFn s f).ringBase + n) s := by
  have bad : (size != 4 || !(getRing s ((getFn s f).ringBase + n)).enable ||
      decide (ringSize (getRing s ((getFn s f).ringBase + n)) ≤ v % 65536)) = true := by
    rcases hb with h | h | h <;> simp [h]
  unfold doorbell
  simp only [hm, hn, bad, decide_true, Bool.and_self, Bool.not_true, Bool.false_eq_true, if_false, if_true]

/-- A doorbell in form goes to SQ_TAIL or to CQ_HEAD. -/
theorem doorbell_good {s : State} {f n v : Nat} (hm : (getFn s f).mapped = true) (hn : n < (getFn s f).ringCount)
    (he : (getRing s ((getFn s f).ringBase + n)).enable = true)
    (hv : v % 65536 < ringSize (getRing s ((getFn s f).ringBase + n))) (head : Bool) :
    doorbell head f n 4 v s = if head then cqHead f ((getFn s f).ringBase + n) (v % 65536) s
      else sqTail f ((getFn s f).ringBase + n) (v % 65536) s := by
  have good : ¬ ringSize (getRing s ((getFn s f).ringBase + n)) ≤ v % 65536 := Nat.not_le.mpr hv
  unfold doorbell
  simp [hm, hn, he, good]

/-- Settles O7: a doorbell is a stray, bad, or in form, and one in form moves its index or is refused (R45, R456). -/
theorem doorbellsMoveTheRingIndices : Obligations.DoorbellsMoveTheRingIndices := by
  unfold Obligations.DoorbellsMoveTheRingIndices
  refine ⟨fun s f n v hl hm hn he hv => ?tail, fun s f n v hl hm hn he hv => ?head, fun s f n size v hl hm hn hb => ?bad,
    fun s f n size v hl h => ?stray, fun f n size v s hl => ?tailDown, fun f n size v s hl => ?headDown⟩
  case tail =>
    intro g r i
    refine guarded_runs (exec_sqTailWrite f n 4 v s) hl ?_
    rw [doorbell_good hm hn he hv]
    exact ⟨fun h => if_neg (Nat.not_lt.mpr h), fun h => if_pos h⟩
  case head =>
    intro g r i
    refine guarded_runs (exec_cqHeadWrite f n 4 v s) hl ?_
    rw [doorbell_good hm hn he hv]
    exact ⟨fun h => if_neg (Nat.not_lt.mpr h), fun h => if_pos h⟩
  case bad =>
    intro g u
    exact ⟨(exec_sqTailWrite f n size v s).trans ((guarded_true hl).trans (congrArg _ (doorbell_bad hm hn hb false))),
      (exec_cqHeadWrite f n size v s).trans ((guarded_true hl).trans (congrArg _ (doorbell_bad hm hn hb true)))⟩
  case stray =>
    refine ⟨_, (exec_sqTailWrite f n size v s).trans ((guarded_true hl).trans (congrArg _ (doorbell_stray h false size v.toNat))),
      (exec_cqHeadWrite f n size v s).trans ((guarded_true hl).trans (congrArg _ (doorbell_stray h true size v.toNat))),
      setCause_rings _ _ _, ?_⟩
    rw [setCause_stray, getFn_setFn]
    dsimp only
    split <;> simp_all
  case tailDown => exact (exec_sqTailWrite f n size v s).trans (guarded_false hl)
  case headDown => exact (exec_cqHeadWrite f n size v s).trans (guarded_false hl)

/-! ## RING_CTRL (R42, R43, R99, R104, R106, R410) -/

theorem exec_ringEnable (f : Fin 256) (n : Fin 64) (v : BitVec 32) (s : State) :
    exec (.ringEnable f n v) s = guarded s.svc.linkUp (writeRingCtrl f.val n.val (v ||| 1).toNat) s := rfl

theorem exec_ringDisable (f : Fin 256) (n : Fin 64) (v : BitVec 32) (s : State) :
    exec (.ringDisable f n v) s = guarded s.svc.linkUp (writeRingCtrl f.val n.val (v &&& 0xFFFFFFFE).toNat) s := rfl

theorem bit_zero_enable (v : BitVec 32) : bit (v ||| 1).toNat 0 = true := by
  simp [bit, Nat.or_mod_two_eq_one]

theorem bit_zero_disable (v : BitVec 32) : bit (v &&& 0xFFFFFFFE).toNat 0 = false := by
  simp [bit]

theorem storeRingCtrl_logSize {r : Ring} (h : r.enable = false) (v : Nat) : (storeRingCtrl v r).logSize = BitVec.ofNat 5 (bits v 5 1) := by
  simp [storeRingCtrl, h]

theorem storeRingCtrl_vector {r : Ring} (h : r.enable = false) (v : Nat) : (storeRingCtrl v r).vector = BitVec.ofNat 8 (bits v 15 8) := by
  simp [storeRingCtrl, h]

theorem toNat_logSizeField (v : Nat) : (BitVec.ofNat 5 (bits v 5 1)).toNat = bits v 5 1 :=
  Nat.mod_eq_of_lt (Nat.mod_lt _ (by decide))

theorem toNat_vectorField (v : Nat) : (BitVec.ofNat 8 (bits v 15 8)).toNat = bits v 15 8 :=
  Nat.mod_eq_of_lt (Nat.mod_lt _ (by decide))

/-- The size and the vector with which a ring may be enabled (R42). -/
def fieldsInRange (r : Ring) : Prop := (6 ≤ r.logSize.toNat ∧ r.logSize.toNat ≤ 16) ∧ 1 ≤ r.vector.toNat ∧ r.vector.toNat ≤ 64

/-- A write stores in range just what it brings in range, in a ring that is off. -/
theorem fieldsInRange_stored {r : Ring} (h : r.enable = false) (v : Nat) :
    fieldsInRange (storeRingCtrl v r) ↔ (6 ≤ bits v 5 1 ∧ bits v 5 1 ≤ 16) ∧ 1 ≤ bits v 15 8 ∧ bits v 15 8 ≤ 64 := by
  unfold fieldsInRange
  rw [storeRingCtrl_logSize h, storeRingCtrl_vector h, toNat_logSizeField, toNat_vectorField]

/-- Where a ring lies depends on its bases and its size alone. -/
theorem ringFits_stored {s : State} {r : Ring} (h : r.enable = false) (p g v : Nat) :
    ringFits (setRing s g (storeRingCtrl v r)) p (storeRingCtrl v r) = ringFits s p { r with logSize := BitVec.ofNat 5 (bits v 5 1) } := by
  unfold ringFits ringSize
  rw [storeRingCtrl_logSize h]
  rfl

/-- A ring that is out of range, or whose partition is DISABLED, is not started (R42). -/
theorem tryEnable_refused {s : State} {f n : Nat}
    (h : ¬fieldsInRange (getRing s ((getFn s f).ringBase + n)) ∨ (getPart s (getFn s f).partition).state = .disabled) :
    tryEnable f n s = s := by
  unfold tryEnable
  dsimp only
  split
  · rfl
  · next hr =>
    have inRange : fieldsInRange (getRing s ((getFn s f).ringBase + n)) := by
      simpa [fieldsInRange, and_assoc, Nat.one_le_iff_ne_zero] using hr
    simp [h.resolve_left (not_not_intro inRange)]

/-- One in order otherwise is started where its rings lie in the partition's windows, and reported as a spoof of cause 5 elsewhere (R42,
R104). -/
theorem tryEnable_judged {s : State} {f n : Nat} (hr : fieldsInRange (getRing s ((getFn s f).ringBase + n)))
    (hd : (getPart s (getFn s f).partition).state ≠ .disabled) :
    tryEnable f n s =
      if ringFits s (getFn s f).partition (getRing s ((getFn s f).ringBase + n)) then startRing ((getFn s f).ringBase + n) s
      else spoofReport f 5 (getFn s f).partition ((getFn s f).ringBase + n) n s := by
  obtain ⟨⟨h6, h16⟩, h1, h64⟩ := hr
  unfold tryEnable
  simp [h6, h16, h1, h64, hd]

/-- On a ring the function does not have, RING_CTRL does nothing. -/
theorem writeRingCtrl_stray {s : State} {f n : Nat} (h : (getFn s f).mapped = false ∨ (getFn s f).ringCount ≤ n) (v : Nat) :
    writeRingCtrl f n v s = s := by
  unfold writeRingCtrl
  rcases h with h | h <;> simp [h]

section

variable {s : State} {f n : Nat} (hm : (getFn s f).mapped = true) (hn : n < (getFn s f).ringCount)
include hm hn

theorem writeRingCtrl_disable {v : Nat} (hv : bit v 0 = false) :
    writeRingCtrl f n v s = changeRingGen ((getFn s f).ringBase + n)
      (setRing s ((getFn s f).ringBase + n) (storeRingCtrl v (getRing s ((getFn s f).ringBase + n)))) := by
  unfold writeRingCtrl
  simp [hm, hn, hv, modRing]

theorem writeRingCtrl_on {v : Nat} (hv : bit v 0 = true) (he : (getRing s ((getFn s f).ringBase + n)).enable = true) :
    writeRingCtrl f n v s = setRing s ((getFn s f).ringBase + n) (storeRingCtrl v (getRing s ((getFn s f).ringBase + n))) := by
  unfold writeRingCtrl
  simp [hm, hn, hv, he, modRing]

theorem writeRingCtrl_enable {v : Nat} (hv : bit v 0 = true) (he : (getRing s ((getFn s f).ringBase + n)).enable = false) :
    writeRingCtrl f n v s = tryEnable f n
      (setRing s ((getFn s f).ringBase + n) (storeRingCtrl v (getRing s ((getFn s f).ringBase + n)))) := by
  unfold writeRingCtrl
  simp [hm, hn, hv, he, modRing]

/-- Only the fields are stored where a condition of R42 fails, the windows apart. -/
theorem writeRingCtrl_refused {v : Nat} (hv : bit v 0 = true) (he : (getRing s ((getFn s f).ringBase + n)).enable = false)
    (h : bits v 5 1 < 6 ∨ 16 < bits v 5 1 ∨ bits v 15 8 = 0 ∨ 64 < bits v 15 8 ∨ (getPart s (getFn s f).partition).state = .disabled) :
    writeRingCtrl f n v s = setRing s ((getFn s f).ringBase + n) (storeRingCtrl v (getRing s ((getFn s f).ringBase + n))) := by
  rw [writeRingCtrl_enable hm hn hv he]
  refine tryEnable_refused ?_
  simp only [getFn_congr (setRing_fns _ _ _), getPart_congr (setRing_parts _ _ _), getRing_setRing, fieldsInRange_stored he]
  by_cases hd : (getPart s (getFn s f).partition).state = .disabled
  · exact .inr hd
  · simp only [hd, or_false] at h
    exact .inl (by omega)

theorem writeRingCtrl_judged {v : Nat} (hv : bit v 0 = true) (he : (getRing s ((getFn s f).ringBase + n)).enable = false)
    (hr : (6 ≤ bits v 5 1 ∧ bits v 5 1 ≤ 16) ∧ 1 ≤ bits v 15 8 ∧ bits v 15 8 ≤ 64)
    (hd : (getPart s (getFn s f).partition).state ≠ .disabled) :
    writeRingCtrl f n v s =
      if ringFits s (getFn s f).partition { getRing s ((getFn s f).ringBase + n) with logSize := BitVec.ofNat 5 (bits v 5 1) } then
        startRing ((getFn s f).ringBase + n)
          (setRing s ((getFn s f).ringBase + n) (storeRingCtrl v (getRing s ((getFn s f).ringBase + n))))
      else spoofReport f 5 (getFn s f).partition ((getFn s f).ringBase + n) n
        (setRing s ((getFn s f).ringBase + n) (storeRingCtrl v (getRing s ((getFn s f).ringBase + n)))) := by
  rw [writeRingCtrl_enable hm hn hv he, tryEnable_judged]
  · simp only [getFn_congr (setRing_fns _ _ _), getRing_setRing, ringFits_stored he]
  · simpa only [getFn_congr (setRing_fns _ _ _), getRing_setRing, fieldsInRange_stored he] using hr
  · exact hd

end

/-! ## Generations (R105, R106, R110, R410) -/

theorem discardHeld_rings (g : Nat) (s : State) : (discardHeld g s).rings = s.rings := by
  unfold discardHeld
  dsimp only
  split
  · rfl
  · next f _ =>
    exact foldl_rel (fun s t => t.rings = s.rings) (fun _ => rfl) (fun _ _ _ h k => k.trans h)
      (fun s _ => bumpFn f cStaleGenDiscarded s) (fun _ _ => rfl) _ _

/-- A ring's generation rises by one and the ring goes off; its other fields stand (R106). -/
theorem getRing_bumpRingGen (g : Nat) (s : State) :
    getRing (bumpRingGen g s) g = { getRing s g with gen := (getRing s g).gen + 1, enable := false } := by
  have h : getRing (discardHeld g (modRing g (fun r => { r with gen := r.gen + 1, enable := false }) s)) g =
      { getRing s g with gen := (getRing s g).gen + 1, enable := false } :=
    (getRing_congr (discardHeld_rings _ _) g).trans (getRing_modRing _ _ _)
  unfold bumpRingGen
  dsimp only
  split
  · exact h
  · exact (getRing_congr (setCause_rings _ _ _) g).trans h

/-- Outside a pair a change of generation is the ring's own. -/
theorem changeRingGen_unpaired {s : State} (h : s.ilu.mirror = .none) (g : Nat) : changeRingGen g s = bumpRingGen g s := by
  unfold changeRingGen
  rw [h]
  split <;> rfl

/-- Settles O8: RING_CTRL is taken by whether the function has the ring, whether it is on, and what ENABLE and the fields ask for. -/
theorem ringControlStartsAndStopsRings : Obligations.RingControlStartsAndStopsRings := by
  unfold Obligations.RingControlStartsAndStopsRings
  refine ⟨fun s f n v g hl hm hn hg he hsize hvec hstate hfit => ?starts, fun s f n v g hl hm hn hg he => ?on,
    fun s f n v g hl hm hn hg he h => ?refused, fun s f n v g hl hm hn hg he hsize hvec hstate hfit => ?spoofs, fun s f n v hl h => ?stray,
    fun s f n v g hl hm hn hg => ?stops, fun s f n v g hl hm hn hg hi => ?stopsAlone, fun f n v s hl => ?enableDown,
    fun f n v s hl => ?disableDown⟩
  case starts =>
    subst hg
    refine guarded_runs (exec_ringEnable f n v s) hl ?_
    rw [writeRingCtrl_judged hm hn (bit_zero_enable v) he ⟨hsize, hvec⟩ hstate, if_pos hfit]
    unfold startRing
    rw [getRing_modRing, getRing_setRing]
    exact ⟨rfl, rfl, rfl, rfl, rfl, rfl, rfl, storeRingCtrl_logSize he _, storeRingCtrl_vector he _⟩
  case on =>
    subst hg
    exact (exec_ringEnable f n v s).trans ((guarded_true hl).trans (congrArg _ (writeRingCtrl_on hm hn (bit_zero_enable v) he)))
  case refused =>
    subst hg
    exact (exec_ringEnable f n v s).trans ((guarded_true hl).trans (congrArg _ (writeRingCtrl_refused hm hn (bit_zero_enable v) he h)))
  case spoofs =>
    subst hg
    refine (exec_ringEnable f n v s).trans ((guarded_true hl).trans (congrArg _ ?_))
    rw [writeRingCtrl_judged hm hn (bit_zero_enable v) he ⟨hsize, hvec⟩ hstate, if_neg (ne_true_of_eq_false hfit)]
  case stray =>
    exact ⟨(exec_ringEnable f n v s).trans ((guarded_true hl).trans (congrArg _ (writeRingCtrl_stray h _))),
      (exec_ringDisable f n v s).trans ((guarded_true hl).trans (congrArg _ (writeRingCtrl_stray h _)))⟩
  case stops =>
    subst hg
    exact (exec_ringDisable f n v s).trans ((guarded_true hl).trans (congrArg _ (writeRingCtrl_disable hm hn (bit_zero_disable v))))
  case stopsAlone =>
    subst hg
    refine guarded_runs (exec_ringDisable f n v s) hl ?_
    rw [writeRingCtrl_disable hm hn (bit_zero_disable v), changeRingGen_unpaired (by exact hi), getRing_bumpRingGen, getRing_setRing]
    exact ⟨rfl, rfl, rfl⟩
  case enableDown => exact (exec_ringEnable f n v s).trans (guarded_false hl)
  case disableDown => exact (exec_ringDisable f n v s).trans (guarded_false hl)

end Sys2Proof.Proofs
end

section
/-! From the fetch of an entry to its refusal, its answer as a duplicate, or its acceptance (R46, R49, R52, R54, R66, R81, R87, R104 to R109). -/

namespace Sys2Proof.Proofs

open Sys2Proof Sys2Proof.Machine Sys2Proof.Laws Sys2Proof.Safety

theorem exec_fetchEntry (f : Fin 256) (n : Fin 64) (x : Submission) (s : State) :
    exec (.fetchEntry f n x) s =
      guarded (mayFetch s f.val n.val) (fun s => checks n.val (entryReq s f.val n.val x) (entryDescs x) (taken s f.val n.val)) s := rfl

theorem exec_fetchEntry_fetched {s : State} {f : Fin 256} {n : Fin 64} (hm : mayFetch s f.val n.val = true) (x : Submission) :
    exec (.fetchEntry f n x) s = .next (checks n.val (entryReq s f.val n.val x) (entryDescs x) (taken s f.val n.val)) :=
  (exec_fetchEntry f n x s).trans (guarded_true hm)

/-! ## Refusals (R54, R66) -/

/-- A status other than QUORUM_INCOMPLETE that has a counter of its own is counted on the function. -/
theorem refuse_counted {x : Req} {st : Status} {k : Nat} (hk : refusalCounter st = some k) (hq : st ≠ stQuorum) (s : State) :
    refuse x st s = postRefusal x st (bumpFn x.fn k s) := by
  unfold refuse countRefusal
  simp only [hk, hq, if_false]

/-! ## The checks (R52) -/

section

variable {k : Nat} {x : Req} {descs : List Desc} {s : State}

theorem checks_badHeader (h : headerOk x = false) : checks k x descs s = refuse x stBadHeader s := by
  unfold checks
  simp only [h, Bool.not_false, if_true]

theorem checks_spoofed (h : headerOk x = true) {c : Nat} (hc : sourceCause s x descs = some c) :
    checks k x descs s = postRefusal x stSpoofed (spoofReport x.fn c x.partField x.ringField k s) := by
  unfold checks
  simp only [h, hc, Bool.not_true, Bool.false_eq_true, if_false]

theorem checks_staleGen (h : headerOk x = true) (hc : sourceCause s x descs = none)
    (hg : x.genField ≠ (getRing s x.ring).gen.toNat % 65536) : checks k x descs s = refuse x stStaleGen s := by
  unfold checks
  simp only [h, hc, bne_iff_ne.mpr hg, Bool.not_true, Bool.false_eq_true, if_false, if_true]

/-- An entry whose header, source and generation are in order goes on to its form. -/
theorem checks_form (h : headerOk x = true) (hc : sourceCause s x descs = none)
    (hg : x.genField = (getRing s x.ring).gen.toNat % 65536) : checks k x descs s = checksFromForm x descs s := by
  unfold checks
  simp only [h, hc, hg, bne_self_eq_false, Bool.not_true, Bool.false_eq_true, if_false]

theorem checksFromForm_unknown (ho : opSpec x.opcode = none) : checksFromForm x descs s = refuse x stBadHeader s := by
  unfold checksFromForm
  rw [ho]

variable {o : OpSpec} (ho : opSpec x.opcode = some o)
include ho

theorem checksFromForm_badForm (hf : formOk x descs = false) : checksFromForm x descs s = refuse x stBadHeader s := by
  unfold checksFromForm
  simp only [ho, hf, Bool.not_false, if_true]

variable (hf : formOk x descs = true)
include hf

theorem checksFromForm_reduced (hp : phaseServes s o x.opcode = false) : checksFromForm x descs s = refuse x stServiceReduced s := by
  unfold checksFromForm
  simp only [ho, hf, hp, Bool.not_true, Bool.not_false, Bool.false_eq_true, if_false, if_true]

variable (hp : phaseServes s o x.opcode = true)
include hp

theorem checksFromForm_standby (hs : standbyRing s x = true) : checksFromForm x descs s = postRefusal x stNotActive s := by
  unfold checksFromForm
  simp only [ho, hf, hp, hs, Bool.not_true, Bool.false_eq_true, if_false, if_true]

variable (hs : standbyRing s x = false)
include hs

theorem checksFromForm_notFresh (hq : x.seq.toNat ≤ (getRing s x.ring).lastSeq.toNat) : checksFromForm x descs s = notFresh x s := by
  unfold checksFromForm
  simp only [ho, hf, hp, hs, hq, Bool.not_true, Bool.false_eq_true, if_false, if_true]

variable (hq : (getRing s x.ring).lastSeq.toNat < x.seq.toNat)
include hq

theorem checksFromForm_length (hl : lengthOk s o x = false) : checksFromForm x descs s = refuse x stLength s := by
  unfold checksFromForm
  simp only [ho, hf, hp, hs, Nat.not_le.mpr hq, hl, Bool.not_true, Bool.not_false, Bool.false_eq_true, if_false, if_true]

/-- An entry past checks 1 to 7 comes to checks 8 and 9. -/
theorem checksFromForm_admit (hl : lengthOk s o x = true) : checksFromForm x descs s = admitEntry o x s := by
  unfold checksFromForm
  simp only [ho, hf, hp, hs, Nat.not_le.mpr hq, hl, Bool.not_true, Bool.false_eq_true, if_false]

end

/-! ## Checks 8 and 9, and acceptance (R83, R87, R460) -/

section

variable {o : OpSpec} {x : Req} {s : State}

theorem admitEntry_eighth {st : Status} (h8 : check8 s o x = some st) : admitEntry o x s =
    refuse x st (if st = stSessionLost && x.handle != 0 then sessionRelease x.part x.handle s else s) := by
  unfold admitEntry
  rw [h8]

variable (h8 : check8 s o x = none)
include h8

theorem admitEntry_ninth {st : Status} (h9 : check9 s o x = some st) (hst : st ≠ stQueueFull) : admitEntry o x s = refuse x st s := by
  unfold admitEntry
  simp only [h8, h9, hst, if_false]

/-- A full queue leaves a trace record of the flow the command would have had (R83). -/
theorem admitEntry_queueFull (h9 : check9 s o x = some stQueueFull) : admitEntry o x s =
    refuse x stQueueFull (let r := nextRef s x.part (getPart s x.part).jnext.toNat
      traceRec 4 (unitByte none) x.part 0 (toLe 4 (flowField (flowOf o x r) r)) s) := by
  unfold admitEntry
  simp only [h8, h9, if_true]

theorem admitEntry_accepts (h9 : check9 s o x = none) : admitEntry o x s = accept o x s := by
  unfold admitEntry
  simp only [h8, h9]

end

/-! ## The entry taken (R46) -/

/-- Taking the entry moves SQ_HEAD and owes a completion; the ring's other fields stand. -/
theorem getRing_taken (s : State) (f n : Nat) : getRing (taken s f n) (fetchRing s f n) =
    { getRing s (fetchRing s f n) with
      sqHead := BitVec.ofNat 16 (((getRing s (fetchRing s f n)).sqHead.toNat + 1) % ringSize (getRing s (fetchRing s f n))),
      owed := (getRing s (fetchRing s f n)).owed + 1 } := getRing_modRing _ _ _

theorem taken_gen (s : State) (f n : Nat) : (getRing (taken s f n) (fetchRing s f n)).gen = (getRing s (fetchRing s f n)).gen := by
  rw [getRing_taken]

theorem taken_lastSeq (s : State) (f n : Nat) :
    (getRing (taken s f n) (fetchRing s f n)).lastSeq = (getRing s (fetchRing s f n)).lastSeq := by
  rw [getRing_taken]

/-- An entry fetched and past checks 1 to 3 is judged by its form on. -/
theorem exec_fetchEntry_pastSource {s : State} {f : Fin 256} {n : Fin 64} {x : Submission} (h : pastSource s f.val n.val x) :
    exec (.fetchEntry f n x) s = .next (checksFromForm (entryReq s f.val n.val x) (entryDescs x) (taken s f.val n.val)) := by
  obtain ⟨hm, hh, hc, hg⟩ := h
  refine (exec_fetchEntry_fetched hm x).trans (congrArg _ (checks_form hh hc ?_))
  exact hg.trans (congrArg (·.toNat % 65536) (taken_gen s f.val n.val)).symm

/-- One past checks 1 to 7 is judged by checks 8 and 9. -/
theorem exec_fetchEntry_pastLength {s : State} {f : Fin 256} {n : Fin 64} {x : Submission} {o : OpSpec} (h : pastLength s f.val n.val x o) :
    exec (.fetchEntry f n x) s = .next (admitEntry o (entryReq s f.val n.val x) (taken s f.val n.val)) := by
  obtain ⟨⟨hsrc, ho, hf, hp⟩, hs, hq, hl⟩ := h
  rw [exec_fetchEntry_pastSource hsrc, checksFromForm_admit ho hf hp hs _ hl]
  exact (congrArg BitVec.toNat (taken_lastSeq s f.val n.val)).trans_lt hq

/-- Settles O9: the entry is taken, and each check that fails gives its refusal, in the order of R52. -/
theorem fetchedEntriesAreTakenAndJudged : Obligations.FetchedEntriesAreTakenAndJudged := by
  unfold Obligations.FetchedEntriesAreTakenAndJudged
  refine ⟨fun s f n x hm => ?taken, fun s f n x hm hh => ?header, fun s f n x k hm hh hc => ?spoofed, fun s f n x hm hh hc hg => ?stale,
    fun s f n x h ho => ?unknown, fun s f n x o h ho hf => ?form, fun s f n x o h ho hf hp => ?reduced, fun s f n x o h hs => ?standby,
    fun s f n x o h hs hq => ?notFresh, fun s f n x o h hs hq hl => ?length, fun s f n x o st h h8 => ?eighth,
    fun s f n x o st h h8 h9 hst => ?ninth, fun s f n x o h h8 h9 => ?full, fun s f n x o h h8 h9 => ?accepted, fun s f n x h => ?nothing⟩
  case taken =>
    rw [getRing_taken]
    exact ⟨rfl, rfl, _, exec_fetchEntry_fetched hm x, rfl⟩
  case header =>
    rw [exec_fetchEntry_fetched hm, checks_badHeader hh, refuse_counted (k := cBadHeader) rfl (by decide)]
    rfl
  case spoofed =>
    rw [exec_fetchEntry_fetched hm, checks_spoofed hh hc]
    rfl
  case stale =>
    rw [exec_fetchEntry_fetched hm, checks_staleGen hh hc, refuse_counted (k := cStaleGenRefused) rfl (by decide)]
    · rfl
    · exact fun e => hg (e.trans (congrArg (·.toNat % 65536) (taken_gen s f.val n.val)))
  case unknown =>
    rw [exec_fetchEntry_pastSource h, checksFromForm_unknown ho, refuse_counted (k := cBadHeader) rfl (by decide)]
    rfl
  case form =>
    rw [exec_fetchEntry_pastSource h, checksFromForm_badForm ho hf, refuse_counted (k := cBadHeader) rfl (by decide)]
    rfl
  case reduced =>
    rw [exec_fetchEntry_pastSource h, checksFromForm_reduced ho hf hp, refuse_counted (k := cServiceReduced) rfl (by decide)]
    rfl
  case standby =>
    obtain ⟨hsrc, ho, hf, hp⟩ := h
    rw [exec_fetchEntry_pastSource hsrc, checksFromForm_standby ho hf hp hs]
  case notFresh =>
    obtain ⟨hsrc, ho, hf, hp⟩ := h
    rw [exec_fetchEntry_pastSource hsrc, checksFromForm_notFresh ho hf hp hs]
    exact hq.trans_eq (congrArg BitVec.toNat (taken_lastSeq s f.val n.val)).symm
  case length =>
    obtain ⟨hsrc, ho, hf, hp⟩ := h
    rw [exec_fetchEntry_pastSource hsrc, checksFromForm_length ho hf hp hs _ hl, refuse_counted (k := cLength) rfl (by decide)]
    · rfl
    · exact (congrArg BitVec.toNat (taken_lastSeq s f.val n.val)).trans_lt hq
  case eighth => rw [exec_fetchEntry_pastLength h, admitEntry_eighth h8]
  case ninth => rw [exec_fetchEntry_pastLength h, admitEntry_ninth h8 h9 hst]
  case full => rw [exec_fetchEntry_pastLength h, admitEntry_queueFull h8 h9]
  case accepted => rw [exec_fetchEntry_pastLength h, admitEntry_accepts h8 h9]
  case nothing => exact (exec_fetchEntry f n x s).trans (guarded_false h)

end Sys2Proof.Proofs
end

section
/-! What the ring's formation sends (R403, R417, R420): the roles go to the member with the highest claim, which broadcasts its images. -/

namespace Sys2Proof.Proofs

open Sys2Proof Sys2Proof.Machine Sys2Proof.Laws Sys2Proof.Safety

/-! ## A message sent on a port that is up goes out -/

theorem framePieces_ne_nil (b : Bytes) : framePieces b ≠ [] := by
  cases b with
  | nil => exact List.cons_ne_nil _ _
  | cons x r => exact List.cons_ne_nil _ _

@[simp] theorem sealPayload_out (typ flags src dst : Nat) (claim : BitVec 64) (b : Bytes) (s : State) :
    (sealPayload typ flags src dst claim b s).2.out = s.out := by
  unfold sealPayload
  split <;> rfl

theorem sendPiece_out (east : Bool) (typ dst : Nat) (claim : BitVec 64) (more : Bool) (b : Bytes) (s : State) :
    (sendPiece east typ dst claim more b s).out.length = s.out.length + 1 := by
  simp [sendPiece, putFrame, modPort, modIlu, emit]

/-- Every piece of a message is one frame sent. -/
theorem sendTrain_out (east : Bool) (typ dst : Nat) (claim : BitVec 64) (l : List Bytes) (s : State) :
    (sendTrain east typ dst claim l s).out.length = s.out.length + l.length := by
  induction l generalizing s with
  | nil => rfl
  | cons b r ih =>
    cases r with
    | nil => exact sendPiece_out ..
    | cons c r =>
      refine (ih _).trans ?_
      rw [sendPiece_out]
      simp only [List.length_cons]
      omega

theorem sendFrame_out_le (east : Bool) (typ dst : Nat) (claim : BitVec 64) (b : Bytes) (s : State) :
    s.out.length ≤ (sendFrame east typ dst claim b s).out.length := by
  unfold sendFrame
  split
  · rw [sendTrain_out]; omega
  · exact Nat.le_refl _

theorem sendFrame_out_lt {east : Bool} {s : State} (h : (iluPort s east).up = true) (typ dst : Nat) (claim : BitVec 64) (b : Bytes) :
    s.out.length < (sendFrame east typ dst claim b s).out.length := by
  unfold sendFrame
  rw [if_pos h, sendTrain_out]
  have := List.length_pos_of_ne_nil (framePieces_ne_nil b)
  omega

theorem broadcast_out_le (typ : Nat) (claim : BitVec 64) (b : Bytes) (s : State) :
    s.out.length ≤ (broadcast typ claim b s).out.length := by
  unfold broadcast
  dsimp only
  split
  · exact sendFrame_out_le ..
  · exact (sendFrame_out_le ..).trans (sendFrame_out_le ..)

/-- A broadcast leaves by the east port, where that is up. -/
theorem broadcast_out_lt {s : State} (h : s.ilu.east.up = true) (typ : Nat) (claim : BitVec 64) (b : Bytes) :
    s.out.length < (broadcast typ claim b s).out.length := by
  unfold broadcast
  dsimp only
  split
  · exact sendFrame_out_lt (east := true) h ..
  · exact (sendFrame_out_lt (east := true) h ..).trans_le (sendFrame_out_le ..)

/-- The KEY_MASTER of a ring sends its image when the ring has formed. -/
theorem broadcastImages_out_lt {s : State} (hk : s.ilu.keyMaster = true) (hu : s.ilu.east.up = true) :
    s.out.length < (broadcastImages s).out.length := by
  unfold broadcastImages
  simp only [hk, if_true]
  split
  · exact (broadcast_out_lt hu ..).trans_le (broadcast_out_le ..)
  · exact broadcast_out_lt hu ..

/-! ## The counterexample -/

/-- Member 1 of a ring of two, in claim mode, holds the highest claim, and its east port is up. -/
def topMember : State :=
  { State.reset with ilu := { State.resetIluon with
      members := 2, claim := 1, topClaim := 1, east := { State.resetIluonPort with up := true, lanes := 4 } } }

/-- The state in which `topMember` broadcasts its images: it has taken its place in the ring, and both roles. -/
def topMemberFormed : State :=
  modIlu (fun i => { i with
    formed := true, line := false, live := List.range 2, position := 1, ringKey := padTo 32 (padTo 32 []), keyMaster := true,
    vaultOwner := true, imageOwed := false }) topMember

theorem exec_ringFormed_topMember : exec (.ringFormed 2 1 []) topMember = .next (broadcastImages topMemberFormed) := rfl

/-- Refutes O57: RING_FORMED sends the images of the new master on the link, and the row of `eventTouches` for it leaves out the messages
sent. -/
theorem not_eventsLeaveTheRest : ¬ Obligations.EventsLeaveTheRest := by
  unfold Obligations.EventsLeaveTheRest
  rintro ⟨frame, -, -⟩
  obtain ⟨t, ht, same⟩ := frame (.ringFormed 2 1 []) [.rng, .ilu, .free] topMember rfl rfl
  rw [exec_ringFormed_topMember] at ht
  injection ht with ht
  have kept : t.out = topMember.out := same .out (by decide)
  have sent : topMemberFormed.out.length < t.out.length := ht ▸ broadcastImages_out_lt rfl rfl
  rw [kept] at sent
  exact absurd sent (by decide)

end Sys2Proof.Proofs
end

section
/-! Timers that come due, and the ends of the changes of a domain (R21, R22, R48, R75, R83, R86, R88, R285, R463). -/

namespace Sys2Proof.Proofs

open Sys2Proof Sys2Proof.Machine Sys2Proof.Laws

/-! ## Coalesced vectors (R48) -/

theorem exec_coalTimer (g : Fin 1024) (s : State) : exec (.coalTimer g) s = execCoalTimer g s := rfl

theorem exec_coalTimer_due {s : State} {g : Fin 1024} {n : Nat} (hc : (getRing s g.val).coalNs = some n) (hn : n ≤ s.clk.ns) :
    exec (.coalTimer g) s = .next (signalRing g.val s) := by
  rw [exec_coalTimer]
  unfold execCoalTimer
  rw [hc]
  exact guarded_true (decide_eq_true hn)

/-- Signalling a ring clears its count and its timer, and raises its vector on the function that owns it. -/
theorem signalRing_owned {s : State} {g f : Nat} (h : ringFn s g = some f) : signalRing g s =
    raiseVector f (getRing s g).vector.toNat (setRing s g { getRing s g with unsignalled := 0, coalNs := none }) := by
  have owner : ringFn (setRing s g { getRing s g with unsignalled := 0, coalNs := none }) g = some f := h
  unfold signalRing
  dsimp only
  rw [owner]

theorem signalRing_unowned {s : State} {g : Nat} (h : ringFn s g = none) :
    signalRing g s = setRing s g { getRing s g with unsignalled := 0, coalNs := none } := by
  have owner : ringFn (setRing s g { getRing s g with unsignalled := 0, coalNs := none }) g = none := h
  unfold signalRing
  dsimp only
  rw [owner]

theorem getRing_signalRing (s : State) (g : Nat) :
    getRing (signalRing g s) g = { getRing s g with unsignalled := 0, coalNs := none } := by
  cases h : ringFn s g with
  | none => rw [signalRing_unowned h, getRing_setRing]
  | some f => rw [signalRing_owned h, getRing_congr (raiseVector_rings _ _ _), getRing_setRing]

/-! ## Time marks (R83) -/

theorem exec_traceTimeMark (s : State) :
    exec .traceTimeMark s = guarded (decide (s.prism.trcMark < marksDue s)) (fun s =>
      traceRec 7 (unitByte none) 0 0 (toLe 8 s.hzn.time.toNat) { s with prism := { s.prism with trcMark := marksDue s } }) s := rfl

theorem traceRec_trcMark (event unit part flags : Nat) (tail : Bytes) (s : State) :
    (traceRec event unit part flags tail s).prism.trcMark = s.prism.trcMark := by
  obtain ⟨_, _, _, _, h⟩ := traceRec_frame event unit part flags tail s
  rw [h]

theorem traceRec_cmds (event unit part flags : Nat) (tail : Bytes) (s : State) :
    (traceRec event unit part flags tail s).prism.cmds = s.prism.cmds := by
  obtain ⟨_, _, _, _, h⟩ := traceRec_frame event unit part flags tail s
  rw [h]

/-! ## Idle sessions (R75, R86, R88) -/

theorem exec_sessionIdleTimeout (i : Nat) (s : State) :
    exec (.sessionIdleTimeout i) s =
      guarded ((getSess s i).allocated && !(getSess s i).transient && idlePassed s (getSess s i)) (releaseCtx i) s := rfl

section

variable {s : State} {i : Nat} (h : (getSess s i).allocated = true)
include h

/-- A context released is free under the next tag, its save area empty (R86). -/
theorem getSess_releaseCtx : getSess (releaseCtx i s) i =
    { getSess s i with allocated := false, closing := false, tag := nextTag (getSess s i).tag, save := saveReset } := by
  unfold releaseCtx
  rw [if_pos h]
  exact at_put _ _ _ _

theorem freedOf_releaseCtx : freedOf (releaseCtx i s) (getSess s i).part = freedOf s (getSess s i).part ++ [i] := by
  unfold releaseCtx
  rw [if_pos h]
  exact at_put _ _ _ _

theorem affinity_releaseCtx : (releaseCtx i s).prism.affinity = s.prism.affinity.filter (fun a => !(a.1 == .session i)) := by
  unfold releaseCtx
  rw [if_pos h]
  rfl

end

theorem releaseCtx_parts (i : Nat) (s : State) : (releaseCtx i s).parts = s.parts := by
  obtain ⟨_, _, _, h⟩ := releaseCtx_frame i s
  rw [h]

theorem releaseCtx_ks (i : Nat) (s : State) : (releaseCtx i s).ks = s.ks := by
  obtain ⟨_, _, _, h⟩ := releaseCtx_frame i s
  rw [h]

/-! ## Changes of a domain (R21, R22, R285, R463) -/

theorem exec_domainDrainDone (d : Fin 32) (s : State) :
    exec (.domainDrainDone d) s =
      guarded (((getDomain s d.val).draining.isSome || (!(getDomain s d.val).on && domainWants s d.val false)) && (domainWork s d.val).isEmpty)
        (fun s => endDomainCmd d.val stOk (if (getDomain s d.val).on then switchOff d.val s else s)) s := rfl

theorem exec_domainDrainTimeout {s : State} {d : Fin 32} {n : Nat} (h : (getDomain s d.val).draining = some n) :
    exec (.domainDrainTimeout d) s = guarded (decide (n + 50000 ≤ s.clk.ns) && !(domainWork s d.val).isEmpty)
      (fun s => endDomainCmd d.val stOk (switchOff d.val ((domainWork s d.val).foldl forceOff s))) s := by
  show execDomainDrainTimeout d s = _
  unfold execDomainDrainTimeout
  rw [h]

theorem exec_domainDrainTimeout_none {s : State} {d : Fin 32} (h : (getDomain s d.val).draining = none) :
    exec (.domainDrainTimeout d) s = .next s := by
  show execDomainDrainTimeout d s = _
  unfold execDomainDrainTimeout
  rw [h]

/-- Settles O13: each event is guarded by its time or condition, and its effect is read off the operation it runs. -/
theorem timersAndDomainChangesEnd : Obligations.TimersAndDomainChangesEnd := by
  unfold Obligations.TimersAndDomainChangesEnd
  refine ⟨fun s g n hc hn => ?timer, fun s hm => ?mark, fun s i ha ht hp => ?idle, fun s d hd ho hw => ?drained,
    fun s d hd ho hw => ?drainedOff, fun s d n hd hn hw => ?forced, fun s d h => ?forcedNot, fun s d ho ht hr => ?passed,
    fun s d l ho ht hr hl => ?failed, fun s d l ho hw => ?failedOff, fun g s h => ?timerNot, fun s h => ?markNot, fun i s h => ?idleNot,
    fun d s h => ?drainedNot⟩
  case timer =>
    refine ⟨_, exec_coalTimer_due hc hn, ?_, ?_, fun f hf => signalRing_owned hf, signalRing_unowned⟩ <;> rw [getRing_signalRing]
  case mark =>
    exact guarded_runs (exec_traceTimeMark s) (decide_eq_true hm) ⟨rfl, traceRec_trcMark .., traceRec_cmds ..⟩
  case idle =>
    refine guarded_runs (exec_sessionIdleTimeout i s) (by simp [ha, ht, hp]) ?_
    rw [getSess_releaseCtx ha]
    exact ⟨rfl, rfl, rfl, freedOf_releaseCtx ha, affinity_releaseCtx ha, releaseCtx_parts i s, releaseCtx_ks i s⟩
  case drained =>
    refine guarded_runs (exec_domainDrainDone d s) (by simp [hd, hw]) ?_
    rw [if_pos ho]
  case drainedOff =>
    have due : ((getDomain s d.val).draining.isSome || (!(getDomain s d.val).on && domainWants s d.val false)) = true := by
      simpa [ho] using hd
    rw [exec_domainDrainDone, guarded_true (by simp [due, hw]), if_neg (ne_true_of_eq_false ho)]
  case forced => exact (exec_domainDrainTimeout hd).trans (guarded_true (by simp [hn, hw]))
  case forcedNot =>
    cases hd : (getDomain s d.val).draining with
    | none => exact exec_domainDrainTimeout_none hd
    | some n =>
      refine (exec_domainDrainTimeout hd).trans (guarded_false ?_)
      rcases h with h | h | ⟨a, ha, hn⟩
      · exact absurd (h.symm.trans hd) nofun
      · simp [h]
      · have same : a = n := Option.some.inj (ha.symm.trans hd)
        subst same
        simp [hn]
  case passed =>
    refine guarded_runs (exec_domainKatDone d [] s) (by simp [ho, ht]) ?_
    simp [ho, hr, modDomain]
  case failed =>
    rw [exec_domainKatDone, guarded_true (by simp [ho, ht])]
    simp [ho, hr, hl]
  case failedOff =>
    rw [exec_domainKatDone, guarded_true (by simp [ho, hw])]
    simp [ho]
  case timerNot => exact guarded_false h
  case markNot => exact (exec_traceTimeMark s).trans (guarded_false h)
  case idleNot => exact (exec_sessionIdleTimeout i s).trans (guarded_false h)
  case drainedNot => exact (exec_domainDrainDone d s).trans (guarded_false h)

end Sys2Proof.Proofs
end

section
/-! A DEVICE_ABORT forwarded to a standby waits for the verdict of its active even once an item of it has failed (R72, R184, R202, R284). -/

namespace Sys2Proof.Proofs

open Sys2Proof Sys2Proof.Machine Sys2Proof.Safety

/-! ## What the row does while the verdict is out -/

theorem exec_deviceAbort_untold {s : State} {r : CmdRef} {c : Cmd} (hc : findCmd s r = some c) (hf : c.fromMirror = true)
    (hs : s.ilu.mirror = .standby) (ht : c.told = none) : exec (.deviceAbort r) s = .next s := by
  have waits : abortTurn s r = false := by simp [abortTurn, hc, hf, hs, ht]
  show execDeviceAbort r s = _
  unfold execDeviceAbort
  rw [waits]
  rfl

theorem not_endedStatus {s : State} {r : CmdRef} {c : Cmd} (hc : findCmd s r = some c) (hr : c.result = none) (st : Status) :
    ¬ endedStatus s r st := by
  unfold endedStatus
  rw [hc]
  simp [hr]

/-! ## The counterexample -/

/-- A DEVICE_ABORT of the PF on ring 1, for the entry with sequence 0 of ring 0. -/
def abortRequest : Req :=
  { fn := 0, ring := 1, part := 0, header := zeros 6 ++ toLe 2 0x0102 ++ zeros 56, payload := zeros 16, frags := [16], outs := [],
    readError := false, session := none }

/-- That request as a standby accepts it from its active, its one item having ended with a fault. -/
def failedAbort : Cmd :=
  { newCmd State.reset specDeviceAbort abortRequest ⟨0, 0, 0⟩ true with
    items := (planItems State.reset specDeviceAbort abortRequest).map (fun it => { it with state := .ended, fail := some stFault }) }

/-- The standby, which has not been told the verdict. -/
def untoldStandby : State :=
  { State.reset with
    ilu := { State.resetIluon with mirror := .standby }, prism := { State.reset.prism with cmds := [failedAbort] } }

theorem findCmd_untoldStandby : findCmd untoldStandby ⟨0, 0, 0⟩ = some failedAbort := rfl

theorem ready_failedAbort : ready 0x0102 untoldStandby failedAbort = true := by decide

theorem not_vaultOp_failedAbort : isVaultOp failedAbort.opcode ≠ true := by decide

theorem untoldStandby_waits (st : Status) :
    ¬ ∃ t, exec (.deviceAbort ⟨0, 0, 0⟩) untoldStandby = .next t ∧ endedStatus t ⟨0, 0, 0⟩ st := by
  rintro ⟨t, ht, ended⟩
  rw [exec_deviceAbort_untold findCmd_untoldStandby rfl rfl rfl] at ht
  injection ht with same
  exact not_endedStatus findCmd_untoldStandby rfl st (same ▸ ended)

/-- Refutes O58: a DEVICE_ABORT whose item has failed does not end on a standby that still awaits its active's verdict. -/
theorem not_hostCommandsWaitOrEndWithTheirFailure : ¬ Obligations.HostCommandsWaitOrEndWithTheirFailure := by
  unfold Obligations.HostCommandsWaitOrEndWithTheirFailure
  rintro ⟨-, ends⟩
  exact untoldStandby_waits stFault
    (ends (.deviceAbort ⟨0, 0, 0⟩) 0x0102 ⟨0, 0, 0⟩ failedAbort stFault untoldStandby rfl
      ⟨findCmd_untoldStandby, ready_failedAbort, rfl⟩ (fun vault => absurd vault not_vaultOp_failedAbort) (by decide))

/-- Refutes O59, its second clause: a DEVICE_ABORT does not end with the status of its failed item on a standby that still awaits its active's verdict. -/
theorem not_failedItemsCancelTheRest : ¬ Obligations.FailedItemsCancelTheRest := by
  unfold Obligations.FailedItemsCancelTheRest
  rintro ⟨-, ends⟩
  exact untoldStandby_waits stFault
    (ends (.deviceAbort ⟨0, 0, 0⟩) 0x0102 ⟨0, 0, 0⟩ failedAbort untoldStandby 0 _ stFault rfl findCmd_untoldStandby ready_failedAbort rfl
      rfl rfl (by omega) (fun vault => absurd vault not_vaultOp_failedAbort) (by decide))

end Sys2Proof.Proofs
end

section
/-! The portions of credit that CREDIT_TICK adds (R101), and what they come to where P is beyond the values of R96. -/

namespace Sys2Proof.Proofs

open Sys2Proof Sys2Proof.Machine Sys2Proof.Laws

/-! ## One portion for each partition below `n` -/

/-- A portion `a` added to the credits of a kind of the partitions below `n`, each capped at 50 portions. -/
def creditAdded (k : UnitKind) (a : Int) (n : Nat) (s : State) : State :=
  (List.range n).foldl (fun s p => setCredit k p (min (credit s k p + a) (50 * a)) s) s

theorem creditAdded_succ (k : UnitKind) (a : Int) (n : Nat) (s : State) : creditAdded k a (n + 1) s =
    setCredit k n (min (credit (creditAdded k a n s) k n + a) (50 * a)) (creditAdded k a n s) := by
  simp [creditAdded, List.range_succ]

theorem creditAdded_frame (k : UnitKind) (a : Int) (n : Nat) (s : State) :
    ∃ c, creditAdded k a n s = { s with prism := { s.prism with credit := c } } := by
  induction n with
  | zero => exact ⟨s.prism.credit, rfl⟩
  | succ n ih =>
    obtain ⟨c, h⟩ := ih
    rw [creditAdded_succ, h]
    exact ⟨_, rfl⟩

/-- A credit under no key of the partitions below `n` stays. -/
theorem creditAdded_at_ne {k : UnitKind} {n j : Nat} (h : ∀ p < n, j ≠ creditKey k p) (a : Int) (s : State) :
    (creditAdded k a n s).prism.credit.at j 0 = s.prism.credit.at j 0 := by
  induction n with
  | zero => rfl
  | succ n ih =>
    rw [creditAdded_succ]
    exact (at_put_ne _ _ _ (h n n.lt_succ_self)).trans (ih fun p hp => h p (hp.trans n.lt_succ_self))

theorem creditKey_ne (k : UnitKind) {p q : Nat} (h : p ≠ q) : creditKey k p ≠ creditKey k q := by
  unfold creditKey
  omega

/-- A credit under the key of a partition below `n` rises by the portion once. -/
theorem creditAdded_at {k : UnitKind} {n p : Nat} (h : p < n) (a : Int) (s : State) :
    (creditAdded k a n s).prism.credit.at (creditKey k p) 0 = min (s.prism.credit.at (creditKey k p) 0 + a) (50 * a) := by
  induction n with
  | zero => omega
  | succ n ih =>
    rw [creditAdded_succ]
    rcases Nat.lt_succ_iff_lt_or_eq.mp h with hp | rfl
    · exact (at_put_ne _ _ _ (creditKey_ne k hp.ne)).trans (ih hp)
    · refine (at_put _ _ _ _).trans ?_
      unfold credit
      rw [creditAdded_at_ne fun q hq => creditKey_ne k hq.ne']

/-! ## The tick -/

/-- A_k of R101, in 1/256 ns. -/
def creditPortion (s : State) (k : UnitKind) : Int := servingCount s k * 256000 / pDiv s

/-- A_k added to every credit of kind `k`. -/
def creditTicked (k : UnitKind) (s : State) : State := creditAdded k (creditPortion s k) (pDiv s) s

theorem exec_creditTick (s : State) :
    exec .creditTick s = .next (creditTicked .engine (creditTicked .facet (creditTicked .core s))) := rfl

theorem creditPortion_creditTicked (k j : UnitKind) (s : State) : creditPortion (creditTicked k s) j = creditPortion s j := by
  obtain ⟨c, h⟩ := creditAdded_frame k (creditPortion s k) (pDiv s) s
  unfold creditTicked
  rw [h]
  rfl

theorem pDiv_creditTicked (k : UnitKind) (s : State) : pDiv (creditTicked k s) = pDiv s := by
  obtain ⟨c, h⟩ := creditAdded_frame k (creditPortion s k) (pDiv s) s
  unfold creditTicked
  rw [h]
  rfl

/-- A partition below P earns one portion of a kind, up to 50 of them. -/
theorem credit_creditTicked {k : UnitKind} {s : State} {p : Nat} (h : p < pDiv s) : credit (creditTicked k s) k p =
    min (credit s k p + creditPortion s k) (50 * creditPortion s k) := creditAdded_at h _ s

/-- The tick of another kind leaves a credit whose key is none of its own. -/
theorem credit_creditTicked_ne {k j : UnitKind} {s : State} {p : Nat} (h : ∀ q < pDiv s, creditKey j p ≠ creditKey k q) :
    credit (creditTicked k s) j p = credit s j p := creditAdded_at_ne h _ s

/-! ## The counterexample -/

/-- Core 0 serves in Dawn, P is 512, and partition 0 owes the facets 1,000. -/
def dawnOf512 : State :=
  { State.reset with
    svc := { State.resetService with phase := .dawn }, pm := { State.reset.pm with logP := some 9 }
    prism := { State.reset.prism with credit := [(creditKey .facet 0, -1000)] } }

theorem pDiv_dawnOf512 : pDiv dawnOf512 = 512 := rfl

theorem creditPortion_dawnOf512_core : creditPortion dawnOf512 .core = 500 := by decide

theorem creditPortion_dawnOf512_facet : creditPortion dawnOf512 .facet = 0 := by decide

/-- The core credit of partition 256 has the key of the facet credit of partition 0, which takes the cores' portion too. -/
theorem credit_cores_dawnOf512 : credit (creditTicked .core dawnOf512) .facet 0 = -500 := by
  have earned : credit (creditTicked .core dawnOf512) .core 256 =
      min (credit dawnOf512 .core 256 + creditPortion dawnOf512 .core) (50 * creditPortion dawnOf512 .core) :=
    credit_creditTicked (by rw [pDiv_dawnOf512]; decide)
  rw [creditPortion_dawnOf512_core] at earned
  exact earned

theorem credit_tick_dawnOf512 :
    credit (creditTicked .engine (creditTicked .facet (creditTicked .core dawnOf512))) .facet 0 = -500 := by
  rw [credit_creditTicked_ne fun q _ => by simp only [creditKey, kindNum]; omega,
    credit_creditTicked (by rw [pDiv_creditTicked, pDiv_dawnOf512]; decide), creditPortion_creditTicked, creditPortion_dawnOf512_facet,
    credit_cores_dawnOf512]
  rfl

/-- Refutes O11: CREDIT_TICK is stated for every number of partitions, and with 512 of them, twice what R96 allows, the facet credit of
partition 0 also takes the portion of the core credit of partition 256. -/
theorem not_itemsAreReadiedAndDispatched : ¬ Obligations.ItemsAreReadiedAndDispatched := by
  unfold Obligations.ItemsAreReadiedAndDispatched
  rintro ⟨-, -, -, -, -, -, -, -, -, -, tick, -⟩
  obtain ⟨t, ht, -, facet, -⟩ := tick dawnOf512 0 (by rw [pDiv_dawnOf512]; decide) (by decide)
  rw [exec_creditTick] at ht
  injection ht with ht
  have claimed : credit t .facet 0 = min (credit dawnOf512 .facet 0 + creditPortion dawnOf512 .facet) (50 * creditPortion dawnOf512 .facet) :=
    facet
  rw [← ht, credit_tick_dawnOf512, creditPortion_dawnOf512_facet] at claimed
  exact absurd claimed (by decide)

end Sys2Proof.Proofs
end

section
/-! The session commands and the commands that read the journal (R86, R88, R89, R288). -/

namespace Sys2Proof.Proofs

open Sys2Proof Sys2Proof.Machine Sys2Proof.Laws Sys2Proof.Safety

/-! ## Commands at work and their ends -/

theorem noteUndo_frame (c : Cmd) (s : State) : ∃ l, noteUndo c s = setCmds s l := by
  unfold noteUndo
  split
  · exact ⟨s.prism.cmds, rfl⟩
  · exact ⟨_, rfl⟩

theorem modCmd_results {g : Cmd → Cmd} (hr : ∀ c, (g c).ref = c.ref) (hg : ∀ c, (g c).result = c.result) (r : CmdRef) (s : State) :
    sameResults s (modCmd r g s) :=
  sameResults_map s _ (fun c => by split <;> simp [hr]) (fun c => by split <;> simp [hg])

theorem releaseCtx_results (i : Nat) (s : State) : sameResults s (releaseCtx i s) := by
  obtain ⟨_, _, _, h⟩ := releaseCtx_frame i s
  exact sameResults_of_cmds (by rw [h])

theorem found_unended {s u : State} {r : CmdRef} {c : Cmd} (h : sameResults s u) (hc : findCmd s r = some c) (hn : c.result = none) :
    ∃ d, findCmd u r = some d ∧ d.result = none := by
  have results := h r
  rw [hc] at results
  obtain ⟨d, hd, e⟩ := Option.map_eq_some_iff.mp results
  exact ⟨d, hd, e.trans hn⟩

theorem getSess_congr {s t : State} (h : t.sess = s.sess) (i : Nat) : getSess t i = getSess s i := by
  unfold getSess
  rw [h]

/-- A command at work whose effect gives no command a result ends with the effect's status and reply, on the contexts the effect made. -/
theorem runAccepted_sess {op : Nat} {s : State} {u : List Cmd → State} {r : CmdRef} {c : Cmd} {st : Status} {b : Bytes} {eff : Effect}
    {fail : OnFail} (h : AtWork op s r c) (he : ∀ l, eff c (setCmds s l) = (u l, some (st, b)))
    (hu : ∀ l, sameResults (setCmds s l) (u l)) :
    ∃ t l, runAccepted op eff fail r s = .next t ∧ endedWith t r st b ∧ t.sess = (u l).sess := by
  obtain ⟨l, hl⟩ := noteUndo_frame c s
  obtain ⟨d, hd, hn⟩ := noteUndo_found h.found
  rw [hl] at hd
  obtain ⟨e, found, unended⟩ := found_unended (hu l) hd (hn.trans (AtWork_fresh h))
  obtain ⟨t, ht, eq, ended⟩ := runAccepted_ends eff fail h (hl ▸ he l) found unended
  exact ⟨t, l, ht, ended, eq ▸ (finish_ends c r st b s (u l)).sess⟩

/-- A command at work whose effect changes nothing ends with the effect's status and reply. -/
theorem runAccepted_replies {op : Nat} {s : State} {r : CmdRef} {c : Cmd} {st : Status} {b : Bytes} {eff : Effect} {fail : OnFail}
    (h : AtWork op s r c) (he : ∀ l, eff c (setCmds s l) = (setCmds s l, some (st, b))) :
    ∃ t, runAccepted op eff fail r s = .next t ∧ endedWith t r st b := by
  obtain ⟨t, _, ht, ended, -⟩ := runAccepted_sess h he fun l => sameResults_refl _
  exact ⟨t, ht, ended⟩

/-! ## The effects -/

theorem runSessionOpen_none {c : Cmd} (h : c.transient = none) (s : State) : runSessionOpen c s = (s, some (stFlowLimit, [])) := by
  unfold runSessionOpen
  rw [h]
  rfl

/-- The session that an open makes of the context it was given (R86). -/
def sessionOpened (c : Cmd) (s : State) (x : Session) : Session :=
  { x with transient := false, idle := if (reqOf c).pay 0 4 = 0 then 300 else (reqOf c).pay 0 4, lastUse := s.hzn.time }

/-- The state in which the context `i` is a session's, and no longer one to release with the command. -/
def contextOpened (c : Cmd) (i : Nat) (s : State) : State :=
  modCmd c.ref (fun d => { d with transient := none }) (modSess i (sessionOpened c s) s)

theorem getSess_contextOpened (c : Cmd) (i : Nat) (s : State) : getSess (contextOpened c i s) i = sessionOpened c s (getSess s i) :=
  at_put _ _ _ _

theorem contextOpened_results (c : Cmd) (i : Nat) (s : State) : sameResults s (contextOpened c i s) := by
  refine sameResults_trans _ (modSess i (sessionOpened c s) s) _ (sameResults_of_cmds rfl) (modCmd_results ?ref ?result _ _)
  case ref => exact fun _ => rfl
  case result => exact fun _ => rfl

theorem runSessionOpen_some {c : Cmd} {i : Nat} (h : c.transient = some i) (s : State) : runSessionOpen c s =
    (contextOpened c i s, some (stOk, toLe 4 (mkHandle i (getSess s i).tag).toNat ++ toLe 4 (ctxFree s c.ref.part))) := by
  have tag : (getSess (modSess i (sessionOpened c s) s) i).tag = (getSess s i).tag := by
    show (getSess (contextOpened c i s) i).tag = _
    rw [getSess_contextOpened]
    rfl
  unfold runSessionOpen
  rw [h, ← tag]
  rfl

theorem sessionStands_iff (s : State) (c : Cmd) : sessionStands s c = true ↔
    (getSess s (handleIndex c.handle)).allocated = true ∧ (getSess s (handleIndex c.handle)).transient = false ∧
      (getSess s (handleIndex c.handle)).tag.toNat = handleTag c.handle := by
  simp [sessionStands, and_assoc]

theorem runSessionClose_stands {c : Cmd} {s : State} (h : sessionStands s c = true) :
    runSessionClose c s = (releaseCtx (handleIndex c.handle) s, some (stOk, [])) := by
  unfold runSessionClose
  rw [if_pos h]
  rfl

theorem runSessionClose_lost {c : Cmd} {s : State} (h : sessionStands s c = false) :
    runSessionClose c s = (s, some (stSessionLost, [])) := by
  unfold runSessionClose
  rw [h]
  rfl

theorem runSessionQuery_stands {c : Cmd} {s : State} (h : sessionStands s c = true) : runSessionQuery c s =
    (s, some (stOk, toLe 4 ((getSess s (handleIndex c.handle)).outstanding - 1) ++ toLe 4 (getSess s (handleIndex c.handle)).idle ++
      toLe 8 (getSess s (handleIndex c.handle)).lastUse.toNat)) := by
  unfold runSessionQuery
  rw [h]
  rfl

theorem runSessionQuery_lost {c : Cmd} {s : State} (h : sessionStands s c = false) :
    runSessionQuery c s = (s, some (stSessionLost, [])) := by
  unfold runSessionQuery
  rw [h]
  rfl

theorem runJournalFind_none {c : Cmd} {s : State} (h : jFind s c.ref.part ((reqOf c).pay 0 2) (BitVec.ofNat 64 ((reqOf c).pay 8 8)) = none) :
    runJournalFind c s = (s, some (stOk, zeros 72)) := by
  unfold runJournalFind
  dsimp only
  rw [h]
  rfl

theorem runJournalFind_some {c : Cmd} {s : State} {i : Nat} {e : JEntry}
    (h : jFind s c.ref.part ((reqOf c).pay 0 2) (BitVec.ofNat 64 ((reqOf c).pay 8 8)) = some (i, e)) :
    runJournalFind c s = (s, some (stOk, [1, 0] ++ toLe 2 i ++ zeros 4 ++ jBytes e)) := by
  unfold runJournalFind
  dsimp only
  rw [h]
  rfl

/-- Settles O32: each command ends with what its effect answers, on the contexts its effect leaves. -/
theorem sessionAndJournalCommandsEndAsSpecified : Obligations.SessionAndJournalCommandsEndAsSpecified := by
  unfold Obligations.SessionAndJournalCommandsEndAsSpecified
  refine ⟨fun s r c h ht => ?openFull, fun s r c i h ht => ?opened, fun s r c h hs => ?closed, fun s r c h hs => ?closeLost,
    fun s r c h hs => ?queried, fun s r c h hs => ?queryLost, sessionStands_iff, fun s r c h => ?read, fun s r c h hj => ?absent,
    fun s r c i e h hj => ?found⟩
  case openFull => exact runAccepted_replies h fun l => runSessionOpen_none ht _
  case opened =>
    obtain ⟨t, l, run, ended, same⟩ := runAccepted_sess (b := toLe 4 (mkHandle i (getSess s i).tag).toNat ++ toLe 4 (ctxFree s c.ref.part))
      h (fun l => runSessionOpen_some ht _) fun l => contextOpened_results c i (setCmds s l)
    have context : getSess t i = sessionOpened c s (getSess s i) := (getSess_congr same i).trans (getSess_contextOpened ..)
    refine ⟨t, run, ended, ?_⟩
    rw [context]
    exact ⟨rfl, rfl, rfl, rfl, rfl⟩
  case closed =>
    have allocated := ((sessionStands_iff s c).mp hs).1
    obtain ⟨t, l, run, ended, same⟩ :=
      runAccepted_sess h (fun l => runSessionClose_stands hs) fun l => releaseCtx_results (handleIndex c.handle) (setCmds s l)
    have context := (getSess_congr same (handleIndex c.handle)).trans (getSess_releaseCtx (s := setCmds s l) allocated)
    refine ⟨t, run, ended, ?_⟩
    rw [context]
    exact ⟨rfl, rfl⟩
  case closeLost => exact runAccepted_replies h fun l => runSessionClose_lost hs
  case queried => exact runAccepted_replies h fun l => runSessionQuery_stands hs
  case queryLost => exact runAccepted_replies h fun l => runSessionQuery_lost hs
  case read => exact runAccepted_replies h fun l => rfl
  case absent => exact runAccepted_replies h fun l => runJournalFind_none hj
  case found => exact runAccepted_replies h fun l => runJournalFind_some hj

end Sys2Proof.Proofs
end

section
/-! What CREDIT_TICK gives each partition (R101, R102), and whose items a unit takes. -/

namespace Sys2Proof.Proofs

open Sys2Proof Sys2Proof.Machine Sys2Proof.Laws

/-! ## The tick, kind by kind -/

theorem kindNum_ne {j k : UnitKind} (h : j ≠ k) : kindNum j ≠ kindNum k := by
  revert h
  cases j <;> cases k <;> decide

/-- No two kinds share a key below 256 partitions. -/
theorem creditKey_ne_of_kind {j k : UnitKind} (h : j ≠ k) {p q : Nat} (hp : p < 256) (hq : q < 256) : creditKey j p ≠ creditKey k q := by
  have kinds := kindNum_ne h
  unfold creditKey
  omega

theorem pDiv_of_logP {s : State} {n : Nat} (h : s.pm.logP = some n) : pDiv s = 2 ^ n := by
  simp [pDiv, partCount, h, Nat.one_le_two_pow]

theorem creditPortion_of_logP {s : State} {n : Nat} (h : s.pm.logP = some n) (k : UnitKind) :
    creditPortion s k = (servingCount s k * 256000 / 2 ^ n : Nat) := by
  simp [creditPortion, pDiv_of_logP h]

theorem credit_creditTicked_other {j k : UnitKind} (hj : j ≠ k) {s : State} (h : pDiv s ≤ 256) {p : Nat} (hp : p < pDiv s) :
    credit (creditTicked k s) j p = credit s j p :=
  credit_creditTicked_ne fun _ hq => creditKey_ne_of_kind hj (hp.trans_le h) (hq.trans_le h)

/-- CREDIT_TICK serves the kinds one after the other. -/
def allTicked (s : State) : State := creditTicked .engine (creditTicked .facet (creditTicked .core s))

/-- With no more partitions than R96 allows, the tick of one kind is the only one that moves a credit of that kind. -/
theorem credit_allTicked (k : UnitKind) {s : State} (h : pDiv s ≤ 256) {p : Nat} (hp : p < pDiv s) :
    credit (allTicked s) k p = min (credit s k p + creditPortion s k) (50 * creditPortion s k) := by
  have below (u : State) (hu : pDiv u = pDiv s) (j : UnitKind) : pDiv (creditTicked j u) = pDiv s := (pDiv_creditTicked j u).trans hu
  have hc := below s rfl .core
  have hf := below _ hc .facet
  unfold allTicked
  cases k with
  | core =>
    rw [credit_creditTicked_other (by decide) (hf ▸ h) (hf ▸ hp), credit_creditTicked_other (by decide) (hc ▸ h) (hc ▸ hp),
      credit_creditTicked hp]
  | facet =>
    rw [credit_creditTicked_other (by decide) (hf ▸ h) (hf ▸ hp), credit_creditTicked (hc ▸ hp), creditPortion_creditTicked,
      credit_creditTicked_other (by decide) h hp]
  | engine =>
    rw [credit_creditTicked (hf ▸ hp), creditPortion_creditTicked, creditPortion_creditTicked,
      credit_creditTicked_other (by decide) (hc ▸ h) (hc ▸ hp), credit_creditTicked_other (by decide) h hp]

/-- What a partition earns depends on P, the units that serve and its own credit alone. -/
theorem credit_allTicked_of_logP {s : State} {n p : Nat} (hn : s.pm.logP = some n) (h8 : n ≤ 8) (hp : p < 2 ^ n) (k : UnitKind) :
    credit (allTicked s) k p =
      min (credit s k p + (servingCount s k * 256000 / 2 ^ n : Nat)) (50 * (servingCount s k * 256000 / 2 ^ n : Nat)) := by
  have le : pDiv s ≤ 256 := by rw [pDiv_of_logP hn]; exact Nat.pow_le_pow_right (by decide) h8
  rw [credit_allTicked k le (by rwa [pDiv_of_logP hn]), creditPortion_of_logP hn]

/-! ## The unit's choice -/

theorem oldest_mem {l : List Candidate} {x : Candidate} (h : oldest l = some x) : x ∈ l := by
  induction l with
  | nil => cases h
  | cons y r ih =>
    unfold oldest at h
    split at h
    · simp_all
    · split at h <;> simp_all

/-- The items a unit may take of a partition are those of its own commands. -/
theorem candidates_part {s : State} {u : UnitId} {p : Nat} {x : Candidate} (h : x ∈ candidates s u p) : x.cmd.ref.part = p := by
  simp only [candidates, List.mem_flatten, List.mem_map, List.mem_filter] at h
  obtain ⟨_, ⟨c, ⟨-, hp⟩, rfl⟩, hx⟩ := h
  simp only [List.mem_map] at hx
  obtain ⟨_, -, rfl⟩ := hx
  simpa using hp

theorem pick_part {s : State} {u : UnitId} {p : Nat} {x : Candidate} {b : Bool} (h : pick s u p = some (x, b)) : x.cmd.ref.part = p := by
  have taken {f : Candidate → Bool} {y : Candidate} (hy : oldest ((candidates s u p).filter f) = some y) : y.cmd.ref.part = p :=
    candidates_part (List.mem_of_mem_filter (oldest_mem hy))
  simp only [pick] at h
  split at h
  case h_1 aged => cases h; exact taken aged
  case h_2 =>
    split at h
    case h_1 bound => cases h; exact taken bound
    case h_2 =>
      obtain ⟨y, free, e⟩ := Option.map_eq_some_iff.mp h
      cases e
      exact taken free

/-- A unit looks only at partitions whose credit of its kind is above zero (R101). -/
theorem choose_credit {s : State} {u : UnitId} {x : Candidate} {b : Bool} (h : choose s u = some (x, b)) :
    0 < credit s (unitKind u) x.cmd.ref.part := by
  obtain ⟨p, hp, hx⟩ := List.exists_of_findSome?_eq_some h
  rw [pick_part hx]
  simpa using (List.mem_filter.mp hp).2

/-- Settles O12: the credit after a tick is a function of P, the units that serve and the partition's own credit. -/
theorem capacityIsNeverLent : Obligations.CapacityIsNeverLent := by
  unfold Obligations.CapacityIsNeverLent
  refine ⟨fun s k n p hn h8 hp => ?earns, fun s t k n p hs ht h8 hp hk hc => ?alike, fun s u x b h => ?taken⟩
  case earns => exact ⟨_, exec_creditTick s, credit_allTicked_of_logP hn h8 hp k⟩
  case alike =>
    refine ⟨_, _, exec_creditTick s, exec_creditTick t, ?_⟩
    calc credit (allTicked s) k p
        = min (credit s k p + (servingCount s k * 256000 / 2 ^ n : Nat)) (50 * (servingCount s k * 256000 / 2 ^ n : Nat)) :=
          credit_allTicked_of_logP hs h8 hp k
      _ = credit (allTicked t) k p := by rw [hc, hk, credit_allTicked_of_logP ht h8 hp k]
  case taken => exact choose_credit h

end Sys2Proof.Proofs
end

section
/-! The times at which ceremonies, offers, nonces, snapshots, freezes and imports end (R113, R115, R119, R120, R265, R279, R280). -/

namespace Sys2Proof.Proofs

open Sys2Proof Sys2Proof.Machine Sys2Proof.Laws Sys2Proof.Safety

/-! ## When each expiry takes effect -/

theorem exec_ceremonyExpiry (p : Fin 256) (s : State) : exec (.ceremonyExpiry p) s =
    guarded (((getPart s p.val).lock.state == .collecting || (getPart s p.val).lock.state == .authorised) &&
        decide ((getPart s p.val).lock.expiry.toNat ≤ s.hzn.time.toNat))
      (modPart p.val (fun x => { x with lock := { x.lock with state := .free, signed := [], bad := 0 } })) s := rfl

theorem exec_offerExpiry_move (p : Fin 256) (s : State) : exec (.offerExpiry p false) s =
    guarded (offerDone s (getPart s p.val).moveOffer) (modPart p.val (fun x => { x with moveOffer := none })) s := rfl

theorem exec_offerExpiry_key (p : Fin 256) (s : State) : exec (.offerExpiry p true) s =
    guarded (offerDone s (getPart s p.val).keyOffer) (modPart p.val (fun x => { x with keyOffer := none })) s := rfl

theorem exec_tr34NonceExpiry (p : Fin 256) (id : BitVec 32) (s : State) : exec (.tr34NonceExpiry p id) s =
    guarded ((getPart s p.val).nonces.any (fun n => n.id == id && tenMinutes s n.issued))
      (modPart p.val (fun x => { x with nonces := x.nonces.filter (fun n => n.id != id) })) s := rfl

theorem exec_backupSnapshotExpiry (p : Fin 256) (s : State) : exec (.backupSnapshotExpiry p) s = execBackupSnapshotExpiry p s := rfl

theorem exec_importIdleTimeout (p : Fin 256) (s : State) : exec (.importIdleTimeout p) s = execImportIdleTimeout p s := rfl

theorem tenMinutes_iff (s : State) (t : BitVec 64) : tenMinutes s t = true ↔ t.toNat + secTicks 600 ≤ s.hzn.time.toNat := by
  simp [tenMinutes]

theorem offerDone_some {s : State} {o : Offer} (h : o.expiry.toNat ≤ s.hzn.time.toNat) : offerDone s (some o) = true := by
  simp [offerDone, h]

/-- A snapshot goes after 600 s, or once its last chunk has been read (R280). -/
theorem exec_backupSnapshotExpiry_due {s : State} {p : Fin 256} {b : Blob} (hb : (getPart s p.val).backup = some b)
    (h : b.issued.toNat + secTicks 600 ≤ s.hzn.time.toNat ∨ b.chunks.length ≤ b.nextRead) :
    exec (.backupSnapshotExpiry p) s = .next (modPart p.val (fun x => { x with backup := none }) s) := by
  rw [exec_backupSnapshotExpiry, execBackupSnapshotExpiry, hb]
  exact guarded_true (by simpa [tenMinutes_iff] using h)

/-- An import without a chunk for 600 s is given up (R113). -/
theorem exec_importIdleTimeout_due {s : State} {p : Fin 256} {g : Staging} (hi : (getPart s p.val).state = .importing)
    (hg : (getPart s p.val).staging = some g) (h : g.last.toNat + secTicks 600 ≤ s.hzn.time.toNat) :
    exec (.importIdleTimeout p) s = .next (emptyPart p.val s) := by
  rw [exec_importIdleTimeout, execImportIdleTimeout, hg]
  exact guarded_true (by simpa [hi, tenMinutes_iff] using h)

/-! ## The end of a freeze (R113, R119, R120) -/

/-- The partition is left in a state, with no freeze under way. -/
def freezeLeft (st : PartState) (p : Nat) (s : State) : State := setPart s p { getPart s p with state := st, freezeCmd := none }

theorem findCmd_freezeLeft (st : PartState) (p : Nat) (s : State) (r : CmdRef) : findCmd (freezeLeft st p s) r = findCmd s r := rfl

theorem exec_freezeDrained_none {s : State} {p : Fin 256} (h : (getPart s p.val).freezeCmd = none) : exec (.freezeDrained p) s = .next s := by
  show execFreezeDrained p s = _
  simp [execFreezeDrained, h]

theorem exec_freezeTimeout_none {s : State} {p : Fin 256} (h : (getPart s p.val).freezeCmd = none) : exec (.freezeTimeout p) s = .next s := by
  show execFreezeTimeout p s = _
  simp [execFreezeTimeout, h]

section
variable {s : State} {p : Fin 256} {r : CmdRef} (hr : (getPart s p.val).freezeCmd = some r)
include hr

theorem exec_freezeDrained_idle (h : (getPart s p.val).state ≠ .freezing ∨ owedOf s p.val ≠ 0) : exec (.freezeDrained p) s = .next s := by
  show execFreezeDrained p s = _
  simp only [execFreezeDrained, hr]
  exact guarded_false (by simpa [imp_iff_not_or] using h)

theorem exec_freezeDrained_due {c : Cmd} (hf : (getPart s p.val).state = .freezing) (ho : owedOf s p.val = 0) (hc : findCmd s r = some c) :
    exec (.freezeDrained p) s = .next (replicateOut c stOk s (endCmd r stOk (toLe 4 (getPart s p.val).drained ++ zeros 4)
      (freezeLeft .frozen p.val s))) := by
  show execFreezeDrained p s = _
  simp only [execFreezeDrained, hr]
  rw [guarded_true (by simp [hf, ho]), hc]
  rfl

theorem exec_freezeTimeout_idle
    (h : (getPart s p.val).state ≠ .freezing ∨ s.clk.ns < (getPart s p.val).freezeNs ∨ owedOf s p.val = 0) :
    exec (.freezeTimeout p) s = .next s := by
  show execFreezeTimeout p s = _
  simp only [execFreezeTimeout, hr]
  exact guarded_false (by rcases h with h | h | h <;> simp [h])

theorem exec_freezeTimeout_due (hf : (getPart s p.val).state = .freezing) (ht : (getPart s p.val).freezeNs ≤ s.clk.ns)
    (ho : owedOf s p.val ≠ 0) : exec (.freezeTimeout p) s =
      .next (endCmd r stAborted (toLe 4 (getPart s p.val).drained ++ toLe 4 (owedOf s p.val)) (freezeLeft .active p.val s)) := by
  show execFreezeTimeout p s = _
  simp only [execFreezeTimeout, hr]
  exact guarded_true (by simp [hf, ht, ho])

end

/-- What the end of the freezing command leaves of its partition. -/
theorem freezeLeft_of_ends {st : PartState} {p : Nat} {s t : State} (h : EndsFrom (freezeLeft st p s) t) :
    (getPart t p).state = st ∧ (getPart t p).freezeCmd = none ∧ (getPart t p).gen = (getPart s p).gen := by
  obtain ⟨n, e⟩ := h.part p
  rw [e, freezeLeft, getPart_setPart]
  exact ⟨rfl, rfl, rfl⟩

/-! ## A partition that is EMPTY again (R121) -/

/-- A partition as nothing has touched it, but for its generation, windows, counters and generator. -/
def emptied (x : Part) : Part :=
  { partReset with gen := x.gen, windows := x.windows, counters := x.counters, drbg := x.drbg, drbgCount := x.drbgCount, drbgTime := x.drbgTime,
                   drbgDue := x.drbgDue, bucketOver := x.bucketOver, bucketCap := x.bucketCap, bucketNs := x.bucketNs }

theorem getPart_emptyPart (p : Nat) (s : State) : getPart (emptyPart p s) p = emptied (getPart s p) := by
  obtain ⟨_, _, _, h⟩ := foldl_releaseCtx_frame
    ((destroyPartKeys p s).sess.ctxs.filter (fun e => e.2.allocated && e.2.part == p)) (destroyPartKeys p s)
  unfold emptyPart releaseAll
  rw [h, getPart_setPart]
  rfl

/-- Commands of an emptied partition are gone. -/
theorem emptyPart_cmds {p : Nat} {s : State} {c : Cmd} (h : c ∈ (emptyPart p s).prism.cmds) : c.ref.part ≠ p := by
  have kept := (List.mem_filter.mp h).2
  simpa using kept

/-- Settles O16: each event is guarded by its time, and a freeze by its command too. -/
theorem ceremonyAndTransferExpiries : Obligations.CeremonyAndTransferExpiries := by
  unfold Obligations.CeremonyAndTransferExpiries
  refine ⟨fun s p hs ht => ?ceremony, fun s p o ho ht => ?move, fun s p o ho ht => ?key, fun s p n hn ht => ?nonce,
    fun s p b hb h => ?snapshot, fun s p r c hr hf ho hc hn => ?drained, fun s p r c hr hf ht ho hc hn => ?timeout,
    fun s p h => ?drainedNot, fun s p h => ?timeoutNot, fun s p g hi hg h => ?idle, fun p s h => ?ceremonyNot,
    fun p id s h => ?nonceNot, fun p s h => ?snapshotNot, fun p s h => ?idleNot⟩
  case ceremony => exact guarded_runs (exec_ceremonyExpiry p s) (by simpa [ht] using hs) (getPart_modPart s p.val _)
  case move => exact (exec_offerExpiry_move p s).trans (guarded_true (by rw [ho]; exact offerDone_some ht))
  case key => exact (exec_offerExpiry_key p s).trans (guarded_true (by rw [ho]; exact offerDone_some ht))
  case nonce =>
    refine guarded_runs (exec_tr34NonceExpiry p n.id s) ?_ ⟨rfl, fun m hm => ?_⟩
    · exact List.any_eq_true.mpr ⟨n, hn, by simp [tenMinutes_iff, ht]⟩
    · rw [getPart_modPart] at hm
      simpa using (List.mem_filter.mp hm).2
  case snapshot => exact exec_backupSnapshotExpiry_due hb h
  case drained =>
    obtain ⟨state, cmd, -⟩ := freezeLeft_of_ends (finish_ends c r stOk (toLe 4 (getPart s p.val).drained ++ zeros 4) s (freezeLeft .frozen p.val s))
    have ended := endCmd_result ((findCmd_freezeLeft .frozen p.val s r).trans hc) hn stOk (toLe 4 (getPart s p.val).drained ++ zeros 4)
    exact ⟨_, exec_freezeDrained_due hr hf ho hc, rfl, endedWith_of_results (replicateOut_results c stOk s _) ended, state, cmd⟩
  case timeout =>
    obtain ⟨state, -, gen⟩ :=
      freezeLeft_of_ends (endCmd_ends r stAborted (toLe 4 (getPart s p.val).drained ++ toLe 4 (owedOf s p.val)) (freezeLeft .active p.val s))
    exact ⟨_, exec_freezeTimeout_due hr hf ht ho, rfl, endCmd_result ((findCmd_freezeLeft .active p.val s r).trans hc) hn _ _, state, gen⟩
  case drainedNot =>
    cases hr : (getPart s p.val).freezeCmd with
    | none => exact exec_freezeDrained_none hr
    | some r => exact exec_freezeDrained_idle hr (h.resolve_left (by simp [hr]))
  case timeoutNot =>
    cases hr : (getPart s p.val).freezeCmd with
    | none => exact exec_freezeTimeout_none hr
    | some r => exact exec_freezeTimeout_idle hr (h.resolve_left (by simp [hr]))
  case idle =>
    refine ⟨_, exec_importIdleTimeout_due hi hg h, rfl, ?_⟩
    rw [getPart_emptyPart]
    exact ⟨rfl, rfl, rfl, rfl, rfl, fun c => emptyPart_cmds⟩
  -- An event whose time or condition has not come changes nothing (log entry 124).
  case ceremonyNot => exact (exec_ceremonyExpiry p s).trans (guarded_false h)
  case nonceNot => exact (exec_tr34NonceExpiry p id s).trans (guarded_false h)
  case snapshotNot => exact (exec_backupSnapshotExpiry p s).trans (guarded_false h)
  case idleNot => exact (exec_importIdleTimeout p s).trans (guarded_false h)

end Sys2Proof.Proofs
end

section
/-! The frames of a pair and the loss of its partner (R106, R184, R284, R406 to R408, R410 to R414, R416). -/

namespace Sys2Proof.Proofs

open Sys2Proof Sys2Proof.Machine Sys2Proof.Laws Sys2Proof.Safety

/-! ## What a delivered frame leaves as it is -/

/-- A frame that goes on leaves the progress of a resynchronisation. -/
theorem goOn_resyncPct (f : Frame) (typ : Nat) (s : State) : (goOn f typ s).ilu.resyncPct = s.ilu.resyncPct := by
  have sent {u t : State} (h : linkSent u t) : t.ilu.resyncPct = u.ilu.resyncPct := by
    obtain ⟨_, _, ⟨_, _, _, _, _, _, rfl⟩, rfl⟩ := h
    rfl
  unfold goOn passOn onwards
  (repeat' split)
  · exact (sent (u := modIlu _ s) (putFrame_sent ..)).trans rfl
  · rfl
  · exact sent (putFrame_sent ..)
  · exact sent (putFrame_sent ..)
  · rfl
  · rfl

/-- Two states that differ in the link's own state, SHARED and the messages alone hold the same keys and partitions. -/
theorem kept_of_link {s t : State} (h : linkOnly s t) : t.ks = s.ks ∧ t.parts = s.parts := by
  obtain ⟨_, _, rfl⟩ := h
  exact ⟨rfl, rfl⟩

theorem goOn_kept (f : Frame) (typ : Nat) (s : State) : (goOn f typ s).ks = s.ks ∧ (goOn f typ s).parts = s.parts :=
  kept_of_link (goOn_link f typ s)

theorem hearClaim_link {c : BitVec 64} {s : State} (h : ¬ s.ilu.claim.toNat < c.toNat) : linkOnly s (hearClaim c s) := by
  unfold hearClaim
  simp only [if_neg h]
  split
  · exact modIlu_link _ s
  · exact linkOnly_refl s

theorem hearPartner_kept (s : State) : (hearPartner s).ks = s.ks ∧ (hearPartner s).parts = s.parts := by
  obtain ⟨_, _, _, h⟩ := hearPartner_frame s
  rw [h]
  exact ⟨rfl, rfl⟩

theorem heardFrom_kept {f : Frame} {s : State} (h : ¬ s.ilu.claim.toNat < f.claim.toNat) (typ : Nat) :
    (heardFrom f typ s).ks = s.ks ∧ (heardFrom f typ s).parts = s.parts := by
  obtain ⟨u, hu, e⟩ : ∃ u, linkOnly s u ∧ heardFrom f typ s = if fromPartner u f then hearPartner u else u := by
    refine ⟨if carriesTerm s typ then s else hearClaim f.claim s, ?_, rfl⟩
    split
    · exact linkOnly_refl s
    · exact hearClaim_link h
  obtain ⟨ks, parts⟩ := kept_of_link hu
  rw [e]
  split
  · exact ⟨(hearPartner_kept u).1.trans ks, (hearPartner_kept u).2.trans parts⟩
  · exact ⟨ks, parts⟩

/-- A frame that does not demote the module arrives without touching a key or a partition. -/
theorem arrived_kept {f : Frame} {s : State} (h : ¬ s.ilu.claim.toNat < f.claim.toNat) (typ : Nat) :
    (arrived f typ s).ks = s.ks ∧ (arrived f typ s).parts = s.parts := by
  have claim : (frameTaken f s).ilu.claim = s.ilu.claim := by
    unfold frameTaken
    cases f.port <;> rfl
  exact heardFrom_kept (s := frameTaken f s) (by rwa [claim]) typ

/-! ## FORWARD (R410, R411) -/

/-- A frame under a claim below the standby's own is refused with LEAVE (R406). -/
def refuseClaim (s : State) : State := sendPartner 0x14 [4] (modIlu (fun i => { i with cntRefused := satAdd 32 i.cntRefused 1 }) s)

section
variable {f : Frame} {s : State} (h : delivered f 0x10 s) (header payload : Bytes) (idx : Nat) (d : BitVec 2) (reseed check : Bytes)
include h

theorem exec_forward_standby (hm : (arrived f 0x10 s).ilu.mirror = .standby) (hc : ¬ f.claim.toNat < (arrived f 0x10 s).ilu.claim.toNat) :
    exec (.forward f header payload idx d reseed check) s =
      .next (settled f 0x10 (takeForward header payload idx d.toNat reseed check (arrived f 0x10 s))) := by
  show execForward f header payload idx d reseed check s = _
  rw [execForward, receive_delivered h, if_neg (by simp [hm]), if_neg hc]

theorem exec_forward_refused (hm : (arrived f 0x10 s).ilu.mirror = .standby) (hc : f.claim.toNat < (arrived f 0x10 s).ilu.claim.toNat) :
    exec (.forward f header payload idx d reseed check) s = .next (settled f 0x10 (refuseClaim (arrived f 0x10 s))) := by
  show execForward f header payload idx d reseed check s = _
  rw [execForward, receive_delivered h, if_neg (by simp [hm]), if_pos hc, refuseClaim]

theorem exec_forward_notStandby (hm : (arrived f 0x10 s).ilu.mirror ≠ .standby) :
    exec (.forward f header payload idx d reseed check) s = .next (settled f 0x10 (arrived f 0x10 s)) := by
  show execForward f header payload idx d reseed check s = _
  rw [execForward, receive_delivered h, if_pos (by simp [hm])]

end

/-- FORWARD_ACK of the command `x` at `idx`. -/
def ackForward (x : Req) (idx : Nat) (s : State) : State := sendPartner 0x11 (toLe 2 idx ++ toLe 8 x.seq.toNat) s

/-- A forwarded command is journaled with FROM_MIRROR, acknowledged, and takes the active's draw verdict. -/
def journalForward (o : OpSpec) (x : Req) (idx d : Nat) (reseed check : Bytes) (s : State) : State :=
  mirrorDraw (nextRef s x.part idx) d reseed check (ackForward x idx (acceptAt o x idx true s))

section
variable {s : State} {header payload : Bytes} {o : OpSpec} (ho : opSpec (forwardReq s header payload).opcode = some o)
  {idx : Nat} (hi : idx < 65536) (d : Nat) (reseed check : Bytes)
include ho hi

theorem takeForward_free (hj : (getPart s (forwardReq s header payload).part).journal.look idx = none) :
    takeForward header payload idx d reseed check s = journalForward o (forwardReq s header payload) idx d reseed check s := by
  simp only [takeForward, ho, Nat.mod_eq_of_lt hi, hj]
  rfl

theorem takeForward_held {e : JEntry} (hj : (getPart s (forwardReq s header payload).part).journal.look idx = some e)
    (he : e.seq = (forwardReq s header payload).seq ∧ e.ring.toNat = (forwardReq s header payload).ring ∧ e.fromMirror = true) :
    takeForward header payload idx d reseed check s = ackForward (forwardReq s header payload) idx s := by
  simp only [takeForward, ho, Nat.mod_eq_of_lt hi, hj]
  exact if_pos (by simp [he])

theorem takeForward_other {e : JEntry} (hj : (getPart s (forwardReq s header payload).part).journal.look idx = some e)
    (he : ¬ (e.seq = (forwardReq s header payload).seq ∧ e.ring.toNat = (forwardReq s header payload).ring ∧ e.fromMirror = true)) :
    takeForward header payload idx d reseed check s = journalForward o (forwardReq s header payload) idx d reseed check s := by
  simp only [takeForward, ho, Nat.mod_eq_of_lt hi, hj]
  exact if_neg (by simpa [and_assoc] using he)

end

/-! ## A change of generation leaves the link alone (R106, R110) -/

theorem foldl_ilu {α : Type} (g : State → α → State) (h : ∀ s x, (g s x).ilu = s.ilu) (l : List α) (s : State) : (l.foldl g s).ilu = s.ilu :=
  foldl_rel (fun s t => t.ilu = s.ilu) (fun _ => rfl) (fun _ _ _ a b => b.trans a) g h l s

theorem setCause_ilu (f : Nat) (c : BitVec 5) (s : State) : (setCause f c s).ilu = s.ilu := by
  obtain ⟨_, _, h⟩ := setCause_frame f c s
  rw [h]

theorem traceCancels_ilu (c : Cmd) (s : State) : (traceCancels c s).ilu = s.ilu := by
  obtain ⟨_, _, _, _, h⟩ := traceCancels_frame c s
  rw [h]

theorem discardHeld_ilu (g : Nat) (s : State) : (discardHeld g s).ilu = s.ilu := by
  unfold discardHeld
  dsimp only
  split
  · rfl
  · next f _ => exact foldl_ilu (fun s _ => bumpFn f cStaleGenDiscarded s) (fun _ _ => rfl) _ _

theorem bumpRingGen_ilu (g : Nat) (s : State) : (bumpRingGen g s).ilu = s.ilu := by
  have held := discardHeld_ilu g (modRing g (fun r => { r with gen := r.gen + 1, enable := false }) s)
  unfold bumpRingGen
  dsimp only
  split
  · exact held
  · exact (setCause_ilu ..).trans held

theorem releaseKeys_ilu (r : CmdRef) (s : State) : (releaseKeys r s).ilu = s.ilu := by
  unfold releaseKeys
  split
  · rfl
  · exact foldl_ilu (fun s (k : BitVec 32 × BitVec 16) => dropRef r.part k.1 k.2 s) (fun _ _ => rfl) _ _

theorem cutCmd_ilu (r : CmdRef) (st : Status) (cause : Nat) (force : Bool) (s : State) : (cutCmd r st cause force s).ilu = s.ilu := by
  unfold cutCmd
  (repeat' split)
  · rfl
  · rfl
  · exact (releaseKeys_ilu ..).trans (traceCancels_ilu ..)
  · rfl

theorem cancelCmd_ilu (c : Cmd) (s : State) : (cancelCmd c s).ilu = s.ilu := by
  unfold cancelCmd
  split <;> exact cutCmd_ilu ..

theorem endSessions_ilu (p : Nat) (s : State) : (endSessions p s).ilu = s.ilu := by
  obtain ⟨_, _, _, h⟩ := endSessions_frame p s
  rw [h]

theorem cancelPart_ilu (p : Nat) (s : State) : (cancelPart p s).ilu = s.ilu := foldl_ilu _ (fun s c => cancelCmd_ilu c s) _ s

theorem setCausePart_ilu (p : Nat) (c : BitVec 5) (s : State) : (setCausePart p c s).ilu = s.ilu := foldl_ilu _ (fun s f => setCause_ilu f c s) _ s

theorem bumpPartGen_ilu (p : Nat) (s : State) : (bumpPartGen p s).ilu = s.ilu := by
  have rings := foldl_ilu (fun s g => bumpRingGen g s) (fun s g => bumpRingGen_ilu g s) (partRings s p) s
  unfold bumpPartGen
  dsimp only
  rw [endSessions_ilu, cancelPart_ilu, setCausePart_ilu]
  exact rings

/-! ## EVENT (R106, R284, R410, R414) -/

theorem exec_event (f : Frame) (e : PairEvent) (s : State) : exec (.event f e) s = execEvent f e s := rfl

section
variable {f : Frame} {s : State} (h : delivered f 0x12 s)
include h

theorem exec_event_refused (hm : (arrived f 0x12 s).ilu.mirror = .standby) (hc : f.claim.toNat < (arrived f 0x12 s).ilu.claim.toNat)
    (e : PairEvent) : exec (.event f e) s = .next (settled f 0x12 (refuseClaim (arrived f 0x12 s))) := by
  rw [exec_event, execEvent, receive_delivered h, if_pos (by simp [hm, hc]), refuseClaim]

variable (hr : ¬ ((arrived f 0x12 s).ilu.mirror = .standby ∧ f.claim.toNat < (arrived f 0x12 s).ilu.claim.toNat))
include hr

/-- A ring's generation is applied, and returned by the active. -/
theorem exec_event_ringGeneration (g : Nat) : exec (.event f (.ringGeneration g)) s = .next (settled f 0x12
    (if (arrived f 0x12 s).ilu.mirror = .active then sendPartner 0x12 (toLe 2 g) (bumpRingGen g (arrived f 0x12 s))
     else bumpRingGen g (arrived f 0x12 s))) := by
  rw [exec_event, execEvent, receive_delivered h, if_neg (by simpa using hr)]
  simp only [bumpRingGen_ilu, beq_iff_eq]

/-- A partition's generation is applied, and returned by the active. -/
theorem exec_event_partGeneration (p : Nat) : exec (.event f (.partGeneration p)) s = .next (settled f 0x12
    (if (arrived f 0x12 s).ilu.mirror = .active then sendPartner 0x12 (toLe 2 p) (bumpPartGen p (arrived f 0x12 s))
     else bumpPartGen p (arrived f 0x12 s))) := by
  rw [exec_event, execEvent, receive_delivered h, if_neg (by simpa using hr)]
  simp only [bumpPartGen_ilu, beq_iff_eq]

/-- A verdict of an abort is for the standby alone. -/
theorem exec_event_abortVerdict (ring seq v k : Nat) : exec (.event f (.abortVerdict ring seq v k)) s = .next (settled f 0x12
    (if (arrived f 0x12 s).ilu.mirror = .standby then takeVerdict ring seq v k (arrived f 0x12 s) else arrived f 0x12 s)) := by
  rw [exec_event, execEvent, receive_delivered h, if_neg (by simpa using hr)]
  simp only [beq_iff_eq]

theorem exec_event_boundary (n : Nat) : exec (.event f (.boundary n)) s = .next (settled f 0x12 (boundary (arrived f 0x12 s))) := by
  rw [exec_event, execEvent, receive_delivered h, if_neg (by simpa using hr)]

end

/-! ### The verdict of an abort (R284) -/

theorem takeVerdict_unasked {s : State} {ring seq : Nat} (h : abortAsked s ring seq = none) (v k : Nat) : takeVerdict ring seq v k s = s := by
  simp only [takeVerdict, h]

section
variable {s : State} {ring seq : Nat} {a : Cmd} (h : abortAsked s ring seq = some a)
include h

theorem takeVerdict_refused {v : Nat} (hv : v ≠ 0) (k : Nat) :
    takeVerdict ring seq v k s = modCmd a.ref (fun c => { c with told := some v }) s := by
  simp [takeVerdict, h, hv]

theorem takeVerdict_aborts (k : Nat) {i : Nat} {e : JEntry}
    (hj : jFind (modCmd a.ref (fun c => { c with told := some 0 }) s) a.ref.part ring (BitVec.ofNat 64 seq) = some (i, e)) :
    takeVerdict ring seq 0 k s = pairAbort (refAt a.ref.part i (getPart (modCmd a.ref (fun c => { c with told := some 0 }) s) a.ref.part)) k
      (modCmd a.ref (fun c => { c with told := some 0 }) s) := by
  simp [takeVerdict, h, hj]

end

/-! ### The boundary of a switchover (R414) -/

theorem boundary_active {s : State} (h : s.ilu.mirror = .active) :
    boundary s = toMirror .standby (sendPartner 0x12 (toLe 8 s.ilu.claim.toNat) s) := by
  simp only [boundary, h]

theorem boundary_standby {s : State} {c : Cmd} (h : s.ilu.mirror = .standby) (hc : switchCmd s = some c) :
    boundary s = endCmd c.ref stOk (toLe 8 (toMirror .active (raiseClaim s)).ilu.claim.toNat) (toMirror .active (raiseClaim s)) := by
  simp only [boundary, h, hc]

theorem boundary_standby_unasked {s : State} (h : s.ilu.mirror = .standby) (hc : switchCmd s = none) : boundary s = s := by
  simp only [boundary, h, hc]

theorem boundary_other {s : State} (ha : s.ilu.mirror ≠ .active) (hs : s.ilu.mirror ≠ .standby) : boundary s = s := by
  unfold boundary
  split
  · contradiction
  · contradiction
  · rfl

/-! ## REPLY_CHECK (R412) -/

section
variable {f : Frame} {s : State} (h : delivered f 0x13 s) (r : CmdRef) (st : BitVec 16) (n : Nat) (d : Bytes)
include h

theorem exec_replyCheck_standby (hm : (arrived f 0x13 s).ilu.mirror = .standby) : exec (.replyCheck f r st n d) s =
    .next (settled f 0x13 (compareWith { ref := r, theirs := true, status := st, replyLen := n, digest := d } (arrived f 0x13 s))) := by
  show execReplyCheck f r st n d s = _
  rw [execReplyCheck, receive_delivered h, if_pos (by simp [hm])]

theorem exec_replyCheck_notStandby (hm : (arrived f 0x13 s).ilu.mirror ≠ .standby) :
    exec (.replyCheck f r st n d) s = .next (settled f 0x13 (arrived f 0x13 s)) := by
  show execReplyCheck f r st n d s = _
  rw [execReplyCheck, receive_delivered h, if_neg (by simp [hm])]

end

/-- The other side of a comparison, where it is there. -/
def otherSide (s : State) (x : Compare) : Option Compare := s.ilu.compares.find? (fun y => y.ref == x.ref && y.theirs != x.theirs)

/-- A comparison that is done. -/
def compared (y : Compare) (s : State) : State := modIlu (fun i => { i with compares := i.compares.filter (fun z => !(z == y)) }) s

theorem compareWith_eq (x : Compare) (s : State) : compareWith x s = (otherSide s x).elim
    (modIlu (fun i => { i with compares := i.compares ++ [x] }) s)
    (fun y => if x.status = y.status ∧ x.replyLen = y.replyLen ∧ x.digest = y.digest then compared y s else diverge (compared y s)) := by
  unfold compareWith otherSide
  split
  case h_1 h => rw [h]; rfl
  case h_2 y h => rw [h]; simp [compared, and_assoc]

/-! ## LEAVE and the loss of the partner (R407, R413) -/

/-- A module whose partner leaves it moves at once (R413). -/
def partnerLeft (s : State) : State :=
  match s.ilu.mirror with
  | .standby => toMirror .solo (raiseClaim s)
  | .active | .held | .syncSource => toMirror .solo s
  | .syncTarget => toMirror .detached s
  | .solo | .detached | .none => s

section
variable {f : Frame} {s : State} (h : delivered f 0x14 s)
include h

theorem exec_leave_unpairs : exec (.leave f 1) s =
    .next (settled f 0x14 (unpair (islandDraw 64 (arrived f 0x14 s)).1 (islandDraw 64 (arrived f 0x14 s)).2)) := by
  show execLeave f 1 s = _
  rw [execLeave, receive_delivered h, if_pos rfl]

theorem exec_leave_moves {c : Nat} (hc : c ≠ 1) : exec (.leave f c) s = .next (settled f 0x14 (partnerLeft (arrived f 0x14 s))) := by
  show execLeave f c s = _
  rw [execLeave, receive_delivered h, if_neg hc]
  unfold partnerLeft
  cases (arrived f 0x14 s).ilu.mirror <;> rfl

end

theorem unpair_keeps {s : State}
    (h : s.ilu.mirror = .active ∨ s.ilu.mirror = .held ∨ s.ilu.mirror = .solo ∨ s.ilu.mirror = .syncSource ∨ s.ilu.mirror = .none)
    (rnd : Bytes) : unpair rnd s = leavePair s := by
  have keep : (activeSide s.ilu.mirror || s.ilu.mirror == .none) = true := by
    rcases h with h | h | h | h | h <;> rw [h] <;> rfl
  exact if_pos keep

theorem unpair_clears {s : State} (h : s.ilu.mirror = .standby ∨ s.ilu.mirror = .syncTarget ∨ s.ilu.mirror = .detached) (rnd : Bytes) :
    unpair rnd s = setCmds (keepPolicyOnly rnd ((s.prism.cmds.filter (fun c => c.opcode != 0x0F04)).foldl discardCmd (leavePair s)))
      (s.prism.cmds.filter (fun c => c.opcode == 0x0F04)) := by
  have goes : ¬ (activeSide s.ilu.mirror || s.ilu.mirror == .none) = true := by
    rcases h with h | h | h <;> rw [h] <;> decide
  exact if_neg goes

/-! ### No frame for 20 microseconds (R408, R413) -/

/-- The partner is noted as lost, and the fault set. -/
def noteLost (s : State) : State := setFltCause 0x80 (modIlu (fun i => { i with partnerSeen := false, partnerLost := true }) s)

/-- A module whose partner is silent moves. -/
def partnerSilent (s : State) : State :=
  match s.ilu.mirror with
  | .active => toMirror .held s
  | .syncSource => toMirror .solo s
  | .syncTarget => toMirror .detached s
  | .held | .solo | .standby | .detached | .none => s

theorem exec_partnerLost (s : State) : exec .partnerLost s = execPartnerLost s := rfl

theorem exec_partnerLost_due {s : State} (hp : s.ilu.paired = true) (hs : s.ilu.partnerSeen = true) (ht : s.ilu.heardNs + 20000 ≤ s.clk.ns) :
    exec .partnerLost s = .next (partnerSilent (noteLost s)) := by
  rw [exec_partnerLost, execPartnerLost, guarded_true (by simp [hp, hs, ht])]
  unfold partnerSilent noteLost
  dsimp only
  cases (setFltCause 0x80 (modIlu (fun i => { i with partnerSeen := false, partnerLost := true }) s)).ilu.mirror <;> rfl

theorem noteLost_ilu (s : State) : (noteLost s).ilu = { s.ilu with partnerSeen := false, partnerLost := true } := by
  obtain ⟨_, _, h⟩ := setFltCause_frame 0x80 (modIlu (fun i => { i with partnerSeen := false, partnerLost := true }) s)
  rw [noteLost, h]
  rfl

theorem noteLost_ks (s : State) : (noteLost s).ks = s.ks := by
  obtain ⟨_, _, h⟩ := setFltCause_frame 0x80 (modIlu (fun i => { i with partnerSeen := false, partnerLost := true }) s)
  rw [noteLost, h]
  rfl

theorem partnerSilent_active {s : State} (h : s.ilu.mirror = .active) : partnerSilent s = toMirror .held s := by
  simp only [partnerSilent, h]

/-! ## RESYNC (R416, R418, R420) -/

/-- The progress a target shows. -/
def progressed (pct : Nat) (s : State) : State := modIlu (fun i => { i with resyncPct := min pct 100 }) s

/-- One phase of the copy taken in by its target. -/
def takePhase (ph : Nat) (y : SyncImage) (s : State) : State :=
  if ph = 1 then syncOne y s
  else if ph = 2 then syncTwo y s
  else if ph = 3 then syncThree y s
  else if ph = 4 then syncThree y (syncTwo y s)
  else if ph = 5 then toMirror .standby (syncThree y (syncTwo y (syncOne y s)))
  else s

theorem takePhase_resyncPct (ph : Nat) (y : SyncImage) (s : State) : (takePhase ph y s).ilu.resyncPct = s.ilu.resyncPct := by
  unfold takePhase
  (repeat' split) <;> rfl

theorem takePhase_keys (y : SyncImage) (s : State) : (takePhase 2 y s).ks.keys = y.keys := rfl

theorem ringSync_eq (f : Frame) (ph : Nat) (b : Bytes) (s : State) : ringSync f ph b s =
    if ph = 0 then sendImages f.src s else if ph = 6 then (decodeImage b).elim s (fun y => applyImage y s) else s := by
  unfold ringSync
  split
  · rfl
  · cases decodeImage b <;> rfl
  · next n0 n6 => rw [if_neg n0, if_neg n6]

/-- What a member of a ring does with RESYNC: it sends the images it is asked for, and takes in one it is sent. -/
def exchangeImages (f : Frame) (ph : Nat) (b : Bytes) (s : State) : State :=
  if s.ilu.members = 0 then s
  else if ph = 0 then sendImages f.src s
  else if ph = 6 then (decodeImage b).elim s (fun y => applyImage y s)
  else s

theorem exec_resync (f : Frame) (ph pct : Nat) (b : Bytes) (s : State) : exec (.resync f ph pct b) s = execResync f ph pct b s := rfl

section
variable {f : Frame} {s : State} (h : delivered f 0x50 s) {ph : Nat} (pct : Nat) (b : Bytes)
include h

theorem exec_resync_target (hm : (arrived f 0x50 s).ilu.mirror = .syncTarget) (h0 : ph ≠ 0) (h6 : ph ≠ 6) :
    exec (.resync f ph pct b) s = .next (settled f 0x50 ((decodeSync b).elim (progressed pct (arrived f 0x50 s))
      (fun y => takePhase ph y (progressed pct (arrived f 0x50 s))))) := by
  rw [exec_resync, execResync, receive_delivered h, if_pos (by simp [hm, h0, h6])]
  refine congrArg (fun u => (.next (settled f 0x50 u) : Res)) ?_
  cases decodeSync b with
  | none => rfl
  | some y =>
    simp only [Option.elim_some, takePhase]
    split
    case h_6 n1 n2 n3 n4 n5 => simp only [if_neg n1, if_neg n2, if_neg n3, if_neg n4, if_neg n5, progressed]
    all_goals rfl

theorem exec_resync_other (ho : (arrived f 0x50 s).ilu.mirror ≠ .syncTarget ∨ ph = 0 ∨ ph = 6) :
    exec (.resync f ph pct b) s = .next (settled f 0x50 (exchangeImages f ph b (arrived f 0x50 s))) := by
  rw [exec_resync, execResync, receive_delivered h, if_neg (by rcases ho with h | h | h <;> simp [h])]
  simp only [exchangeImages, ringSync_eq, bne_iff_ne, ite_not]

end

/-- The source copies what is left, and lockstep begins. -/
def finalPass (s : State) : State := toMirror .active (sendSync 5 (modIlu (fun i => { i with resyncPct := 100, dirty := 0 }) s))

theorem exec_resyncFinalPass (n : Nat) (s : State) :
    exec (.resyncFinalPass n) s = guarded (s.ilu.mirror == .syncSource && decide (n < 16777216)) finalPass s := rfl

theorem finalPass_kept (s : State) : (finalPass s).ilu.mirror = .active ∧ (finalPass s).ilu.resyncPct = 100 ∧ (finalPass s).ks = s.ks ∧
    (finalPass s).parts = s.parts := by
  obtain ⟨_, _, ⟨_, _, _, _, _, _, rfl⟩, h⟩ : linkSent (modIlu (fun i => { i with resyncPct := 100, dirty := 0 }) s)
      (sendSync 5 (modIlu (fun i => { i with resyncPct := 100, dirty := 0 }) s)) := sendPartner_sent ..
  rw [finalPass, h]
  exact ⟨rfl, rfl, rfl, rfl⟩

/-- Settles O29: a delivered frame of each TYPE acts as its own lemma says, in the state in which it has arrived. -/
theorem pairFramesKeepTheMirror : Obligations.PairFramesKeepTheMirror := by
  unfold Obligations.PairFramesKeepTheMirror
  refine ⟨fun s f hd pl rs ck i d h hm hc => ?forward, fun s hd pl rs ck i d o ho hi => ?journal, fun s f hd pl rs ck i d h hm hc => ?forwardRefused,
    fun s f hd pl rs ck i d h hm => ?forwardNot, fun s f e h hm hc => ?eventRefused, fun s f g h hr => ?ringGen, fun s f p h hr => ?partGen,
    fun s f g q v k h hr => ?verdict, fun s g q v k => ?abort, fun s f n h hr => ?atBoundary, fun s => ?boundary, fun s => ?claim,
    fun s f r st n d h hm => ?checkNot, fun s f r st n d h hm => ?check, fun s x => ?compare, fun s f c h hc => ?leaveUnpairs, fun s rnd => ?unpair,
    fun s f c h hc => ?leaveMoves, fun s hp hs ht => ?lost, fun s hp hs ht hm => ?held, fun s f ph pct b h hm h0 h6 => ?target,
    fun s f ph pct b h ho => ?images, fun s f ph pct b h h0 h6 hm hc => ?phase, fun s n hm hn => ?pass, fun s n hm hn => ?passKept,
    fun s h => ?lostNot, fun n s h => ?passNot⟩
  case forward => exact exec_forward_standby h hd pl i d rs ck hm hc
  case journal =>
    exact ⟨takeForward_free ho hi d rs ck, fun e hj he => takeForward_held ho hi d rs ck hj he,
      fun e hj he => takeForward_other ho hi d rs ck hj he⟩
  case forwardRefused => exact exec_forward_refused h hd pl i d rs ck hm hc
  case forwardNot => exact exec_forward_notStandby h hd pl i d rs ck hm
  case eventRefused => exact exec_event_refused h hm hc e
  case ringGen => exact exec_event_ringGeneration h hr g
  case partGen => exact exec_event_partGeneration h hr p
  case verdict => exact exec_event_abortVerdict h hr g q v k
  case abort =>
    refine ⟨fun ha => takeVerdict_unasked ha v k, fun a ha hv => takeVerdict_refused ha hv k, fun a i e ha hv hj => ?_⟩
    subst hv
    exact takeVerdict_aborts ha k hj
  case atBoundary => exact exec_event_boundary h hr n
  case boundary => exact ⟨boundary_active, fun c => boundary_standby, boundary_standby_unasked, boundary_other⟩
  case claim => rfl
  case checkNot => exact exec_replyCheck_notStandby h r st n d hm
  case check => exact exec_replyCheck_standby h r st n d hm
  case compare =>
    rw [compareWith_eq]
    refine ⟨fun hn => ?_, fun y hy he => ?_, fun y hy he => ?_⟩
    · rw [show otherSide s x = none from hn]; rfl
    · rw [show otherSide s x = some y from hy]; exact if_pos he
    · rw [show otherSide s x = some y from hy]; exact if_neg he
  case leaveUnpairs => subst hc; exact exec_leave_unpairs h
  case unpair => exact ⟨fun hm => unpair_keeps hm rnd, fun hm => unpair_clears hm rnd, rfl, rfl, rfl, rfl, rfl⟩
  case leaveMoves => exact exec_leave_moves h hc
  case lost => exact exec_partnerLost_due hp hs ht
  case held =>
    refine ⟨_, exec_partnerLost_due hp hs ht, ?_⟩
    rw [partnerSilent_active (by rw [noteLost_ilu]; exact hm)]
    exact ⟨rfl, congrArg Iluon.partnerLost (noteLost_ilu s), congrArg Iluon.partnerSeen (noteLost_ilu s), noteLost_ks s⟩
  case target => exact exec_resync_target h pct b hm h0 h6
  case images => exact exec_resync_other h pct b ho
  case phase =>
    refine ⟨_, exec_resync_target h pct b hm h0 h6, ?_, fun y hy h2 => ?_, fun hy => ?_⟩
    · rw [goOn_resyncPct]
      cases decodeSync b with
      | none => rfl
      | some y => exact takePhase_resyncPct ph y _
    · rw [(goOn_kept ..).1, hy, h2]
      exact takePhase_keys y _
    · rw [(goOn_kept ..).1, (goOn_kept ..).2, hy]
      exact arrived_kept hc 0x50
  case pass => exact (exec_resyncFinalPass n s).trans (guarded_true (by simp [hm, hn]))
  case passKept => exact guarded_runs (exec_resyncFinalPass n s) (by simp [hm, hn]) (finalPass_kept s)
  -- An event whose time or condition has not come changes nothing (log entry 124).
  case lostNot => exact (exec_partnerLost s).trans (guarded_false h)
  case passNot => exact (exec_resyncFinalPass n s).trans (guarded_false h)

end Sys2Proof.Proofs
end

section
/-! Key references across the end of a command, after a rewrite and at a load, and the token and MWK commands (R128, R137, R139 to R142,
R149, R277, R280). -/

namespace Sys2Proof.Proofs

open Sys2Proof Sys2Proof.Machine Sys2Proof.Laws Sys2Proof.Safety

/-! ## The key store across the end of a command (R140, R420) -/

/-- Two states whose key stores differ in the references in use and in the hot set alone. -/
def keysKept (s t : State) : Prop := ∃ h g, t.ks = { s.ks with holds := h, hot := g }

theorem keysKept_of_ks {s t : State} (h : t.ks = s.ks) : keysKept s t := ⟨s.ks.holds, s.ks.hot, h⟩

theorem keysKept_refl (s : State) : keysKept s s := keysKept_of_ks rfl

theorem keysKept_trans (a b c : State) : keysKept a b → keysKept b c → keysKept a c := by
  rintro ⟨_, _, e⟩ ⟨h, g, e'⟩
  exact ⟨h, g, by rw [e', e]⟩

theorem traceCancels_ks (c : Cmd) (s : State) : (traceCancels c s).ks = s.ks := by
  obtain ⟨_, _, _, _, e⟩ := traceCancels_frame c s
  rw [e]

theorem dropRef_keysKept (p : Nat) (k : BitVec 32) (v : BitVec 16) (s : State) : keysKept s (dropRef p k v s) := ⟨_, s.ks.hot, rfl⟩

theorem dropRefs_keysKept (c : Cmd) (s : State) : keysKept s (dropRefs c s) :=
  foldl_rel keysKept keysKept_refl keysKept_trans _ (fun s (k : BitVec 32 × BitVec 16) => dropRef_keysKept _ k.1 k.2 s) _ s

theorem backingNow_ks (s : State) (p : Nat) (k : BitVec 32) : (backingNow s p k).2.ks = s.ks := by
  unfold backingNow
  split <;> rfl

theorem noteBacking_ks (c : CmdRef) (k : BitVec 32) (s : State) : (noteBacking c k s).ks = s.ks := backingNow_ks s c.part k

/-- A command that ends OK withdraws no version of a key. -/
theorem endCmd_keysKept (r : CmdRef) (b : Bytes) (s : State) : keysKept s (endCmd r stOk b s) := by
  unfold endCmd
  split
  · exact keysKept_refl s
  next c _ =>
    split
    · exact keysKept_refl s
    have released : keysKept s (hotDropDerived r (dropRefs c (traceCancels c s))) :=
      keysKept_trans _ _ _ (keysKept_trans _ _ _ (keysKept_of_ks (traceCancels_ks c s)) (dropRefs_keysKept c _)) ⟨_, _, rfl⟩
    refine keysKept_trans _ _ _ released (keysKept_of_ks ?_)
    dsimp only
    generalize hotDropDerived r (dropRefs c (traceCancels c s)) = u
    rw [modCmd_ks]
    cases c.out with
    | none => dsimp only; split <;> rfl
    | some k =>
      dsimp only
      rw [if_pos rfl]
      split
      · rw [noteBacking_ks]; split <;> rfl
      · split <;> rfl

theorem linkOnly_ks {s t : State} (h : linkOnly s t) : t.ks = s.ks := by
  obtain ⟨_, _, rfl⟩ := h
  rfl

theorem replicateOut_ks (c : Cmd) (st : Status) (s t : State) : (replicateOut c st s t).ks = t.ks := by
  unfold replicateOut
  split
  · dsimp only
    split
    · rfl
    · generalize replicaMsgs t.ilu.applied (changesOf c t s t) = ms
      have sent : (ms.foldl sendReplica t).ks = t.ks := linkOnly_ks (linkOnly_of_sent (linkSent_foldl _ sendReplica_sent ms t))
      exact sent
  · rfl

/-- A command at work whose effect ends it OK keeps the key store that its effect made. -/
theorem runAccepted_keys {op : Nat} {s : State} {u : List Cmd → State} {b : List Cmd → Bytes} {r : CmdRef} {c : Cmd} {eff : Effect}
    {fail : OnFail} (h : AtWork op s r c) (he : ∀ l, eff c (setCmds s l) = (u l, some (stOk, b l)))
    (hu : ∀ l, sameResults (setCmds s l) (u l)) :
    ∃ t l, runAccepted op eff fail r s = .next t ∧ endedWith t r stOk (b l) ∧ keysKept (u l) t := by
  obtain ⟨l, hl⟩ := noteUndo_frame c s
  obtain ⟨d, hd, hn⟩ := noteUndo_found h.found
  rw [hl] at hd
  obtain ⟨e, found, unended⟩ := found_unended (hu l) hd (hn.trans (AtWork_fresh h))
  obtain ⟨t, ht, eq, ended⟩ := runAccepted_ends eff fail h (hl ▸ he l) found unended
  refine ⟨t, l, ht, ended, eq ▸ ?_⟩
  exact keysKept_trans _ _ _ (endCmd_keysKept r (b l) (u l)) (keysKept_of_ks (replicateOut_ks ..))

theorem endedStatus_of_endedWith {t : State} {r : CmdRef} {st : Status} {b : Bytes} (h : endedWith t r st b) : endedStatus t r st := by
  obtain ⟨c, hc, hr⟩ := Option.bind_eq_some_iff.mp h
  exact Option.bind_eq_some_iff.mpr ⟨c, hc, by rw [hr]; rfl⟩

/-! ## A key reference after a rewrite (R141, R142) -/

theorem getKey_congr {s t : State} (h : t.ks.keys = s.ks.keys) (p : Nat) (k : BitVec 32) : getKey t p k = getKey s p k := by
  unfold getKey
  rw [h]

theorem getKey_keysKept {s t : State} (h : keysKept s t) (p : Nat) (k : BitVec 32) : getKey t p k = getKey s p k := by
  obtain ⟨_, _, e⟩ := h
  exact getKey_congr (by rw [e]) p k

theorem epochOf_keysKept {s t : State} (h : keysKept s t) (p : Nat) : epochOf t p = epochOf s p := by
  obtain ⟨_, _, e⟩ := h
  unfold epochOf
  rw [e]

theorem getKey_storeKey (p : Nat) (k : BitVec 32) (e : KeyEntry) (s : State) :
    getKey (storeKey p k e s) p k = { e with codes := slotCodes s p k e.cur } := at_put _ _ _ _

theorem retireVersion_keys (p : Nat) (k : BitVec 32) (reserved : Bool) (s : State) : (retireVersion p k reserved s).ks.keys = s.ks.keys := by
  cases reserved <;> rfl

/-- After a rewrite the version that follows stands, with the contents written (R141). -/
theorem getKey_rewriteOk (p : Nat) (k : BitVec 32) (reserved : Bool) (v : Option KeyVal) (s : State) :
    (getKey (rewriteOk p k reserved v s) p k).cur = v ∧
      (getKey (rewriteOk p k reserved v s) p k).version = (getKey s p k).version + 1 := by
  unfold rewriteOk
  rw [getKey_storeKey, getKey_congr (retireVersion_keys p k reserved s)]
  exact ⟨rfl, rfl⟩

theorem rewriteOk_results (p : Nat) (k : BitVec 32) (reserved : Bool) (v : Option KeyVal) (s : State) :
    sameResults s (rewriteOk p k reserved v s) := by
  refine sameResults_of_cmds ?_
  cases reserved <;> rfl

/-! ## Loads at the effect (R128) -/

theorem withKey_loaded {s : State} {c : Cmd} {k : BitVec 32} {v : KeyVal} {chk : Attr → Option Status} (h : loadKey s c k = some v)
    (hc : chk v.attr = none) (hdr : Bytes) (f : KeyVal → State × Option (Status × Bytes)) : withKey s c k chk hdr f = f v := by
  unfold withKey
  rw [h]
  dsimp only
  rw [hc]

theorem withKey_gone {s : State} {c : Cmd} {k : BitVec 32} (h : loadKey s c k = none) (chk : Attr → Option Status) (hdr : Bytes)
    (f : KeyVal → State × Option (Status × Bytes)) : withKey s c k chk hdr f = (s, some (stKeyNotFound, hdr)) := by
  unfold withKey
  rw [h]
  rfl

/-! ## The token and MWK commands (R137, R139, R149, R277, R280) -/

/-- The version a token writes: its contents under the present MWK generation (R137). -/
def tokenVal (s : State) (v : KeyVal) : KeyVal := { v with mwkGen := s.ks.mwkGen }

theorem runTokenLoad_closed {c : Cmd} {s : State} (h : openToken s c.ref.part ((reqOf c).key 0) (c.payload.drop 8) = none) :
    runTokenLoad c s = (s, some (stVerifyFailed, [])) := by
  have h' : openToken s c.ref.part ((reqOf c).key 0) ((reqOf c).payload.drop 8) = none := h
  unfold runTokenLoad
  dsimp only
  rw [h']
  rfl

theorem runTokenLoad_opened {c : Cmd} {s : State} {v : KeyVal}
    (h : openToken s c.ref.part ((reqOf c).key 0) (c.payload.drop 8) = some v) :
    ∃ b, runTokenLoad c s = (rewriteOk c.ref.part ((reqOf c).key 0) c.shadow (some (tokenVal s v)) s, some (stOk, b)) := by
  have h' : openToken s c.ref.part ((reqOf c).key 0) ((reqOf c).payload.drop 8) = some v := h
  unfold runTokenLoad
  dsimp only
  rw [h']
  exact ⟨_, rfl⟩

theorem runTokenReissue_loaded {c : Cmd} {s : State} {v : KeyVal} (h : loadKey s c ((reqOf c).key 0) = some v) :
    runTokenReissue c s = (s, some (stOk, tokenBytes s c.ref.part ((reqOf c).key 0)
      { v with epoch := epochOf s c.ref.part + 1, mwkGen := s.ks.mwkGen })) := by
  unfold runTokenReissue
  exact withKey_loaded h rfl ..

theorem epochOf_bumpEpoch (p : Nat) (s : State) : epochOf (bumpEpoch p s) p = epochOf s p + 1 := at_put _ _ _ _

theorem runTokenRevoke_eq (c : Cmd) (s : State) :
    runTokenRevoke c s = (bumpEpoch c.ref.part s, some (stOk, toLe 4 (epochOf s c.ref.part + 1).toNat)) := by
  rw [← epochOf_bumpEpoch]
  rfl

/-- The key store under a new MWK, the previous one kept and the rewrap begun (R149). -/
def mwkChanged (k : KeyStore) (new : Bytes) : KeyStore :=
  { k with mwkPrev := k.mwk, mwk := new, mwkGen := nextGen k.mwkGen, prevPresent := true, rewrap := true }

theorem runMwkChange_eq (c : Cmd) (s : State) :
    runMwkChange c s = ({ s with ks := mwkChanged s.ks (drawn c 0 32) }, some (stOk, [nextGen s.ks.mwkGen] ++ zeros 3)) := rfl

/-- Settles O37: each command ends on the key store its effect made; the refusals are checks made before the acceptance. -/
theorem tokensAndTheMasterKey : Obligations.TokensAndTheMasterKey := by
  unfold Obligations.TokensAndTheMasterKey
  refine ⟨fun s r c h => ?load, fun s r c v h hv => ?reissue, fun s r c h => ?revoke, fun s r c h => ?change, fun s r c h => ?clear,
    fun s x => ⟨fun hp => ?changeRefused, fun hw => ?clearRefused⟩⟩
  case load =>
    obtain rfl := found_ref h.found
    cases ho : openToken s c.ref.part ((reqOf c).key 0) (c.payload.drop 8) with
    | none =>
      obtain ⟨t, run, ended⟩ := runAccepted_replies h fun l => runTokenLoad_closed (s := setCmds s l) ho
      exact ⟨t, run, fun _ => ended, by simp⟩
    | some v =>
      have opened (l : List Cmd) := runTokenLoad_opened (s := setCmds s l) ho
      choose b hb using opened
      obtain ⟨t, l, run, ended, kept⟩ := runAccepted_keys h hb fun l => rewriteOk_results _ _ _ _ (setCmds s l)
      obtain ⟨hcur, hver⟩ := getKey_rewriteOk c.ref.part ((reqOf c).key 0) c.shadow (some (tokenVal s v)) (setCmds s l)
      refine ⟨t, run, by simp, fun w hw => ?_⟩
      cases hw
      refine ⟨endedStatus_of_endedWith ended, ?_⟩
      rw [getKey_keysKept kept]
      exact ⟨hcur, hver⟩
  case reissue =>
    obtain rfl := found_ref h.found
    obtain ⟨t, l, run, ended, kept⟩ := runAccepted_keys h (fun l => runTokenReissue_loaded (s := setCmds s l) hv) fun l => sameResults_refl _
    exact ⟨t, run, ended, epochOf_keysKept kept c.ref.part⟩
  case revoke =>
    obtain rfl := found_ref h.found
    obtain ⟨t, l, run, ended, kept⟩ := runAccepted_keys h (fun l => runTokenRevoke_eq c (setCmds s l)) fun l => sameResults_of_cmds rfl
    exact ⟨t, run, ended, (epochOf_keysKept kept c.ref.part).trans (epochOf_bumpEpoch ..)⟩
  case change =>
    obtain ⟨t, l, run, ended, _, _, kept⟩ := runAccepted_keys h (fun l => runMwkChange_eq c (setCmds s l)) fun l => sameResults_of_cmds rfl
    refine ⟨t, run, ended, ?_⟩
    rw [kept]
    exact ⟨rfl, rfl, rfl, rfl, rfl⟩
  case clear =>
    obtain ⟨t, l, run, ended, _, _, kept⟩ :=
      runAccepted_keys (eff := runMwkClear) (fail := noReply) h (fun l => rfl) fun l => sameResults_of_cmds rfl
    refine ⟨t, run, ended, ?_⟩
    rw [kept]
    exact ⟨rfl, rfl, rfl⟩
  case changeRefused => simp [specMwkChange, need, hp]
  case clearRefused => simp [specMwkClear, need, hw]

end Sys2Proof.Proofs
end

section
/-! The public-key commands (R200, R203, R204, R206 to R209). -/

namespace Sys2Proof.Proofs

open Sys2Proof Sys2Proof.Machine Sys2Proof.Laws Sys2Proof.Safety

/-- A command at work whose effect changes nothing ends with the answer of its effect. -/
theorem runAccepted_answersPair {op : Nat} {s : State} {r : CmdRef} {c : Cmd} {a : Status × Bytes} {eff : Effect} {fail : OnFail}
    (h : AtWork op s r c) (he : ∀ l, eff c (setCmds s l) = (setCmds s l, some a)) :
    ∃ t, runAccepted op eff fail r s = .next t ∧ endedWith t r a.1 a.2 := runAccepted_replies h he

/-! ## PK_SIGN and PK_PUBLIC (R206, R207) -/

section
variable {c : Cmd} {s : State} {v w : KeyVal}

theorem runPkSign_single (hv : loadKey s c ((reqOf c).key 0) = some v) (hc : pkKeyChk 1 (reqOf c) v.attr = none)
    (h2 : (reqOf c).key 4 = 0) :
    runPkSign c s = (s, some (stOk, pkReply (signWith (pkScheme (reqOf c)) (pkHash (reqOf c)) v (signInput (reqOf c)) (pkCtx (reqOf c))
      (drawn c 0 (signDraw (pkScheme (reqOf c)) (pkHash (reqOf c))))) [] 0 [])) := by
  unfold runPkSign
  dsimp only
  rw [withKey_loaded hv hc, if_pos h2]
  rfl

/-- A hybrid signature signs one digest of the message with each of its two keys. -/
theorem runPkSign_hybrid (hv : loadKey s c ((reqOf c).key 0) = some v) (hc : pkKeyChk 1 (reqOf c) v.attr = none)
    (h2 : (reqOf c).key 4 ≠ 0) (hw : loadKey s c ((reqOf c).key 4) = some w) (hc2 : pkKey2Chk w.attr = none) :
    runPkSign c s = (s, some (stOk, pkReply (signWith 0x30 0 v (sha3_512 (pkMsg (reqOf c))) [] (drawn c 0 32))
      (signWith 0x10 0x13 w (sha3_512 (pkMsg (reqOf c))) [] (drawn c 32 32)) 0 [])) := by
  unfold runPkSign
  dsimp only
  rw [withKey_loaded hv hc, if_neg h2, withKey_loaded hw hc2]
  rfl

theorem runPkSign_gone (hv : loadKey s c ((reqOf c).key 0) = none) : runPkSign c s = (s, some (stKeyNotFound, zeros 32)) := by
  unfold runPkSign
  exact withKey_gone hv ..

theorem runPkPublic_loaded (hv : loadKey s c ((reqOf c).key 0) = some v) (hc : pkKeyChk 8 (reqOf c) v.attr = none) :
    runPkPublic c s = (s, some (stOk, pkReply (publicKey v) [] 0 [])) := by
  unfold runPkPublic
  exact withKey_loaded hv hc ..

theorem runPkPublic_gone (hv : loadKey s c ((reqOf c).key 0) = none) : runPkPublic c s = (s, some (stKeyNotFound, zeros 32)) := by
  unfold runPkPublic
  exact withKey_gone hv ..

/-! ## PK_VERIFY (R200, R206) -/

/-- What PK_VERIFY answers once its input checks have passed. -/
def verdictOf (good : Bool) : Status × Bytes := if good then (stOk, pkReply [] [] 0 []) else (stVerifyFailed, zeros 32)

/-- Whether the signature of a verification that is not hybrid holds. -/
def singleHolds (x : Req) : Bool := Config.verify (pkScheme x) (pkHash x) (pkAlg x) (pkA x) (signInput x) (pkCtx x) (pkB x)

/-- Whether both signatures of a hybrid verification hold. -/
def hybridHolds (x : Req) : Bool :=
  Config.verify 0x30 0 (pkAlg x) (pkA x) (sha3_512 (pkMsg x)) [] (pkB x) &&
    Config.verify 0x10 0x13 (pkAlg2 x) (pkC x) (sha3_512 (pkMsg x)) [] (pkD x)

theorem runPkVerify_badInput {st : Status} (h2 : pkAlg2 (reqOf c) = 0)
    (hi : verifyInputs (pkAlg (reqOf c)) (pkA (reqOf c)) (pkB (reqOf c)) = some st) : runPkVerify c s = (s, some (st, zeros 32)) := by
  unfold runPkVerify
  dsimp only
  rw [if_pos h2, hi]
  rfl

theorem runPkVerify_single (h2 : pkAlg2 (reqOf c) = 0)
    (hi : verifyInputs (pkAlg (reqOf c)) (pkA (reqOf c)) (pkB (reqOf c)) = none) :
    runPkVerify c s = (s, some (verdictOf (singleHolds (reqOf c)))) := by
  unfold runPkVerify verdictOf singleHolds
  dsimp only
  rw [if_pos h2, hi]
  dsimp only
  split <;> rfl

theorem runPkVerify_hybrid (h2 : pkAlg2 (reqOf c) ≠ 0)
    (hi : verifyInputs (pkAlg (reqOf c)) (pkA (reqOf c)) (pkB (reqOf c)) = none)
    (hi2 : verifyInputs (pkAlg2 (reqOf c)) (pkC (reqOf c)) (pkD (reqOf c)) = none) :
    runPkVerify c s = (s, some (verdictOf (hybridHolds (reqOf c)))) := by
  unfold runPkVerify verdictOf hybridHolds
  dsimp only
  rw [if_neg h2, hi, hi2]
  dsimp only [firstFail]
  split <;> rfl

/-! ## PK_RSA_DECRYPT (R200, R206) -/

/-- The modulus of an RSA key. -/
def rsaModulus (v : KeyVal) : Nat :=
  beNat ((Config.publicOf 0x30 v.material).take ((Config.publicOf 0x30 v.material).length - 4))

/-- What PK_RSA_DECRYPT answers with a key (R200). -/
def decryptAnswer (x : Req) (v : KeyVal) : Status × Bytes :=
  if rsaModulus v ≤ beNat (pkA x) then (stInputNotReduced, zeros 32)
  else if beNat (pkA x) = 0 then (stInputZero, zeros 32)
  else match Config.oaepDecrypt (pkHash x) v.material (pkInfo x) (pkA x) with
    | none => (stVerifyFailed, zeros 32)
    | some m => (stOk, pkReply m [] 0 [])

section
variable {x : Req}

theorem decryptAnswer_notReduced (h : rsaModulus v ≤ beNat (pkA x)) : decryptAnswer x v = (stInputNotReduced, zeros 32) := if_pos h

theorem decryptAnswer_zero (h : beNat (pkA x) < rsaModulus v) (hz : beNat (pkA x) = 0) : decryptAnswer x v = (stInputZero, zeros 32) := by
  unfold decryptAnswer
  rw [if_neg (Nat.not_le.mpr h), if_pos hz]

theorem decryptAnswer_opened {m : Bytes} (h : beNat (pkA x) < rsaModulus v) (hz : beNat (pkA x) ≠ 0)
    (ho : Config.oaepDecrypt (pkHash x) v.material (pkInfo x) (pkA x) = some m) : decryptAnswer x v = (stOk, pkReply m [] 0 []) := by
  unfold decryptAnswer
  rw [if_neg (Nat.not_le.mpr h), if_neg hz, ho]

theorem decryptAnswer_closed (h : beNat (pkA x) < rsaModulus v) (hz : beNat (pkA x) ≠ 0)
    (ho : Config.oaepDecrypt (pkHash x) v.material (pkInfo x) (pkA x) = none) : decryptAnswer x v = (stVerifyFailed, zeros 32) := by
  unfold decryptAnswer
  rw [if_neg (Nat.not_le.mpr h), if_neg hz, ho]

end

theorem runPkRsaDecrypt_loaded (hv : loadKey s c ((reqOf c).key 0) = some v) (hc : pkKeyChk 7 (reqOf c) v.attr = none) :
    runPkRsaDecrypt c s = (s, some (decryptAnswer (reqOf c) v)) := by
  unfold runPkRsaDecrypt decryptAnswer
  dsimp only
  rw [withKey_loaded hv hc]
  by_cases hm : rsaModulus v ≤ beNat (pkA (reqOf c))
  · have reduced : decide (beNat (pkA (reqOf c)) < rsaModulus v) = false := by simpa using hm
    rw [if_pos hm]
    unfold rsaModulus at reduced
    rw [reduced]
    rfl
  · have reduced : decide (beNat (pkA (reqOf c)) < rsaModulus v) = true := by simpa using hm
    rw [if_neg hm]
    unfold rsaModulus at reduced
    rw [reduced]
    by_cases hz : beNat (pkA (reqOf c)) = 0
    · rw [if_pos hz, hz]
      rfl
    · rw [if_neg hz, bne_iff_ne.mpr hz]
      cases Config.oaepDecrypt (pkHash (reqOf c)) v.material (pkInfo (reqOf c)) (pkA (reqOf c)) <;> rfl

end

/-! ## Output keys (R135, R208) -/

/-- The material of the output key derived from the shared secret `z`. -/
def outMaterial (x : Req) (z : Bytes) : Bytes :=
  deriveOut z (pkInfo x) ((algBytes (pkOutAttr x).alg.toNat (pkOutAttr x).bits.toNat).getD 0)

/-- The output key derived from `z`, with its RANDOM from the draw stream at `off`. -/
def outKey (c : Cmd) (z : Bytes) (off : Nat) (s : State) : KeyVal :=
  newVal s c.ref.part (pkOut (reqOf c)) (pkOutAttr (reqOf c)) (outMaterial (reqOf c) z) (drawn c off 8)

/-- The state in which the output key is written. -/
def outWritten (c : Cmd) (z : Bytes) (off : Nat) (s : State) : State :=
  rewriteOk c.ref.part (pkOut (reqOf c)) c.shadow (some (outKey c z off s)) s

/-- The reply that goes with an output key, `a` before it: the token of a cached one, its version and its check value (R209). -/
def outReply (c : Cmd) (a z : Bytes) (off : Nat) (s : State) : Bytes :=
  pkReply a (if isCached (pkOut (reqOf c)) then tokenBytes (outWritten c z off s) c.ref.part (pkOut (reqOf c)) (outKey c z off s) else [])
    ((getKey s c.ref.part (pkOut (reqOf c))).version + 1).toNat ((kcv (pkOutAttr (reqOf c)).alg (outMaterial (reqOf c) z)).getD [])

theorem outReply_onDie {c : Cmd} (h : isCached (pkOut (reqOf c)) = false) (a z : Bytes) (off : Nat) (s : State) :
    outReply c a z off s = pkReply a [] ((getKey s c.ref.part (pkOut (reqOf c))).version + 1).toNat
      ((kcv (pkOutAttr (reqOf c)).alg (outMaterial (reqOf c) z)).getD []) := by
  unfold outReply
  rw [h]
  rfl

theorem writeOutKey_eq (c : Cmd) (a z : Bytes) (off : Nat) (s : State) :
    writeOutKey c a z off s = (outWritten c z off s, some (stOk, outReply c a z off s)) := by
  unfold outReply
  rw [← (getKey_rewriteOk c.ref.part (pkOut (reqOf c)) c.shadow (some (outKey c z off s)) s).2]
  rfl

/-- A command at work that writes an output key ends OK with the key in force under the next version; the reply of one on die holds no
token. -/
theorem runAccepted_writesOutKey {op : Nat} {s : State} {r : CmdRef} {c : Cmd} {eff : Effect} {a z : Bytes} {off : Nat} (h : AtWork op s r c)
    (he : ∀ l, eff c (setCmds s l) = writeOutKey c a z off (setCmds s l)) :
    ∃ t, runAccepted op eff pkFail r s = .next t ∧ endedStatus t r stOk ∧
      (getKey t r.part (pkOut (reqOf c))).cur =
        some (newVal s r.part (pkOut (reqOf c)) (pkOutAttr (reqOf c)) (outMaterial (reqOf c) z) (drawn c off 8)) ∧
      (getKey t r.part (pkOut (reqOf c))).version = (getKey s r.part (pkOut (reqOf c))).version + 1 ∧
      (isCached (pkOut (reqOf c)) = false → endedWith t r stOk (pkReply a [] (getKey t r.part (pkOut (reqOf c))).version.toNat
        ((kcv (pkOutAttr (reqOf c)).alg (outMaterial (reqOf c) z)).getD []))) := by
  obtain rfl := found_ref h.found
  obtain ⟨t, l, run, ended, kept⟩ := runAccepted_keys h (fun l => (he l).trans (writeOutKey_eq c a z off (setCmds s l)))
    fun l => rewriteOk_results _ _ _ _ (setCmds s l)
  obtain ⟨hcur, hver⟩ := getKey_rewriteOk c.ref.part (pkOut (reqOf c)) c.shadow (some (outKey c z off (setCmds s l))) (setCmds s l)
  have key := getKey_keysKept kept c.ref.part (pkOut (reqOf c))
  have version : (getKey t c.ref.part (pkOut (reqOf c))).version = (getKey s c.ref.part (pkOut (reqOf c))).version + 1 := by
    rw [key]
    exact hver
  refine ⟨t, run, endedStatus_of_endedWith ended, by rw [key]; exact hcur, version, fun hk => ?_⟩
  rw [outReply_onDie hk] at ended
  rw [version]
  exact ended

section
variable {c : Cmd} {s : State} {v : KeyVal}

theorem runPkAgree_badInput {st : Status} (hv : loadKey s c ((reqOf c).key 0) = some v) (hc : pkKeyChk 3 (reqOf c) v.attr = none)
    (hi : peerInputs v.attr.alg.toNat (pkA (reqOf c)) = some st) : runPkAgree c s = (s, some (st, zeros 32)) := by
  unfold runPkAgree
  dsimp only
  rw [withKey_loaded hv hc, hi]
  rfl

theorem runPkAgree_agrees (hv : loadKey s c ((reqOf c).key 0) = some v) (hc : pkKeyChk 3 (reqOf c) v.attr = none)
    (hi : peerInputs v.attr.alg.toNat (pkA (reqOf c)) = none) :
    runPkAgree c s = writeOutKey c [] (padTo (curveLen v.attr.alg.toNat) (Config.ecdh v.attr.alg.toNat v.material (pkA (reqOf c)))) 0 s := by
  unfold runPkAgree
  dsimp only
  rw [withKey_loaded hv hc, hi]

theorem runPkEncapsulate_badInput {st : Status} (hi : peerInputs (pkAlg (reqOf c)) (pkA (reqOf c)) = some st) :
    runPkEncapsulate c s = (s, some (st, zeros 32)) := by
  unfold runPkEncapsulate
  dsimp only
  rw [hi]
  rfl

theorem runPkEncapsulate_agrees (hi : peerInputs (pkAlg (reqOf c)) (pkA (reqOf c)) = none) :
    runPkEncapsulate c s = writeOutKey c (padTo (kemCtLen (pkAlg (reqOf c))) (Config.kemCipher (pkAlg (reqOf c)) (pkA (reqOf c)) (drawn c 0 32)))
      (padTo 32 (Config.kemShared (pkAlg (reqOf c)) (pkA (reqOf c)) (drawn c 0 32))) 32 s := by
  unfold runPkEncapsulate
  dsimp only
  rw [hi]

theorem runPkDecapsulate_loaded (hv : loadKey s c ((reqOf c).key 0) = some v) (hc : pkKeyChk 5 (reqOf c) v.attr = none) :
    runPkDecapsulate c s = writeOutKey c [] (padTo 32 (Config.kemDecaps v.attr.alg.toNat v.material (pkA (reqOf c)))) 0 s := by
  unfold runPkDecapsulate
  exact withKey_loaded hv hc ..

end

/-- Settles O41: every command answers in the state it finds, but for those that write an output key. -/
theorem publicKeyCommandsSignAgreeAndEncrypt : Obligations.PublicKeyCommandsSignAgreeAndEncrypt := by
  unfold Obligations.PublicKeyCommandsSignAgreeAndEncrypt
  refine ⟨fun s r c v h hv hc h2 => ?sign, fun s r c v w h hv hc h2 hw hc2 => ?signBoth, fun s r c h h2 => ?verify,
    fun s r c h h2 hi hi2 => ?verifyBoth, fun s r c v h hv hc => ?agree, fun s r c h => ?encapsulate,
    fun s r c v h hv hc => ?decapsulate, fun s r c h => ?encrypt, fun s r c v h hv hc => ?decrypt, fun s r c v h hv hc => ?publicKey,
    fun s r c h hv => ?signGone, fun s r c h hv => ?publicGone⟩
  case sign => exact runAccepted_replies h fun l => runPkSign_single hv hc h2
  case signBoth => exact runAccepted_replies h fun l => runPkSign_hybrid hv hc h2 hw hc2
  case verify =>
    cases hi : verifyInputs (pkAlg (reqOf c)) (pkA (reqOf c)) (pkB (reqOf c)) with
    | some st =>
      obtain ⟨t, run, ended⟩ := runAccepted_replies h fun l => runPkVerify_badInput h2 hi
      exact ⟨t, run, fun _ e => by cases e; exact ended, by simp, by simp⟩
    | none =>
      obtain ⟨t, run, ended⟩ := runAccepted_answersPair h fun l => runPkVerify_single h2 hi
      refine ⟨t, run, by simp, fun _ good => ?_, fun _ bad => ?_⟩
      · rw [show singleHolds (reqOf c) = true from good] at ended
        exact ended
      · rw [show singleHolds (reqOf c) = false from bad] at ended
        exact ended
  case verifyBoth =>
    obtain ⟨t, run, ended⟩ := runAccepted_answersPair h fun l => runPkVerify_hybrid h2 hi hi2
    refine ⟨t, run, fun good => ?_, fun bad => ?_⟩
    · rw [show hybridHolds (reqOf c) = true from good] at ended
      exact ended
    · rw [show hybridHolds (reqOf c) = false from bad] at ended
      exact ended
  case agree =>
    cases hi : peerInputs v.attr.alg.toNat (pkA (reqOf c)) with
    | some st =>
      obtain ⟨t, run, ended⟩ := runAccepted_replies h fun l => runPkAgree_badInput (s := setCmds s l) hv hc hi
      exact ⟨t, run, fun _ e => by cases e; exact ended, by simp⟩
    | none =>
      obtain ⟨t, run, written⟩ := runAccepted_writesOutKey h fun l => runPkAgree_agrees (s := setCmds s l) hv hc hi
      exact ⟨t, run, by simp, fun _ => written⟩
  case encapsulate =>
    cases hi : peerInputs (pkAlg (reqOf c)) (pkA (reqOf c)) with
    | some st =>
      obtain ⟨t, run, ended⟩ := runAccepted_replies h fun l => runPkEncapsulate_badInput hi
      exact ⟨t, run, fun _ e => by cases e; exact ended, by simp⟩
    | none =>
      obtain ⟨t, run, written⟩ := runAccepted_writesOutKey h fun l => runPkEncapsulate_agrees hi
      exact ⟨t, run, by simp, fun _ => written⟩
  case decapsulate => exact runAccepted_writesOutKey h fun l => runPkDecapsulate_loaded (s := setCmds s l) hv hc
  case encrypt => exact runAccepted_replies h fun l => rfl
  case decrypt =>
    obtain ⟨t, run, ended⟩ := runAccepted_answersPair h fun l => runPkRsaDecrypt_loaded (s := setCmds s l) hv hc
    refine ⟨t, run, fun hm => ?_, fun hm hz => ?_, fun hm hz m ho => ?_, fun hm hz ho => ?_⟩
    · rw [decryptAnswer_notReduced hm] at ended
      exact ended
    · rw [decryptAnswer_zero hm hz] at ended
      exact ended
    · rw [decryptAnswer_opened hm hz ho] at ended
      exact ended
    · rw [decryptAnswer_closed hm hz ho] at ended
      exact ended
  case publicKey => exact runAccepted_replies h fun l => runPkPublic_loaded (s := setCmds s l) hv hc
  case signGone => exact runAccepted_replies h fun l => runPkSign_gone (s := setCmds s l) hv
  case publicGone => exact runAccepted_replies h fun l => runPkPublic_gone (s := setCmds s l) hv

end Sys2Proof.Proofs
end

section
/-! The random number generator: its start, its continuous tests, its seeds, its reseeds and the requests at its port (R131, R164, R197,
R213 to R217, R219 to R221, R223). -/

namespace Sys2Proof.Proofs

open Sys2Proof Sys2Proof.Machine Sys2Proof.Laws

/-! ## The start (R213, R214, R216, R221) -/

theorem exec_rngStartupKatEnd (pass : Bool) (s : State) : exec (.rngStartupKatEnd pass) s =
    guarded (s.rng.running && s.rng.state == .testing && !s.rng.katKnown && decide (s.rng.startNs + 15000 ≤ s.clk.ns)) (fun s =>
      if pass then { s with rng := { s.rng with katKnown := true, katPassed := pass } }
      else enterFailed { s with rng := { s.rng with katKnown := true, katPassed := pass, katFail := true } }) s := rfl

/-- The generator as the start-up samples are tested: its tests and its conditioner anew. -/
def testsAnew (g : Rng) : Rng := { g with tests := List.replicate 4 State.resetTest, cond := [] }

/-- The generator with its start-up verdict on the samples (R214). -/
def judged (l : List (List Bool)) (g : Rng) : Rng :=
  { g with verdict := true, tests := testAll l (testsAnew g), cond := [], srcOk := ~~~failMask l (testsAnew g),
           startFail := g.startFail ||| failMask l (testsAnew g) }

theorem exec_rngStartupVerdict (a b : List (List Bool)) (s : State) : exec (.rngStartupVerdict a b) s =
    guarded (s.rng.running && s.rng.state == .testing && s.rng.katKnown && !s.rng.verdict && decide (s.rng.startNs + 102400 ≤ s.clk.ns) &&
        sampled (a ++ b) && ((a ++ b).headD []).length == 1024) (fun s =>
      if admitted (~~~failMask (a ++ b) (testsAnew s.rng)) < 2 then enterFailed { s with rng := judged (a ++ b) s.rng }
      else seedModule { s with rng := condition (condition (absorb (a ++ b) (judged (a ++ b) s.rng))) }) s := rfl

theorem exec_rngStartupVerdict_due {s : State} {a b : List (List Bool)} (hr : s.rng.running = true) (hs : s.rng.state = .testing)
    (hk : s.rng.katKnown = true) (hv : s.rng.verdict = false) (ht : s.rng.startNs + 102400 ≤ s.clk.ns) (hl : sampled (a ++ b) = true)
    (hn : ((a ++ b).headD []).length = 1024) : exec (.rngStartupVerdict a b) s = .next
      (if admitted (~~~failMask (a ++ b) (testsAnew s.rng)) < 2 then enterFailed { s with rng := judged (a ++ b) s.rng }
       else seedModule { s with rng := condition (condition (absorb (a ++ b) (judged (a ++ b) s.rng))) }) := by
  refine (exec_rngStartupVerdict a b s).trans (guarded_true ?_)
  rw [hr, hs, hk, hv, decide_eq_true ht, hl, hn]
  rfl

/-! ## Continuous tests (R213, R214) -/

/-- The generator with what the continuous tests find in the samples. -/
def tested (l : List (List Bool)) (g : Rng) : Rng :=
  { g with tests := testAll l g, rctFail := g.rctFail ||| rctMask l g, aptFail := g.aptFail ||| aptMask l g }

/-- The admitted sources that fail a test on the samples. -/
def excluded (l : List (List Bool)) (g : Rng) : BitVec 4 := failMask l g &&& g.srcOk

/-- The generator without the sources to exclude: the pool and the samples under way go (R214). -/
def withoutExcluded (l : List (List Bool)) (g : Rng) : Rng :=
  { tested l g with srcOk := g.srcOk &&& ~~~excluded l g, pool := [], cond := [] }

theorem exec_rngHealthFail (k : Fin 4) (l : List (List Bool)) (s : State) : exec (.rngHealthFail k l) s =
    guarded (s.rng.running && s.rng.verdict && sampled l && bit (failMask l s.rng).toNat k.val) (fun s =>
      if excluded l s.rng = 0 then { s with rng := condition (absorb l (tested l s.rng)) }
      else if admitted (withoutExcluded l s.rng).srcOk < 2 && s.rng.state != .failed then
        enterFailed { s with rng := withoutExcluded l s.rng }
      else { s with rng := withoutExcluded l s.rng }) s := rfl

/-! ## Seeds (R215, R216) -/

theorem exec_seedReady (l : List (List Bool)) (s : State) : exec (.seedReady l) s =
    guarded (s.rng.state == .healthy && sampled l && failMask l s.rng &&& s.rng.srcOk == 0 &&
        decide (1536 ≤ (absorb l s.rng).cond.length) && decide ((absorb l s.rng).cond.length < 3072))
      (fun s => { s with rng := condition (absorb l (tested l s.rng)) }) s := rfl

/-- The seed of a conditioner that holds 1,536 samples (R215). -/
def seedOf (g : Rng) : Bytes := sha3_384 (packBits 192 (g.cond.take 1536))

theorem condition_full {g : Rng} (h : 1536 ≤ g.cond.length) : condition g =
    { g with cond := g.cond.drop 1536, pool := if g.pool.length < 64 then g.pool ++ [seedOf g] else g.pool } := if_pos h

theorem exec_moduleInstanceReseed {s : State} {x : Bytes} {l : List Bytes} (h : s.rng.pool = x :: l) : exec .moduleInstanceReseed s =
    guarded (s.rng.state == .healthy && decide (s.rng.moduleNs + 1000000 ≤ s.clk.ns))
      (fun s => { s with rng := { s.rng with pool := l, module := Config.drbgReseed s.rng.module x, moduleNs := s.clk.ns } }) s := by
  show execModuleInstanceReseed s = _
  unfold execModuleInstanceReseed
  rw [h]

theorem exec_moduleInstanceReseed_empty {s : State} (h : s.rng.pool = []) : exec .moduleInstanceReseed s = .next s := by
  show execModuleInstanceReseed s = _
  unfold execModuleInstanceReseed
  rw [h]

/-! ## Mask streams (R131, R164, R197) -/

theorem exec_maskReseed (s : State) :
    exec .maskReseed s = guarded (s.rng.state == .healthy && decide (s.rng.maskNs + 1000000 ≤ s.clk.ns)) reseedMasks s := rfl

/-- The key store's mask stream with new state from the island's generator. -/
def storeReseeded (s : State) : State :=
  { s with ks := { s.ks with maskSeed := (drbgGen s.rng.module 48).1, maskUsed := 0 },
           rng := { s.rng with module := (drbgGen s.rng.module 48).2, maskNs := s.clk.ns } }

/-- A facet's mask stream with new state. -/
def facetReseeded (s : State) (n : Nat) : State := modFacet n (fun f => { f with mask := (moduleOut 48 s).1 }) (moduleOut 48 s).2

/-- An engine's mask stream with new state. -/
def engineReseeded (s : State) (n : Nat) : State :=
  modEngine n (fun e => { e with mask := (moduleOut 48 s).1, maskUsed := 0 }) (moduleOut 48 s).2

theorem reseedMasks_eq (s : State) :
    reseedMasks s = (List.range 16).foldl engineReseeded ((List.range 48).foldl facetReseeded (storeReseeded s)) := rfl

/-- Reseeding facets changes the island's generator and the facets alone. -/
theorem foldl_facetReseeded_frame (l : List Nat) (s : State) :
    ∃ m f, l.foldl facetReseeded s = { s with rng := { s.rng with module := m }, facets := f } := by
  refine foldl_rel (fun s t => ∃ m f, t = { s with rng := { s.rng with module := m }, facets := f })
    (fun s => ⟨s.rng.module, s.facets, rfl⟩) ?_ _ (fun s n => ⟨_, _, rfl⟩) l s
  rintro a b c ⟨_, _, rfl⟩ ⟨m, f, rfl⟩
  exact ⟨m, f, rfl⟩

/-- Reseeding engines changes the island's generator and the engines alone. -/
theorem foldl_engineReseeded_frame (l : List Nat) (s : State) :
    ∃ m e, l.foldl engineReseeded s = { s with rng := { s.rng with module := m }, engines := e } := by
  refine foldl_rel (fun s t => ∃ m e, t = { s with rng := { s.rng with module := m }, engines := e })
    (fun s => ⟨s.rng.module, s.engines, rfl⟩) ?_ _ (fun s n => ⟨_, _, rfl⟩) l s
  rintro a b c ⟨_, _, rfl⟩ ⟨m, e, rfl⟩
  exact ⟨m, e, rfl⟩

theorem getFacet_facetReseeded (s : State) (n : Nat) : (getFacet (facetReseeded s n) n).mask = (drbgGen s.rng.module 48).1 :=
  congrArg Facet.mask (at_put _ _ _ _)

theorem getFacet_facetReseeded_ne (s : State) {n k : Nat} (h : k ≠ n) : getFacet (facetReseeded s n) k = getFacet s k :=
  at_put_ne _ _ _ h

theorem getFacet_foldl_facetReseeded {k : Nat} {l : List Nat} (h : k ∉ l) (s : State) :
    getFacet (l.foldl facetReseeded s) k = getFacet s k := by
  induction l generalizing s with
  | nil => rfl
  | cons n l ih =>
    rw [List.mem_cons, not_or] at h
    rw [List.foldl_cons, ih h.2, getFacet_facetReseeded_ne s h.1]

theorem getEngine_engineReseeded (s : State) (n : Nat) : (getEngine (engineReseeded s n) n).maskUsed = 0 :=
  congrArg Engine.maskUsed (at_put _ _ _ _)

theorem getEngine_engineReseeded_ne (s : State) {n k : Nat} (h : k ≠ n) : getEngine (engineReseeded s n) k = getEngine s k :=
  at_put_ne _ _ _ h

theorem getEngine_foldl_engineReseeded (s : State) {k n : Nat} (h : k < n) :
    (getEngine ((List.range n).foldl engineReseeded s) k).maskUsed = 0 := by
  induction n with
  | zero => omega
  | succ n ih =>
    rw [List.range_succ, List.foldl_append, List.foldl_cons, List.foldl_nil]
    by_cases hk : k = n
    · rw [hk]
      exact getEngine_engineReseeded _ n
    · rw [getEngine_engineReseeded_ne _ hk]
      exact ih (by omega)

theorem getFacet_foldl_engineReseeded (k : Nat) (l : List Nat) (s : State) : getFacet (l.foldl engineReseeded s) k = getFacet s k := by
  obtain ⟨_, _, e⟩ := foldl_engineReseeded_frame l s
  rw [e]
  rfl

/-- The first facet takes the output that follows the key store's. -/
theorem getFacet_reseedMasks (s : State) :
    (getFacet (reseedMasks s) 0).mask = (drbgGen (drbgGen s.rng.module 48).2 48).1 := by
  have first : List.range 48 = 0 :: List.range' 1 47 := rfl
  rw [reseedMasks_eq, getFacet_foldl_engineReseeded, first, List.foldl_cons, getFacet_foldl_facetReseeded (by simp)]
  exact getFacet_facetReseeded (storeReseeded s) 0

/-- Reseeding the mask streams leaves the keys and the partitions. -/
theorem reseedMasks_effect (s : State) :
    (reseedMasks s).rng.maskNs = s.clk.ns ∧ (reseedMasks s).ks = (storeReseeded s).ks ∧ (reseedMasks s).parts = s.parts ∧
      ∀ n < 16, (getEngine (reseedMasks s) n).maskUsed = 0 := by
  refine ⟨?_, ?_, ?_, fun n hn => getEngine_foldl_engineReseeded _ hn⟩
  all_goals
    obtain ⟨_, _, e⟩ := foldl_facetReseeded_frame (List.range 48) (storeReseeded s)
    obtain ⟨_, _, e'⟩ := foldl_engineReseeded_frame (List.range 16) ((List.range 48).foldl facetReseeded (storeReseeded s))
    rw [reseedMasks_eq, e', e]
  all_goals rfl

/-! ## Requests at the port (R217 to R219) -/

theorem exec_rngReadTimeout {s : State} {p : Fin 256} {r : CmdRef} (h : frontDraw s p.val = some r) : exec (.rngReadTimeout p) s =
    guarded (decide (waitSince s r + 5000000 ≤ s.clk.ns))
      (fun s => popDraw r (forwardCmd r 3 [] (modCmd r (fun c => { c with draw := .failed stRngNotReady }) s))) s := by
  show execRngReadTimeout p s = _
  unfold execRngReadTimeout
  rw [h]

theorem exec_rngReadTimeout_none {s : State} {p : Fin 256} (h : frontDraw s p.val = none) : exec (.rngReadTimeout p) s = .next s := by
  show execRngReadTimeout p s = _
  unfold execRngReadTimeout
  rw [h]

theorem exec_drawSeedGenerate {s : State} {p : Fin 256} {r : CmdRef} (h : frontDraw s p.val = some r) :
    exec (.drawSeedGenerate p) s = .next (spillOut r (drawSeed p.val r s)) := by
  show execDrawSeedGenerate p s = _
  unfold execDrawSeedGenerate
  rw [h]

theorem exec_drawSeedGenerate_none {s : State} {p : Fin 256} (h : frontDraw s p.val = none) : exec (.drawSeedGenerate p) s = .next s := by
  show execDrawSeedGenerate p s = _
  unfold execDrawSeedGenerate
  rw [h]

/-- A request of a partition waits for a seed first: its generator is to be reseeded here, not by the partner (R217, R223). -/
def reseedsFirst (s : State) (p : Nat) : Bool := reseedDue s p && !(s.rng.shared && s.ilu.mirror == .standby)

section
variable {s : State} {p : Nat} (r : CmdRef)

theorem drawSeed_ready (hs : s.rng.state = .healthy) (hd : reseedsFirst s p = false) :
    drawSeed p r s = forwardCmd r 1 [] (giveSeed r s) := by
  unfold reseedsFirst at hd
  unfold drawSeed
  rw [if_pos hs, hd]
  rfl

theorem drawSeed_reseeds {x : Bytes} {l : List Bytes} (hs : s.rng.state = .healthy) (hd : reseedsFirst s p = true)
    (hp : s.rng.pool = x :: l) : drawSeed p r s = forwardCmd r 1 x (giveSeed r (reseedPart p x s)) := by
  unfold reseedsFirst at hd
  unfold drawSeed
  rw [if_pos hs, if_pos hd, hp]

theorem drawSeed_waits (h : s.rng.state ≠ .healthy ∨ (reseedsFirst s p = true ∧ s.rng.pool = [])) : drawSeed p r s = s := by
  unfold reseedsFirst at h
  unfold drawSeed
  by_cases hs : s.rng.state = .healthy
  · obtain ⟨hd, hp⟩ := h.resolve_left (not_not.mpr hs)
    rw [if_pos hs, if_pos hd, hp]
  · exact if_neg hs

end

/-- Settles O14: each event is guarded by its time and condition, and what it does is the named operation behind the guard. -/
theorem generatorEventsFollowItsStates : Obligations.GeneratorEventsFollowItsStates := by
  unfold Obligations.GeneratorEventsFollowItsStates
  refine ⟨fun s hr hs hk ht => ?katPass, fun s hr hs hk ht => ?katFail, fun s a b hr hs hk hv ht hl hn ha => ?verdictFails,
    fun s a b hr hs hk hv ht hl hn ha => ?verdictAdmits, fun s k l hr hv hl hb h0 => ?noted, fun s k l hr hv hl hb h0 ha => ?excluded,
    fun s k l hr hv hl hb h0 ha hs => ?fails, fun s l hs hl h0 hc hm hp => ?seed, fun s l hs hl h0 hc hm hp => ?poolFull,
    fun s x l hp hs ht => ?reseed, fun s h => ?reseedNot, fun s hs ht => ?masks, fun s p r hf ht => ?timeout, fun s p h => ?timeoutNot,
    fun s p r hf hs hd => ?draw, fun s p r x l hf hs hd hp => ?drawReseeds, fun s p r hf h => ?drawWaits, fun s p h => ?drawNone,
    fun b s h => ?katNot, fun s h => ?masksNot⟩
  case katPass => exact (exec_rngStartupKatEnd true s).trans (guarded_true (by simp [hr, hs, hk, ht]))
  case katFail => exact guarded_runs (exec_rngStartupKatEnd false s) (by simp [hr, hs, hk, ht]) rfl
  case verdictFails =>
    exact (exec_rngStartupVerdict_due hr hs hk hv ht hl hn).trans (congrArg Host.Outcome.next (if_pos ha))
  case verdictAdmits =>
    exact (exec_rngStartupVerdict_due hr hs hk hv ht hl hn).trans (congrArg Host.Outcome.next (if_neg (Nat.not_lt.mpr ha)))
  case noted =>
    exact guarded_runs (exec_rngHealthFail k l s) (by simp [hr, hv, hl, hb]) (if_pos h0)
  case excluded =>
    have stands : (admitted (withoutExcluded l s.rng).srcOk < 2 && s.rng.state != .failed) = false := by
      rcases ha with ha | ha
      · simp [Nat.not_lt.mpr (show 2 ≤ admitted (withoutExcluded l s.rng).srcOk from ha)]
      · simp [ha]
    refine guarded_runs (exec_rngHealthFail k l s) (by simp [hr, hv, hl, hb]) ?_
    rw [if_neg (show excluded l s.rng ≠ 0 from h0), stands]
    exact ⟨rfl, rfl, rfl, rfl, rfl, rfl, rfl, rfl⟩
  case fails =>
    have falls : (admitted (withoutExcluded l s.rng).srcOk < 2 && s.rng.state != .failed) = true := by
      simp [show admitted (withoutExcluded l s.rng).srcOk < 2 from ha, hs]
    refine guarded_runs (exec_rngHealthFail k l s) (by simp [hr, hv, hl, hb]) ?_
    rw [if_neg (show excluded l s.rng ≠ 0 from h0), falls]
    rfl
  case seed =>
    refine guarded_runs (exec_seedReady l s) (by simp [hs, hl, h0, hc, hm]) ?_
    rw [condition_full (g := absorb l (tested l s.rng)) hc]
    exact ⟨if_pos hp, rfl, rfl, rfl, rfl, rfl, rfl⟩
  case poolFull =>
    refine guarded_runs (exec_seedReady l s) (by simp [hs, hl, h0, hc, hm]) ?_
    rw [condition_full (g := absorb l (tested l s.rng)) hc]
    exact ⟨if_neg (Nat.not_lt.mpr hp), rfl, rfl, rfl, rfl, rfl, rfl⟩
  case reseed => exact (exec_moduleInstanceReseed hp).trans (guarded_true (by simp [hs, ht]))
  case reseedNot =>
    cases hp : s.rng.pool with
    | nil => exact exec_moduleInstanceReseed_empty hp
    | cons x l =>
      refine (exec_moduleInstanceReseed hp).trans (guarded_false ?_)
      rcases h with h | h | h
      · simp [hp] at h
      · simp [h]
      · simp [h]
  case masks =>
    obtain ⟨hn, hks, hparts, hengines⟩ := reseedMasks_effect s
    refine guarded_runs (exec_maskReseed s) (by simp [hs, ht]) ?_
    rw [hks]
    exact ⟨hn, rfl, rfl, rfl, hparts, getFacet_reseedMasks s, hengines⟩
  case timeout => exact guarded_runs (exec_rngReadTimeout hf) (by simp [ht]) rfl
  case timeoutNot =>
    rcases h with h | ⟨r, hf, ht⟩
    · exact exec_rngReadTimeout_none h
    · exact (exec_rngReadTimeout hf).trans (guarded_false (by simp [ht]))
  case draw => rw [exec_drawSeedGenerate hf, drawSeed_ready r hs hd]
  case drawReseeds => rw [exec_drawSeedGenerate hf, drawSeed_reseeds r hs hd hp]
  case drawWaits => rw [exec_drawSeedGenerate hf, drawSeed_waits r h]
  case drawNone => exact exec_drawSeedGenerate_none h
  case katNot => exact (exec_rngStartupKatEnd b s).trans (guarded_false h)
  case masksNot => exact (exec_maskReseed s).trans (guarded_false h)

end Sys2Proof.Proofs
end

section
/-! Scrubs, the rewrap, the memory patrol and the retirement of ranks (R129, R130, R149, R424, R429, R430, R432, R433). -/

namespace Sys2Proof.Proofs

open Sys2Proof Sys2Proof.Machine Sys2Proof.Laws

/-! ## The key store (R129, R130, R149) -/

theorem exec_slotScrub (l : List Nat) (s : State) : exec (.slotScrub l) s =
    guarded (s.svc.phase != .dark && decide (s.ks.scrubNs + 100000000 ≤ s.clk.ns)) (fun s =>
      l.foldl (fun u k => if isOnDie (BitVec.ofNat 32 k) then keyFailed (k / 2 ^ 32) (BitVec.ofNat 32 k) u else u)
        { s with ks := { s.ks with scrubNs := s.clk.ns } }) s := rfl

/-- A key reference as the rewrap leaves it (R149). -/
def rewrapEntry (g : BitVec 8) (e : KeyEntry) : KeyEntry := { e with cur := e.cur.map (rewrapVal g) }

/-- The state at the end of a rewrap. -/
def rewrapped (s : State) : State :=
  { s with ks := { s.ks with rewrap := false, keys := s.ks.keys.map (fun e => (e.1, rewrapEntry s.ks.mwkGen e.2)),
                             nor0 := s.ks.nor0.map (rewrapBacking s), nor1 := s.ks.nor1.map (rewrapBacking s) } }

theorem exec_mwkRewrapEnd (s : State) : exec .mwkRewrapEnd s = guarded (s.ks.rewrap && s.svc.phase != .dark) rewrapped s := rfl

theorem rewrapVal_gen {g : BitVec 8} {o : Option KeyVal} {v : KeyVal} (h : o.map (rewrapVal g) = some v) : v.mwkGen = g := by
  obtain ⟨w, -, rfl⟩ := Option.map_eq_some_iff.mp h
  rfl

theorem rewrapped_backing_gen {s : State} {b : Backing} {v : KeyVal} (hb : b ∈ (rewrapped s).ks.nor0 ++ (rewrapped s).ks.nor1)
    (hv : b.val = some v) : v.mwkGen = s.ks.mwkGen := by
  have images : (rewrapped s).ks.nor0 ++ (rewrapped s).ks.nor1 = (s.ks.nor0 ++ s.ks.nor1).map (rewrapBacking s) := List.map_append.symm
  rw [images] at hb
  obtain ⟨a, -, rfl⟩ := List.mem_map.mp hb
  exact rewrapVal_gen hv

theorem rewrapped_key_gen {s : State} {e : Nat × KeyEntry} {v : KeyVal} (he : e ∈ (rewrapped s).ks.keys) (hv : e.2.cur = some v) :
    v.mwkGen = s.ks.mwkGen := by
  obtain ⟨a, -, rfl⟩ := List.mem_map.mp he
  exact rewrapVal_gen hv

/-! ## The patrol (R424, R429, R430) -/

theorem exec_patrolScrub (l : List LineRead) (s : State) : exec (.patrolScrub l) s = guarded s.clk.powered (fun s => l.foldl patrolLine s) s := rfl

theorem exec_patrolScrub_line {s : State} (hp : s.clk.powered = true) (l : LineRead) : exec (.patrolScrub [l]) s = .next (patrolLine s l) :=
  (exec_patrolScrub [l] s).trans (guarded_true hp)

theorem patrolLine_corrected {l : LineRead} (h : l.corrected = true) (s : State) : patrolLine s l = correctedBurst (lineRank l.line) s := if_pos h

theorem patrolLine_poisoned {l : LineRead} {s : State} (h : l.corrected = false) (hp : l.line ∉ s.flt.poisonedLines) :
    patrolLine s l = transient { kind := 6, index := lineRank l.line } (regionPoison l.region (countPoison l.line s)) := by
  simp [patrolLine, h, hp]

theorem patrolLine_known {l : LineRead} {s : State} (h : l.corrected = false) (hp : l.line ∈ s.flt.poisonedLines) : patrolLine s l = s := by
  simp [patrolLine, h, hp]

/-! ## Ranks (R432, R433) -/

theorem exec_rankRetrain (r : Fin 16) (ok : Bool) (s : State) : exec (.rankRetrain r ok) s =
    guarded (s.svc.rank0 && !s.flt.offRanks.contains r.val && !ok) (transient { kind := 6, index := r.val }) s := rfl

/-- A retirement is over: the capacity that is left shows in Clear, and the next that waited begins. -/
def retirementOver (s : State) : State := nextRank (if s.svc.phase = .clear then setCapacity s else s)

theorem retirementOver_eq (s : State) : nextRank (if s.svc.phase == .clear then setCapacity s else s) = retirementOver s := by
  unfold retirementOver
  simp only [beq_iff_eq]

/-- Records of the vaults that could not be read are poisoned. -/
def recordsLost (l : List (Nat × Bytes)) (s : State) : State := l.foldl (fun s u => regionPoison (.vault u.1 u.2) s) s

/-- The vaults stand on the ranks that are left, `r` being off. -/
def rebuilt (r : Nat) (l : List (Nat × Bytes)) (s : State) : State :=
  setFltCause 0x100 (relayVaults { recordsLost l s with
    flt := { (recordsLost l s).flt with rebuilding := none, offRanks := (recordsLost l s).flt.offRanks ++ [r] } })

theorem regionPoison_vault_flt (p : Nat) (tag : Bytes) (s : State) : (regionPoison (.vault p tag) s).flt = s.flt := rfl

theorem recordsLost_flt (l : List (Nat × Bytes)) (s : State) : (recordsLost l s).flt = s.flt :=
  foldl_rel (fun s t => t.flt = s.flt) (fun _ => rfl) (fun _ _ _ h k => k.trans h) _
    (fun s (u : Nat × Bytes) => regionPoison_vault_flt u.1 u.2 s) l s

theorem relayVaults_evacuating (s : State) : (relayVaults s).flt.evacuating = s.flt.evacuating := by
  unfold relayVaults
  refine foldl_rel (fun s t => t.flt.evacuating = s.flt.evacuating) (fun _ => rfl) (fun _ _ _ h k => k.trans h) _ (fun u p => ?_) _ s
  dsimp only
  split <;> rfl

theorem rebuilt_evacuating (r : Nat) (l : List (Nat × Bytes)) (s : State) : (rebuilt r l s).flt.evacuating = s.flt.evacuating := by
  obtain ⟨_, _, e⟩ := setFltCause_frame 0x100 (relayVaults { recordsLost l s with
    flt := { (recordsLost l s).flt with rebuilding := none, offRanks := (recordsLost l s).flt.offRanks ++ [r] } })
  have kept : (recordsLost l s).flt.evacuating = s.flt.evacuating := by rw [recordsLost_flt]
  unfold rebuilt
  rw [e]
  exact (relayVaults_evacuating _).trans kept

theorem exec_vaultRebuildEnd_none {s : State} (h : s.flt.rebuilding = none) (l : List (Nat × Bytes)) :
    exec (.vaultRebuildEnd l) s = .next s := by
  show execVaultRebuildEnd l s = _
  unfold execVaultRebuildEnd
  rw [h]

theorem exec_vaultRebuildEnd {s : State} {r : Nat} (h : s.flt.rebuilding = some r) (l : List (Nat × Bytes)) :
    exec (.vaultRebuildEnd l) s = .next (if s.flt.evacuating then rebuilt r l s else retirementOver (rebuilt r l s)) := by
  have run : exec (.vaultRebuildEnd l) s = if (rebuilt r l s).flt.evacuating then .next (rebuilt r l s) else
      .next (nextRank (if (rebuilt r l s).svc.phase == .clear then setCapacity (rebuilt r l s) else rebuilt r l s)) := by
    show execVaultRebuildEnd l s = _
    unfold execVaultRebuildEnd
    rw [h]
    rfl
  rw [run, rebuilt_evacuating, retirementOver_eq]
  split <;> rfl

/-- The lines of rank 0 that could not be read act as poisoned, and the evacuation is over. -/
def evacuated (l : List MemRegion) (s : State) : State :=
  { l.foldl (fun s u => regionPoison u s) s with flt := { (l.foldl (fun s u => regionPoison u s) s).flt with evacuating := false } }

theorem exec_rankEvacuationEnd (l : List MemRegion) (s : State) : exec (.rankEvacuationEnd l) s =
    guarded (s.flt.evacuating && s.flt.rebuilding.isNone) (fun s => retirementOver (evacuated l s)) s := by
  simp only [← retirementOver_eq]
  rfl

/-- Settles O15: each event is guarded by its time and condition, and what it does is the named operation behind the guard. -/
theorem keyStoreAndMemoryBackgroundWork : Obligations.KeyStoreAndMemoryBackgroundWork := by
  unfold Obligations.KeyStoreAndMemoryBackgroundWork
  refine ⟨fun s l hp ht => ?scrub, fun s hw hp => ?rewrap, fun s l hp => ?patrol, fun s l hp hc => ?corrected,
    fun s l hp hc hn => ?poisoned, fun s l hp hc hn => ?known, fun s r h0 hr => ?retrain, fun s r l hr he => ?rebuiltRank0,
    fun s r l hr he => ?rebuiltOther, fun s l hr => exec_vaultRebuildEnd_none hr l, fun s l he hr => ?evacuated,
    fun l s h => ?scrubNot, fun s h => ?rewrapNot, fun l s h => ?patrolNot, fun r ok s h => ?retrainNot, fun l s h => ?evacuatedNot⟩
  case scrub => exact (exec_slotScrub l s).trans (guarded_true (by simp [hp, ht]))
  case rewrap =>
    refine guarded_runs (exec_mwkRewrapEnd s) (by simp [hw, hp]) ⟨rfl, rfl, rfl, ?_, ?_⟩
    · exact fun b hb v hv => rewrapped_backing_gen hb hv
    · exact fun e he v hv => rewrapped_key_gen he hv
  case patrol => exact (exec_patrolScrub l s).trans (guarded_true hp)
  case corrected => rw [exec_patrolScrub_line hp, patrolLine_corrected hc s]
  case poisoned => rw [exec_patrolScrub_line hp, patrolLine_poisoned hc hn]
  case known => rw [exec_patrolScrub_line hp, patrolLine_known hc hn]
  case retrain => exact (exec_rankRetrain r false s).trans (guarded_true (by simp [h0, hr]))
  case rebuiltRank0 =>
    rw [exec_vaultRebuildEnd hr l, if_pos he]
    rfl
  case rebuiltOther =>
    rw [exec_vaultRebuildEnd hr l, he]
    rfl
  case evacuated => exact (exec_rankEvacuationEnd l s).trans (guarded_true (by simp [he, hr]))
  case scrubNot => exact (exec_slotScrub l s).trans (guarded_false h)
  case rewrapNot => exact (exec_mwkRewrapEnd s).trans (guarded_false h)
  case patrolNot => exact (exec_patrolScrub l s).trans (guarded_false h)
  case retrainNot => exact (exec_rankRetrain r ok s).trans (guarded_false h)
  case evacuatedNot => exact (exec_rankEvacuationEnd l s).trans (guarded_false h)

end Sys2Proof.Proofs
end

section
/-! The cipher, digest and MAC commands, whole and as streams (R166 to R181). -/

namespace Sys2Proof.Proofs

open Sys2Proof Sys2Proof.Machine Sys2Proof.Laws Sys2Proof.Safety

/-! ## Commands at their end (R161) -/

/-- A command at its end has no result yet. -/
theorem AtEnd_fresh {op : Nat} {s : State} {r : CmdRef} {c : Cmd} {st : Status} (h : AtEnd op s r c st) : c.result = none := by
  have := h.ready
  simp only [Machine.ready, Bool.and_eq_true, Option.isNone_iff_eq_none] at this
  obtain ⟨⟨⟨⟨⟨-, fresh⟩, -⟩, -⟩, -⟩, -⟩ := this
  exact fresh

/-- A command at its end whose row gives no command a result ends with its failure and the reply of its row. -/
theorem runAccepted_fails {op : Nat} {s u : State} {r : CmdRef} {c : Cmd} {st : Status} {b : Bytes} {eff : Effect} {fail : OnFail}
    (h : AtEnd op s r c st) (hf : fail c st s = (u, b)) (hu : sameResults s u) :
    ∃ t, runAccepted op eff fail r s = .next t ∧ endedWith t r st b := by
  obtain ⟨d, found, unended⟩ := found_unended hu h.found (AtEnd_fresh h)
  refine ⟨endCmd r st b u, ?_, endCmd_result found unended st b⟩
  unfold runAccepted
  rw [h.found]
  simp only [h.ready, if_true, runCmd, h.failed, hf, found_ref h.found]

/-! ## The stream a command leaves (R177, R181) -/

theorem saveOf_congr {s t : State} (h : t.sess = s.sess) (c : Cmd) : saveOf t c = saveOf s c := by
  unfold saveOf
  cases cmdCtx c with
  | none => rfl
  | some i => exact congrArg Session.save (getSess_congr h i)

theorem closeStream_results (c : Cmd) (s : State) : sameResults s (closeStream c s) := by
  unfold closeStream
  split <;> exact sameResults_of_cmds rfl

theorem saveOf_closeStream {c : Cmd} (h : c.handle ≠ 0) (s : State) : (saveOf (closeStream c s) c).wrapped = none := by
  unfold saveOf closeStream cmdCtx
  rw [if_neg h, if_neg h]
  have written : getSess (modSess (handleIndex c.handle) (fun x => { x with save := { saveReset with saveCount := x.saveCount } }) s)
      (handleIndex c.handle) = _ := at_put _ _ _ _
  dsimp only
  rw [written]
  rfl

theorem streamAfter_results (c : Cmd) (st : Status) (s : State) : sameResults s (streamAfter c st s) := by
  unfold streamAfter
  dsimp only
  split
  · exact closeStream_results c s
  · exact sameResults_refl s

theorem streamAfter_open {c : Cmd} (h : (reqOf c).pay 5 1 = 1 ∨ (reqOf c).pay 5 1 = 2) (st : Status) (s : State) :
    streamAfter c st s = s := by
  unfold streamAfter
  rcases h with h | h <;> simp [h]

theorem streamAfter_last {c : Cmd} (h : (reqOf c).pay 5 1 = 0 ∨ (reqOf c).pay 5 1 = 3) (s : State) :
    streamAfter c stOk s = closeStream c s := by
  unfold streamAfter
  rcases h with h | h <;> simp [h]

/-- A command at work whose effect only leaves its stream ends with its answer: a first or middle command leaves the save area as it
stands, a whole message or a last one leaves it empty. -/
theorem runAccepted_leavesStream {op : Nat} {s : State} {r : CmdRef} {c : Cmd} {st : Status} {b : Bytes} {eff : Effect} {fail : OnFail}
    (h : AtWork op s r c) (he : ∀ l, eff c (setCmds s l) = (streamAfter c stOk (setCmds s l), some (st, b))) :
    ∃ t, runAccepted op eff fail r s = .next t ∧ endedWith t r st b ∧
      (c.handle ≠ 0 → (reqOf c).pay 5 1 = 1 ∨ (reqOf c).pay 5 1 = 2 → saveOf t c = saveOf s c) ∧
      (c.handle ≠ 0 → (reqOf c).pay 5 1 = 0 ∨ (reqOf c).pay 5 1 = 3 → (saveOf t c).wrapped = none) := by
  obtain ⟨t, l, run, ended, sess⟩ := runAccepted_sess h he fun l => streamAfter_results c stOk (setCmds s l)
  refine ⟨t, run, ended, fun _ goesOn => ?_, fun named last => ?_⟩
  · rw [streamAfter_open goesOn] at sess
    exact saveOf_congr sess c
  · rw [saveOf_congr sess, streamAfter_last last]
    exact saveOf_closeStream named (setCmds s l)

/-! ## The comparisons at the first item of a stream command (R177) -/

section
variable {s : State} {c : Cmd} {g m off : Nat}

theorem streamCause_first (h : stream23 (reqOf c) = false) : streamCause s c g m off = none := by
  simp [streamCause, h]

theorem streamCause_empty (h : stream23 (reqOf c) = true) (hw : (saveOf s c).wrapped = none) : streamCause s c g m off = some 4 := by
  simp [streamCause, h, hw]

theorem streamCause_otherKind (h : stream23 (reqOf c) = true) (hw : (saveOf s c).wrapped ≠ none)
    (hk : (saveOf s c).group.toNat ≠ g ∨ (saveOf s c).modeAlg.toNat ≠ m ∨ (saveOf s c).key ≠ (reqOf c).key 0) :
    streamCause s c g m off = some 7 := by
  simp [streamCause, h, hw, or_assoc, hk]

/-- The saved state is of the command's own kind and key: what decides is the offset, then the version of the key. -/
theorem streamCause_sameKind (h : stream23 (reqOf c) = true) (hw : (saveOf s c).wrapped ≠ none) (hg : (saveOf s c).group.toNat = g)
    (hm : (saveOf s c).modeAlg.toNat = m) (hk : (saveOf s c).key = (reqOf c).key 0) :
    streamCause s c g m off =
      if (saveOf s c).offset ≠ off then some 3
      else if (saveOf s c).key ≠ 0 ∧ (saveOf s c).keyVersion ≠ loadVersion c (saveOf s c).key then some 5 else none := by
  simp [streamCause, h, hw, hg, hm, ← hk]

end

/-! ## SYM_ENCRYPT and SYM_DECRYPT (R167, R172, R173, R176, R178) -/

/-- The reply header of a cipher command that has processed its whole text (R176). -/
def textDone (s : State) (enc : Bool) (c : Cmd) (iv tag : Bytes) : Bytes :=
  symHeader (symText (reqOf c)).length ((symIn s enc c).prev.length + (symText (reqOf c)).length) 0 iv tag

/-- The output of a cipher command for its whole text. -/
def textOut (s : State) (enc : Bool) (c : Cmd) (v : KeyVal) : Bytes := symOut enc (reqOf c) v (symIn s enc c) (symText (reqOf c))

/-- Data of a cipher command that its committed items have processed: bytes of additional data, and the text. -/
def textCommitted (c : Cmd) : Nat × Bytes := symSplit (reqOf c) (committed c)

/-- The reply header of a cipher command that ends with `st` after its committed items (R161, R176). -/
def textCut (s : State) (enc : Bool) (c : Cmd) (st : Status) (iv : Bytes) : Bytes :=
  symHeader (textCommitted c).2.length ((symIn s enc c).prev.length + (textCommitted c).2.length)
    (if st = stAborted then c.abort.getD 0 else 0) iv []

section
variable {s : State} {c : Cmd} {v : KeyVal} {enc : Bool}

theorem runSym_gone (hv : loadKey s c ((reqOf c).key 0) = none) :
    runSym enc c s = (s, some (stKeyNotFound, symHeader 0 (symIn s enc c).prev.length 0 [] [])) := by
  unfold runSym
  exact withKey_gone hv ..

theorem runSym_notGcm (hv : loadKey s c ((reqOf c).key 0) = some v) (hc : symKeyChk enc (reqOf c) v.attr = none)
    (hm : symMode (reqOf c) ≠ 7) :
    runSym enc c s = (streamAfter c stOk s, some (stOk, textDone s enc c [] [] ++ textOut s enc c v)) := by
  unfold runSym
  dsimp only
  rw [withKey_loaded hv hc, if_neg hm]
  rfl

/-- With nothing before it, the output of a GCM command is the whole ciphertext. -/
theorem textOut_gcm_first (hm : symMode (reqOf c) = 7) (hp : (symIn s enc c).prev = []) :
    textOut s enc c v = modeRun 7 enc v.attr.alg v.material (symIn s enc c).iv (symText (reqOf c)) := by
  simp [textOut, symOut, wholeLen, hm, hp]

/-- GCM encryption computes its tag over the ciphertext of the whole stream. -/
theorem runSym_gcmEncrypt (hv : loadKey s c ((reqOf c).key 0) = some v) (hc : symKeyChk true (reqOf c) v.attr = none)
    (hm : symMode (reqOf c) = 7) :
    runSym true c s = (streamAfter c stOk s, some (stOk,
      textDone s true c (if (reqOf c).pay 5 1 ≤ 1 then (symIn s true c).iv else [])
        (if (reqOf c).pay 5 1 = 0 ∨ (reqOf c).pay 5 1 = 3 then
          (gcmTag v.material (symIn s true c).iv (symIn s true c).aad
            (modeRun 7 true v.attr.alg v.material (symIn s true c).iv ((symIn s true c).prev ++ symText (reqOf c)))).take ((reqOf c).pay 6 1)
          else []) ++ textOut s true c v)) := by
  have whole : (if (symIn s true c).prev.isEmpty then textOut s true c v
      else modeRun 7 true v.attr.alg v.material (symIn s true c).iv ((symIn s true c).prev ++ symText (reqOf c))) =
      modeRun 7 true v.attr.alg v.material (symIn s true c).iv ((symIn s true c).prev ++ symText (reqOf c)) := by
    split
    next first =>
      have nothing := List.isEmpty_iff.mp first
      rw [textOut_gcm_first hm nothing, nothing, List.nil_append]
    · rfl
  unfold runSym
  dsimp only
  unfold textOut at whole
  rw [withKey_loaded hv hc, if_pos hm, if_pos rfl, whole]
  simp only [Bool.or_eq_true, decide_eq_true_eq]
  rfl

/-- The tag that GCM decryption computes (R173). -/
def computedTag (s : State) (c : Cmd) (v : KeyVal) : Bytes :=
  (gcmTag v.material (symIn s false c).iv (symIn s false c).aad (symText (reqOf c))).take ((reqOf c).pay 6 1)

theorem runSym_gcmDecrypt_agrees (hv : loadKey s c ((reqOf c).key 0) = some v) (hc : symKeyChk false (reqOf c) v.attr = none)
    (hm : symMode (reqOf c) = 7) (ht : computedTag s c v = bsub c.payload 0x30 ((reqOf c).pay 6 1)) :
    runSym false c s = (streamAfter c stOk s, some (stOk, textDone s false c [] [] ++ textOut s false c v)) := by
  unfold runSym
  dsimp only
  rw [withKey_loaded hv hc, if_pos hm, if_neg Bool.false_ne_true]
  exact if_pos ht

/-- No text is given where the tag disagrees (R178). -/
theorem runSym_gcmDecrypt_disagrees (hv : loadKey s c ((reqOf c).key 0) = some v) (hc : symKeyChk false (reqOf c) v.attr = none)
    (hm : symMode (reqOf c) = 7) (ht : computedTag s c v ≠ bsub c.payload 0x30 ((reqOf c).pay 6 1)) :
    runSym false c s = (streamAfter c stOk s, some (stVerifyFailed, textDone s false c [] [])) := by
  unfold runSym
  dsimp only
  rw [withKey_loaded hv hc, if_pos hm, if_neg Bool.false_ne_true]
  exact if_neg ht

theorem failSym_gone (hv : loadKey s c ((reqOf c).key 0) = none) (st : Status) :
    failSym enc c st s = (streamAfter c st s, textCut s enc c st []) := by
  unfold failSym
  dsimp only
  rw [hv]
  rfl

/-- The committed items stand, with their output when the status is ABORTED; GCM decryption gives none without its tag (R176). -/
theorem failSym_loaded (hv : loadKey s c ((reqOf c).key 0) = some v) (st : Status) :
    failSym enc c st s = (streamAfter c st s,
      textCut s enc c st (if symMode (reqOf c) = 7 ∧ enc = true ∧ (reqOf c).pay 5 1 ≤ 1 ∧ 0 < (textCommitted c).1 + (textCommitted c).2.length
        then (symIn s enc c).iv else []) ++
      (if st = stAborted ∧ ¬ (symMode (reqOf c) = 7 ∧ enc = false) then symOut enc (reqOf c) v (symIn s enc c) (textCommitted c).2
        else [])) := by
  unfold failSym
  dsimp only
  rw [hv]
  simp only [Bool.and_eq_true, decide_eq_true_eq, Bool.not_eq_true', Bool.and_eq_false_iff, decide_eq_false_iff_not, Bool.not_eq_false',
    not_and_or, Bool.not_eq_false, and_assoc]
  rfl

variable {op : Nat} {r : CmdRef} {eff : Effect}

/-- A cipher command at its end replies what its committed items processed, the key being there or gone. -/
theorem runAccepted_failsSym {st : Status} (h : AtEnd op s r c st) :
    ∃ t, runAccepted op eff (failSym enc) r s = .next t ∧
      (loadKey s c ((reqOf c).key 0) = none → endedWith t r st (textCut s enc c st [])) ∧
      (∀ v, loadKey s c ((reqOf c).key 0) = some v → endedWith t r st
        (textCut s enc c st (if symMode (reqOf c) = 7 ∧ enc = true ∧ (reqOf c).pay 5 1 ≤ 1 ∧
            0 < (textCommitted c).1 + (textCommitted c).2.length then (symIn s enc c).iv else []) ++
          (if st = stAborted ∧ ¬ (symMode (reqOf c) = 7 ∧ enc = false) then symOut enc (reqOf c) v (symIn s enc c) (textCommitted c).2
            else []))) := by
  cases hv : loadKey s c ((reqOf c).key 0) with
  | none =>
    obtain ⟨t, run, ended⟩ := runAccepted_fails h (failSym_gone hv st) (streamAfter_results c st s)
    exact ⟨t, run, fun _ => ended, by simp⟩
  | some v =>
    obtain ⟨t, run, ended⟩ := runAccepted_fails h (failSym_loaded hv st) (streamAfter_results c st s)
    exact ⟨t, run, by simp, fun w hw => by cases hw; exact ended⟩

end

/-- Settles O39: every command ends in the state its stream leaves it, and the comparisons and the save area are read off their
definitions. -/
theorem ciphersRunOneShotAndAsStreams : Obligations.CiphersRunOneShotAndAsStreams := by
  unfold Obligations.CiphersRunOneShotAndAsStreams
  refine ⟨fun s r c v h hv hc hm => ?encrypt, fun s r c v h hv hc hm => ?gcmEncrypt, fun s r c v h hv hc hm => ?decrypt,
    fun s r c v h hv hc hm => ?gcmDecrypt, fun s r c st h => ?encryptCut, fun s r c st h => ?decryptCut, fun s r c h hv => ?encryptGone,
    fun s r c h hv => ?decryptGone, fun s c g m off => ⟨streamCause_first, fun h => ?cause⟩, fun s c e alg n => ?saved⟩
  case encrypt => exact runAccepted_leavesStream h fun l => runSym_notGcm (s := setCmds s l) hv hc hm
  case gcmEncrypt => exact runAccepted_leavesStream h fun l => runSym_gcmEncrypt (s := setCmds s l) hv hc hm
  case decrypt => exact runAccepted_leavesStream h fun l => runSym_notGcm (s := setCmds s l) hv hc hm
  case gcmDecrypt =>
    by_cases ht : computedTag s c v = bsub c.payload 0x30 ((reqOf c).pay 6 1)
    · obtain ⟨t, run, ended, -⟩ := runAccepted_leavesStream (b := textDone s false c [] [] ++ textOut s false c v) h
        fun l => runSym_gcmDecrypt_agrees (s := setCmds s l) hv hc hm ht
      exact ⟨t, run, fun _ => ended, fun disagrees => absurd ht disagrees⟩
    · obtain ⟨t, run, ended, -⟩ := runAccepted_leavesStream (b := textDone s false c [] []) h
        fun l => runSym_gcmDecrypt_disagrees (s := setCmds s l) hv hc hm ht
      exact ⟨t, run, fun agrees => absurd agrees ht, fun _ => ended⟩
  case encryptCut =>
    obtain ⟨t, run, gone, loaded⟩ := runAccepted_failsSym (enc := true) (eff := runSym true) h
    exact ⟨t, run, gone, fun v hv => by simpa [textCut, textCommitted] using loaded v hv⟩
  case decryptCut =>
    obtain ⟨t, run, gone, loaded⟩ := runAccepted_failsSym (enc := false) (eff := runSym false) h
    exact ⟨t, run, gone, fun v hv => by simpa [textCut, textCommitted] using loaded v hv⟩
  case encryptGone => exact runAccepted_replies h fun l => runSym_gone (s := setCmds s l) hv
  case decryptGone => exact runAccepted_replies h fun l => runSym_gone (s := setCmds s l) hv
  case cause =>
    refine ⟨streamCause_empty h, streamCause_otherKind h, fun hw hg hm hk ho => ?offset, fun hw hg hm hk ho h0 hn => ?version,
      fun hw hg hm hk ho hn => ?agrees⟩
    case offset => rw [streamCause_sameKind h hw hg hm hk, if_pos ho]
    case version => rw [streamCause_sameKind h hw hg hm hk, if_neg (not_not_intro ho), if_pos ⟨h0, hn⟩]
    case agrees =>
      rw [streamCause_sameKind h hw hg hm hk, if_neg (not_not_intro ho), if_neg]
      exact fun ⟨h0, differs⟩ => hn.elim h0 differs
  case saved => exact ⟨rfl, rfl, rfl, rfl, rfl, rfl⟩

/-! ## The digest and MAC commands (R169, R174, R178) -/

/-- The reply of a digest or MAC command that has absorbed all its data (R176). -/
def macDone (s : State) (c : Cmd) (result : Bytes) : Bytes := macReply (macData (reqOf c)).length (message s c).length 0 result

section
variable {s : State} {c : Cmd} {k : Option KeyVal} {verify : Bool}

/-- A first or middle command of a stream gives no result. -/
theorem runMacWith_open (h : (reqOf c).pay 5 1 = 1 ∨ (reqOf c).pay 5 1 = 2) :
    runMacWith verify c k s = (streamAfter c stOk s, some (stOk, macDone s c [])) := by
  unfold runMacWith
  dsimp only
  rw [if_pos (by simpa using h)]
  rfl

theorem runMacWith_generates (h1 : (reqOf c).pay 5 1 ≠ 1) (h2 : (reqOf c).pay 5 1 ≠ 2) :
    runMacWith false c k s = (streamAfter c stOk s, some (stOk, macDone s c (macValue (reqOf c) k (message s c)))) := by
  unfold runMacWith
  dsimp only
  rw [if_neg (by simp [h1, h2]), if_neg Bool.false_ne_true]
  rfl

/-- The value a verification computes is the one it expects (R178). -/
def macAgrees (s : State) (c : Cmd) (k : Option KeyVal) : Prop :=
  macValue (reqOf c) k (message s c) = (macExpected (reqOf c)).take (macValue (reqOf c) k (message s c)).length

theorem runMacWith_agrees (h1 : (reqOf c).pay 5 1 ≠ 1) (h2 : (reqOf c).pay 5 1 ≠ 2) (h : macAgrees s c k) :
    runMacWith true c k s = (streamAfter c stOk s, some (stOk, macDone s c [])) := by
  unfold runMacWith
  dsimp only
  rw [if_neg (by simp [h1, h2]), if_pos rfl]
  exact if_pos h

theorem runMacWith_disagrees (h1 : (reqOf c).pay 5 1 ≠ 1) (h2 : (reqOf c).pay 5 1 ≠ 2) (h : ¬ macAgrees s c k) :
    runMacWith true c k s = (streamAfter c stOk s, some (stVerifyFailed, macDone s c [])) := by
  unfold runMacWith
  dsimp only
  rw [if_neg (by simp [h1, h2]), if_pos rfl]
  exact if_neg h

theorem runDig_unkeyed : runDig false verify c s = runMacWith verify c none s := rfl

theorem runDig_loaded {v : KeyVal} (hv : loadKey s c ((reqOf c).key 0) = some v) (hc : macKeyChk verify (reqOf c) v.attr = none) :
    runDig true verify c s = runMacWith verify c (some v) s := by
  unfold runDig
  exact withKey_loaded hv hc ..

theorem runDig_gone (hv : loadKey s c ((reqOf c).key 0) = none) :
    runDig true verify c s = (s, some (stKeyNotFound, macReply 0 (baseOf s c).offset 0 [])) := by
  unfold runDig
  exact withKey_gone hv ..

variable {op : Nat} {r : CmdRef} {eff : Effect} {fail : OnFail}

/-- A command at work that computes a digest or MAC replies it at the end of its message, and leaves its stream. -/
theorem runAccepted_generates (h : AtWork op s r c) (he : ∀ l, eff c (setCmds s l) = runMacWith false c k (setCmds s l)) :
    ∃ t, runAccepted op eff fail r s = .next t ∧
      ((reqOf c).pay 5 1 = 1 ∨ (reqOf c).pay 5 1 = 2 →
        endedWith t r stOk (macDone s c []) ∧ (c.handle ≠ 0 → saveOf t c = saveOf s c)) ∧
      ((reqOf c).pay 5 1 ≠ 1 → (reqOf c).pay 5 1 ≠ 2 →
        endedWith t r stOk (macDone s c (macValue (reqOf c) k (message s c))) ∧
        (c.handle ≠ 0 → (reqOf c).pay 5 1 = 0 ∨ (reqOf c).pay 5 1 = 3 → (saveOf t c).wrapped = none)) := by
  by_cases goesOn : (reqOf c).pay 5 1 = 1 ∨ (reqOf c).pay 5 1 = 2
  · obtain ⟨t, run, ended, kept, -⟩ := runAccepted_leavesStream (b := macDone s c []) h
      fun l => (he l).trans (runMacWith_open (s := setCmds s l) goesOn)
    exact ⟨t, run, fun _ => ⟨ended, fun named => kept named goesOn⟩, fun h1 h2 => absurd goesOn (not_or.mpr ⟨h1, h2⟩)⟩
  · obtain ⟨h1, h2⟩ := not_or.mp goesOn
    obtain ⟨t, run, ended, -, closed⟩ := runAccepted_leavesStream (b := macDone s c (macValue (reqOf c) k (message s c))) h
      fun l => (he l).trans (runMacWith_generates (s := setCmds s l) h1 h2)
    exact ⟨t, run, fun early => absurd early goesOn, fun _ _ => ⟨ended, closed⟩⟩

/-- A command at work that verifies a digest or MAC gives its verdict at the end of its message. -/
theorem runAccepted_verifies (h : AtWork op s r c) (he : ∀ l, eff c (setCmds s l) = runMacWith true c k (setCmds s l)) :
    ∃ t, runAccepted op eff fail r s = .next t ∧
      ((reqOf c).pay 5 1 = 1 ∨ (reqOf c).pay 5 1 = 2 →
        endedWith t r stOk (macDone s c []) ∧ (c.handle ≠ 0 → saveOf t c = saveOf s c)) ∧
      ((reqOf c).pay 5 1 ≠ 1 → (reqOf c).pay 5 1 ≠ 2 → macAgrees s c k → endedWith t r stOk (macDone s c [])) ∧
      ((reqOf c).pay 5 1 ≠ 1 → (reqOf c).pay 5 1 ≠ 2 → ¬ macAgrees s c k → endedWith t r stVerifyFailed (macDone s c [])) := by
  by_cases goesOn : (reqOf c).pay 5 1 = 1 ∨ (reqOf c).pay 5 1 = 2
  · have never (h1 : (reqOf c).pay 5 1 ≠ 1) (h2 : (reqOf c).pay 5 1 ≠ 2) : False := not_or.mpr ⟨h1, h2⟩ goesOn
    obtain ⟨t, run, ended, kept, -⟩ := runAccepted_leavesStream (b := macDone s c []) h
      fun l => (he l).trans (runMacWith_open (s := setCmds s l) goesOn)
    exact ⟨t, run, fun _ => ⟨ended, fun named => kept named goesOn⟩, fun h1 h2 => (never h1 h2).elim, fun h1 h2 => (never h1 h2).elim⟩
  obtain ⟨h1, h2⟩ := not_or.mp goesOn
  by_cases agrees : macAgrees s c k
  · obtain ⟨t, run, ended, -⟩ := runAccepted_leavesStream (b := macDone s c []) h
      fun l => (he l).trans (runMacWith_agrees (s := setCmds s l) h1 h2 agrees)
    exact ⟨t, run, fun early => absurd early goesOn, fun _ _ _ => ended, fun _ _ no => absurd agrees no⟩
  · obtain ⟨t, run, ended, -⟩ := runAccepted_leavesStream (b := macDone s c []) h
      fun l => (he l).trans (runMacWith_disagrees (s := setCmds s l) h1 h2 agrees)
    exact ⟨t, run, fun early => absurd early goesOn, fun _ _ yes => absurd yes agrees, fun _ _ _ => ended⟩

/-- A digest or MAC command at its end counts the bytes its committed items absorbed (R161, R176). -/
theorem runAccepted_failsDig {st : Status} (h : AtEnd op s r c st) :
    ∃ t, runAccepted op eff failDig r s = .next t ∧
      endedWith t r st (macReply (committed c)
        ((if stream23 (reqOf c) = true then (baseOf s c).offset else 0) + min (committed c) (macData (reqOf c)).length)
        (if st = stAborted then c.abort.getD 0 else 0) []) :=
  runAccepted_fails h rfl (streamAfter_results c st s)

end

/-- Settles O40: the four commands are one computation over the message, with or without a key, that replies its value or compares it. -/
theorem digestsAndMacsRunOneShotAndAsStreams : Obligations.DigestsAndMacsRunOneShotAndAsStreams := by
  unfold Obligations.DigestsAndMacsRunOneShotAndAsStreams
  refine ⟨fun s r c h => ?digest, fun s r c h => ?digestVerify, fun s r c v h hv hc => ?generate, fun s r c v h hv hc => ?verify,
    fun s r c st h => runAccepted_failsDig h, fun s r c st h => runAccepted_failsDig h, fun s r c st h => runAccepted_failsDig h,
    fun s r c st h => runAccepted_failsDig h, fun s r c h hv => ?generateGone, fun s r c h hv => ?verifyGone,
    fun s c keyed alg n => ?saved⟩
  case digest => exact runAccepted_generates h fun l => runDig_unkeyed
  case digestVerify => exact runAccepted_verifies h fun l => runDig_unkeyed
  case generate => exact runAccepted_generates h fun l => runDig_loaded (s := setCmds s l) hv hc
  case verify => exact runAccepted_verifies h fun l => runDig_loaded (s := setCmds s l) hv hc
  case generateGone => exact runAccepted_replies h fun l => runDig_gone (s := setCmds s l) hv
  case verifyGone => exact runAccepted_replies h fun l => runDig_gone (s := setCmds s l) hv
  case saved => exact ⟨rfl, rfl, rfl, rfl, rfl⟩

end Sys2Proof.Proofs
end

section
/-! The debug port and field reopen (R194, R365, R370 to R376, R450). -/

namespace Sys2Proof.Proofs

open Sys2Proof Sys2Proof.Machine Sys2Proof.Laws

/-! ## Selecting an instruction (R370, R371)

Every instruction of the port but TAP_RESET is `tapSelect` of its code and its action; the three cases of `tapSelect` are said once. -/

section
variable {s : State} {ir : Nat} {act : State → State}

theorem tapSelect_unpowered (h : s.clk.powered = false) : tapSelect ir act s = .next s := guarded_false h

theorem tapSelect_bypasses (h : s.clk.powered = true) (hp : irPermitted s ir = false) :
    tapSelect ir act s = .next (debugLog 3 ir 0 (setIr irBypass s)) := by
  unfold tapSelect
  rw [guarded_true h, if_neg (by simp [hp])]

theorem tapSelect_selects (h : s.clk.powered = true) (hp : irPermitted s ir = true) : tapSelect ir act s = .next (act (setIr ir s)) := by
  unfold tapSelect
  rw [guarded_true h, if_pos hp]

end

theorem exec_idcode (s : State) : exec .idcode s = tapSelect irIdcode (tapOut 32 0x1964853B) s := rfl

theorem exec_bypass (s : State) : exec .bypass s = tapSelect irBypass (tapOut 1 0) s := rfl

theorem exec_samplePreload (b : Bytes) (s : State) : exec (.samplePreload b) s =
    tapSelect irSample (fun u => tapOut (8 * b.length) (leNat b) (modLife (fun l => { l with scanOut := b }) u)) s := rfl

theorem exec_extest (b : Bytes) (s : State) :
    exec (.extest b) s = tapSelect irExtest (modLife (fun l => { l with scanOut := b, driving := true })) s := rfl

theorem exec_clamp (s : State) :
    exec .clamp s = tapSelect irClamp (fun u => tapOut 1 0 (modLife (fun l => { l with driving := true }) u)) s := rfl

theorem exec_highz (s : State) :
    exec .highz s = tapSelect irHighz (fun u => tapOut 1 0 (modLife (fun l => { l with highz := true }) u)) s := rfl

theorem exec_dbgStatus (s : State) : exec .dbgStatus s = tapSelect irStatus (fun u => tapOut 32 (dbgStatusWord u) u) s := rfl

theorem exec_islandDebug (op : BitVec 8) (d : BitVec 64) (s : State) : exec (.islandDebug op d) s = tapSelect irIsland tapFree s := rfl

theorem exec_memTest (op : BitVec 8) (d : BitVec 64) (s : State) : exec (.memTest op d) s = tapSelect irMemTest tapFree s := rfl

theorem exec_tapReset (s : State) : exec .tapReset s = guarded s.clk.powered (setIr irIdcode) s := rfl

theorem lifeCycle_setIr (ir : Nat) (s : State) : lifeCycle (setIr ir s) = lifeCycle s := rfl

/-! ## The challenge and its response (R374, R375) -/

theorem challengeLive_over {s : State} {c : Bytes} {n : BitVec 64} (hc : s.life.challenge = some (c, n))
    (ht : n.toNat + secTicks 600 ≤ s.hzn.time.toNat) : challengeLive s = none := by
  unfold challengeLive
  rw [hc]
  exact if_neg (by omega)

theorem exec_debugChallengeExpiry (s : State) : exec .debugChallengeExpiry s =
    guarded (s.life.challenge.isSome && (challengeLive s).isNone) (modLife (fun l => { l with challenge := none })) s := rfl

/-- Challenge `b` is issued: it is scanned out and replaces one that is live. -/
def issueChallenge (b : Bytes) (s : State) : State :=
  tapOut 768 (leNat b) (modLife (fun l => { l with challenge := some (b, s.hzn.time) }) s)

theorem exec_dbgChallenge (s : State) : exec .dbgChallenge s = tapSelect irChallenge (fun u =>
    issueChallenge (challengeBytes (islandMask 32 u).2 (islandMask 32 u).1) (islandMask 32 u).2) s := rfl

/-- Neither the instruction register nor the mask stream's position enters a challenge. -/
theorem challengeBytes_selected (ir n : Nat) (s : State) (b : Bytes) :
    challengeBytes (islandMask n (setIr ir s)).2 b = challengeBytes s b := rfl

theorem respVerifies_setIr (ir : Nat) (s : State) (h kb sig : Bytes) : respVerifies (setIr ir s) h kb sig = respVerifies s h kb sig := rfl

/-- A response is judged and takes the challenge with it (R374, R375). -/
def takeResponse (h kb sig : Bytes) (s : State) : State :=
  if respVerifies s h kb sig then enterInspection h (modLife (fun l => { l with challenge := none }) s)
  else debugLog 4 irResponse 0 (modLife (fun l => { l with challenge := none }) s)

theorem exec_dbgResponse (h kb sig : Bytes) (s : State) :
    exec (.dbgResponse h kb sig) s = tapSelect irResponse (takeResponse h kb sig) s := rfl

theorem takeResponse_verifies {h kb sig : Bytes} {s : State} (verifies : respVerifies s h kb sig = true) :
    takeResponse h kb sig s = enterInspection h (modLife (fun l => { l with challenge := none }) s) := if_pos verifies

theorem takeResponse_fails {h kb sig : Bytes} {s : State} (fails : respVerifies s h kb sig = false) :
    takeResponse h kb sig s = debugLog 4 irResponse 0 (modLife (fun l => { l with challenge := none }) s) :=
  if_neg (by simp [fails])

/-- A log entry touches the debug log alone, whether it is written or waits for the island (R376). -/
theorem debugLog_frame (kind ir addr : Nat) (s : State) : ∃ l n c d,
    debugLog kind ir addr s = { s with life := { s.life with log := l, logNext := n, cntDebug := c, logDue := d } } := by
  unfold debugLog modLife
  dsimp only
  split
  · exact ⟨_, _, _, _, rfl⟩
  · exact ⟨_, _, _, _, rfl⟩

theorem enterInspection_effect (h : Bytes) (s : State) : (enterInspection h s).life.inspection = true ∧
    (enterInspection h s).life.scope = BitVec.ofNat 3 (respScope h) ∧ (enterInspection h s).ks.sealed = true := by
  unfold enterInspection
  dsimp only
  generalize (if respRevoke h = true then _ else _ : State) = u
  obtain ⟨i, b, o, left⟩ := leaveFailed_frame 3 { modLife _ u with ks := _ }
  obtain ⟨l, n, c, d, logged⟩ := debugLog_frame 5 irResponse 0 (leaveFailed 3 { modLife _ u with ks := _ })
  rw [logged, left]
  exact ⟨rfl, rfl, rfl⟩

/-! ## OTP_PROG (R365, R371) -/

/-- The addresses that the life-cycle state lets OTP_PROG program. -/
def otpProgReaches (l : LifeCycle) (a : Nat) : Bool :=
  match l with
  | .raw => factoryField a
  | .test => factoryArea a
  | _ => false

theorem otpProgReaches_raw (a : Nat) : otpProgReaches .raw a = factoryField a := rfl

theorem otpProgReaches_notRaw {l : LifeCycle} (h : l ≠ .raw) (a : Nat) : otpProgReaches l a = true ↔ l = .test ∧ factoryArea a = true := by
  cases l with
  | raw => exact absurd rfl h
  | test => simp [otpProgReaches]
  | personalised | deployed | returned | scrap => simp [otpProgReaches]

/-- A byte is programmed where the life-cycle state lets it be. -/
def otpProgs (a : Nat) (b : Byte) (s : State) : State := if otpProgReaches (lifeCycle s) a then programOtp a [b] s else s

theorem exec_otpProg (a : Nat) (b : Byte) (s : State) : exec (.otpProg a b) s = tapSelect irOtpProg (otpProgs a b) s := by
  change execOtpProg a b s = _
  unfold execOtpProg otpProgs otpProgReaches
  rfl

theorem otpProgs_setIr (ir a : Nat) (b : Byte) (s : State) : otpProgs a b (setIr ir s) =
    if otpProgReaches (lifeCycle s) a then programOtp a [b] (setIr ir s) else setIr ir s := by
  rw [otpProgs, lifeCycle_setIr]

theorem exec_otpProg_selects {s : State} (a : Nat) (b : Byte) (hp : s.clk.powered = true) (hi : irPermitted s irOtpProg = true) :
    exec (.otpProg a b) s =
      .next (if otpProgReaches (lifeCycle s) a then programOtp a [b] (setIr irOtpProg s) else setIr irOtpProg s) := by
  rw [exec_otpProg, tapSelect_selects hp hi, otpProgs_setIr]

/-! ## The fabric and the cores (R194, R371, R373) -/

/-- What an access to the fabric does, by its region and direction (R373). -/
def dapActs (w : Bool) (g : DapRegion) (a : BitVec 40) (s : State) : State :=
  match g, w with
  | .locked, false => debugLog 1 irDap a.toNat (tapError (tapOut 64 (2 ^ 64 - 1) s))
  | .locked, true => debugLog 2 irDap a.toNat (tapError s)
  | .other, false => tapFree s
  | .other, true => s

theorem exec_dapAccess (w : Bool) (g : DapRegion) (a : BitVec 40) (d : BitVec 64) (s : State) :
    exec (.dapAccess w g a d) s = tapSelect irDap (dapActs w g a) s := rfl

/-- A core as operation 0 halts it: it stands in the list once. -/
def halts (core : Fin 8) (s : State) : State := modLife (fun l => { l with halted := l.halted.filter (· != core.val) ++ [core.val] }) s

theorem exec_coreDebug (core : Fin 8) (op : BitVec 8) (d : BitVec 64) (s : State) : exec (.coreDebug core op d) s =
    tapSelect irCore (fun u => if op = 0 then halts core u else if op = 2 then tapFree u else u) s := rfl

/-- Settles O26: an instruction is one of unpowered, not permitted, or selected, and one that is selected acts on the state `setIr` leaves. -/
theorem debugPortInstructionsAct : Obligations.DebugPortInstructionsAct := by
  unfold Obligations.DebugPortInstructionsAct
  refine ⟨fun s b kb sig w g a d c op n x hp => ?unpowered, fun s b kb sig w g a d c op n x hp => ?bypasses, fun s hp => ?tapReset,
    fun s hp hi => ?idcode, fun s hp hi => ?bypass, fun s b hp hi => ?samplePreload, fun s b hp hi => ?extest, fun s hp hi => ?clamp,
    fun s hp hi => ?highz, fun s hp hi => ?status, fun s hp hi => ?challenge, fun s h kb sig hp hi => ?response,
    fun s c n hc ht => ?expiry, fun s a d hp hi => ?lockedRead, fun s a d hp hi => ?lockedWrite, fun s a d hp hi => ?otherWrite,
    fun s a d hp hi => ?otherRead, fun s core d hp hi => ?halt, fun s core op d hp hi => ⟨fun h2 => ?coreReads, fun h0 h2 => ?coreOther⟩,
    fun s op d hp hi => ?island, fun s op d hp hi => ?memTest, fun s a b hp hi hl hf => ?factory, fun s a b hp hi hl hf => ?notFactory,
    fun s a b hp hi hl => ?notRaw, fun s hp => ?tapResetNot, fun s h => ?expiryNot⟩
  case unpowered =>
    simp only [exec_idcode, exec_bypass, exec_samplePreload, exec_extest, exec_clamp, exec_highz, exec_dbgStatus, exec_dbgChallenge,
      exec_dbgResponse, exec_dapAccess, exec_coreDebug, exec_islandDebug, exec_memTest, exec_otpProg, tapSelect_unpowered hp, and_self]
  case bypasses =>
    exact ⟨fun no => (exec_idcode s).trans (tapSelect_bypasses hp no), fun no => (exec_bypass s).trans (tapSelect_bypasses hp no),
      fun no => (exec_samplePreload b s).trans (tapSelect_bypasses hp no), fun no => (exec_extest b s).trans (tapSelect_bypasses hp no),
      fun no => (exec_clamp s).trans (tapSelect_bypasses hp no), fun no => (exec_highz s).trans (tapSelect_bypasses hp no),
      fun no => (exec_dbgStatus s).trans (tapSelect_bypasses hp no), fun no => (exec_dbgChallenge s).trans (tapSelect_bypasses hp no),
      fun no => (exec_dbgResponse b kb sig s).trans (tapSelect_bypasses hp no),
      fun no => (exec_dapAccess w g a d s).trans (tapSelect_bypasses hp no),
      fun no => (exec_coreDebug c op d s).trans (tapSelect_bypasses hp no),
      fun no => (exec_islandDebug op d s).trans (tapSelect_bypasses hp no),
      fun no => (exec_memTest op d s).trans (tapSelect_bypasses hp no), fun no => (exec_otpProg n x s).trans (tapSelect_bypasses hp no)⟩
  case tapReset => exact (exec_tapReset s).trans (guarded_true hp)
  case idcode => exact (exec_idcode s).trans (tapSelect_selects hp hi)
  case bypass => exact (exec_bypass s).trans (tapSelect_selects hp hi)
  case samplePreload => exact (exec_samplePreload b s).trans (tapSelect_selects hp hi)
  case extest => exact (exec_extest b s).trans (tapSelect_selects hp hi)
  case clamp => exact (exec_clamp s).trans (tapSelect_selects hp hi)
  case highz => exact (exec_highz s).trans (tapSelect_selects hp hi)
  case status => exact (exec_dbgStatus s).trans (tapSelect_selects hp hi)
  case challenge =>
    refine (exec_dbgChallenge s).trans ((tapSelect_selects hp hi).trans ?_)
    rw [challengeBytes_selected]
    rfl
  case response =>
    refine ⟨_, (exec_dbgResponse h kb sig s).trans (tapSelect_selects hp hi), fun verifies => ?_, fun fails => ?_⟩
    · rw [takeResponse_verifies ((respVerifies_setIr ..).trans verifies)]
      exact ⟨rfl, enterInspection_effect h _⟩
    · exact takeResponse_fails ((respVerifies_setIr ..).trans fails)
  case expiry =>
    refine (exec_debugChallengeExpiry s).trans (guarded_true ?_)
    rw [challengeLive_over hc ht, hc]
    rfl
  case lockedRead =>
    refine (exec_dapAccess false .locked a d s).trans ((tapSelect_selects hp hi).trans ?_)
    simp only [dapActs, tapOut, tapError, emit, List.append_assoc]
    rfl
  case lockedWrite => exact (exec_dapAccess true .locked a d s).trans (tapSelect_selects hp hi)
  case otherWrite => exact (exec_dapAccess true .other a d s).trans (tapSelect_selects hp hi)
  case otherRead => exact ⟨_, (exec_dapAccess false .other a d s).trans (tapSelect_selects hp hi)⟩
  case halt =>
    refine ⟨_, (exec_coreDebug core 0 d s).trans (tapSelect_selects hp hi), ?_, rfl, rfl, rfl⟩
    exact List.mem_append_right _ List.mem_cons_self
  case coreReads =>
    subst h2
    exact ⟨_, (exec_coreDebug core 2 d s).trans (tapSelect_selects hp hi)⟩
  case coreOther =>
    refine ((exec_coreDebug core op d s).trans (tapSelect_selects hp hi)).trans ?_
    rw [if_neg h0, if_neg h2]
    rfl
  case island => exact ⟨_, (exec_islandDebug op d s).trans (tapSelect_selects hp hi)⟩
  case memTest => exact ⟨_, (exec_memTest op d s).trans (tapSelect_selects hp hi)⟩
  case factory =>
    rw [exec_otpProg_selects a b hp hi, hl, otpProgReaches_raw, if_pos hf]
    rfl
  case notFactory =>
    rw [exec_otpProg_selects a b hp hi, hl, otpProgReaches_raw, if_neg (by simp [hf])]
    rfl
  case notRaw =>
    simp only [exec_otpProg_selects a b hp hi, otpProgReaches_notRaw hl]
    rfl
  case tapResetNot => exact (exec_tapReset s).trans (guarded_false hp)
  case expiryNot => exact (exec_debugChallengeExpiry s).trans (guarded_false h)

end Sys2Proof.Proofs
end

section
/-! The commands of the generator: draws, known-answer tests, restarts and raw samples (R220, R222, R225, R226). -/

namespace Sys2Proof.Proofs

open Sys2Proof Sys2Proof.Machine Sys2Proof.Laws Sys2Proof.Safety

/-! ## One command's result while others end -/

/-- The command `r` is in flight in both states or in neither, with the same result. -/
def resultKept (r : CmdRef) (s t : State) : Prop := (findCmd t r).map (fun c => c.result) = (findCmd s r).map (fun c => c.result)

theorem resultKept_trans {r : CmdRef} {s t u : State} (h : resultKept r s t) (k : resultKept r t u) : resultKept r s u := k.trans h

theorem findCmd_modCmd_ne {r x : CmdRef} (h : x ≠ r) {g : Cmd → Cmd} (hg : ∀ c, (g c).ref = c.ref) (s : State) :
    findCmd (modCmd x g s) r = findCmd s r := by
  show (s.prism.cmds.map (fun c => if c.ref == x then g c else c)).find? (fun c => c.ref == r) = _
  rw [find_map _ _ (fun c => by split <;> simp [hg])]
  show Option.map _ (findCmd s r) = _
  cases hc : findCmd s r with
  | none => rfl
  | some c => simp [found_ref hc, h.symm]

theorem modCmd_resultKept {r x : CmdRef} (h : x ≠ r) {g : Cmd → Cmd} (hg : ∀ c, (g c).ref = c.ref) (s : State) :
    resultKept r s (modCmd x g s) := congrArg _ (findCmd_modCmd_ne h hg s)

/-- The end of one command gives no other command a result. -/
theorem endCmd_resultKept {r x : CmdRef} (h : x ≠ r) (st : Status) (b : Bytes) (s : State) : resultKept r s (endCmd x st b s) := by
  unfold endCmd
  split
  · exact sameResults_refl s r
  next c _ =>
    split
    · exact sameResults_refl s r
    have released : sameResults s (hotDropDerived x (dropRefs c (traceCancels c s))) :=
      sameResults_trans _ _ _ (sameResults_trans _ _ _ (traceCancels_results c s) (dropRefs_results c _)) (hotDropDerived_results x _)
    refine resultKept_trans (released r) ?_
    dsimp only
    refine resultKept_trans ?_ (modCmd_resultKept h ?ref _)
    case ref => exact fun _ => rfl
    generalize hotDropDerived x (dropRefs c (traceCancels c s)) = u
    have unreserved (v : State) : sameResults v (dropDraw x (if c.reserved = 0 then v else modPart x.part
        (fun p => { p with vault := { p.vault with reserved := p.vault.reserved - c.reserved } }) v)) :=
      sameResults_of_cmds (by split <;> rfl)
    cases c.out with
    | none => exact unreserved u r
    | some k =>
      have withdrawn : sameResults u (if st = stOk then u else rewriteWithdraw x.part k x c.shadow u) := by
        split
        · exact sameResults_refl u
        · exact rewriteWithdraw_results _ _ _ _ u
      have cleared := sameResults_trans _ _ _ withdrawn (unreserved _)
      dsimp only
      split
      · exact sameResults_trans _ _ _ cleared (noteBacking_results _ _ _) r
      · exact cleared r

/-! ## Commands at work -/

/-- A command at work whose effect gives it no result itself ends with the effect's status and reply, and the end leaves all but what
`EndsFrom` names as the effect made it. -/
theorem runAccepted_endsFrom {op : Nat} {s : State} {u : List Cmd → State} {r : CmdRef} {c : Cmd} {st : Status} {b : Bytes} {eff : Effect}
    {fail : OnFail} (h : AtWork op s r c) (he : ∀ l, eff c (setCmds s l) = (u l, some (st, b)))
    (hu : ∀ l, resultKept r (setCmds s l) (u l)) :
    ∃ t l, runAccepted op eff fail r s = .next t ∧ endedWith t r st b ∧ EndsFrom (u l) t := by
  obtain ⟨l, hl⟩ := noteUndo_frame c s
  obtain ⟨d, hd, hn⟩ := noteUndo_found h.found
  rw [hl] at hd
  obtain ⟨e, found, same⟩ := Option.map_eq_some_iff.mp ((hu l).trans (congrArg _ hd))
  obtain ⟨t, ht, eq, ended⟩ := runAccepted_ends eff fail h (hl ▸ he l) found (same.trans (hn.trans (AtWork_fresh h)))
  exact ⟨t, l, ht, ended, eq ▸ finish_ends c r st b s (u l)⟩

/-- A command at work whose effect only begins, and gives no command a result, is under way in the state its effect made. -/
theorem runAccepted_begins {op : Nat} {s : State} {u : List Cmd → State} {r : CmdRef} {c : Cmd} {eff : Effect} {fail : OnFail}
    (h : AtWork op s r c) (he : ∀ l, eff c (setCmds s l) = (u l, none)) (hu : ∀ l, sameResults (setCmds s l) (u l)) :
    ∃ t l, runAccepted op eff fail r s = .next t ∧ underWay t r ∧ EndsFrom (u l) t := by
  obtain ⟨l, hl⟩ := noteUndo_frame c s
  obtain ⟨d, hd, hn⟩ := noteUndo_found h.found
  rw [hl] at hd
  obtain ⟨e, found, unended⟩ := found_unended (hu l) hd (hn.trans (AtWork_fresh h))
  have begun : underWay (modCmd r (fun d => { d with started := true }) (u l)) r := by
    unfold underWay
    rw [findCmd_modCmd, found]
    · simp [unended]
    · exact fun _ => rfl
  refine ⟨_, l, ?_, begun, modCmd_ends ..⟩
  unfold runAccepted
  rw [h.found]
  simp only [h.ready, if_true, runCmd, h.clean, hl, he, found_ref h.found]

/-! ## The generator enters FAILED (R220) -/

/-- A command with the verdict of its draw noted for the partner, unless the partner has the command or gets none (R410). -/
def verdictNoted (v : Nat) (b : Bytes) (c : Cmd) : Cmd :=
  { c with verdict := if c.acked || localCmd c.opcode.toNat then none else some (v, b) }

theorem forwardCmd_sent (r : CmdRef) (v : Nat) (b : Bytes) (s : State) :
    linkSent (modCmd r (verdictNoted v b) s) (forwardCmd r v b s) := by
  unfold forwardCmd
  dsimp only
  split
  · exact linkSent_refl _
  · exact sendForward_sent ..

theorem forwardCmd_ends (r : CmdRef) (v : Nat) (b : Bytes) (s : State) : EndsFrom s (forwardCmd r v b s) :=
  (modCmd_ends r (verdictNoted v b) s).trans (EndsFrom.of_link (forwardCmd_sent ..))

theorem forwardCmd_results (r : CmdRef) (v : Nat) (b : Bytes) (s : State) : sameResults s (forwardCmd r v b s) :=
  sameResults_trans _ _ _ (modCmd_results (g := verdictNoted v b) (fun _ => rfl) (fun _ => rfl) r s)
    (sameResults_of_link (linkOnly_of_sent (forwardCmd_sent ..)))

/-- The request `x` at the draw port fails with `st`, and the partner hears it as the verdict `v` (R220). -/
def drawFails (v : Nat) (st : Status) (s : State) (x : CmdRef) : State := forwardCmd x v [] (modCmd x (fun c => { c with draw := .failed st }) s)

theorem drawFails_ends (v : Nat) (st : Status) (s : State) (x : CmdRef) : EndsFrom s (drawFails v st s x) :=
  (modCmd_ends ..).trans (forwardCmd_ends ..)

theorem drawFails_results (v : Nat) (st : Status) (s : State) (x : CmdRef) : sameResults s (drawFails v st s x) := by
  refine sameResults_trans _ _ _ (modCmd_results ?ref ?result x s) (forwardCmd_results _ _ _ _)
  case ref => exact fun _ => rfl
  case result => exact fun _ => rfl

/-- Every request at the draw port has failed with `st` (R220). -/
def drawsFailed (st : Status) (s : State) : State := s.rng.queue.foldl (drawFails (if st = stRngNotReady then 3 else 2) st) s

theorem failWaiting_eq (st : Status) (s : State) :
    failWaiting st s = { drawsFailed st s with rng := { (drawsFailed st s).rng with queue := [], waits := [] } } := rfl

theorem failWaiting_rng (st : Status) (s : State) : (failWaiting st s).rng = { s.rng with queue := [], waits := [] } := by
  have failed : EndsFrom s (drawsFailed st s) := foldl_rel EndsFrom EndsFrom.refl (fun _ _ _ => EndsFrom.trans) _ (drawFails_ends _ st) _ s
  obtain ⟨_, e⟩ := failed.rng
  rw [failWaiting_eq, e]

theorem failWaiting_results (st : Status) (s : State) : sameResults s (failWaiting st s) := by
  rw [failWaiting_eq]
  exact foldl_rel sameResults sameResults_refl sameResults_trans _ (drawFails_results _ st) s.rng.queue s

/-- A restart is counted (R228). -/
def restartCounted (s : State) : State := { s with rng := { s.rng with restarts := satAdd 8 s.rng.restarts 1 } }

/-- The restart `x` ends with `st`, and is counted (R226). -/
def restartEnded (st : Status) (s : State) (x : CmdRef) : State := endCmd x st (toLe 4 (rngStatus (restartCounted s))) (restartCounted s)

/-- No restart is in progress. -/
def restartsTaken (s : State) : State := { s with rng := { s.rng with restartCmds := [] } }

theorem endRestart_eq (st : Status) (s : State) : endRestart st s = s.rng.restartCmds.foldl (restartEnded st) (restartsTaken s) := rfl

/-- Two states whose generators differ in the count of restarts and the requests that wait alone. -/
def restartsOnly (s t : State) : Prop := ∃ n q, t.rng = { s.rng with restarts := n, queue := q }

theorem restartsOnly_trans (a b c : State) : restartsOnly a b → restartsOnly b c → restartsOnly a c := by
  rintro ⟨_, _, e⟩ ⟨n, q, e'⟩
  exact ⟨n, q, by rw [e', e]⟩

theorem restartEnded_restartsOnly (st : Status) (s : State) (x : CmdRef) : restartsOnly s (restartEnded st s x) := by
  obtain ⟨q, e⟩ := (endCmd_ends x st (toLe 4 (rngStatus (restartCounted s))) (restartCounted s)).rng
  exact ⟨_, q, e⟩

theorem endRestart_restartsOnly (st : Status) (s : State) : restartsOnly (restartsTaken s) (endRestart st s) :=
  foldl_rel restartsOnly (fun s => ⟨s.rng.restarts, s.rng.queue, rfl⟩) restartsOnly_trans _ (restartEnded_restartsOnly st) _ _

/-- The end of the restarts in progress gives no other command a result. -/
theorem foldl_restartEnded_resultKept {r : CmdRef} {l : List CmdRef} (h : r ∉ l) (st : Status) (s : State) :
    resultKept r s (l.foldl (restartEnded st) s) := by
  induction l generalizing s with
  | nil => exact sameResults_refl s r
  | cons x l ih =>
    obtain ⟨other, rest⟩ := List.ne_and_not_mem_of_not_mem_cons h
    have counted : resultKept r s (restartCounted s) := sameResults_of_cmds rfl r
    exact resultKept_trans (resultKept_trans counted (endCmd_resultKept (Ne.symm other) ..)) (ih rest _)

theorem setFltCause_rng (c : BitVec 9) (s : State) : (setFltCause c s).rng = s.rng := by
  obtain ⟨_, _, e⟩ := setFltCause_frame c s
  rw [e]

theorem setFltCause_results (c : BitVec 9) (s : State) : sameResults s (setFltCause c s) := by
  obtain ⟨_, _, e⟩ := setFltCause_frame c s
  exact sameResults_of_cmds (by rw [e])

/-- The generator fails: no pool and no samples are left (R220). -/
def rngFailed (s : State) : State := { s with rng := { s.rng with state := .failed, pool := [], cond := [] } }

/-- The failure heard at the draw port and reported, with the restarts in progress not yet ended. -/
def failureReported (s : State) : State := setFltCause 0x10 (failWaiting stRngFailed (rngFailed s))

theorem enterFailed_eq (s : State) : enterFailed s = endRestart stRngFailed (failureReported s) := rfl

theorem failureReported_rng (s : State) : (failureReported s).rng = { (rngFailed s).rng with queue := [], waits := [] } :=
  (setFltCause_rng ..).trans (failWaiting_rng ..)

theorem failureReported_results (s : State) : sameResults s (failureReported s) :=
  sameResults_trans _ (rngFailed s) _ (sameResults_of_cmds rfl) (sameResults_trans _ _ _ (failWaiting_results _ _) (setFltCause_results _ _))

theorem enterFailed_rng (s : State) :
    (enterFailed s).rng.state = .failed ∧ (enterFailed s).rng.katFail = s.rng.katFail ∧ (enterFailed s).rng.pool = [] := by
  obtain ⟨_, _, e⟩ := endRestart_restartsOnly stRngFailed (failureReported s)
  rw [enterFailed_eq, e]
  unfold restartsTaken
  rw [failureReported_rng]
  exact ⟨rfl, rfl, rfl⟩

/-- A failure of the generator gives only the restarts in progress a result. -/
theorem enterFailed_resultKept {r : CmdRef} {s : State} (h : r ∉ s.rng.restartCmds) : resultKept r s (enterFailed s) := by
  have taken : resultKept r (failureReported s) (restartsTaken (failureReported s)) := sameResults_of_cmds rfl r
  rw [enterFailed_eq, endRestart_eq, failureReported_rng]
  exact resultKept_trans (resultKept_trans (failureReported_results s r) taken) (foldl_restartEnded_resultKept h ..)

/-! ## RNG_KAT and RNG_RESTART (R222, R226) -/

section
variable {c : Cmd}

theorem runRngKat_passes (h : (reqOf c).pay 0 1 = 0) (s : State) : runRngKat true true c s = (s, some (stOk, toLe 4 3)) := by
  unfold runRngKat
  dsimp only
  rw [h]
  rfl

/-- The generator has failed a known-answer test (R226). -/
def katFailed (s : State) : State := { s with rng := { s.rng with katFail := true } }

theorem runRngKat_fails {cond expd : Bool} (h : (reqOf c).pay 0 1 = 0) (hf : (cond && expd) = false) (s : State) :
    runRngKat cond expd c s = (enterFailed (katFailed s), some (stOk, toLe 4 (b2n cond + 2 * b2n expd))) := by
  unfold runRngKat
  dsimp only
  rw [h, hf]
  rfl

theorem runRngKat_conditioner (h : (reqOf c).pay 0 1 = 1) (cond expd : Bool) (s : State) :
    runRngKat cond expd c s = (s, some (stOk, sha3_384 (c.payload.drop 152))) := by
  unfold runRngKat
  dsimp only
  rw [h]
  rfl

theorem runRngKat_expander (h0 : (reqOf c).pay 0 1 ≠ 0) (h1 : (reqOf c).pay 0 1 ≠ 1) (cond expd : Bool) (s : State) :
    runRngKat cond expd c s = (s, some (stOk, katExpander (reqOf c))) := by
  unfold runRngKat
  dsimp only
  split
  · contradiction
  · contradiction
  · rfl

end

/-- The state in which a restart begins: the start's sequence anew, and every partition's generator due a reseed (R222). -/
def restartBegun (c : Cmd) (s : State) : State :=
  { s with rng := { freshRun s.rng with state := .testing, running := true, startNs := s.clk.ns, srcOk := 0xF,
                                        restartCmds := s.rng.restartCmds ++ [c.ref] },
           parts := s.parts.map (fun e => (e.1, { e.2 with drbgDue := true })) }

theorem runRngRestart_eq (c : Cmd) (s : State) : runRngRestart c s = (restartBegun c s, none) := rfl

/-- Settles O42: the commands that answer at once change nothing else, a failed test ends no command but the restarts in progress, and a
restart begins without a result. -/
theorem generatorCommandsEndAsSpecified : Obligations.GeneratorCommandsEndAsSpecified := by
  unfold Obligations.GeneratorCommandsEndAsSpecified
  refine ⟨fun s r c h => ?generate, fun s r c h h0 => ?katPass, fun s r c cond expd h h0 hf hr => ?katFail, fun s r c cond expd h h1 => ?digest,
    fun s r c cond expd h h0 h1 => ?expander, fun s r c h => ?restart, fun s r c samples h => ?raw⟩
  case generate => exact runAccepted_replies h fun l => rfl
  case katPass =>
    obtain ⟨t, l, run, ended, kept⟩ := runAccepted_endsFrom h (fun l => runRngKat_passes h0 (setCmds s l)) fun l => sameResults_refl _ r
    obtain ⟨_, rng⟩ := kept.rng
    exact ⟨t, run, ended, by rw [rng]; rfl, by rw [rng]; rfl⟩
  case katFail =>
    have failing (l : List Cmd) : resultKept r (setCmds s l) (enterFailed (katFailed (setCmds s l))) :=
      resultKept_trans (t := katFailed (setCmds s l)) (sameResults_of_cmds rfl r) (enterFailed_resultKept hr)
    obtain ⟨t, l, run, ended, kept⟩ := runAccepted_endsFrom h (fun l => runRngKat_fails h0 hf (setCmds s l)) failing
    obtain ⟨_, rng⟩ := kept.rng
    exact ⟨t, run, ended, by rw [rng]; exact enterFailed_rng (katFailed (setCmds s l))⟩
  case digest => exact runAccepted_replies h fun l => runRngKat_conditioner h1 cond expd _
  case expander => exact runAccepted_replies h fun l => runRngKat_expander h0 h1 cond expd _
  case restart =>
    obtain ⟨t, l, run, begun, kept⟩ := runAccepted_begins h (fun l => runRngRestart_eq c (setCmds s l)) fun l => sameResults_of_cmds rfl
    obtain ⟨_, rng⟩ := kept.rng
    refine ⟨t, run, begun, ?_⟩
    rw [rng, ← found_ref h.found]
    exact ⟨rfl, rfl, rfl, rfl, rfl, rfl, rfl⟩
  case raw => exact runAccepted_replies h fun l => rfl

end Sys2Proof.Proofs
end

section
/-! The PIN commands: PIN blocks that do not decode, translation, and the offset and PVV methods (R234 to R238, R240, R242, R243). -/

namespace Sys2Proof.Proofs

open Sys2Proof Sys2Proof.Machine Sys2Proof.Laws Sys2Proof.Safety

/-! ## Answers -/

theorem endedWith_of_answer {t : State} {r : CmdRef} {a : Status × Bytes} {st : Status} {b : Bytes} (ended : endedWith t r a.1 a.2)
    (h : a = (st, b)) : endedWith t r st b := by
  rw [h] at ended
  exact ended

/-- What a command answers that compares two values and replies nothing. -/
def comparison {α : Type} [DecidableEq α] (a b : α) : Status × Bytes := if a = b then (stOk, []) else (stVerifyFailed, [])

theorem endedWith_comparison {α : Type} [DecidableEq α] {a b : α} {t : State} {r : CmdRef}
    (ended : endedWith t r (comparison a b).1 (comparison a b).2) :
    (a = b → endedWith t r stOk []) ∧ (a ≠ b → endedWith t r stVerifyFailed []) :=
  ⟨fun agree => endedWith_of_answer ended (if_pos agree), fun differ => endedWith_of_answer ended (if_neg differ)⟩

/-- What a PIN command answers: `answer` of the PIN where the block decodes (R235). -/
def pinAnswer (answer : List Nat → Status × Bytes) : Option (List Nat) → Status × Bytes
  | none => (stVerifyFailed, [])
  | some pin => answer pin

/-- A PIN command at work ends VERIFY_FAILED where its block does not decode, and with the answer to the PIN where it does. -/
theorem runAccepted_answersPin {op : Nat} {s : State} {r : CmdRef} {c : Cmd} {p : Option (List Nat)} {answer : List Nat → Status × Bytes}
    {eff : Effect} {fail : OnFail} (h : AtWork op s r c) (he : ∀ l, eff c (setCmds s l) = (setCmds s l, some (pinAnswer answer p))) :
    ∃ t, runAccepted op eff fail r s = .next t ∧ (p = none → endedWith t r stVerifyFailed []) ∧
      ∀ pin, p = some pin → endedWith t r (answer pin).1 (answer pin).2 := by
  obtain ⟨t, run, ended⟩ := runAccepted_answersPair h he
  exact ⟨t, run, by rintro rfl; exact ended, by rintro pin rfl; exact ended⟩

/-! ## PIN_TRANSLATE (R236, R237, R240) -/

/-- The reply of a translation: the block under the output key `w`, the transaction counter and the output key's version. -/
def translation (c : Cmd) (w : KeyVal) (pin : List Nat) : Bytes :=
  pinEncrypt (trOutFmt (reqOf c)) w.attr.alg w.material (pinPan (reqOf c)) (pinField c (trOutFmt (reqOf c)) pin) ++
    toLe 4 (if pinSource (reqOf c) = 0 then 0 else ksnCounter (pinSource (reqOf c)) (pinKsn (reqOf c))) ++
    toLe 2 (loadVersion c ((reqOf c).key 0x3C)).toNat ++ zeros 2

section
variable {s : State} {c : Cmd} {v w : KeyVal}

theorem runPinTranslate_loaded (hv : loadKey s c ((reqOf c).key 0) = some v) (hw : loadKey s c ((reqOf c).key 0x3C) = some w)
    (hc : pinKeyChk (reqOf c) v.attr = none)
    (ho : firstFail [trOutChk (reqOf c) w.attr, trBits c.policy (reqOf c) v.attr w.attr] = none) :
    runPinTranslate c s = (s, some (pinAnswer (fun pin => (stOk, translation c w pin)) (pinOf (reqOf c) v))) := by
  unfold runPinTranslate
  dsimp only
  rw [withKey_loaded hv hc, withKey_loaded hw ho]
  cases pinOf (reqOf c) v <;> rfl

theorem runPinTranslate_gone (hv : loadKey s c ((reqOf c).key 0) = none) : runPinTranslate c s = (s, some (stKeyNotFound, [])) := by
  unfold runPinTranslate
  exact withKey_gone hv ..

/-! ## The offset method (R242) -/

/-- The offset that leads from the natural PIN to `pin`. -/
def offsetOf (c : Cmd) (w : KeyVal) (pin : List Nat) : Bytes :=
  padTo 12 (digitsAscii (List.zipWith (fun p n => (p + 10 - n) % 10) pin (naturalPin c.policy (reqOf c) w)))

/-- The digits that the natural PIN and the command's offset make. -/
def offsetPin (c : Cmd) (w : KeyVal) : List Nat :=
  List.zipWith (fun n o => (n + o) % 10) (naturalPin c.policy (reqOf c) w) ((ofOffset (reqOf c)).map (fun b => b.toNat - 0x30))

/-- What a command of the offset method answers to a PIN, which may be too short for it. -/
def offsetAnswer (gen : Bool) (c : Cmd) (w : KeyVal) (pin : List Nat) : Status × Bytes :=
  if pin.length < ofCheck (reqOf c) then (stVerifyFailed, [])
  else if gen then (stOk, offsetOf c w pin) else comparison (pin.take (ofCheck (reqOf c))) (offsetPin c w)

theorem offsetAnswer_short {pin : List Nat} (h : pin.length < ofCheck (reqOf c)) (gen : Bool) (w : KeyVal) :
    offsetAnswer gen c w pin = (stVerifyFailed, []) := if_pos h

theorem offsetAnswer_generates {pin : List Nat} (h : ofCheck (reqOf c) ≤ pin.length) (w : KeyVal) :
    offsetAnswer true c w pin = (stOk, offsetOf c w pin) := if_neg (Nat.not_lt.mpr h)

theorem offsetAnswer_verifies {pin : List Nat} (h : ofCheck (reqOf c) ≤ pin.length) (w : KeyVal) :
    offsetAnswer false c w pin = comparison (pin.take (ofCheck (reqOf c))) (offsetPin c w) := if_neg (Nat.not_lt.mpr h)

theorem runOffset_loaded (gen : Bool) (hv : loadKey s c ((reqOf c).key 0) = some v) (hw : loadKey s c ((reqOf c).key 0x3C) = some w)
    (hc : pinKeyChk (reqOf c) v.attr = none) (hp : pvkChk true w.attr = none) :
    runOffset gen c s = (s, some (pinAnswer (offsetAnswer gen c w) (pinOf (reqOf c) v))) := by
  unfold runOffset
  dsimp only
  rw [withKey_loaded hv hc, withKey_loaded hw hp]
  cases pinOf (reqOf c) v with
  | none => rfl
  | some pin =>
    unfold pinAnswer offsetAnswer comparison
    dsimp only
    split
    · rfl
    · cases gen with
      | true => rfl
      | false => exact (apply_ite (fun a : Status × Bytes => (s, some a)) _ _ _).symm

theorem runOffset_gone (gen : Bool) (hv : loadKey s c ((reqOf c).key 0) = none) : runOffset gen c s = (s, some (stKeyNotFound, [])) := by
  unfold runOffset
  exact withKey_gone hv ..

/-! ## The PVV method (R243) -/

/-- The PVV of a PIN under the key `w`. -/
def pvvOf (c : Cmd) (w : KeyVal) (pin : List Nat) : Bytes :=
  digitsAscii (extractDigits 4 (blkEnc w.attr.alg w.material
    (ofNibbles (panRight 11 (panDigits (pinPan (reqOf c))) ++ [(reqOf c).pay 0x40 1] ++ pin.take 4))))

/-- What a command of the PVV method answers to a PIN. -/
def pvvAnswer (gen : Bool) (c : Cmd) (w : KeyVal) (pin : List Nat) : Status × Bytes :=
  if gen then (stOk, pvvOf c w pin) else comparison (pvvOf c w pin) (bsub c.payload 0x44 4)

theorem runPvv_loaded (gen : Bool) (hv : loadKey s c ((reqOf c).key 0) = some v) (hw : loadKey s c ((reqOf c).key 0x3C) = some w)
    (hc : pinKeyChk (reqOf c) v.attr = none) (hp : pvkChk false w.attr = none) :
    runPvv gen c s = (s, some (pinAnswer (pvvAnswer gen c w) (pinOf (reqOf c) v))) := by
  unfold runPvv
  dsimp only
  rw [withKey_loaded hv hc, withKey_loaded hw hp]
  cases pinOf (reqOf c) v with
  | none => rfl
  | some pin =>
    cases gen with
    | true => rfl
    | false => exact (apply_ite (fun a : Status × Bytes => (s, some a)) _ _ _).symm

theorem runPvv_gone (gen : Bool) (hv : loadKey s c ((reqOf c).key 0) = none) : runPvv gen c s = (s, some (stKeyNotFound, [])) := by
  unfold runPvv
  exact withKey_gone hv ..

end

/-- Settles O43: each command answers in the state it finds, by whether its block decodes and what its own method makes of the PIN. -/
theorem pinCommandsVerifyAndTranslate : Obligations.PinCommandsVerifyAndTranslate := by
  unfold Obligations.PinCommandsVerifyAndTranslate
  refine ⟨fun s r c v w h hv hw hc ho => ?translate, fun s r c v w h hv hw hc hp => ?verifyOffset,
    fun s r c v w h hv hw hc hp => ?generateOffset, fun s r c v w h hv hw hc hp => ?verifyPvv,
    fun s r c v w h hv hw hc hp => ?generatePvv, fun s r c h hv => ?translateGone, fun s r c h hv => ?verifyOffsetGone,
    fun s r c h hv => ?verifyPvvGone, fun s r c h hv => ?generateOffsetGone, fun s r c h hv => ?generatePvvGone⟩
  case translate => exact runAccepted_answersPin h fun l => runPinTranslate_loaded (s := setCmds s l) hv hw hc ho
  case verifyOffset =>
    obtain ⟨t, run, undecoded, decoded⟩ := runAccepted_answersPin h fun l => runOffset_loaded (s := setCmds s l) false hv hw hc hp
    have verified {pin : List Nat} (hpin : pinOf (reqOf c) v = some pin) (long : ofCheck (reqOf c) ≤ pin.length) :=
      endedWith_comparison (endedWith_of_answer (decoded pin hpin) (offsetAnswer_verifies long w))
    exact ⟨t, run, undecoded, fun pin hpin short => endedWith_of_answer (decoded pin hpin) (offsetAnswer_short short false w),
      fun _ hpin long => (verified hpin long).1, fun _ hpin long => (verified hpin long).2⟩
  case generateOffset =>
    obtain ⟨t, run, undecoded, decoded⟩ := runAccepted_answersPin h fun l => runOffset_loaded (s := setCmds s l) true hv hw hc hp
    exact ⟨t, run, undecoded, fun pin hpin short => endedWith_of_answer (decoded pin hpin) (offsetAnswer_short short true w),
      fun pin hpin long => endedWith_of_answer (decoded pin hpin) (offsetAnswer_generates long w)⟩
  case verifyPvv =>
    obtain ⟨t, run, undecoded, decoded⟩ := runAccepted_answersPin h fun l => runPvv_loaded (s := setCmds s l) false hv hw hc hp
    have verified {pin : List Nat} (hpin : pinOf (reqOf c) v = some pin) := endedWith_comparison (decoded pin hpin)
    exact ⟨t, run, undecoded, fun _ hpin => (verified hpin).1, fun _ hpin => (verified hpin).2⟩
  case generatePvv => exact runAccepted_answersPin h fun l => runPvv_loaded (s := setCmds s l) true hv hw hc hp
  case translateGone => exact runAccepted_replies h fun l => runPinTranslate_gone (s := setCmds s l) hv
  case verifyOffsetGone => exact runAccepted_replies h fun l => runOffset_gone (s := setCmds s l) false hv
  case verifyPvvGone => exact runAccepted_replies h fun l => runPvv_gone (s := setCmds s l) false hv
  case generateOffsetGone => exact runAccepted_replies h fun l => runOffset_gone (s := setCmds s l) true hv
  case generatePvvGone => exact runAccepted_replies h fun l => runPvv_gone (s := setCmds s l) true hv

end Sys2Proof.Proofs
end

section
/-! The MAC of the DUKPT commands under TDES DUKPT, which is no longer than a block of TDES whatever the working key's algorithm (R238,
R250). -/

namespace Sys2Proof.Proofs

open Sys2Proof Sys2Proof.Machine Sys2Proof.Laws Sys2Proof.Safety

/-! ## Lengths of MACs (R168, R250) -/

theorem length_macAlg3 (key m : Bytes) (method : Nat) : (macAlg3 key m method).length = 8 := length_padTo ..

theorem length_blkEnc_aes {alg : BitVec 8} (h : isTdes alg = false) (key b : Bytes) : (blkEnc alg key b).length = 16 := by
  unfold blkEnc
  rw [show (alg == 0x01 || alg == 0x02) = false from h]
  exact length_padTo ..

/-- The chaining value of a CBC-MAC keeps the length of a block of AES. -/
theorem length_cbcMac_aes {alg : BitVec 8} (h : isTdes alg = false) (key : Bytes) :
    ∀ (l : List Bytes) {v : Bytes}, v.length = 16 → (cbcMac alg key v l).length = 16
  | [], _, hv => hv
  | _ :: l, _, _ => length_cbcMac_aes h key l (length_blkEnc_aes h ..)

theorem length_cmac_aes {alg : BitVec 8} (h : isTdes alg = false) (key m : Bytes) : (cmac alg key m).length = 16 := by
  unfold cmac blkSize
  rw [show (alg == 0x01 || alg == 0x02) = false from h]
  exact length_cbcMac_aes h key _ (length_zeros 16)

/-! ## DUKPT_MAC_VERIFY under TDES DUKPT (R250) -/

/-- TDES DUKPT makes its MAC by algorithm 3, of 8 bytes: no longer one agrees. -/
theorem runDukpt_verify_tdesDukpt {c : Cmd} {s : State} {v : KeyVal} (hv : loadKey s c ((reqOf c).key 0) = some v)
    (hc : duChk (reqOf c) v.attr = none) (hs : 2 < duSource (reqOf c))
    (hm : 8 < (bsub c.payload 0x18 (duMacLen (reqOf c))).length) : runDukpt 1 c s = (s, some (stVerifyFailed, [])) := by
  have differ (key data : Bytes) : (macAlg3 key data 1).take (duMacLen (reqOf c)) ≠ bsub c.payload 0x18 (duMacLen (reqOf c)) := by
    intro agree
    rw [← agree, List.length_take, length_macAlg3] at hm
    omega
  unfold runDukpt
  dsimp only
  rw [withKey_loaded hv hc]
  simp only [if_neg (Nat.not_le.mpr hs), Nat.one_ne_zero, (by decide : (1 : Nat) ≠ 2), if_false]
  exact if_neg (differ _ _)

/-! ## The counterexample -/

/-- A TDES BDK. -/
def tdesBdk : KeyVal :=
  { attr := { alg := 0x01, cls := 0, bits := 80, usage := uBdk, x9Usage := ascii "B0", mode := 0x58, export_ := 0, span := 1, algPub := 0,
              keyVersion := [0, 0] },
    material := zeros 16, random := [], epoch := 0, mwkGen := 0 }

/-- The first 24 bytes of the parameter block: key reference 0x40000001, TDES DUKPT from the BDK, an AES-256 working key, a MAC of 16 bytes
and the KSN of counter 1. -/
def crossedHead : Bytes := [1, 0, 0, 0x40, 3, 0x12, 0, 16] ++ (zeros 9 ++ [1, 0, 0]) ++ zeros 4

/-- A DUKPT_MAC_VERIFY of one byte of data with these parameters and the MAC given, its key delivered and its items ended. -/
def crossedVerify (mac : Bytes) : Cmd :=
  { newCmd State.reset (specDukpt 1)
      { fn := 0, ring := 1, part := 0, header := zeros 6 ++ toLe 2 0x0A03 ++ zeros 56, payload := crossedHead ++ mac ++ [0], frags := [41],
        outs := [], readError := false, session := none } ⟨0, 0, 0⟩ false with
    items := [], loaded := [(0x40000001, tdesBdk)] }

/-- That command in flight. -/
def crossedInFlight (mac : Bytes) : State := { State.reset with prism := { State.reset.prism with cmds := [crossedVerify mac] } }

/-- The working key of the command. -/
def crossedKey : Bytes := (sourceKey 3 0x12 (zeros 9 ++ [1, 0, 0]) 1 0 tdesBdk).2

/-- The CMAC of the data under it. -/
def crossedMac : Bytes := cmac 0x12 crossedKey [0]

theorem length_crossedMac : crossedMac.length = 16 := length_cmac_aes (by decide) ..

theorem crossedVerify_atWork (mac : Bytes) : AtWork 0x0A03 (crossedInFlight mac) ⟨0, 0, 0⟩ (crossedVerify mac) := ⟨rfl, rfl, rfl⟩

theorem key_crossedVerify (mac : Bytes) : (reqOf (crossedVerify mac)).key 0 = 0x40000001 := by
  have field : bsub (crossedVerify mac).payload 0 4 = [1, 0, 0, 0x40] := rfl
  exact congrArg (fun b => BitVec.ofNat 32 (leNat b)) field

theorem loadKey_crossedVerify (mac : Bytes) (s : State) :
    loadKey s (crossedVerify mac) ((reqOf (crossedVerify mac)).key 0) = some tdesBdk := by
  rw [key_crossedVerify]
  rfl

theorem duSource_crossedVerify (mac : Bytes) : duSource (reqOf (crossedVerify mac)) = 3 := rfl

theorem duMacLen_crossedVerify (mac : Bytes) : duMacLen (reqOf (crossedVerify mac)) = 16 := rfl

theorem duChk_crossedVerify (mac : Bytes) : duChk (reqOf (crossedVerify mac)) tdesBdk.attr = none := by
  unfold duChk
  rw [duSource_crossedVerify]
  show firstFail [usageCheck uBdk tdesBdk.attr, need (tdesBdk.attr.alg == 0x01) stKeyUsage] = none
  decide

theorem mac_crossedVerify {mac : Bytes} (h : mac.length = 16) : bsub (crossedVerify mac).payload 0x18 16 = mac := by
  show ((crossedHead ++ mac ++ [0]).drop 24).take 16 = mac
  rw [List.append_assoc, List.drop_left' (show crossedHead.length = 24 from rfl), List.take_left' h]

theorem data_crossedVerify {mac : Bytes} (h : mac.length = 16) : (crossedVerify mac).payload.drop 40 = [0] :=
  List.drop_left' (by rw [List.length_append, h]; rfl)

/-- Refutes O44, its clause on DUKPT_MAC_VERIFY: it states the MAC by the algorithm of the working key, and the model makes it, as R250
says, by the kind of DUKPT. They part where TDES DUKPT is asked for an AES working key, which R238 refuses at acceptance and no
hypothesis excludes: the CMAC of 16 bytes does not agree. (They part too where AES DUKPT has a TDES working key, which R238 allows; but
there both MACs have 8 bytes, and the ciphers are opaque, so nothing tells them apart.) -/
theorem not_cardAndDukptCommandsEndAsSpecified : ¬ Obligations.CardAndDukptCommandsEndAsSpecified := by
  unfold Obligations.CardAndDukptCommandsEndAsSpecified
  rintro ⟨-, -, -, -, -, -, verify, -⟩
  obtain ⟨t, run, agrees, -⟩ := verify _ _ _ _ (crossedVerify_atWork crossedMac) (loadKey_crossedVerify ..) (duChk_crossedVerify _)
  have claimed : endedWith t ⟨0, 0, 0⟩ stOk [] := by
    refine agrees ?_
    rw [data_crossedVerify length_crossedMac]
    refine Eq.trans ?_ (mac_crossedVerify length_crossedMac).symm
    exact List.take_of_length_le (Nat.le_of_eq length_crossedMac)
  have long : 8 < (bsub (crossedVerify crossedMac).payload 0x18 16).length := by
    rw [mac_crossedVerify length_crossedMac, length_crossedMac]
    decide
  obtain ⟨u, run', ended⟩ := runAccepted_replies (fail := noReply) (crossedVerify_atWork crossedMac) fun l =>
    runDukpt_verify_tdesDukpt (loadKey_crossedVerify crossedMac _) (duChk_crossedVerify crossedMac) (by rw [duSource_crossedVerify]; decide) long
  rw [show t = u from Host.Outcome.next.inj (run.symm.trans run')] at claimed
  unfold endedWith at claimed ended
  rw [claimed] at ended
  exact absurd ended (by decide)

end Sys2Proof.Proofs
end

section
/-! A vault command one of whose items has failed ends whether its turn has come or not (R72, R254, R255). -/

namespace Sys2Proof.Proofs

open Sys2Proof Sys2Proof.Machine Sys2Proof.Laws Sys2Proof.Safety

/-! ## The end of a vault command in place of its effect -/

theorem stampCmd_ref (s : State) (c : Cmd) : (stampCmd s c).ref = c.ref := rfl

theorem stampCmd_result (s : State) (c : Cmd) : (stampCmd s c).result = c.result := rfl

theorem stampVaults_results (p : Nat) (s : State) : sameResults s (stampVaults p s) :=
  sameResults_map s _ (fun c => by split <;> simp [stampCmd_ref]) (fun c => by split <;> simp [stampCmd_result])

theorem runVault_fails {op : Nat} {s : State} {r : CmdRef} {c : Cmd} {st : Status} (h : AtEnd op s r c st) (eff : Effect) :
    ∃ t, runVault op eff r s = .next t ∧ endedWith t r st [] := by
  obtain rfl := found_ref h.found
  refine ⟨stampVaults c.ref.part (endCmd c.ref st [] s), ?_,
    endedWith_of_results (stampVaults_results _ _) (endCmd_result h.found (AtEnd_fresh h) st [])⟩
  unfold runVault
  rw [h.found]
  simp [h.ready, h.failed, runCmd, noReply]

/-! ## The counterexample -/

/-- A VAULT_TOKENISE of the PF on ring 1. -/
def tokeniseRequest : Req :=
  { fn := 0, ring := 1, part := 0, header := zeros 6 ++ toLe 2 0x1101 ++ zeros 56, payload := zeros 40, frags := [40], outs := [],
    readError := false, session := none }

/-- That request as accepted, its items waiting. -/
def waitingTokenise : Cmd := newCmd State.reset (specVault 1) tokeniseRequest ⟨0, 0, 0⟩ false

/-- A second one, accepted after it, whose items have ended with a fault. -/
def failedTokenise : Cmd :=
  { newCmd State.reset (specVault 1) tokeniseRequest ⟨0, 1, 0⟩ false with
    order := 1, items := (planItems State.reset (specVault 1) tokeniseRequest).map (fun it => { it with state := .ended, fail := some stFault }) }

/-- Both commands in flight. -/
def vaultInFlight : State := { State.reset with prism := { State.reset.prism with cmds := [waitingTokenise, failedTokenise] } }

theorem vaultTurn_failedTokenise : vaultTurn vaultInFlight ⟨0, 1, 0⟩ = false := by decide

theorem failedTokenise_atEnd : AtEnd 0x1101 vaultInFlight ⟨0, 1, 0⟩ failedTokenise stFault := ⟨rfl, by decide, rfl⟩

/-- Refutes O45, its last clause but one: out of its turn, a VAULT_TOKENISE of which an item has failed ends with FAULT_DETECTED. -/
theorem not_vaultCommandsFindInsertAndDelete : ¬ Obligations.VaultCommandsFindInsertAndDelete := by
  unfold Obligations.VaultCommandsFindInsertAndDelete
  rintro ⟨-, -, -, -, -, -, -, outOfTurn, -⟩
  obtain ⟨t, run, ended⟩ := runVault_fails failedTokenise_atEnd runVaultTokenise
  have kept : runVault 0x1101 runVaultTokenise ⟨0, 1, 0⟩ vaultInFlight = .next vaultInFlight := outOfTurn _ _ vaultTurn_failedTokenise
  rw [kept] at run
  injection run with same
  exact not_endedStatus failedTokenise_atEnd.found (AtEnd_fresh failedTokenise_atEnd) stFault (same ▸ endedStatus_of_endedWith ended)

end Sys2Proof.Proofs
end

section
/-! The attestation, life-cycle and certificate commands (R289, R358, R360, R362, R364, R366 to R368). -/

namespace Sys2Proof.Proofs

open Sys2Proof Sys2Proof.Machine Sys2Proof.Laws Sys2Proof.Safety

/-! ## ATTEST_QUOTE (R289) -/

theorem islandDraw_results (n : Nat) (s : State) : sameResults s (islandDraw n s).2 := by
  obtain ⟨_, _, h⟩ := islandDraw_frame n s
  exact sameResults_of_cmds (by rw [h])

theorem islandDraw_fst_setCmds (n : Nat) (l : List Cmd) (s : State) : (islandDraw n (setCmds s l)).1 = (islandDraw n s).1 := by
  unfold islandDraw
  rw [setCmds_rng]
  split <;> rfl

theorem attestReport_setCmds (l : List Cmd) (s : State) (p : Nat) (nonce : Bytes) :
    attestReport (setCmds s l) p nonce = attestReport s p nonce := rfl

/-- The report followed by its hybrid signature (R289). -/
def quoteReply (s : State) (p : Nat) (nonce : Bytes) : Bytes :=
  attestReport s p nonce ++ hybridBlock (attestKey s p) (attestReport s p nonce) (islandDraw 64 s).1

theorem quoteReply_setCmds (l : List Cmd) (s : State) (p : Nat) (nonce : Bytes) :
    quoteReply (setCmds s l) p nonce = quoteReply s p nonce := by
  unfold quoteReply
  rw [islandDraw_fst_setCmds, attestReport_setCmds]
  rfl

theorem attestKey_islandDraw (n : Nat) (s : State) (p : Nat) : attestKey (islandDraw n s).2 p = attestKey s p := by
  obtain ⟨_, _, h⟩ := islandDraw_frame n s
  rw [h]
  rfl

theorem runAttestQuote_eq (c : Cmd) (s : State) :
    runAttestQuote c s = ((islandDraw 64 s).2, some (stOk, quoteReply s c.ref.part c.payload)) := by
  unfold quoteReply
  rw [← attestKey_islandDraw 64 s]
  rfl

/-! ## LC_REQUEST (R358 to R360, R362, R364) -/

/-- What the vendor's signature on a request comes to under the checks of R297 (R360). -/
abbrev vendorCheck (s : State) (x : Req) : Option Nat :=
  sigCheck (keyRevoked s (rqKey x)) (imgKeyDigest s (rqKey x)) (bsub x.payload 64 2692) (x.payload.take 64) (x.payload.drop 2756)

/-- A request that names no vendor key carries no vendor's signature to check. -/
theorem rqSigned_unsigned {x : Req} (h : 4 ≤ rqKey x) (s : State) : rqSigned s x = true := by
  simp [rqSigned, Nat.not_lt.mpr h]

theorem rqSigned_iff {x : Req} (h : rqKey x < 4) (s : State) : rqSigned s x = true ↔ vendorCheck s x = none := by
  simp [rqSigned, h]

section

variable {c : Cmd} {s : State}

theorem runLcRequest_refused {st : Status} (h : ownLcRequest s (reqOf c) = some st) : runLcRequest c s = (s, some (st, [])) := by
  unfold runLcRequest
  dsimp only
  rw [h]
  rfl

variable (h : ownLcRequest s (reqOf c) = none)
include h

theorem runLcRequest_unverified (hs : rqSigned s (reqOf c) = false) : runLcRequest c s = (s, some (stVerifyFailed, [])) := by
  unfold runLcRequest
  dsimp only
  rw [h, hs]
  rfl

theorem runLcRequest_programs {g : LifeCycle} (hg : rqTarget (reqOf c) = some g) (hs : rqSigned s (reqOf c) = true) :
    runLcRequest c s = (programIntent g s, some (stOk, zeros 4)) := by
  unfold runLcRequest
  dsimp only
  rw [h, hg, hs]
  rfl

end

theorem programIntent_fenced (g : LifeCycle) (s : State) : (programIntent g s).life.fenced = true := rfl

/-- INTENT and then INTENT_CHECK of the next record are programmed (R362). -/
theorem programIntent_otp (g : LifeCycle) (s : State) : (programIntent g s).life.otp =
    otpProgramBytes (otpProgramBytes s.life.otp (intentAt s) (toLe 4 (lcWord g))) (intentAt s + 4) (toLe 4 (2 ^ 32 - 1 - lcWord g)) := rfl

section

variable (g : LifeCycle) (s : State)

theorem otpRead_programIntent_outside {a : Nat} (h : a < intentAt s ∨ intentAt s + 8 ≤ a) :
    otpRead (programIntent g s).life.otp a = otpRead s.life.otp a := by
  rw [programIntent_otp, otpRead_programBytes, otpRead_programBytes, length_toLe, length_toLe, if_neg (by omega), if_neg (by omega)]

theorem otpRead_programIntent_intent {i : Nat} (h : i < 4) : otpRead (programIntent g s).life.otp (intentAt s + i) =
    otpRead s.life.otp (intentAt s + i) ||| (toLe 4 (lcWord g)).getD i 0 := by
  rw [programIntent_otp, otpRead_programBytes, otpRead_programBytes, length_toLe, length_toLe, if_neg (by omega), if_pos (by omega),
    Nat.add_sub_cancel_left]

theorem otpRead_programIntent_check {i : Nat} (h : i < 4) : otpRead (programIntent g s).life.otp (intentAt s + 4 + i) =
    otpRead s.life.otp (intentAt s + 4 + i) ||| (toLe 4 (2 ^ 32 - 1 - lcWord g)).getD i 0 := by
  rw [programIntent_otp, otpRead_programBytes, otpRead_programBytes, length_toLe, length_toLe, if_pos (by omega), if_neg (by omega),
    Nat.add_sub_cancel_left]

end

/-- A request that holds and verifies ends OK, and the intent of its target is in the OTP (R360). -/
theorem runAccepted_programs {s : State} {r : CmdRef} {c : Cmd} {g : LifeCycle} (h : AtWork 0x0E11 s r c)
    (ho : ownLcRequest s (reqOf c) = none) (hg : rqTarget (reqOf c) = some g) (hs : rqSigned s (reqOf c) = true) :
    ∃ t, exec (.lcRequest r) s = .next t ∧ endedWith t r stOk (zeros 4) ∧ t.life = (programIntent g s).life := by
  obtain ⟨t, l, run, ended, left⟩ := runAccepted_endsFrom (eff := runLcRequest) (fail := noReply) h
    (fun l => runLcRequest_programs (s := setCmds s l) ho hg hs) fun l => sameResults_of_cmds rfl r
  exact ⟨t, run, ended, left.life⟩

/-! ## ID_CERT_STORE and ID_CERT_READ (R367, R368) -/

/-- A certificate and its chain verify: the CA issued it, and the chain ends in the root (R368). -/
abbrev certVerifies (s : State) (x : Req) : Bool :=
  Config.certIssued (csCa x) (csCert x) && Config.chainVerifies (rootDigest s) (csCert x ++ csCa x)

/-- The state that holds a certificate and its CA. -/
def certStored (x : Req) (s : State) : State := { s with life := { s.life with certs := some (csCert x, csCa x) } }

section

variable {c : Cmd} {s : State}

theorem runCertStore_refused {st : Status} (h : ownCertStore s (reqOf c) = some st) : runCertStore c s = (s, some (st, [])) := by
  unfold runCertStore
  dsimp only
  rw [h]
  rfl

theorem runCertStore_stores (h : ownCertStore s (reqOf c) = none) (hv : certVerifies s (reqOf c) = true) :
    runCertStore c s = (certStored (reqOf c) s, some (stOk, zeros 4)) := by
  unfold runCertStore
  dsimp only
  rw [h]
  exact if_pos hv

theorem runCertStore_unverified (h : ownCertStore s (reqOf c) = none) (hv : certVerifies s (reqOf c) = false) :
    runCertStore c s = (s, some (stVerifyFailed, [])) := by
  unfold runCertStore
  dsimp only
  rw [h]
  exact if_neg (ne_true_of_eq_false hv)

theorem runCertRead_none (h : certAt s c.ref.part ((reqOf c).pay 0 1) = none) : runCertRead c s = (s, some (stPolicyDenied, [])) := by
  unfold runCertRead
  rw [h]
  rfl

theorem runCertRead_some {b : Bytes} (h : certAt s c.ref.part ((reqOf c).pay 0 1) = some b) :
    runCertRead c s = (s, some (stOk, b.take 8192)) := by
  unfold runCertRead
  rw [h]
  rfl

end

/-- A command at work whose effect changes nothing ends, and what the life cycle, the OTP and the certificates hold stands. -/
theorem runAccepted_lifeKept {op : Nat} {s : State} {r : CmdRef} {c : Cmd} {st : Status} {b : Bytes} {eff : Effect} {fail : OnFail}
    (h : AtWork op s r c) (he : ∀ l, eff c (setCmds s l) = (setCmds s l, some (st, b))) :
    ∃ t, runAccepted op eff fail r s = .next t ∧ endedWith t r st b ∧ t.life = s.life := by
  obtain ⟨t, l, run, ended, left⟩ := runAccepted_endsFrom h he fun l => sameResults_refl _ r
  exact ⟨t, run, ended, left.life⟩

/-- Settles O47: each command answers in the state it finds, but for a request that programs its intent and a certificate that is stored. -/
theorem attestationAndLifeCycleCommandsEndAsSpecified : Obligations.AttestationAndLifeCycleCommandsEndAsSpecified := by
  unfold Obligations.AttestationAndLifeCycleCommandsEndAsSpecified
  refine ⟨fun s r c h => ?quote, fun s r c h => ?chain, fun s r c h => runAccepted_replies h fun _ => rfl,
    fun s r c g h ho hg hk => ?unsigned, fun s r c g e h ho hg hk => ?signed,
    fun s r c h ho => runAccepted_replies h fun l => runLcRequest_refused (s := setCmds s l) ho, fun s r c h => ?store,
    fun s r c b h hb => ?read, fun s r c h hb => ?readNone⟩
  case quote =>
    obtain rfl := found_ref h.found
    obtain ⟨t, _, run, ended, -⟩ := runAccepted_endsFrom (b := quoteReply s c.ref.part c.payload) (eff := runAttestQuote) (fail := noReply) h
      (fun l => by rw [runAttestQuote_eq, quoteReply_setCmds]) fun l => islandDraw_results ..
    exact ⟨t, run, ended⟩
  case chain =>
    obtain rfl := found_ref h.found
    exact runAccepted_replies h fun _ => rfl
  case unsigned =>
    obtain ⟨t, run, ended, life⟩ := runAccepted_programs h ho hg (rqSigned_unsigned hk s)
    refine ⟨t, run, ended, ?_⟩
    rw [life]
    exact ⟨programIntent_fenced g s, fun a => otpRead_programIntent_outside g s, fun i => otpRead_programIntent_intent g s,
      fun i => otpRead_programIntent_check g s⟩
  case signed =>
    cases hv : vendorCheck s (reqOf c) with
    | none =>
      obtain ⟨t, run, ended, life⟩ := runAccepted_programs h ho hg ((rqSigned_iff hk s).mpr hv)
      exact ⟨t, run, fun _ => ⟨ended, life ▸ programIntent_fenced g s⟩, fun failed => absurd (hv.symm.trans failed) nofun⟩
    | some f =>
      have unverified : rqSigned s (reqOf c) = false := by simpa [hv] using rqSigned_iff hk s
      obtain ⟨t, run, ended, life⟩ := runAccepted_lifeKept (eff := runLcRequest) (fail := noReply) h
        fun l => runLcRequest_unverified (s := setCmds s l) ho unverified
      exact ⟨t, run, fun verified => absurd (hv.symm.trans verified) nofun, fun _ => ⟨ended, fun a => by rw [life]⟩⟩
  case store =>
    cases ho : ownCertStore s (reqOf c) with
    | some st =>
      obtain ⟨t, run, ended, life⟩ := runAccepted_lifeKept (eff := runCertStore) (fail := noReply) h
        fun l => runCertStore_refused (s := setCmds s l) ho
      refine ⟨t, run, fun st' same => ?_, nofun, nofun⟩
      obtain rfl := Option.some.inj same
      exact ⟨ended, by rw [life]⟩
    | none =>
      cases hv : certVerifies s (reqOf c) with
      | true =>
        obtain ⟨t, l, run, ended, left⟩ := runAccepted_endsFrom (eff := runCertStore) (fail := noReply) h
          (fun l => runCertStore_stores (s := setCmds s l) ho hv) fun l => sameResults_of_cmds rfl r
        exact ⟨t, run, nofun, fun _ _ _ => ⟨ended, by rw [left.life]; rfl⟩, fun _ fails => absurd (hv.symm.trans fails) nofun⟩
      | false =>
        obtain ⟨t, run, ended, life⟩ := runAccepted_lifeKept (eff := runCertStore) (fail := noReply) h
          fun l => runCertStore_unverified (s := setCmds s l) ho hv
        refine ⟨t, run, nofun, fun _ issued verifies => ?_, fun _ _ => ⟨ended, by rw [life]⟩⟩
        exact absurd (hv.symm.trans (Bool.and_eq_true_iff.mpr ⟨issued, verifies⟩)) nofun
  case read =>
    obtain rfl := found_ref h.found
    exact runAccepted_replies h fun l => runCertRead_some (s := setCmds s l) hb
  case readNone =>
    obtain rfl := found_ref h.found
    exact runAccepted_replies h fun l => runCertRead_none (s := setCmds s l) hb

end Sys2Proof.Proofs
end

section
/-! The ring commands and the commands of a pair (R290, R403, R406, R407, R413, R414, R417, R421). -/

namespace Sys2Proof.Proofs

open Sys2Proof Sys2Proof.Machine Sys2Proof.Laws Sys2Proof.Safety

/-! ## Commands at work and the link's own state -/

/-- A command at work ends with the status and reply of its effect, and of the link's own state the end moves only what sending moves. -/
theorem runAccepted_link {op : Nat} {s : State} {u : List Cmd → State} {i : Iluon} {r : CmdRef} {c : Cmd} {st : Status} {b : Bytes}
    {eff : Effect} {fail : OnFail} (h : AtWork op s r c) (he : ∀ l, eff c (setCmds s l) = (u l, some (st, b)))
    (hu : ∀ l, sameResults (setCmds s l) (u l)) (hi : ∀ l, iluSent i (u l).ilu) :
    ∃ t, runAccepted op eff fail r s = .next t ∧ endedWith t r st b ∧ iluSent i t.ilu := by
  obtain ⟨t, l, run, ended, left⟩ := runAccepted_endsFrom h he fun l => hu l r
  exact ⟨t, run, ended, iluSent_trans (hi l) left.ilu⟩

/-- The same for an effect that changes nothing. -/
theorem runAccepted_linkKept {op : Nat} {s : State} {r : CmdRef} {c : Cmd} {st : Status} {b : Bytes} {eff : Effect} {fail : OnFail}
    (h : AtWork op s r c) (he : ∀ l, eff c (setCmds s l) = (setCmds s l, some (st, b))) :
    ∃ t, runAccepted op eff fail r s = .next t ∧ endedWith t r st b ∧ iluSent s.ilu t.ilu :=
  runAccepted_link h he (fun _ => sameResults_refl _) fun _ => iluSent_refl _

/-- The same for an effect that changes the link's own state alone. -/
theorem runAccepted_modIlu {op : Nat} {s : State} {g : Iluon → Iluon} {r : CmdRef} {c : Cmd} {st : Status} {b : Bytes} {eff : Effect}
    {fail : OnFail} (h : AtWork op s r c) (he : ∀ l, eff c (setCmds s l) = (modIlu g (setCmds s l), some (st, b))) :
    ∃ t, runAccepted op eff fail r s = .next t ∧ endedWith t r st b ∧ iluSent (g s.ilu) t.ilu :=
  runAccepted_link h he (fun _ => sameResults_of_cmds rfl) fun _ => iluSent_refl _

theorem linkSent_ilu {s t : State} (h : linkSent s t) : iluSent s.ilu t.ilu := (EndsFrom.of_link h).ilu

/-! ## RING_CONFIG (R290, R403) -/

/-- The ring a RING_CONFIG sets, which is unformed (R403). -/
def ringSet (x : Req) (i : Iluon) : Iluon :=
  { i with ringId := BitVec.ofNat 64 (x.pay 0 8), members := x.pay 8 1, leaseMode := x.pay 9 1 == 1, leaseMult := x.pay 10 1,
           formed := false, live := [], keyMaster := false, vaultOwner := false }

theorem runRingConfig_agreed (c : Cmd) (s : State) :
    runRingConfig true c s = (modIlu (ringSet (reqOf c)) s, some (stOk, zeros 4)) := rfl

/-! ## MIRROR_PAIR (R402, R407, R408) -/

/-- The pair a MIRROR_PAIR forms under the key `pk`, before a role is entered (R407). -/
def pairSet (x : Req) (pk : Bytes) (s : State) : State :=
  modIlu (fun i => { i with
    paired := true, partner := BitVec.ofNat 64 (x.pay 0 8), pairPort := x.pay 8 1 == 1, pairKey := padTo 32 pk, partnerSeen := true,
    heardNs := s.clk.ns, resyncPct := 0, compares := [],
    position := if i.formed then i.position else b2n (decide (x.pay 0 8 < leNat (unitSerial s))) }) s

/-- The module enters the role asked for: the source of the copy, or its target. -/
def roleEntered (x : Req) (s : State) : State := if x.pay 9 1 = 1 then enterSource s else toMirror .syncTarget s

theorem runMirrorPair_agreed (pk : Bytes) (c : Cmd) (s : State) :
    runMirrorPair true (some pk) c s = (roleEntered (reqOf c) (pairSet (reqOf c) pk s), some (stOk, zeros 4)) := rfl

theorem enterSource_sent (s : State) : linkSent (toMirror .syncSource (modIlu (fun i => { i with resyncPct := 0 }) s)) (enterSource s) :=
  linkSent_trans _ _ _ (linkSent_trans _ _ _ (sendPartner_sent ..) (sendPartner_sent ..)) (sendPartner_sent ..)

theorem enterSource_cmds (s : State) : (enterSource s).prism.cmds = s.prism.cmds := by
  obtain ⟨_, _, _, h⟩ := enterSource_frame s
  rw [h]

theorem roleEntered_results (x : Req) (s : State) : sameResults s (roleEntered x s) := by
  unfold roleEntered
  split
  · exact sameResults_of_cmds (enterSource_cmds s)
  · exact sameResults_of_cmds rfl

/-- The mirror state a MIRROR_PAIR asks for. -/
abbrev roleAsked (x : Req) : MirrorState := if x.pay 9 1 = 1 then .syncSource else .syncTarget

theorem roleEntered_ilu (x : Req) {s : State} (h : s.ilu.resyncPct = 0) :
    iluSent { s.ilu with mirror := roleAsked x } (roleEntered x s).ilu := by
  unfold roleEntered roleAsked
  split
  · have same : { s.ilu with mirror := .syncSource } = { s.ilu with mirror := .syncSource, resyncPct := 0 } := by rw [← h]
    rw [same]
    exact linkSent_ilu (enterSource_sent s)
  · exact iluSent_refl _

/-! ## MIRROR_UNPAIR (R407) -/

theorem traceRec_ilu (event unit part flags : Nat) (tail : Bytes) (s : State) : (traceRec event unit part flags tail s).ilu = s.ilu := by
  obtain ⟨_, _, _, _, h⟩ := traceRec_frame event unit part flags tail s
  rw [h]

theorem loseItem_ilu (r : CmdRef) (i : Nat) (s : State) : (loseItem r i s).ilu = s.ilu := by
  have left (u : UnitId) (v : State) : (leaveUnit u r i v).ilu = v.ilu := by cases u <;> rfl
  unfold loseItem
  split
  · rfl
  next it _ =>
    split
    next u _ =>
      have freed : (modItem r i (fun it => { it with state := .cancelled }) (leaveUnit u r i (charge u r i it s))).ilu = s.ilu := left u _
      dsimp only
      split
      · exact freed
      · exact ((releaseKeys_ilu ..).trans (traceRec_ilu ..)).trans freed
    · rfl

theorem afterCompletion_ilu (c : Cmd) (s : State) : (afterCompletion c s).ilu = s.ilu := by
  have released (i : Nat) (v : State) : (releaseCtx i v).ilu = v.ilu := by
    obtain ⟨_, _, _, h⟩ := releaseCtx_frame i v
    rw [h]
  have counted (g : Session → Session) : (if c.handle = 0 then s else modSess (handleIndex c.handle) g s).ilu = s.ilu := by
    split <;> rfl
  unfold afterCompletion
  cases c.transient with
  | none => exact counted _
  | some i => exact (released i _).trans (counted _)

/-- Discarding a command moves nothing of the link's own state but what sending moves. -/
theorem discardCmd_ilu (s : State) (c : Cmd) : iluSent s.ilu (discardCmd s c).ilu := by
  have lost : ((List.range c.items.length).foldl (fun s i => loseItem c.ref i s) s).ilu = s.ilu :=
    foldl_ilu _ (fun s i => loseItem_ilu c.ref i s) _ s
  have ended := (endCmd_ends c.ref stAborted [] ((List.range c.items.length).foldl (fun s i => loseItem c.ref i s) s)).ilu
  rw [lost] at ended
  unfold discardCmd
  dsimp only
  generalize endCmd c.ref stAborted [] ((List.range c.items.length).foldl (fun s i => loseItem c.ref i s) s) = u at ended ⊢
  have repaid : (if c.ring = busRing then u else modRing c.ring (fun g => { g with owed := g.owed - 1 }) u).ilu = u.ilu := by
    split <;> rfl
  have freed (l : List HeldDup) (v : State) : (l.foldl discardDup v).ilu = v.ilu := foldl_ilu discardDup (fun _ _ => rfl) l v
  split
  · rw [freed]
    exact repaid ▸ ended
  · rw [afterCompletion_ilu, freed]
    exact repaid ▸ ended

theorem emptyPart_ilu (p : Nat) (s : State) : (emptyPart p s).ilu = s.ilu := by
  obtain ⟨_, _, _, h⟩ := foldl_releaseCtx_frame
    ((destroyPartKeys p s).sess.ctxs.filter (fun e => e.2.allocated && e.2.part == p)) (destroyPartKeys p s)
  unfold emptyPart releaseAll
  rw [h]
  rfl

theorem keepPolicyOnly_ilu (rnd : Bytes) (s : State) : (keepPolicyOnly rnd s).ilu = s.ilu :=
  (emptyPart_ilu ..).trans (foldl_ilu _ (fun s p => emptyPart_ilu p s) _ _)

/-- On either side of a pair the link's own state is that of a module that has left it, but for what sending moves. -/
theorem unpair_ilu (rnd : Bytes) (s : State) : iluSent (leavePair s).ilu (unpair rnd s).ilu := by
  unfold unpair
  dsimp only
  split
  · exact iluSent_refl _
  · rw [setCmds_ilu, keepPolicyOnly_ilu]
    exact foldl_rel (fun s t => iluSent s.ilu t.ilu) (fun _ => iluSent_refl _) (fun _ _ _ => iluSent_trans) _ discardCmd_ilu _ _

theorem find_filter_of_found {α : Type} {l : List α} {p q : α → Bool} {c : α} (h : l.find? q = some c) (hp : p c = true) :
    (l.filter p).find? q = some c := by
  induction l with
  | nil => cases h
  | cons x l ih =>
    rw [List.find?_cons] at h
    split at h
    next hq =>
      obtain rfl := Option.some.inj h
      simp [hp, hq]
    next hq =>
      by_cases hx : p x = true
      · simp [hx, hq, ih h]
      · simp [hx, ih h]

/-- A MIRROR_UNPAIR stays in flight as the pair ends. -/
theorem unpair_resultKept {s : State} {r : CmdRef} {c : Cmd} (h : findCmd s r = some c) (ho : c.opcode = 0x0F04) (rnd : Bytes) :
    resultKept r s (unpair rnd s) := by
  unfold unpair
  dsimp only
  split
  · rfl
  · refine congrArg _ (Eq.trans ?_ h.symm)
    exact find_filter_of_found (p := fun c => c.opcode == 0x0F04) h (by simp [ho])

theorem noteUndo_opcode {s : State} {r : CmdRef} {c d : Cmd} (h : findCmd s r = some c) (hd : findCmd (noteUndo c s) r = some d) :
    d.opcode = c.opcode := by
  obtain rfl := found_ref h
  unfold noteUndo at hd
  split at hd
  · rw [Option.some.inj (hd.symm.trans h)]
  · rw [findCmd_modCmd, h] at hd
    · rw [← Option.some.inj hd]
    · exact fun _ => rfl

theorem AtWork_opcode {op : Nat} {s : State} {r : CmdRef} {c : Cmd} (h : AtWork op s r c) : c.opcode.toNat = op := by
  have ready := h.ready
  simp only [Machine.ready, Bool.and_eq_true, beq_iff_eq] at ready
  exact ready.1.1.1.1.1

/-- A MIRROR_UNPAIR at work ends, and leaves the link's own state as one that has left its pair (R407). -/
theorem runMirrorUnpair_ends {s : State} {r : CmdRef} {c : Cmd} (h : AtWork 0x0F04 s r c) :
    ∃ t, exec (.mirrorUnpair r) s = .next t ∧ endedWith t r stOk (zeros 4) ∧
      iluSent (leavePair (sendPartner 0x14 [1] (noteUndo c s))).ilu t.ilu := by
  obtain ⟨d, hd, hn⟩ := noteUndo_found h.found
  obtain ⟨i, o, hs⟩ := linkOnly_of_sent (sendPartner_sent 0x14 [1] (noteUndo c s))
  have sent : findCmd (sendPartner 0x14 [1] (noteUndo c s)) r = some d := (findCmd_congr (by rw [hs]) r).trans hd
  have opcode : d.opcode = 0x0F04 := (noteUndo_opcode h.found hd).trans (BitVec.eq_of_toNat_eq (AtWork_opcode h))
  obtain ⟨e, found, same⟩ := Option.map_eq_some_iff.mp ((unpair_resultKept sent opcode (drawn c 0 64)).trans (congrArg _ sent))
  obtain ⟨t, run, eq, ended⟩ := runAccepted_ends runMirrorUnpair noReply h rfl found (same.trans (hn.trans (AtWork_fresh h)))
  exact ⟨t, run, ended, eq ▸ iluSent_trans (unpair_ilu ..) (finish_ends ..).ilu⟩

/-! ## MIRROR_SWITCHOVER (R413, R414, R417) -/

/-- A claim above every COUNT the module knows (R406). -/
def claimRaised (i : Iluon) : BitVec 64 :=
  BitVec.ofNat 64 ((max i.claim.toNat i.topClaim.toNat / 256 + 1) * 256 + i.position % 256)

/-- The link's own state under a raised claim. -/
def raised (i : Iluon) : Iluon := { i with claim := claimRaised i, topClaim := claimRaised i }

/-- The roles of a claim-mode ring taken under a raised claim (R417). -/
def rolesTaken (i : Iluon) : Iluon := { raised i with keyMaster := i.formed, vaultOwner := i.formed }

/-- The mirror states in which a switchover settles the pair at once (R413). -/
def settlesAlone (i : Iluon) : Prop := i.mirror = .held ∨ i.mirror = .detached ∨ i.mirror = .standby ∧ i.partnerSeen = false

theorem runSwitchover_solo {s : State} (h : settlesAlone s.ilu) (c : Cmd) :
    runSwitchover c s = (goSolo s, some (stOk, toLe 8 (claimRaised s.ilu).toNat)) := by
  unfold runSwitchover
  rcases h with hm | hm | ⟨hm, hp⟩
  · rw [hm]; rfl
  · rw [hm]; rfl
  · rw [hm, hp]; rfl

theorem runSwitchover_none {s : State} (h : s.ilu.mirror = .none) (c : Cmd) :
    runSwitchover c s = (modIlu rolesTaken s, some (stOk, toLe 8 (claimRaised s.ilu).toNat)) := by
  unfold runSwitchover
  rw [h]
  rfl

theorem runSwitchover_asks {s : State} (h : s.ilu.mirror = .standby) (hp : s.ilu.partnerSeen = true) (c : Cmd) :
    runSwitchover c s = (sendPartner 0x12 (toLe 8 s.ilu.claim.toNat) s, none) := by
  unfold runSwitchover
  rw [h, hp]
  rfl

/-- A module that settles its pair is SOLO, and replies its raised claim (R413). -/
theorem mirrorSwitchover_solo {s : State} {r : CmdRef} {c : Cmd} (h : AtWork 0x0F05 s r c) (hm : settlesAlone s.ilu) :
    ∃ t, exec (.mirrorSwitchover r) s = .next t ∧ endedWith t r stOk (toLe 8 t.ilu.claim.toNat) ∧ t.ilu.mirror = .solo ∧
      t.ilu.claim = claimRaised s.ilu := by
  obtain ⟨t, run, ended, _, _, _, _, -, -, link⟩ := runAccepted_link (u := fun l => goSolo (setCmds s l))
    (b := toLe 8 (claimRaised s.ilu).toNat) (eff := runSwitchover)
    (fail := noReply) h (fun l => runSwitchover_solo (s := setCmds s l) hm c) (fun _ => sameResults_of_cmds rfl) fun l =>
      iluSent_refl { raised s.ilu with mirror := .solo }
  refine ⟨t, run, ?_⟩
  rw [link]
  exact ⟨ended, rfl, rfl⟩

/-- Settles O48: the end of a command moves only what sending moves of the link's own state, so each clause is read off the effect. -/
theorem ringAndPairCommandsEndAsSpecified : Obligations.RingAndPairCommandsEndAsSpecified := by
  unfold Obligations.RingAndPairCommandsEndAsSpecified
  refine ⟨fun s r c h => runAccepted_replies h fun _ => rfl, fun s r c h => ?config, fun s r c h => ?configDenied,
    fun s r c k h => ?pair, fun s r c h => ?pairUnverified, fun s r c k h => ?pairDenied, fun s r c h => ?unpair,
    fun s r c h hm hp => ?asks, fun s r c h hm hp => mirrorSwitchover_solo h (.inr (.inr ⟨hm, hp⟩)),
    fun s r c h hm => mirrorSwitchover_solo h (.inl hm), fun s r c h hm => mirrorSwitchover_solo h (.inr (.inl hm)),
    fun s r c h hm => ?takesRoles, fun s r c h => ?spill⟩
  case config =>
    obtain ⟨t, run, ended, _, _, _, _, -, -, link⟩ := runAccepted_modIlu (fail := noReply) h fun l => runRingConfig_agreed c (setCmds s l)
    refine ⟨t, run, ended, ?_⟩
    rw [link]
    exact ⟨rfl, rfl, rfl, rfl, rfl⟩
  case configDenied =>
    obtain ⟨t, run, ended, _, _, _, _, -, -, link⟩ := runAccepted_linkKept (eff := runRingConfig false) (fail := noReply) h fun _ => rfl
    refine ⟨t, run, ended, ?_⟩
    rw [link]
    exact ⟨rfl, rfl⟩
  case pair =>
    obtain ⟨t, run, ended, _, _, _, _, -, -, link⟩ := runAccepted_link (i := { (pairSet (reqOf c) k s).ilu with mirror := roleAsked (reqOf c) })
      (fail := noReply) h (fun l => runMirrorPair_agreed k c (setCmds s l))
      (fun l => sameResults_trans _ (pairSet (reqOf c) k (setCmds s l)) _ (sameResults_of_cmds rfl) (roleEntered_results _ _))
      fun l => roleEntered_ilu (reqOf c) (s := pairSet (reqOf c) k (setCmds s l)) rfl
    refine ⟨t, run, ended, ?_⟩
    rw [link]
    exact ⟨rfl, rfl, rfl, rfl, rfl, rfl⟩
  case pairUnverified =>
    obtain ⟨t, run, ended, _, _, _, _, -, -, link⟩ := runAccepted_linkKept (eff := runMirrorPair true none) (fail := noReply) h fun _ => rfl
    exact ⟨t, run, ended, by rw [link]⟩
  case pairDenied =>
    obtain ⟨t, run, ended, _, _, _, _, -, -, link⟩ := runAccepted_linkKept (eff := runMirrorPair false k) (fail := noReply) h fun _ => rfl
    exact ⟨t, run, ended, by rw [link]⟩
  case unpair =>
    obtain ⟨t, run, ended, _, _, _, _, -, -, link⟩ := runMirrorUnpair_ends h
    refine ⟨t, run, ended, ?_⟩
    rw [link]
    exact ⟨rfl, rfl⟩
  case asks =>
    have sent (l : List Cmd) := sendPartner_sent 0x12 (toLe 8 s.ilu.claim.toNat) (setCmds s l)
    obtain ⟨t, l, run, begun, left⟩ := runAccepted_begins (eff := runSwitchover) (fail := noReply) h
      (fun l => runSwitchover_asks (s := setCmds s l) hm hp c) fun l => sameResults_of_link (linkOnly_of_sent (sent l))
    obtain ⟨_, _, _, _, -, -, link⟩ := iluSent_trans (linkSent_ilu (sent l)) left.ilu
    refine ⟨t, run, begun, ?_⟩
    rw [link]
    exact hm
  case takesRoles =>
    obtain ⟨t, run, ended, _, _, _, _, -, -, link⟩ := runAccepted_modIlu (g := rolesTaken)
      (b := toLe 8 (claimRaised s.ilu).toNat) (eff := runSwitchover) (fail := noReply) h
      fun l => runSwitchover_none (s := setCmds s l) hm c
    refine ⟨t, run, ?_⟩
    rw [link]
    exact ⟨ended, rfl, rfl, rfl⟩
  case spill =>
    obtain ⟨t, run, ended, _, _, _, _, -, -, link⟩ := runAccepted_modIlu (eff := runRingSpill) (fail := noReply) h fun _ => rfl
    exact ⟨t, run, ended, by rw [link]⟩

end Sys2Proof.Proofs
end

section
/-! The interface of the model: a step with a command at the front of the queue, the OTP as shipped, and the words of the life cycle. -/

namespace Sys2Proof.Proofs
open Sys2Proof Sys2Proof.Machine Sys2Proof.Safety Sys2Proof.Laws

/-- A step with a command at the front of the queue is that command on the rest. -/
theorem step_cons {s : State} {c : Instr} {rest : List Instr} (h : s.pending = c :: rest) : step s = exec c { s with pending := rest } := by
  unfold step
  rw [h]

/-- Settles O50: the queue is taken apart at its front. -/
theorem stepRunsTheFrontCommand : Obligations.StepRunsTheFrontCommand := fun _ _ _ h => step_cons h

/-- Settles O54: the canonical form is `reset_otp_wf`; the seed's first byte and the revocation byte are read off the shipped OTP. -/
theorem resetOtpIsSound : Obligations.ResetOtpIsSound := ⟨reset_otp_wf, by decide, by decide⟩

/-- Settles O60: the words are the five of the table, and the code of each state is the low byte of its word. -/
theorem lifeCycleWordsAreThoseOfTheSpec : Obligations.LifeCycleWordsAreThoseOfTheSpec := by
  refine ⟨rfl, rfl, rfl, rfl, rfl, fun l => ?_⟩
  cases l <;> decide

end Sys2Proof.Proofs
end

section
/-! What the shared operations leave as it is: the queue of waiting commands and the OTP (R46, R72, R365). -/

namespace Sys2Proof.Proofs

open Sys2Proof Sys2Proof.Machine Sys2Proof.Safety Sys2Proof.Laws

/-- What almost every operation leaves as it is: the queue of waiting commands, and the OTP. -/
def still (s : State) : List Instr × List Host.Cell := (s.pending, s.life.otp)

@[simp] theorem still_fields (s : State) : (s.pending, s.life.otp) = still s := rfl
@[simp] theorem still_mk (a b c d e f g h i j k l m n o p q r life t u v w x pending) :
    still (State.mk a b c d e f g h i j k l m n o p q r life t u v w x pending) = (pending, life.otp) := rfl

theorem still_foldl {α : Type} {f : State → α → State} (h : ∀ s x, still (f s x) = still s) (l : List α) (s : State) :
    still (l.foldl f s) = still s := by
  induction l generalizing s with
  | nil => rfl
  | cons x r ih => rw [List.foldl_cons, ih, h]

/-- A row that answers a next state leaves the queue and the OTP as they are. -/
def leavesStill (s : State) : Res → Prop
  | .next t => still t = still s
  | _ => True

@[simp] theorem leavesStill_next (s t : State) : leavesStill s (.next t) ↔ still t = still s := Iff.rfl
@[simp] theorem leavesStill_fault (s : State) (e : Fault) : leavesStill s (.fault e) := trivial

theorem guarded_still {g : Bool} {f : State → State} (h : ∀ s, still (f s) = still s) (s : State) : leavesStill s (guarded g f s) := by
  cases g
  · rfl
  · exact h s

/-! ## Outputs, functions, partitions, rings, units and commands in flight -/

@[simp] theorem stay_still (s : State) : leavesStill s (stay s) := (rfl)
@[simp] theorem emit_still (o : Out) (s : State) : still (emit o s) = still s := (rfl)
@[simp] theorem takeFree_still (n : Nat) (s : State) : still (takeFree n s).2 = still s := (rfl)
@[simp] theorem setFn_still (s : State) (f : Nat) (x : Fn) : still (setFn s f x) = still s := (rfl)
@[simp] theorem modFn_still (f : Nat) (g : Fn → Fn) (s : State) : still (modFn f g s) = still s := by simp [modFn]
@[simp] theorem bumpFn_still (f off : Nat) (s : State) : still (bumpFn f off s) = still s := by simp [bumpFn]

@[simp] theorem raiseVector_still (f v : Nat) (s : State) : still (raiseVector f v s) = still s := by
  unfold raiseVector
  dsimp only
  (repeat' split) <;> simp

@[simp] theorem setCause_still (f : Nat) (c : BitVec 5) (s : State) : still (setCause f c s) = still s := by
  unfold setCause
  dsimp only
  (repeat' split) <;> simp

@[simp] theorem setCauseAll_still (c : BitVec 5) (s : State) : still (setCauseAll c s) = still s := by simp [setCauseAll, still_foldl]
@[simp] theorem setCausePart_still (p : Nat) (c : BitVec 5) (s : State) : still (setCausePart p c s) = still s := by simp [setCausePart, still_foldl]

@[simp] theorem setFltCause_still (c : BitVec 9) (s : State) : still (setFltCause c s) = still s := by
  unfold setFltCause
  dsimp only
  (repeat' split) <;> simp

@[simp] theorem setPart_still (s : State) (p : Nat) (x : Part) : still (setPart s p x) = still s := (rfl)
@[simp] theorem modPart_still (p : Nat) (g : Part → Part) (s : State) : still (modPart p g s) = still s := by simp [modPart]
@[simp] theorem bumpPart_still (p off : Nat) (s : State) : still (bumpPart p off s) = still s := by simp [bumpPart]
@[simp] theorem setRing_still (s : State) (g : Nat) (x : Ring) : still (setRing s g x) = still s := (rfl)
@[simp] theorem modRing_still (g : Nat) (h : Ring → Ring) (s : State) : still (modRing g h s) = still s := by simp [modRing]
@[simp] theorem setDomain_still (s : State) (d : Nat) (x : Domain) : still (setDomain s d x) = still s := (rfl)
@[simp] theorem modDomain_still (d : Nat) (g : Domain → Domain) (s : State) : still (modDomain d g s) = still s := by simp [modDomain]
@[simp] theorem modFacet_still (n : Nat) (g : Facet → Facet) (s : State) : still (modFacet n g s) = still s := (rfl)
@[simp] theorem modEngine_still (n : Nat) (g : Engine → Engine) (s : State) : still (modEngine n g s) = still s := (rfl)

@[simp] theorem traceRec_still (event unit part flags : Nat) (tail : Bytes) (s : State) :
    still (traceRec event unit part flags tail s) = still s := by
  unfold traceRec
  dsimp only
  (repeat' split) <;> simp

@[simp] theorem setCmds_still (s : State) (l : List Cmd) : still (setCmds s l) = still s := (rfl)
@[simp] theorem modCmd_still (r : CmdRef) (g : Cmd → Cmd) (s : State) : still (modCmd r g s) = still s := by simp [modCmd]
@[simp] theorem dropCmd_still (r : CmdRef) (s : State) : still (dropCmd r s) = still s := by simp [dropCmd]

@[simp] theorem setResult_still (r : CmdRef) (st : Status) (reply : Bytes) (s : State) : still (setResult r st reply s) = still s := by
  simp [setResult]

/-! ## Faults and retirement -/

@[simp] theorem modItem_still (r : CmdRef) (i : Nat) (g : Item → Item) (s : State) : still (modItem r i g s) = still s := by simp [modItem]

@[simp] theorem removeUnit_still (u : UnitId) (s : State) : still (removeUnit u s) = still s := by
  unfold removeUnit
  split <;> simp [still_foldl]

@[simp] theorem faultLog_still (kind event index line : Nat) (s : State) : still (faultLog kind event index line s) = still s := (rfl)

@[simp] theorem abortCalibration_still (s : State) : still (abortCalibration s) = still s := by
  unfold abortCalibration
  split <;> simp

@[simp] theorem gateIfRetired_still (d : Nat) (s : State) : still (gateIfRetired d s) = still s := by
  unfold gateIfRetired
  split <;> simp

@[simp] theorem startRankRetire_still (r : Nat) (s : State) : still (startRankRetire r s) = still s := by
  unfold startRankRetire
  split <;> simp

@[simp] theorem retireEffect_still (c : Channel) (s : State) : still (retireEffect c s) = still s := by
  unfold retireEffect
  (repeat' split) <;> simp

@[simp] theorem retire_still (cause : Nat) (c : Channel) (s : State) : still (retire cause c s) = still s := by
  unfold retire
  split <;> simp

@[simp] theorem selfTestFail_still (c : Channel) (s : State) : still (selfTestFail c s) = still s := by simp [selfTestFail]

@[simp] theorem transient_still (c : Channel) (s : State) : still (transient c s) = still s := by
  unfold transient
  dsimp only
  (repeat' split) <;> simp

@[simp] theorem countPoison_still (line : BitVec 32) (s : State) : still (countPoison line s) = still s := by
  unfold countPoison
  split <;> simp

/-! ## Sending on the link -/

@[simp] theorem modIlu_still (g : Iluon → Iluon) (s : State) : still (modIlu g s) = still s := (rfl)
@[simp] theorem modPort_still (east : Bool) (g : IluonPort → IluonPort) (s : State) : still (modPort east g s) = still s := by simp [modPort]
@[simp] theorem portFault_still (east : Bool) (s : State) : still (portFault east s) = still s := by simp [portFault]

@[simp] theorem sealPayload_still (typ flags src dst : Nat) (claim : BitVec 64) (payload : Bytes) (s : State) :
    still (sealPayload typ flags src dst claim payload s).2 = still s := by
  unfold sealPayload
  split <;> simp

@[simp] theorem putFrame_still (east : Bool) (typ flags src dst len : Nat) (claim : BitVec 64) (body : Bytes) (s : State) :
    still (putFrame east typ flags src dst len claim body s) = still s := by
  simp [putFrame]

@[simp] theorem sendTrain_still (east : Bool) (typ dst : Nat) (claim : BitVec 64) (l : List Bytes) (s : State) :
    still (sendTrain east typ dst claim l s) = still s := by
  obtain ⟨i, o, -, e⟩ := sendTrain_sent east typ dst claim l s
  rw [e]; rfl

@[simp] theorem sendFrame_still (east : Bool) (typ dst : Nat) (claim : BitVec 64) (payload : Bytes) (s : State) :
    still (sendFrame east typ dst claim payload s) = still s := by
  unfold sendFrame
  split <;> simp

@[simp] theorem sendHop_still (east : Bool) (typ : Nat) (seq : BitVec 16) (s : State) : still (sendHop east typ seq s) = still s := by simp [sendHop]

@[simp] theorem broadcast_still (typ : Nat) (claim : BitVec 64) (payload : Bytes) (s : State) : still (broadcast typ claim payload s) = still s := by
  unfold broadcast
  split <;> simp

@[simp] theorem sendTo_still (n typ : Nat) (claim : BitVec 64) (payload : Bytes) (s : State) : still (sendTo n typ claim payload s) = still s := by
  unfold sendTo
  split <;> simp

@[simp] theorem sendPartner_still (typ : Nat) (payload : Bytes) (s : State) : still (sendPartner typ payload s) = still s := by simp [sendPartner]

@[simp] theorem reframe_still (east : Bool) (flags : Nat) (f : Frame) (typ : Nat) (body : Bytes) (len : Nat) (s : State) :
    still (reframe east flags f typ body len s) = still s := by
  simp [reframe]

@[simp] theorem onwards_still (f : Frame) (typ : Nat) (body : Bytes) (len : Nat) (s : State) : still (onwards f typ body len s) = still s := by
  unfold onwards
  (repeat' split) <;> simp

@[simp] theorem passOn_still (f : Frame) (typ : Nat) (s : State) : still (passOn f typ s) = still s := by
  unfold passOn
  (repeat' split) <;> simp

/-! ## Keys -/

@[simp] theorem setKey_still (p : Nat) (r : BitVec 32) (e : KeyEntry) (s : State) : still (setKey p r e s) = still s := (rfl)
@[simp] theorem storeKey_still (p : Nat) (r : BitVec 32) (e : KeyEntry) (s : State) : still (storeKey p r e s) = still s := by simp [storeKey]

@[simp] theorem takeRef_still (p : Nat) (r : BitVec 32) (v : BitVec 16) (s : State) : still (takeRef p r v s) = still s := by
  unfold takeRef
  split <;> simp

@[simp] theorem dropRef_still (p : Nat) (r : BitVec 32) (v : BitVec 16) (s : State) : still (dropRef p r v s) = still s := by simp [dropRef]
@[simp] theorem dropRefs_still (c : Cmd) (s : State) : still (dropRefs c s) = still s := by simp [dropRefs, still_foldl]

@[simp] theorem releaseKeys_still (r : CmdRef) (s : State) : still (releaseKeys r s) = still s := by
  unfold releaseKeys
  split <;> simp [still_foldl]

@[simp] theorem addReserved_still (p n : Nat) (s : State) : still (addReserved p n s) = still s := (rfl)
@[simp] theorem subReserved_still (p : Nat) (s : State) : still (subReserved p s) = still s := (rfl)

@[simp] theorem retireVersion_still (p : Nat) (r : BitVec 32) (reserved : Bool) (s : State) : still (retireVersion p r reserved s) = still s := by
  unfold retireVersion
  split <;> simp

@[simp] theorem rewriteOk_still (p : Nat) (r : BitVec 32) (reserved : Bool) (val : Option KeyVal) (s : State) :
    still (rewriteOk p r reserved val s) = still s := by
  simp [rewriteOk]

@[simp] theorem fallBack_still (p : Nat) (r : BitVec 32) (v : BitVec 16) (s : State) : still (fallBack p r v s) = still s := by
  simp [fallBack, still_foldl]

@[simp] theorem rewriteWithdraw_still (p : Nat) (r : BitVec 32) (c : CmdRef) (reserved : Bool) (s : State) :
    still (rewriteWithdraw p r c reserved s) = still s := by
  unfold rewriteWithdraw
  dsimp only
  (repeat' split) <;> simp

@[simp] theorem writeBoth_still (b : Backing) (s : State) : still (writeBoth b s) = still s := (rfl)

@[simp] theorem backingNow_still (s : State) (p : Nat) (r : BitVec 32) : still (backingNow s p r).2 = still s := by
  unfold backingNow
  split <;> simp

@[simp] theorem writeBacking_still (p : Nat) (r : BitVec 32) (s : State) : still (writeBacking p r s) = still s := by simp [writeBacking, still_foldl]
@[simp] theorem noteBacking_still (c : CmdRef) (r : BitVec 32) (s : State) : still (noteBacking c r s) = still s := by simp [noteBacking]

@[simp] theorem reloadKeys_still (bad : BadRecords) (s : State) : still (reloadKeys bad s) = still s := by
  unfold reloadKeys
  dsimp only
  refine (still_foldl (fun s k => ?_) _ _).trans rfl
  split <;> simp

@[simp] theorem cutBackings_still (s : State) : still (cutBackings s) = still s := by
  obtain ⟨n, f, e⟩ := cutBackings_frame s
  rw [e]; rfl

@[simp] theorem hotTake_still (p : Nat) (e : Nat → HotEntry) (s : State) : still (hotTake p e s) = still s := by
  unfold hotTake
  (repeat' split) <;> simp

@[simp] theorem hotClaim_still (p : Nat) (r : BitVec 32) (v : BitVec 16) (s : State) : still (hotClaim p r v s) = still s := by
  unfold hotClaim
  split <;> simp

@[simp] theorem hotClaimDerived_still (r : CmdRef) (s : State) : still (hotClaimDerived r s) = still s := by simp [hotClaimDerived]

@[simp] theorem hotFillDerived_still (r : CmdRef) (alg : BitVec 8) (b : Bytes) (s : State) : still (hotFillDerived r alg b s) = still s := by
  simp [hotFillDerived]

@[simp] theorem hotDropDerived_still (r : CmdRef) (s : State) : still (hotDropDerived r s) = still s := (rfl)
@[simp] theorem hotReady_still (p : Nat) (r : BitVec 32) (v : BitVec 16) (s : State) : still (hotReady p r v s) = still s := by simp [hotReady]
@[simp] theorem hotDrop_still (p : Nat) (r : BitVec 32) (v : BitVec 16) (s : State) : still (hotDrop p r v s) = still s := (rfl)

@[simp] theorem keyFailed_still (p : Nat) (r : BitVec 32) (s : State) : still (keyFailed p r s) = still s := by
  unfold keyFailed
  dsimp only
  (repeat' split) <;> simp

@[simp] theorem clearKeyRegs_still (s : State) : still (clearKeyRegs s) = still s := (rfl)
@[simp] theorem zeroiseRegister_still (s : State) : still (zeroiseRegister s) = still s := by simp [zeroiseRegister]
@[simp] theorem destroyAllKeys_still (s : State) : still (destroyAllKeys s) = still s := (rfl)
@[simp] theorem destroyPartKeys_still (p : Nat) (s : State) : still (destroyPartKeys p s) = still s := (rfl)

/-! ## Sessions -/

@[simp] theorem setSess_still (i : Nat) (x : Session) (s : State) : still (setSess i x s) = still s := (rfl)
@[simp] theorem modSess_still (i : Nat) (g : Session → Session) (s : State) : still (modSess i g s) = still s := by simp [modSess]

@[simp] theorem takeCtx_still (p i : Nat) (s : State) : still (takeCtx p i s) = still s := by
  unfold takeCtx
  split <;> simp

@[simp] theorem allocCtx_still (p i idle : Nat) (transient : Bool) (s : State) : still (allocCtx p i idle transient s) = still s := by simp [allocCtx]
@[simp] theorem dropFlow_still (f : Flow) (s : State) : still (dropFlow f s) = still s := by simp [dropFlow]

@[simp] theorem releaseCtx_still (i : Nat) (s : State) : still (releaseCtx i s) = still s := by
  unfold releaseCtx
  dsimp only
  (repeat' split) <;> simp

@[simp] theorem sessionRelease_still (p : Nat) (h : BitVec 32) (s : State) : still (sessionRelease p h s) = still s := by
  unfold sessionRelease
  dsimp only
  (repeat' split) <;> simp

@[simp] theorem endSessions_still (p : Nat) (s : State) : still (endSessions p s) = still s := by simp [endSessions, still_foldl]

/-! ## The ends of commands -/

@[simp] theorem signalRing_still (g : Nat) (s : State) : still (signalRing g s) = still s := by
  unfold signalRing
  dsimp only
  (repeat' split) <;> simp

@[simp] theorem coalesce_still (g : Nat) (suppress : Bool) (s : State) : still (coalesce g suppress s) = still s := by
  unfold coalesce
  dsimp only
  (repeat' split) <;> simp

@[simp] theorem postCompletion_still (p : Post) (s : State) : still (postCompletion p s) = still s := by
  unfold postCompletion
  (repeat' split) <;> simp

@[simp] theorem modJ_still (r : CmdRef) (g : JEntry → JEntry) (s : State) : still (modJ r g s) = still s := by simp [modJ]

@[simp] theorem traceCancels_still (c : Cmd) (s : State) : still (traceCancels c s) = still s := by
  obtain ⟨w, f, l, o, e⟩ := traceCancels_frame c s
  rw [e]; rfl

@[simp] theorem dropDraw_still (r : CmdRef) (s : State) : still (dropDraw r s) = still s := (rfl)

@[simp] theorem endCmd_still (r : CmdRef) (st : Status) (reply : Bytes) (s : State) : still (endCmd r st reply s) = still s := by
  unfold endCmd
  (repeat' split) <;> simp

@[simp] theorem cutCmd_still (r : CmdRef) (st : Status) (cause : Nat) (force : Bool) (s : State) : still (cutCmd r st cause force s) = still s := by
  unfold cutCmd
  (repeat' split) <;> simp

@[simp] theorem cancelCmd_still (c : Cmd) (s : State) : still (cancelCmd c s) = still s := by
  unfold cancelCmd
  split <;> simp

@[simp] theorem cancelPart_still (p : Nat) (s : State) : still (cancelPart p s) = still s := by simp [cancelPart, still_foldl]
@[simp] theorem loseSession_still (i : Nat) (s : State) : still (loseSession i s) = still s := by simp [loseSession, still_foldl]

@[simp] theorem discardHeld_still (g : Nat) (s : State) : still (discardHeld g s) = still s := by
  unfold discardHeld
  dsimp only
  (repeat' split) <;> simp [still_foldl]

@[simp] theorem bumpRingGen_still (g : Nat) (s : State) : still (bumpRingGen g s) = still s := by
  unfold bumpRingGen
  dsimp only
  (repeat' split) <;> simp

@[simp] theorem bumpPartGen_still (p : Nat) (s : State) : still (bumpPartGen p s) = still s := by simp [bumpPartGen, still_foldl]
@[simp] theorem ends_still (s : State) (st : Status) (reply : Bytes) : still (ends s st reply).1 = still s := (rfl)
@[simp] theorem noReply_still (c : Cmd) (st : Status) (s : State) : still (noReply c st s).1 = still s := (rfl)

@[simp] theorem noteUndo_still (c : Cmd) (s : State) : still (noteUndo c s) = still s := by
  unfold noteUndo
  split <;> simp

@[simp] theorem sendReplica_still (s : State) (m : Bool × Bytes) : still (sendReplica s m) = still s := by simp [sendReplica]

@[simp] theorem replicateOut_still (c : Cmd) (st : Status) (s t : State) : still (replicateOut c st s t) = still t := by
  unfold replicateOut
  dsimp only
  (repeat' split) <;> simp [still_foldl]

theorem runCmd_still {eff : Effect} {fail : OnFail} (he : ∀ c s, still (eff c s).1 = still s)
    (hf : ∀ c st s, still (fail c st s).1 = still s) (c : Cmd) (s : State) : still (runCmd eff fail c s) = still s := by
  unfold runCmd
  split
  · simp [hf]
  · have h := he c (noteUndo c s)
    split <;> simp_all

theorem runAccepted_still {eff : Effect} {fail : OnFail} (he : ∀ c s, still (eff c s).1 = still s)
    (hf : ∀ c st s, still (fail c st s).1 = still s) (op : Nat) (r : CmdRef) (s : State) : leavesStill s (runAccepted op eff fail r s) := by
  unfold runAccepted
  split
  · rfl
  · rw [leavesStill_next]
    split
    · exact runCmd_still he hf _ s
    · rfl

@[simp] theorem countStatus_still (c : Cmd) (st : Status) (s : State) : still (countStatus c st s) = still s := by
  unfold countStatus
  (repeat' split) <;> simp

@[simp] theorem releaseHeld_still (h : HeldDup) (st : Status) (replyLen : Nat) (s : State) : still (releaseHeld h st replyLen s) = still s := by
  unfold releaseHeld
  (repeat' split) <;> simp

@[simp] theorem releaseHelds_still (r : CmdRef) (st : Status) (replyLen : Nat) (s : State) : still (releaseHelds r st replyLen s) = still s := by
  simp [releaseHelds, still_foldl]

@[simp] theorem afterCompletion_still (c : Cmd) (s : State) : still (afterCompletion c s) = still s := by
  unfold afterCompletion
  (repeat' split) <;> simp

/-! ## Loads and rewrites at the effect -/

theorem withKey_still {s : State} {f : KeyVal → State × Option (Status × Bytes)} (h : ∀ v, still (f v).1 = still s) (c : Cmd) (r : BitVec 32)
    (chk : Attr → Option Status) (hdr : Bytes) : still (withKey s c r chk hdr f).1 = still s := by
  unfold withKey
  (repeat' split) <;> simp [h]

@[simp] theorem bumpEpoch_still (p : Nat) (s : State) : still (bumpEpoch p s) = still s := (rfl)

@[simp] theorem writeKey_still (c : Cmd) (o : BitVec 32) (a : Attr) (m random : Bytes) (s : State) :
    still (writeKey c o a m random s).1 = still s := by
  simp [writeKey]

/-! ## The slots of the root-of-trust firmware -/

@[simp] theorem setSlot_still (b : Bool) (x : Slot) (s : State) : still (setSlot b x s) = still s := by
  unfold setSlot
  split <;> simp

@[simp] theorem writeSlot_still (b : Bool) (i : Bytes) (s : State) : still (writeSlot b i s) = still s := by simp [writeSlot]
@[simp] theorem raiseFlag_still (b : Bool) (seq : Nat) (s : State) : still (raiseFlag b seq s) = still s := by simp [raiseFlag]
@[simp] theorem clearFlag_still (b : Bool) (s : State) : still (clearFlag b s) = still s := by simp [clearFlag]

@[simp] theorem cutCommit_still (s : State) : still (cutCommit s) = still s := by
  unfold cutCommit
  dsimp only
  (repeat' split) <;> simp

/-! ## Forwarding -/

@[simp] theorem sendForward_still (s : State) (c : Cmd) : still (sendForward s c) = still s := by
  unfold sendForward
  (repeat' split) <;> simp

@[simp] theorem forwardCmd_still (r : CmdRef) (verdict : Nat) (reseed : Bytes) (s : State) : still (forwardCmd r verdict reseed s) = still s := by
  unfold forwardCmd
  dsimp only
  (repeat' split) <;> simp

@[simp] theorem resendForwards_still (s : State) : still (resendForwards s) = still s := by simp [resendForwards, still_foldl]
@[simp] theorem resendAll_still (s : State) : still (resendAll s) = still s := by simp [resendAll, still_foldl]
@[simp] theorem dropLink_still (port : Bool) (s : State) : still (dropLink port s) = still s := by simp [dropLink]

end Sys2Proof.Proofs
end

section
/-! What the generator and the commands of partitions, keys and payments leave as it is: the queue and the OTP (R365). -/

namespace Sys2Proof.Proofs

open Sys2Proof Sys2Proof.Machine Sys2Proof.Safety Sys2Proof.Laws

/-! ## The generator -/

@[simp] theorem endRestart_still (st : Status) (s : State) : still (endRestart st s) = still s := by simp [endRestart, still_foldl]
@[simp] theorem failWaiting_still (st : Status) (s : State) : still (failWaiting st s) = still s := by simp [failWaiting, still_foldl]
@[simp] theorem enterFailed_still (s : State) : still (enterFailed s) = still s := by simp [enterFailed]
@[simp] theorem moduleOut_still (n : Nat) (s : State) : still (moduleOut n s).2 = still s := (rfl)

@[simp] theorem islandDraw_still (n : Nat) (s : State) : still (islandDraw n s).2 = still s := by
  unfold islandDraw
  split <;> simp

@[simp] theorem islandMask_still (n : Nat) (s : State) : still (islandMask n s).2 = still s := (rfl)
@[simp] theorem instantiatePart_still (s : State) (p : Nat) : still (instantiatePart s p) = still s := by simp [instantiatePart]

@[simp] theorem requestDraw_still (r : CmdRef) (s : State) : still (requestDraw r s) = still s := by
  unfold requestDraw
  split <;> simp

@[simp] theorem popDraw_still (r : CmdRef) (s : State) : still (popDraw r s) = still s := (rfl)
@[simp] theorem reseedPart_still (p : Nat) (seed : Bytes) (s : State) : still (reseedPart p seed s) = still s := by simp [reseedPart]
@[simp] theorem giveSeed_still (r : CmdRef) (s : State) : still (giveSeed r s) = still s := by simp [giveSeed]

@[simp] theorem drawSeed_still (p : Nat) (r : CmdRef) (s : State) : still (drawSeed p r s) = still s := by
  unfold drawSeed
  (repeat' split) <;> simp

@[simp] theorem execRngStartupKatEnd_still (pass : Bool) (s : State) : leavesStill s (execRngStartupKatEnd pass s) := by
  unfold execRngStartupKatEnd
  refine guarded_still (fun s => ?_) s
  split <;> simp

@[simp] theorem seedModule_still (s : State) : still (seedModule s) = still s := by
  unfold seedModule
  split <;> simp

@[simp] theorem execRngStartupVerdict_still (lower upper : List (List Bool)) (s : State) : leavesStill s (execRngStartupVerdict lower upper s) := by
  unfold execRngStartupVerdict
  refine guarded_still (fun s => ?_) s
  dsimp only
  (repeat' split) <;> simp

@[simp] theorem rngPass_still (s : State) : still (rngPass s) = still s := by
  unfold rngPass
  dsimp only
  (repeat' split) <;> simp [still_foldl]

@[simp] theorem execRngHealthFail_still (source : Fin 4) (samples : List (List Bool)) (s : State) :
    leavesStill s (execRngHealthFail source samples s) := by
  unfold execRngHealthFail
  refine guarded_still (fun s => ?_) s
  dsimp only
  (repeat' split) <;> simp

@[simp] theorem execSeedReady_still (samples : List (List Bool)) (s : State) : leavesStill s (execSeedReady samples s) := by
  unfold execSeedReady
  refine guarded_still (fun s => ?_) s
  simp

@[simp] theorem execModuleInstanceReseed_still (s : State) : leavesStill s (execModuleInstanceReseed s) := by
  unfold execModuleInstanceReseed
  split
  · rfl
  · exact guarded_still (fun s => still_mk ..) s

@[simp] theorem reseedMasks_still (s : State) : still (reseedMasks s) = still s := by simp [reseedMasks, still_foldl]
@[simp] theorem execMaskReseed_still (s : State) : leavesStill s (execMaskReseed s) := by simp [execMaskReseed, guarded_still]

@[simp] theorem execRngReadTimeout_still (p : Fin 256) (s : State) : leavesStill s (execRngReadTimeout p s) := by
  unfold execRngReadTimeout
  split <;> simp [guarded_still]

@[simp] theorem runRngGenerate_still (c : Cmd) (s : State) : still (runRngGenerate c s).1 = still s := by simp [runRngGenerate]

@[simp] theorem runRngKat_still (cond expd : Bool) (c : Cmd) (s : State) : still (runRngKat cond expd c s).1 = still s := by
  unfold runRngKat
  dsimp only
  (repeat' split) <;> simp

@[simp] theorem runRngRestart_still (c : Cmd) (s : State) : still (runRngRestart c s).1 = still s := (rfl)
@[simp] theorem failRngRestart_still (c : Cmd) (st : Status) (s : State) : still (failRngRestart c st s).1 = still s := (rfl)
@[simp] theorem runRngRaw_still (samples : Bytes) (c : Cmd) (s : State) : still (runRngRaw samples c s).1 = still s := by simp [runRngRaw]
@[simp] theorem execRngGenerate_still (r : CmdRef) (s : State) : leavesStill s (execRngGenerate r s) := by simp [execRngGenerate, runAccepted_still]

@[simp] theorem execRngKat_still (r : CmdRef) (cond expd : Bool) (s : State) : leavesStill s (execRngKat r cond expd s) := by
  simp [execRngKat, runAccepted_still]

@[simp] theorem execRngRestart_still (r : CmdRef) (s : State) : leavesStill s (execRngRestart r s) := by simp [execRngRestart, runAccepted_still]

@[simp] theorem execRngRaw_still (r : CmdRef) (samples : Bytes) (s : State) : leavesStill s (execRngRaw r samples s) := by
  simp [execRngRaw, runAccepted_still]

/-! ## PIN, card and DUKPT commands -/

@[simp] theorem runPinTranslate_still (c : Cmd) (s : State) : still (runPinTranslate c s).1 = still s := by
  unfold runPinTranslate
  dsimp only
  refine withKey_still (fun _ => ?_) _ _ _ _
  refine withKey_still (fun _ => ?_) _ _ _ _
  (repeat' split) <;> simp

@[simp] theorem runOffset_still (gen : Bool) (c : Cmd) (s : State) : still (runOffset gen c s).1 = still s := by
  unfold runOffset
  dsimp only
  refine withKey_still (fun _ => ?_) _ _ _ _
  refine withKey_still (fun _ => ?_) _ _ _ _
  (repeat' split) <;> simp

@[simp] theorem runPvv_still (gen : Bool) (c : Cmd) (s : State) : still (runPvv gen c s).1 = still s := by
  unfold runPvv
  dsimp only
  refine withKey_still (fun _ => ?_) _ _ _ _
  refine withKey_still (fun _ => ?_) _ _ _ _
  (repeat' split) <;> simp

@[simp] theorem runCvv_still (verify : Bool) (c : Cmd) (s : State) : still (runCvv verify c s).1 = still s := by
  unfold runCvv
  dsimp only
  refine withKey_still (fun _ => ?_) _ _ _ _
  (repeat' split) <;> simp

@[simp] theorem runArqc_still (c : Cmd) (s : State) : still (runArqc c s).1 = still s := by
  unfold runArqc
  dsimp only
  refine withKey_still (fun _ => ?_) _ _ _ _
  (repeat' split) <;> simp

@[simp] theorem runScript_still (c : Cmd) (s : State) : still (runScript c s).1 = still s := by
  unfold runScript
  dsimp only
  refine withKey_still (fun _ => ?_) _ _ _ _
  simp

@[simp] theorem runDukptInitial_still (c : Cmd) (s : State) : still (runDukptInitial c s).1 = still s := by
  unfold runDukptInitial
  dsimp only
  refine withKey_still (fun _ => ?_) _ _ _ _
  (repeat' split) <;> simp

@[simp] theorem runDukpt_still (kind : Nat) (c : Cmd) (s : State) : still (runDukpt kind c s).1 = still s := by
  unfold runDukpt
  dsimp only
  refine withKey_still (fun _ => ?_) _ _ _ _
  (repeat' split) <;> simp

@[simp] theorem execPinTranslate_still (r : CmdRef) (s : State) : leavesStill s (execPinTranslate r s) := by
  simp [execPinTranslate, runAccepted_still]

@[simp] theorem execPinVerifyOffset_still (r : CmdRef) (s : State) : leavesStill s (execPinVerifyOffset r s) := by
  simp [execPinVerifyOffset, runAccepted_still]

@[simp] theorem execPinVerifyPvv_still (r : CmdRef) (s : State) : leavesStill s (execPinVerifyPvv r s) := by
  simp [execPinVerifyPvv, runAccepted_still]

@[simp] theorem execPinOffsetGenerate_still (r : CmdRef) (s : State) : leavesStill s (execPinOffsetGenerate r s) := by
  simp [execPinOffsetGenerate, runAccepted_still]

@[simp] theorem execPinPvvGenerate_still (r : CmdRef) (s : State) : leavesStill s (execPinPvvGenerate r s) := by
  simp [execPinPvvGenerate, runAccepted_still]

@[simp] theorem execCvvGenerate_still (r : CmdRef) (s : State) : leavesStill s (execCvvGenerate r s) := by simp [execCvvGenerate, runAccepted_still]
@[simp] theorem execCvvVerify_still (r : CmdRef) (s : State) : leavesStill s (execCvvVerify r s) := by simp [execCvvVerify, runAccepted_still]
@[simp] theorem execArqcVerify_still (r : CmdRef) (s : State) : leavesStill s (execArqcVerify r s) := by simp [execArqcVerify, runAccepted_still]

@[simp] theorem execScriptMacGenerate_still (r : CmdRef) (s : State) : leavesStill s (execScriptMacGenerate r s) := by
  simp [execScriptMacGenerate, runAccepted_still]

@[simp] theorem execDukptDeriveInitial_still (r : CmdRef) (s : State) : leavesStill s (execDukptDeriveInitial r s) := by
  simp [execDukptDeriveInitial, runAccepted_still]

@[simp] theorem execDukptMacGenerate_still (r : CmdRef) (s : State) : leavesStill s (execDukptMacGenerate r s) := by
  simp [execDukptMacGenerate, runAccepted_still]

@[simp] theorem execDukptMacVerify_still (r : CmdRef) (s : State) : leavesStill s (execDukptMacVerify r s) := by
  simp [execDukptMacVerify, runAccepted_still]

@[simp] theorem execDukptDecrypt_still (r : CmdRef) (s : State) : leavesStill s (execDukptDecrypt r s) := by
  simp [execDukptDecrypt, runAccepted_still]

/-! ## The token vault -/

@[simp] theorem stampVaults_still (p : Nat) (s : State) : still (stampVaults p s) = still s := by simp [stampVaults]

@[simp] theorem stampReady_still (r : CmdRef) (s : State) : still (stampReady r s) = still s := by
  unfold stampReady
  (repeat' split) <;> simp

@[simp] theorem setVault_still (p : Nat) (v : Vault) (s : State) : still (setVault p v s) = still s := by simp [setVault]

theorem vaultPoison_still {p : Nat} {t : Bytes} {s u : State} (h : vaultPoison p t s = some u) : still u = still s := by
  unfold vaultPoison at h
  dsimp only at h
  split at h
  · cases h
  · cases h; rfl

@[simp] theorem runVaultTokenise_still (c : Cmd) (s : State) : still (runVaultTokenise c s).1 = still s := by
  unfold runVaultTokenise
  dsimp only
  refine withKey_still (fun _ => ?_) _ _ _ _
  split
  · next h => simp [vaultPoison_still h]
  · (repeat' split) <;> simp

@[simp] theorem runVaultDetokenise_still (c : Cmd) (s : State) : still (runVaultDetokenise c s).1 = still s := by
  unfold runVaultDetokenise
  dsimp only
  refine withKey_still (fun _ => ?_) _ _ _ _
  split
  · next h => simp [vaultPoison_still h]
  · (repeat' split) <;> simp

@[simp] theorem runVaultDelete_still (c : Cmd) (s : State) : still (runVaultDelete c s).1 = still s := by
  unfold runVaultDelete
  dsimp only
  refine withKey_still (fun _ => ?_) _ _ _ _
  split
  · next h => simp [vaultPoison_still h]
  · (repeat' split) <;> simp

theorem reloadOne_still (c : Cmd) (key : Bytes) (a : ReloadAcc) (i : Nat) : still (reloadOne c key a i).st = still a.st := by
  unfold reloadOne
  dsimp only
  split
  · rfl
  · split
    · next h => exact vaultPoison_still h
    · (repeat' split) <;> simp

theorem reloadAll_still (c : Cmd) (key : Bytes) (l : List Nat) (a : ReloadAcc) : still (l.foldl (reloadOne c key) a).st = still a.st := by
  induction l generalizing a with
  | nil => rfl
  | cons i r ih => rw [List.foldl_cons, ih, reloadOne_still]

@[simp] theorem runVaultReload_still (c : Cmd) (s : State) : still (runVaultReload c s).1 = still s := by
  unfold runVaultReload
  dsimp only
  refine withKey_still (fun k => ?_) _ _ _ _
  split <;> simp [reloadAll_still]

theorem runVault_still {eff : Effect} (h : ∀ c s, still (eff c s).1 = still s) (op : Nat) (r : CmdRef) (s : State) :
    leavesStill s (runVault op eff r s) := by
  unfold runVault
  split
  · rfl
  · split
    · simp [runCmd_still h]
    · rfl

@[simp] theorem execVaultTokenise_still (r : CmdRef) (s : State) : leavesStill s (execVaultTokenise r s) :=
  runVault_still runVaultTokenise_still _ r s

@[simp] theorem execVaultDetokenise_still (r : CmdRef) (s : State) : leavesStill s (execVaultDetokenise r s) :=
  runVault_still runVaultDetokenise_still _ r s

@[simp] theorem execVaultDelete_still (r : CmdRef) (s : State) : leavesStill s (execVaultDelete r s) :=
  runVault_still runVaultDelete_still _ r s

@[simp] theorem execVaultReload_still (r : CmdRef) (s : State) : leavesStill s (execVaultReload r s) :=
  runVault_still runVaultReload_still _ r s

/-! ## Resets -/

@[simp] theorem relayVaults_still (s : State) : still (relayVaults s) = still s := by
  unfold relayVaults
  refine still_foldl (fun s x => ?_) _ s
  dsimp only
  (repeat' split) <;> simp

@[simp] theorem setCapacity_still (s : State) : still (setCapacity s) = still s := by simp [setCapacity, still_foldl]

@[simp] theorem layVaults_still (s : State) : still (layVaults s) = still s := by
  unfold layVaults
  dsimp only
  (repeat' split) <;> simp

@[simp] theorem breakPfLens_still (s : State) : still (breakPfLens s) = still s := by
  unfold breakPfLens
  (repeat' split) <;> simp

@[simp] theorem pfCleared_still (s : State) : still (pfCleared s) = still s := by simp [pfCleared]
@[simp] theorem breakOwned_still (f : Nat) (s : State) : still (breakOwned f s) = still s := by simp [breakOwned]

@[simp] theorem resetGens_still (f : Nat) (s : State) : still (resetGens f s) = still s := by
  unfold resetGens
  dsimp only
  (repeat' split) <;> simp [still_foldl]

@[simp] theorem functionClear_still (f : Nat) (s : State) : still (functionClear f s) = still s := by
  unfold functionClear
  split <;> simp [still_foldl]

@[simp] theorem functionReset_still (f : Nat) (s : State) : still (functionReset f s) = still s := by simp [functionReset]
@[simp] theorem releaseAll_still (p : Nat) (s : State) : still (releaseAll p s) = still s := by simp [releaseAll, still_foldl]
@[simp] theorem emptyPart_still (p : Nat) (s : State) : still (emptyPart p s) = still s := by simp [emptyPart]

/-! ## Partitions, ceremonies and migration -/

theorem adminRun_still {apply : Cmd → State → State} (h : ∀ c s, still (apply c s) = still s) (own : State → Req → Option Status)
    (reply : Cmd → State → Bytes) (c : Cmd) (s : State) : still (adminRun own apply reply c s).1 = still s := by
  unfold adminRun
  split <;> simp [h]

@[simp] theorem setPartState_still (p : Nat) (st : PartState) (s : State) : still (setPartState p st s) = still s := by simp [setPartState]
@[simp] theorem presumeCreate_still (c : Cmd) (s : State) : still (presumeCreate c s) = still s := by simp [presumeCreate]
@[simp] theorem applyCreate_still (c : Cmd) (s : State) : still (applyCreate c s) = still s := by simp [applyCreate]
@[simp] theorem applyEnable_still (c : Cmd) (s : State) : still (applyEnable c s) = still s := by simp [applyEnable]
@[simp] theorem applyDisable_still (c : Cmd) (s : State) : still (applyDisable c s) = still s := by simp [applyDisable]
@[simp] theorem applyDestroy_still (c : Cmd) (s : State) : still (applyDestroy c s) = still s := by simp [applyDestroy]
@[simp] theorem setMap_still (c : Cmd) (s : State) : still (setMap c s) = still s := by simp [setMap]
@[simp] theorem applyMap_still (c : Cmd) (s : State) : still (applyMap c s) = still s := by simp [applyMap]
@[simp] theorem applyPolicySet_still (c : Cmd) (s : State) : still (applyPolicySet c s) = still s := by simp [applyPolicySet]
@[simp] theorem runPolicyGet_still (c : Cmd) (s : State) : still (runPolicyGet c s).1 = still s := by simp [runPolicyGet]
@[simp] theorem applyEnrol_still (c : Cmd) (s : State) : still (applyEnrol c s) = still s := by simp [applyEnrol]
@[simp] theorem applyRemove_still (c : Cmd) (s : State) : still (applyRemove c s) = still s := by simp [applyRemove]
@[simp] theorem runOfficerList_still (c : Cmd) (s : State) : still (runOfficerList c s).1 = still s := by simp [runOfficerList]
@[simp] theorem setLock_still (p : Nat) (l : Lock) (s : State) : still (setLock p l s) = still s := by simp [setLock]
@[simp] theorem openCeremony_still (challenge : Bytes) (c : Cmd) (s : State) : still (openCeremony challenge c s) = still s := by simp [openCeremony]
@[simp] theorem runCeremonyOpen_still (c : Cmd) (s : State) : still (runCeremonyOpen c s).1 = still s := by simp [runCeremonyOpen, adminRun_still]

@[simp] theorem failCeremonyOpen_still (c : Cmd) (st : Status) (s : State) : still (failCeremonyOpen c st s).1 = still s := by
  unfold failCeremonyOpen
  split <;> simp

@[simp] theorem addSignature_still (c : Cmd) (s : State) : still (addSignature c s) = still s := by simp [addSignature]

@[simp] theorem badSignature_still (p : Nat) (s : State) : still (badSignature p s) = still s := by
  unfold badSignature
  dsimp only
  (repeat' split) <;> simp

@[simp] theorem runCeremonySign_still (c : Cmd) (s : State) : still (runCeremonySign c s).1 = still s := by
  unfold runCeremonySign
  dsimp only
  (repeat' split) <;> simp

@[simp] theorem freeLock_still (p : Nat) (s : State) : still (freeLock p s) = still s := by simp [freeLock]
@[simp] theorem applyCancel_still (c : Cmd) (s : State) : still (applyCancel c s) = still s := by simp [applyCancel]

@[simp] theorem runFreeze_still (c : Cmd) (s : State) : still (runFreeze c s).1 = still s := by
  unfold runFreeze
  dsimp only
  (repeat' split) <;> simp

@[simp] theorem execFreezeDrained_still (p : Fin 256) (s : State) : leavesStill s (execFreezeDrained p s) := by
  unfold execFreezeDrained
  dsimp only
  split
  · rfl
  · refine guarded_still (fun s => ?_) s
    split <;> simp

@[simp] theorem execFreezeTimeout_still (p : Fin 256) (s : State) : leavesStill s (execFreezeTimeout p s) := by
  unfold execFreezeTimeout
  dsimp only
  (repeat' split) <;> simp [guarded_still]

@[simp] theorem applyThaw_still (c : Cmd) (s : State) : still (applyThaw c s) = still s := by
  unfold applyThaw
  dsimp only
  (repeat' split) <;> simp

@[simp] theorem runOffer_still (c : Cmd) (s : State) : still (runOffer c s).1 = still s := by
  unfold runOffer
  split <;> simp

@[simp] theorem runExport_still (c : Cmd) (s : State) : still (runExport c s).1 = still s := by
  unfold runExport
  dsimp only
  (repeat' split) <;> simp

@[simp] theorem runExportChunk_still (c : Cmd) (s : State) : still (runExportChunk c s).1 = still s := by
  unfold runExportChunk
  dsimp only
  (repeat' split) <;> simp

@[simp] theorem runImport_still (c : Cmd) (s : State) : still (runImport c s).1 = still s := by
  unfold runImport
  dsimp only
  (repeat' split) <;> simp

@[simp] theorem runImportChunk_still (c : Cmd) (s : State) : still (runImportChunk c s).1 = still s := by
  unfold runImportChunk
  dsimp only
  (repeat' split) <;> simp

@[simp] theorem installKey_still (c : Cmd) (p : Nat) (s : State) (k : BlobKey) : still (installKey c p s k) = still s := by simp [installKey]

@[simp] theorem installSessions_still (src p : Nat) (l : List (Nat × Session)) (s : State) : still (installSessions src p l s) = still s := by
  simp [installSessions, still_foldl]

@[simp] theorem installRings_still (src p : Nat) (m : List (Nat × Nat)) (i : PartImage) (s : State) : still (installRings src p m i s) = still s := by
  simp [installRings, still_foldl]

@[simp] theorem installImage_still (c : Cmd) (p src : Nat) (m : List (Nat × Nat)) (i : PartImage) (s : State) :
    still (installImage c p src m i s) = still s := by
  simp [installImage, still_foldl]

@[simp] theorem runImportEnd_still (c : Cmd) (s : State) : still (runImportEnd c s).1 = still s := by
  unfold runImportEnd
  dsimp only
  (repeat' split) <;> simp

@[simp] theorem runCommit_still (c : Cmd) (s : State) : still (runCommit c s).1 = still s := by
  unfold runCommit
  dsimp only
  (repeat' split) <;> simp

@[simp] theorem presumeProvision_still (c : Cmd) (s : State) : still (presumeProvision c s) = still s := by simp [presumeProvision]

@[simp] theorem applyProvision_still (c : Cmd) (s : State) : still (applyProvision c s) = still s := by
  unfold applyProvision
  dsimp only
  rw [layVaults_still, still_foldl (fun s p => ?_)]
  · simp
  · split <;> simp

@[simp] theorem execPartitionCreate_still (r : CmdRef) (s : State) : leavesStill s (execPartitionCreate r s) := by
  simp [execPartitionCreate, adminRun_still, runAccepted_still]

@[simp] theorem execPartitionEnable_still (r : CmdRef) (s : State) : leavesStill s (execPartitionEnable r s) := by
  simp [execPartitionEnable, adminRun_still, runAccepted_still]

@[simp] theorem execPartitionDisable_still (r : CmdRef) (s : State) : leavesStill s (execPartitionDisable r s) := by
  simp [execPartitionDisable, adminRun_still, runAccepted_still]

@[simp] theorem execPartitionDestroy_still (r : CmdRef) (s : State) : leavesStill s (execPartitionDestroy r s) := by
  simp [execPartitionDestroy, adminRun_still, runAccepted_still]

@[simp] theorem execFunctionMap_still (r : CmdRef) (s : State) : leavesStill s (execFunctionMap r s) := by
  simp [execFunctionMap, adminRun_still, runAccepted_still]

@[simp] theorem execPolicySet_still (r : CmdRef) (s : State) : leavesStill s (execPolicySet r s) := by
  simp [execPolicySet, adminRun_still, runAccepted_still]

@[simp] theorem execPolicyGet_still (r : CmdRef) (s : State) : leavesStill s (execPolicyGet r s) := by simp [execPolicyGet, runAccepted_still]

@[simp] theorem execOfficerEnrol_still (r : CmdRef) (s : State) : leavesStill s (execOfficerEnrol r s) := by
  simp [execOfficerEnrol, adminRun_still, runAccepted_still]

@[simp] theorem execOfficerRemove_still (r : CmdRef) (s : State) : leavesStill s (execOfficerRemove r s) := by
  simp [execOfficerRemove, adminRun_still, runAccepted_still]

@[simp] theorem execOfficerList_still (r : CmdRef) (s : State) : leavesStill s (execOfficerList r s) := by simp [execOfficerList, runAccepted_still]

@[simp] theorem execCeremonyOpen_still (r : CmdRef) (s : State) : leavesStill s (execCeremonyOpen r s) := by
  simp [execCeremonyOpen, runAccepted_still]

@[simp] theorem execCeremonySign_still (r : CmdRef) (s : State) : leavesStill s (execCeremonySign r s) := by
  simp [execCeremonySign, runAccepted_still]

@[simp] theorem execCeremonyCancel_still (r : CmdRef) (s : State) : leavesStill s (execCeremonyCancel r s) := by
  simp [execCeremonyCancel, adminRun_still, runAccepted_still]

@[simp] theorem execCeremonyQuery_still (r : CmdRef) (s : State) : leavesStill s (execCeremonyQuery r s) := by
  simp [execCeremonyQuery, adminRun_still, runAccepted_still]

@[simp] theorem execMigrateFreeze_still (r : CmdRef) (s : State) : leavesStill s (execMigrateFreeze r s) := by
  simp [execMigrateFreeze, runAccepted_still]

@[simp] theorem execMigrateThaw_still (r : CmdRef) (s : State) : leavesStill s (execMigrateThaw r s) := by
  simp [execMigrateThaw, adminRun_still, runAccepted_still]

@[simp] theorem execMigrateOffer_still (r : CmdRef) (s : State) : leavesStill s (execMigrateOffer r s) := by
  simp [execMigrateOffer, runAccepted_still]

@[simp] theorem execMigrateExport_still (r : CmdRef) (s : State) : leavesStill s (execMigrateExport r s) := by
  simp [execMigrateExport, runAccepted_still]

@[simp] theorem execMigrateExportChunk_still (r : CmdRef) (s : State) : leavesStill s (execMigrateExportChunk r s) := by
  simp [execMigrateExportChunk, runAccepted_still]

@[simp] theorem execMigrateImport_still (r : CmdRef) (s : State) : leavesStill s (execMigrateImport r s) := by
  simp [execMigrateImport, runAccepted_still]

@[simp] theorem execMigrateImportChunk_still (r : CmdRef) (s : State) : leavesStill s (execMigrateImportChunk r s) := by
  simp [execMigrateImportChunk, runAccepted_still]

@[simp] theorem execMigrateImportEnd_still (r : CmdRef) (s : State) : leavesStill s (execMigrateImportEnd r s) := by
  simp [execMigrateImportEnd, runAccepted_still]

@[simp] theorem execMigrateCommit_still (r : CmdRef) (s : State) : leavesStill s (execMigrateCommit r s) := by
  simp [execMigrateCommit, runAccepted_still]

@[simp] theorem execDeviceProvision_still (r : CmdRef) (s : State) : leavesStill s (execDeviceProvision r s) := by
  simp [execDeviceProvision, adminRun_still, runAccepted_still]

/-! ## Public-key commands -/

@[simp] theorem pkFail_still (c : Cmd) (st : Status) (s : State) : still (pkFail c st s).1 = still s := (rfl)

@[simp] theorem runPkSign_still (c : Cmd) (s : State) : still (runPkSign c s).1 = still s := by
  unfold runPkSign
  dsimp only
  refine withKey_still (fun _ => ?_) _ _ _ _
  split
  · rfl
  · refine withKey_still (fun _ => ?_) _ _ _ _
    simp

@[simp] theorem runPkVerify_still (c : Cmd) (s : State) : still (runPkVerify c s).1 = still s := by
  unfold runPkVerify
  dsimp only
  (repeat' split) <;> simp

@[simp] theorem writeOutKey_still (c : Cmd) (a z : Bytes) (off : Nat) (s : State) : still (writeOutKey c a z off s).1 = still s := by
  simp [writeOutKey]

@[simp] theorem runPkAgree_still (c : Cmd) (s : State) : still (runPkAgree c s).1 = still s := by
  unfold runPkAgree
  dsimp only
  refine withKey_still (fun _ => ?_) _ _ _ _
  (repeat' split) <;> simp

@[simp] theorem runPkEncapsulate_still (c : Cmd) (s : State) : still (runPkEncapsulate c s).1 = still s := by
  unfold runPkEncapsulate
  dsimp only
  (repeat' split) <;> simp

@[simp] theorem runPkDecapsulate_still (c : Cmd) (s : State) : still (runPkDecapsulate c s).1 = still s := by
  unfold runPkDecapsulate
  dsimp only
  refine withKey_still (fun _ => ?_) _ _ _ _
  simp

@[simp] theorem runPkRsaEncrypt_still (c : Cmd) (s : State) : still (runPkRsaEncrypt c s).1 = still s := by simp [runPkRsaEncrypt]

@[simp] theorem runPkRsaDecrypt_still (c : Cmd) (s : State) : still (runPkRsaDecrypt c s).1 = still s := by
  unfold runPkRsaDecrypt
  dsimp only
  refine withKey_still (fun _ => ?_) _ _ _ _
  (repeat' split) <;> simp

@[simp] theorem runPkPublic_still (c : Cmd) (s : State) : still (runPkPublic c s).1 = still s := by
  unfold runPkPublic
  dsimp only
  refine withKey_still (fun _ => ?_) _ _ _ _
  simp

@[simp] theorem execPkSign_still (r : CmdRef) (s : State) : leavesStill s (execPkSign r s) := by simp [execPkSign, runAccepted_still]
@[simp] theorem execPkVerify_still (r : CmdRef) (s : State) : leavesStill s (execPkVerify r s) := by simp [execPkVerify, runAccepted_still]
@[simp] theorem execPkAgree_still (r : CmdRef) (s : State) : leavesStill s (execPkAgree r s) := by simp [execPkAgree, runAccepted_still]

@[simp] theorem execPkEncapsulate_still (r : CmdRef) (s : State) : leavesStill s (execPkEncapsulate r s) := by
  simp [execPkEncapsulate, runAccepted_still]

@[simp] theorem execPkDecapsulate_still (r : CmdRef) (s : State) : leavesStill s (execPkDecapsulate r s) := by
  simp [execPkDecapsulate, runAccepted_still]

@[simp] theorem execPkRsaEncrypt_still (r : CmdRef) (s : State) : leavesStill s (execPkRsaEncrypt r s) := by
  simp [execPkRsaEncrypt, runAccepted_still]

@[simp] theorem execPkRsaDecrypt_still (r : CmdRef) (s : State) : leavesStill s (execPkRsaDecrypt r s) := by
  simp [execPkRsaDecrypt, runAccepted_still]

@[simp] theorem execPkPublic_still (r : CmdRef) (s : State) : leavesStill s (execPkPublic r s) := by simp [execPkPublic, runAccepted_still]

/-! ## Key commands -/

theorem denyUnless_still {s : State} {f : State × Option (Status × Bytes)} (h : still f.1 = still s) (b : Bool) :
    still (denyUnless b f s).1 = still s := by
  unfold denyUnless
  split <;> simp [h]

@[simp] theorem runKeyGenerate_still (c : Cmd) (s : State) : still (runKeyGenerate c s).1 = still s := by simp [runKeyGenerate]

@[simp] theorem importKey_still (c : Cmd) (o : BitVec 32) (a : Attr) (m : Bytes) (s : State) : still (importKey c o a m s).1 = still s := by
  simp [importKey, denyUnless_still]

@[simp] theorem runKeyImport_still (c : Cmd) (s : State) : still (runKeyImport c s).1 = still s := by
  unfold runKeyImport
  dsimp only
  refine withKey_still (fun _ => ?_) _ _ _ _
  (repeat' split) <;> simp

@[simp] theorem runKeyExport_still (c : Cmd) (s : State) : still (runKeyExport c s).1 = still s := by
  unfold runKeyExport
  dsimp only
  refine withKey_still (fun _ => ?_) _ _ _ _
  refine withKey_still (fun _ => ?_) _ _ _ _
  (repeat' split) <;> simp

@[simp] theorem runKeyTranslate_still (c : Cmd) (s : State) : still (runKeyTranslate c s).1 = still s := by
  unfold runKeyTranslate
  dsimp only
  refine withKey_still (fun _ => ?_) _ _ _ _
  refine withKey_still (fun _ => ?_) _ _ _ _
  (repeat' split) <;> simp

@[simp] theorem destroyAccept_still (c : Cmd) (s : State) : still (destroyAccept c s) = still s := by
  unfold destroyAccept
  dsimp only
  (repeat' split) <;> simp

@[simp] theorem runKeyDestroy_still (c : Cmd) (s : State) : still (runKeyDestroy c s).1 = still s := by
  unfold runKeyDestroy
  dsimp only
  (repeat' split) <;> simp

@[simp] theorem runKeyQuery_still (c : Cmd) (s : State) : still (runKeyQuery c s).1 = still s := by simp [runKeyQuery]

@[simp] theorem runTokenLoad_still (c : Cmd) (s : State) : still (runTokenLoad c s).1 = still s := by
  unfold runTokenLoad
  dsimp only
  (repeat' split) <;> simp

@[simp] theorem runTokenReissue_still (c : Cmd) (s : State) : still (runTokenReissue c s).1 = still s := by
  unfold runTokenReissue
  dsimp only
  refine withKey_still (fun _ => ?_) _ _ _ _
  simp

@[simp] theorem runTokenRevoke_still (c : Cmd) (s : State) : still (runTokenRevoke c s).1 = still s := by simp [runTokenRevoke]

@[simp] theorem runKeyProve_still (c : Cmd) (s : State) : still (runKeyProve c s).1 = still s := by
  unfold runKeyProve
  dsimp only
  refine withKey_still (fun _ => ?_) _ _ _ _
  simp

@[simp] theorem runMwkChange_still (c : Cmd) (s : State) : still (runMwkChange c s).1 = still s := by simp [runMwkChange]
@[simp] theorem runMwkClear_still (c : Cmd) (s : State) : still (runMwkClear c s).1 = still s := by simp [runMwkClear]
@[simp] theorem runTr34Nonce_still (c : Cmd) (s : State) : still (runTr34Nonce c s).1 = still s := by simp [runTr34Nonce]

@[simp] theorem runTr34Export_still (c : Cmd) (s : State) : still (runTr34Export c s).1 = still s := by
  unfold runTr34Export
  dsimp only
  refine withKey_still (fun _ => ?_) _ _ _ _
  refine withKey_still (fun _ => ?_) _ _ _ _
  (repeat' split) <;> simp

@[simp] theorem runTr34Import_still (c : Cmd) (s : State) : still (runTr34Import c s).1 = still s := by
  unfold runTr34Import
  dsimp only
  refine withKey_still (fun _ => ?_) _ _ _ _
  (repeat' split) <;> simp

@[simp] theorem backupAccept_still (c : Cmd) (s : State) : still (backupAccept c s) = still s := by simp [backupAccept, still_foldl]
@[simp] theorem runKeyBackup_still (c : Cmd) (s : State) : still (runKeyBackup c s).1 = still s := by simp [runKeyBackup]

@[simp] theorem runBackupChunk_still (c : Cmd) (s : State) : still (runBackupChunk c s).1 = still s := by
  unfold runBackupChunk
  dsimp only
  (repeat' split) <;> simp

@[simp] theorem runRestoreOffer_still (c : Cmd) (s : State) : still (runRestoreOffer c s).1 = still s := by simp [runRestoreOffer]

@[simp] theorem runRestore_still (c : Cmd) (s : State) : still (runRestore c s).1 = still s := by
  unfold runRestore
  dsimp only
  (repeat' split) <;> simp

@[simp] theorem runRestoreChunk_still (c : Cmd) (s : State) : still (runRestoreChunk c s).1 = still s := by
  unfold runRestoreChunk
  dsimp only
  (repeat' split) <;> simp

@[simp] theorem restoreOne_still (c : Cmd) (a : State × Nat × List (BitVec 32)) (k : BlobKey) : still (restoreOne c a k).1 = still a.1 := by
  unfold restoreOne
  dsimp only
  split <;> simp

theorem restoreAll_still (c : Cmd) (l : List BlobKey) (a : State × Nat × List (BitVec 32)) :
    still (l.foldl (restoreOne c) a).1 = still a.1 := by
  induction l generalizing a with
  | nil => rfl
  | cons k r ih => rw [List.foldl_cons, ih, restoreOne_still]

@[simp] theorem endRestore_still (p : Nat) (s : State) : still (endRestore p s) = still s := by simp [endRestore]
@[simp] theorem failRestoreEnd_still (c : Cmd) (st : Status) (s : State) : still (failRestoreEnd c st s).1 = still s := by simp [failRestoreEnd]

@[simp] theorem runRestoreEnd_still (c : Cmd) (s : State) : still (runRestoreEnd c s).1 = still s := by
  unfold runRestoreEnd
  dsimp only
  (repeat' split) <;> simp [restoreAll_still]

@[simp] theorem execKeyGenerate_still (r : CmdRef) (s : State) : leavesStill s (execKeyGenerate r s) := by simp [execKeyGenerate, runAccepted_still]
@[simp] theorem execKeyImport_still (r : CmdRef) (s : State) : leavesStill s (execKeyImport r s) := by simp [execKeyImport, runAccepted_still]
@[simp] theorem execKeyExport_still (r : CmdRef) (s : State) : leavesStill s (execKeyExport r s) := by simp [execKeyExport, runAccepted_still]

@[simp] theorem execKeyTranslate_still (r : CmdRef) (s : State) : leavesStill s (execKeyTranslate r s) := by
  simp [execKeyTranslate, runAccepted_still]

@[simp] theorem execKeyDestroy_still (r : CmdRef) (s : State) : leavesStill s (execKeyDestroy r s) := by simp [execKeyDestroy, runAccepted_still]
@[simp] theorem execKeyQuery_still (r : CmdRef) (s : State) : leavesStill s (execKeyQuery r s) := by simp [execKeyQuery, runAccepted_still]

@[simp] theorem execKeyTokenLoad_still (r : CmdRef) (s : State) : leavesStill s (execKeyTokenLoad r s) := by
  simp [execKeyTokenLoad, runAccepted_still]

@[simp] theorem execKeyTokenReissue_still (r : CmdRef) (s : State) : leavesStill s (execKeyTokenReissue r s) := by
  simp [execKeyTokenReissue, runAccepted_still]

@[simp] theorem execKeyTokenRevoke_still (r : CmdRef) (s : State) : leavesStill s (execKeyTokenRevoke r s) := by
  simp [execKeyTokenRevoke, runAccepted_still]

@[simp] theorem execKeyProve_still (r : CmdRef) (s : State) : leavesStill s (execKeyProve r s) := by simp [execKeyProve, runAccepted_still]

@[simp] theorem execKeyMwkChange_still (r : CmdRef) (s : State) : leavesStill s (execKeyMwkChange r s) := by
  simp [execKeyMwkChange, runAccepted_still]

@[simp] theorem execKeyMwkClearPrevious_still (r : CmdRef) (s : State) : leavesStill s (execKeyMwkClearPrevious r s) := by
  simp [execKeyMwkClearPrevious, runAccepted_still]

@[simp] theorem execKeyTr34Nonce_still (r : CmdRef) (s : State) : leavesStill s (execKeyTr34Nonce r s) := by
  simp [execKeyTr34Nonce, runAccepted_still]

@[simp] theorem execKeyTr34Export_still (r : CmdRef) (s : State) : leavesStill s (execKeyTr34Export r s) := by
  simp [execKeyTr34Export, runAccepted_still]

@[simp] theorem execKeyTr34Import_still (r : CmdRef) (s : State) : leavesStill s (execKeyTr34Import r s) := by
  simp [execKeyTr34Import, runAccepted_still]

@[simp] theorem execKeyBackup_still (r : CmdRef) (s : State) : leavesStill s (execKeyBackup r s) := by
  unfold execKeyBackup
  split <;> simp [runAccepted_still]

@[simp] theorem execKeyBackupChunk_still (r : CmdRef) (s : State) : leavesStill s (execKeyBackupChunk r s) := by
  simp [execKeyBackupChunk, runAccepted_still]

@[simp] theorem execKeyRestoreOffer_still (r : CmdRef) (s : State) : leavesStill s (execKeyRestoreOffer r s) := by
  simp [execKeyRestoreOffer, runAccepted_still]

@[simp] theorem execKeyRestore_still (r : CmdRef) (s : State) : leavesStill s (execKeyRestore r s) := by simp [execKeyRestore, runAccepted_still]

@[simp] theorem execKeyRestoreChunk_still (r : CmdRef) (s : State) : leavesStill s (execKeyRestoreChunk r s) := by
  simp [execKeyRestoreChunk, runAccepted_still]

@[simp] theorem execKeyRestoreEnd_still (r : CmdRef) (s : State) : leavesStill s (execKeyRestoreEnd r s) := by
  simp [execKeyRestoreEnd, runAccepted_still]

/-! ## Ciphers, digests and MACs -/

@[simp] theorem closeStream_still (c : Cmd) (s : State) : still (closeStream c s) = still s := by
  unfold closeStream
  split <;> simp

@[simp] theorem writeSave_still (c : Cmd) (a : SaveArea) (v : Option KeyVal) (s : State) : still (writeSave c a v s) = still s := by
  unfold writeSave
  split <;> simp

@[simp] theorem streamAfter_still (c : Cmd) (st : Status) (s : State) : still (streamAfter c st s) = still s := by
  unfold streamAfter
  dsimp only
  (repeat' split) <;> simp

@[simp] theorem runSym_still (enc : Bool) (c : Cmd) (s : State) : still (runSym enc c s).1 = still s := by
  unfold runSym
  dsimp only
  refine withKey_still (fun _ => ?_) _ _ _ _
  (repeat' split) <;> simp

@[simp] theorem failSym_still (enc : Bool) (c : Cmd) (st : Status) (s : State) : still (failSym enc c st s).1 = still s := by
  unfold failSym
  dsimp only
  (repeat' split) <;> simp

@[simp] theorem runMacWith_still (verify : Bool) (c : Cmd) (v : Option KeyVal) (s : State) : still (runMacWith verify c v s).1 = still s := by
  unfold runMacWith
  dsimp only
  (repeat' split) <;> simp

@[simp] theorem runDig_still (keyed verify : Bool) (c : Cmd) (s : State) : still (runDig keyed verify c s).1 = still s := by
  unfold runDig
  dsimp only
  split
  · exact withKey_still (fun _ => runMacWith_still ..) _ _ _ _
  · exact runMacWith_still ..

@[simp] theorem failDig_still (c : Cmd) (st : Status) (s : State) : still (failDig c st s).1 = still s := by simp [failDig]

@[simp] theorem startStream_still (c : Cmd) (s : State) : still (startStream c s) = still s := by
  unfold startStream
  split <;> simp

@[simp] theorem refuseStream_still (k : Nat) (c : Cmd) (s : State) : still (refuseStream k c s) = still s := by
  unfold refuseStream
  split <;> simp

@[simp] theorem execSymEncrypt_still (r : CmdRef) (s : State) : leavesStill s (execSymEncrypt r s) := by simp [execSymEncrypt, runAccepted_still]
@[simp] theorem execSymDecrypt_still (r : CmdRef) (s : State) : leavesStill s (execSymDecrypt r s) := by simp [execSymDecrypt, runAccepted_still]
@[simp] theorem execDigest_still (r : CmdRef) (s : State) : leavesStill s (execDigest r s) := by simp [execDigest, runAccepted_still]

@[simp] theorem execDigestVerify_still (r : CmdRef) (s : State) : leavesStill s (execDigestVerify r s) := by
  simp [execDigestVerify, runAccepted_still]

@[simp] theorem execMacGenerate_still (r : CmdRef) (s : State) : leavesStill s (execMacGenerate r s) := by simp [execMacGenerate, runAccepted_still]
@[simp] theorem execMacVerify_still (r : CmdRef) (s : State) : leavesStill s (execMacVerify r s) := by simp [execMacVerify, runAccepted_still]

end Sys2Proof.Proofs
end

section
/-! What dispatch, the device, firmware and identity commands and the link leave as it is: the queue and the OTP (R365). -/

namespace Sys2Proof.Proofs

open Sys2Proof Sys2Proof.Machine Sys2Proof.Safety Sys2Proof.Laws

/-! ## Readiness, dispatch and the ends of items -/

@[simp] theorem releaseSucc_still (r : CmdRef) (i : Nat) (s : State) : still (releaseSucc r i s) = still s := by simp [releaseSucc]
@[simp] theorem setCredit_still (k : UnitKind) (p : Nat) (v : Int) (s : State) : still (setCredit k p v s) = still s := (rfl)

@[simp] theorem unitStart_still (u : UnitId) (c : Cmd) (i : Nat) (it : Item) (s : State) : still (unitStart u c i it s) = still s := by
  unfold unitStart
  (repeat' split) <;> simp

@[simp] theorem dispatch_still (u : UnitId) (x : Candidate) (rule1 : Bool) (s : State) : still (dispatch u x rule1 s) = still s := by simp [dispatch]

@[simp] theorem failRestore_still (c : Cmd) (s : State) : still (failRestore c s) = still s := by
  unfold failRestore
  split <;> simp

@[simp] theorem takeItem_still (u : UnitId) (x : Candidate) (rule1 : Bool) (s : State) : still (takeItem u x rule1 s) = still s := by
  unfold takeItem
  dsimp only
  (repeat' split) <;> simp

@[simp] theorem execUnitFreeDispatch_still (u : UnitId) (s : State) : leavesStill s (execUnitFreeDispatch u s) := by
  unfold execUnitFreeDispatch
  refine guarded_still (fun s => ?_) s
  split <;> simp

@[simp] theorem execItemHoldLapse_still (r : CmdRef) (i : Nat) (s : State) : leavesStill s (execItemHoldLapse r i s) := by
  unfold execItemHoldLapse
  split <;> simp [guarded_still]

@[simp] theorem execItemReady2us_still (r : CmdRef) (i : Nat) (s : State) : leavesStill s (execItemReady2us r i s) := by
  unfold execItemReady2us
  split
  · rfl
  · split
    · rfl
    · refine guarded_still (fun s => ?_) s
      dsimp only
      (repeat' split) <;> simp

@[simp] theorem execCreditTick_still (s : State) : leavesStill s (execCreditTick s) := by simp [execCreditTick, still_foldl]

@[simp] theorem failItem_still (r : CmdRef) (i : Nat) (st : Status) (s : State) : still (failItem r i st s) = still s := by
  unfold failItem
  dsimp only
  (repeat' split) <;> simp

@[simp] theorem charge_still (u : UnitId) (r : CmdRef) (i : Nat) (it : Item) (s : State) : still (charge u r i it s) = still s := by simp [charge]

@[simp] theorem leaveUnit_still (u : UnitId) (r : CmdRef) (i : Nat) (s : State) : still (leaveUnit u r i s) = still s := by
  unfold leaveUnit
  split <;> simp

@[simp] theorem itemTrace_still (event : Nat) (u : UnitId) (c : Cmd) (i : Nat) (it : Item) (s : State) :
    still (itemTrace event u c i it s) = still s := by
  simp [itemTrace]

@[simp] theorem cacheOne_still (n : Nat) (c : Cmd) (l : KeyLoad) (s : State) : still (cacheOne n c l s) = still s := by
  unfold cacheOne
  split <;> simp

@[simp] theorem cacheState_still (u : UnitId) (c : Cmd) (it : Item) (s : State) : still (cacheState u c it s) = still s := by
  unfold cacheState
  split <;> simp [still_foldl]

@[simp] theorem passDerived_still (c : Cmd) (i : Nat) (s : State) : still (passDerived c i s) = still s := by
  unfold passDerived
  (repeat' split) <;> simp

@[simp] theorem commitItem_still (u : UnitId) (c : Cmd) (i : Nat) (it : Item) (s : State) : still (commitItem u c i it s) = still s := by
  unfold commitItem
  split <;> simp

@[simp] theorem retryItem_still (u : UnitId) (c : Cmd) (i : Nat) (it : Item) (s : State) : still (retryItem u c i it s) = still s := by
  simp [retryItem]

@[simp] theorem facetFail_still (n : Fin 48) (timer : Bool) (c : Cmd) (i : Nat) (it : Item) (s : State) :
    still (facetFail n timer c i it s) = still s := by
  unfold facetFail
  dsimp only
  (repeat' split) <;> simp

@[simp] theorem engineFail_still (n : Fin 16) (parity : Bool) (c : Cmd) (i : Nat) (it : Item) (s : State) :
    still (engineFail n parity c i it s) = still s := by
  unfold engineFail
  dsimp only
  (repeat' split) <;> simp

@[simp] theorem poisonItem_still (line : BitVec 32) (u : UnitId) (c : Cmd) (i : Nat) (it : Item) (s : State) :
    still (poisonItem line u c i it s) = still s := by
  unfold poisonItem
  split <;> simp

@[simp] theorem endOutcome_still (u : UnitId) (c : Cmd) (i : Nat) (it : Item) (o : ItemOutcome) (s : State) :
    still (endOutcome u c i it o s) = still s := by
  cases o with
  | ok =>
    cases u with
    | core n => exact commitItem_still ..
    | facet n =>
      show still (if it.marked then _ else _) = _
      split
      · exact facetFail_still ..
      · exact commitItem_still ..
    | engine n =>
      show still (if it.marked then _ else _) = _
      split
      · exact engineFail_still ..
      · exact commitItem_still ..
  | checkFailed d =>
    cases u with
    | core n => rfl
    | facet n => exact facetFail_still ..
    | engine n => exact engineFail_still ..
  | mismatch =>
    cases u with
    | core n => rfl
    | facet n => rfl
    | engine n => exact engineFail_still ..
  | engineParity =>
    cases u with
    | core n => rfl
    | facet n => rfl
    | engine n => exact engineFail_still ..
  | poisoned l => exact poisonItem_still ..

@[simp] theorem execItemEnd_still (r : CmdRef) (i : Nat) (o : ItemOutcome) (s : State) : leavesStill s (execItemEnd r i o s) := by
  unfold execItemEnd
  (repeat' split) <;> simp

@[simp] theorem loseItem_still (r : CmdRef) (i : Nat) (s : State) : still (loseItem r i s) = still s := by
  unfold loseItem
  dsimp only
  (repeat' split) <;> simp

@[simp] theorem execVersionZeroise_still (p : Fin 256) (key : BitVec 32) (v : BitVec 16) (s : State) :
    leavesStill s (execVersionZeroise p key v s) := by
  unfold execVersionZeroise
  refine guarded_still (fun s => ?_) s
  simp

/-! ## Device and session commands -/

@[simp] theorem runDeviceStatus_still (c : Cmd) (s : State) : still (runDeviceStatus c s).1 = still s := by simp [runDeviceStatus]

@[simp] theorem rewindSave_still (c : Cmd) (k : Nat) (s : State) : still (rewindSave c k s) = still s := by
  unfold rewindSave
  (repeat' split) <;> simp

@[simp] theorem abortAt_still (r : CmdRef) (k : Nat) (s : State) : still (abortAt r k s) = still s := by
  unfold abortAt
  (repeat' split) <;> simp [still_foldl]

@[simp] theorem abortVerdict_still (s : State) (p ring : Nat) (seq : BitVec 64) : still (abortVerdict s p ring seq).2.2 = still s := by
  unfold abortVerdict
  split <;> simp

@[simp] theorem runDeviceAbort_still (c : Cmd) (s : State) : still (runDeviceAbort c s).1 = still s := by
  unfold runDeviceAbort
  (repeat' split) <;> simp

@[simp] theorem endDomainCmd_still (d : Nat) (st : Status) (s : State) : still (endDomainCmd d st s) = still s := by
  unfold endDomainCmd
  split <;> simp

@[simp] theorem portDown_still (east : Bool) (s : State) : still (portDown east s) = still s := by simp [portDown]

@[simp] theorem switchOff_still (d : Nat) (s : State) : still (switchOff d s) = still s := by
  unfold switchOff
  (repeat' split) <;> simp [still_foldl]

@[simp] theorem runDeviceDomain_still (c : Cmd) (s : State) : still (runDeviceDomain c s).1 = still s := by
  unfold runDeviceDomain
  dsimp only
  (repeat' split) <;> simp

@[simp] theorem failDeviceDomain_still (c : Cmd) (st : Status) (s : State) : still (failDeviceDomain c st s).1 = still s := by simp [failDeviceDomain]

@[simp] theorem execDomainDrainDone_still (d : Fin 32) (s : State) : leavesStill s (execDomainDrainDone d s) := by
  unfold execDomainDrainDone
  refine guarded_still (fun s => ?_) s
  split <;> simp

@[simp] theorem forceOff_still (s : State) (w : CmdRef × Nat) : still (forceOff s w) = still s := by simp [forceOff]

@[simp] theorem execDomainDrainTimeout_still (d : Fin 32) (s : State) : leavesStill s (execDomainDrainTimeout d s) := by
  unfold execDomainDrainTimeout
  split <;> simp [still_foldl, guarded_still]

@[simp] theorem domainFail_still (d : Nat) (s : State) : still (domainFail d s) = still s := by simp [domainFail, still_foldl]

@[simp] theorem rejoin_still (c : Channel) (s : State) : still (rejoin c s) = still s := by
  unfold rejoin
  (repeat' split) <;> simp

@[simp] theorem requalified_still (c : Channel) (s : State) : still (requalified c s) = still s := by
  unfold requalified
  dsimp only
  (repeat' split) <;> simp

@[simp] theorem runRequalify_still (pass : Bool) (c : Cmd) (s : State) : still (runRequalify pass c s).1 = still s := by
  unfold runRequalify
  split <;> simp

@[simp] theorem runCalibrate_still (c : Cmd) (s : State) : still (runCalibrate c s).1 = still s := (rfl)

@[simp] theorem runSessionOpen_still (c : Cmd) (s : State) : still (runSessionOpen c s).1 = still s := by
  unfold runSessionOpen
  split <;> simp

@[simp] theorem runSessionClose_still (c : Cmd) (s : State) : still (runSessionClose c s).1 = still s := by
  unfold runSessionClose
  split <;> simp

@[simp] theorem runSessionQuery_still (c : Cmd) (s : State) : still (runSessionQuery c s).1 = still s := by
  unfold runSessionQuery
  split <;> simp

@[simp] theorem execSessionIdleTimeout_still (i : Nat) (s : State) : leavesStill s (execSessionIdleTimeout i s) := by
  simp [execSessionIdleTimeout, guarded_still]

@[simp] theorem runJournalRead_still (c : Cmd) (s : State) : still (runJournalRead c s).1 = still s := by simp [runJournalRead]

@[simp] theorem runJournalFind_still (c : Cmd) (s : State) : still (runJournalFind c s).1 = still s := by
  unfold runJournalFind
  dsimp only
  (repeat' split) <;> simp

@[simp] theorem execDeviceStatus_still (r : CmdRef) (s : State) : leavesStill s (execDeviceStatus r s) := by
  simp [execDeviceStatus, runAccepted_still]

@[simp] theorem execDeviceAbort_still (r : CmdRef) (s : State) : leavesStill s (execDeviceAbort r s) := by
  unfold execDeviceAbort
  split <;> simp [runAccepted_still]

@[simp] theorem execDeviceDomain_still (r : CmdRef) (s : State) : leavesStill s (execDeviceDomain r s) := by
  simp [execDeviceDomain, runAccepted_still]

@[simp] theorem execDeviceRequalify_still (r : CmdRef) (pass : Bool) (s : State) : leavesStill s (execDeviceRequalify r pass s) := by
  simp [execDeviceRequalify, runAccepted_still]

@[simp] theorem execDeviceCalibrate_still (r : CmdRef) (s : State) : leavesStill s (execDeviceCalibrate r s) := by
  simp [execDeviceCalibrate, runAccepted_still]

@[simp] theorem execSessionOpen_still (r : CmdRef) (s : State) : leavesStill s (execSessionOpen r s) := by simp [execSessionOpen, runAccepted_still]

@[simp] theorem execSessionClose_still (r : CmdRef) (s : State) : leavesStill s (execSessionClose r s) := by
  simp [execSessionClose, runAccepted_still]

@[simp] theorem execSessionQuery_still (r : CmdRef) (s : State) : leavesStill s (execSessionQuery r s) := by
  simp [execSessionQuery, runAccepted_still]

@[simp] theorem execJournalRead_still (r : CmdRef) (s : State) : leavesStill s (execJournalRead r s) := by simp [execJournalRead, runAccepted_still]
@[simp] theorem execJournalFind_still (r : CmdRef) (s : State) : leavesStill s (execJournalFind r s) := by simp [execJournalFind, runAccepted_still]

/-! ## Firmware commands -/

@[simp] theorem dueRecord_still (kind event : Nat) (s : State) : still (dueRecord kind event s) = still s := by simp [dueRecord]
@[simp] theorem applyAppBegin_still (c : Cmd) (s : State) : still (applyAppBegin c s) = still s := (rfl)
@[simp] theorem applyAppChunk_still (c : Cmd) (s : State) : still (applyAppChunk c s) = still s := (rfl)
@[simp] theorem applyRotBegin_still (c : Cmd) (s : State) : still (applyRotBegin c s) = still s := (rfl)
@[simp] theorem applyRotChunk_still (c : Cmd) (s : State) : still (applyRotChunk c s) = still s := (rfl)
@[simp] theorem failImage_still (code : Nat) (s : State) : still (failImage code s) = still s := (rfl)

@[simp] theorem runAppVerify_still (c : Cmd) (s : State) : still (runAppVerify c s).1 = still s := by
  unfold runAppVerify
  dsimp only
  (repeat' split) <;> simp

@[simp] theorem releaseApp_still (retained : Bool) (s : State) : still (releaseApp retained s) = still s := by
  unfold releaseApp
  dsimp only
  (repeat' split) <;> simp

@[simp] theorem runAppRelease_still (kat : Bool) (c : Cmd) (s : State) : still (runAppRelease kat c s).1 = still s := by
  unfold runAppRelease
  (repeat' split) <;> simp

@[simp] theorem runRotCommit_still (readBack : Bool) (c : Cmd) (s : State) : still (runRotCommit readBack c s).1 = still s := by
  unfold runRotCommit
  dsimp only
  (repeat' split) <;> simp

@[simp] theorem applyWarm_still (c : Cmd) (s : State) : still (applyWarm c s) = still s := (rfl)

@[simp] theorem execFwAppBegin_still (r : CmdRef) (s : State) : leavesStill s (execFwAppBegin r s) := by
  simp [execFwAppBegin, adminRun_still, runAccepted_still]

@[simp] theorem execFwAppChunk_still (r : CmdRef) (s : State) : leavesStill s (execFwAppChunk r s) := by
  simp [execFwAppChunk, adminRun_still, runAccepted_still]

@[simp] theorem execFwAppVerify_still (r : CmdRef) (s : State) : leavesStill s (execFwAppVerify r s) := by simp [execFwAppVerify, runAccepted_still]

@[simp] theorem execFwAppRelease_still (r : CmdRef) (katPass : Bool) (s : State) : leavesStill s (execFwAppRelease r katPass s) := by
  simp [execFwAppRelease, runAccepted_still]

@[simp] theorem execFwRotBegin_still (r : CmdRef) (s : State) : leavesStill s (execFwRotBegin r s) := by
  simp [execFwRotBegin, adminRun_still, runAccepted_still]

@[simp] theorem execFwRotChunk_still (r : CmdRef) (s : State) : leavesStill s (execFwRotChunk r s) := by
  simp [execFwRotChunk, adminRun_still, runAccepted_still]

@[simp] theorem execFwRotCommit_still (r : CmdRef) (readBackOk : Bool) (s : State) : leavesStill s (execFwRotCommit r readBackOk s) := by
  simp [execFwRotCommit, runAccepted_still]

@[simp] theorem execFwWarmReset_still (r : CmdRef) (s : State) : leavesStill s (execFwWarmReset r s) := by
  simp [execFwWarmReset, adminRun_still, runAccepted_still]

/-! ## Attestation, life cycle and certificates -/

@[simp] theorem runAttestQuote_still (c : Cmd) (s : State) : still (runAttestQuote c s).1 = still s := by simp [runAttestQuote]
@[simp] theorem runAttestChain_still (c : Cmd) (s : State) : still (runAttestChain c s).1 = still s := by simp [runAttestChain]
@[simp] theorem runLcInfo_still (c : Cmd) (s : State) : still (runLcInfo c s).1 = still s := by simp [runLcInfo]

@[simp] theorem runCertStore_still (c : Cmd) (s : State) : still (runCertStore c s).1 = still s := by
  unfold runCertStore
  dsimp only
  (repeat' split) <;> simp

@[simp] theorem runCertRead_still (c : Cmd) (s : State) : still (runCertRead c s).1 = still s := by
  unfold runCertRead
  split <;> simp

@[simp] theorem execAttestQuote_still (r : CmdRef) (s : State) : leavesStill s (execAttestQuote r s) := by simp [execAttestQuote, runAccepted_still]
@[simp] theorem execAttestChain_still (r : CmdRef) (s : State) : leavesStill s (execAttestChain r s) := by simp [execAttestChain, runAccepted_still]
@[simp] theorem execLcInfo_still (r : CmdRef) (s : State) : leavesStill s (execLcInfo r s) := by simp [execLcInfo, runAccepted_still]
@[simp] theorem execIdCertStore_still (r : CmdRef) (s : State) : leavesStill s (execIdCertStore r s) := by simp [execIdCertStore, runAccepted_still]
@[simp] theorem execIdCertRead_still (r : CmdRef) (s : State) : leavesStill s (execIdCertRead r s) := by simp [execIdCertRead, runAccepted_still]

/-! ## Pairs, leases and replication -/

@[simp] theorem raiseClaim_still (s : State) : still (raiseClaim s) = still s := by simp [raiseClaim]
@[simp] theorem toMirror_still (m : MirrorState) (s : State) : still (toMirror m s) = still s := (rfl)
@[simp] theorem discardDup_still (s : State) (h : HeldDup) : still (discardDup s h) = still s := by simp [discardDup]

@[simp] theorem discardCmd_still (s : State) (c : Cmd) : still (discardCmd s c) = still s := by
  unfold discardCmd
  dsimp only
  (repeat' split) <;> simp [still_foldl]

@[simp] theorem discardMirrored_still (s : State) : still (discardMirrored s) = still s := by simp [discardMirrored, still_foldl]
@[simp] theorem demote_still (claim : BitVec 64) (s : State) : still (demote claim s) = still s := by simp [demote]

@[simp] theorem hearClaim_still (claim : BitVec 64) (s : State) : still (hearClaim claim s) = still s := by
  unfold hearClaim
  dsimp only
  (repeat' split) <;> simp

@[simp] theorem sendSync_still (phase : Nat) (s : State) : still (sendSync phase s) = still s := by simp [sendSync]
@[simp] theorem enterSource_still (s : State) : still (enterSource s) = still s := by simp [enterSource]

@[simp] theorem hearPartner_still (s : State) : still (hearPartner s) = still s := by
  unfold hearPartner
  dsimp only
  (repeat' split) <;> simp

@[simp] theorem heardFrom_still (f : Frame) (typ : Nat) (s : State) : still (heardFrom f typ s) = still s := by
  unfold heardFrom
  dsimp only
  (repeat' split) <;> simp

@[simp] theorem goOn_still (f : Frame) (typ : Nat) (s : State) : still (goOn f typ s) = still s := by
  unfold goOn
  split <;> simp

theorem receive_still {act : State → State} (h : ∀ s, still (act s) = still s) (f : Frame) (typ : Nat) (s : State) :
    still (receive f typ act s) = still s := by
  unfold receive
  dsimp only
  (repeat' split) <;> simp [h]

@[simp] theorem execIluonLinkUp_still (port : Bool) (lanes : Nat) (s : State) : leavesStill s (execIluonLinkUp port lanes s) := by
  simp [execIluonLinkUp, guarded_still]

@[simp] theorem execIluonLinkDown_still (port : Bool) (s : State) : leavesStill s (execIluonLinkDown port s) := by
  simp [execIluonLinkDown, guarded_still]

@[simp] theorem execLinkAck_still (port : Bool) (seq : BitVec 16) (s : State) : leavesStill s (execLinkAck port seq s) := by
  simp [execLinkAck, guarded_still]

@[simp] theorem execLinkNak_still (port : Bool) (seq : BitVec 16) (s : State) : leavesStill s (execLinkNak port seq s) := by
  unfold execLinkNak
  refine guarded_still (fun s => ?_) s
  dsimp only
  (repeat' split) <;> simp [still_foldl]

@[simp] theorem execIluonFrameCrcError_still (port : Bool) (arrived : Option (BitVec 16)) (s : State) :
    leavesStill s (execIluonFrameCrcError port arrived s) := by
  simp [execIluonFrameCrcError, guarded_still]

@[simp] theorem execSyncHeaderError_still (port : Bool) (lane : Fin 4) (s : State) : leavesStill s (execSyncHeaderError port lane s) := by
  unfold execSyncHeaderError
  refine guarded_still (fun s => ?_) s
  dsimp only
  (repeat' split) <;> simp

@[simp] theorem execCutThroughFrame_still (f : Frame) (typ : BitVec 8) (s : State) : leavesStill s (execCutThroughFrame f typ s) := by
  unfold execCutThroughFrame
  refine guarded_still (fun s => ?_) s
  dsimp only
  (repeat' split) <;> simp

@[simp] theorem execTrainFrameArrival_still (f : Frame) (typ : BitVec 8) (s : State) : leavesStill s (execTrainFrameArrival f typ s) := by
  unfold execTrainFrameArrival
  refine guarded_still (fun s => ?_) s
  dsimp only
  (repeat' split) <;> simp [receive_still]

@[simp] theorem execHeartbeatSend_still (port : Bool) (s : State) : leavesStill s (execHeartbeatSend port s) := by
  simp [execHeartbeatSend, guarded_still]

@[simp] theorem execHeartbeat_still (f : Frame) (roles load : Nat) (s : State) : leavesStill s (execHeartbeat f roles load s) := by
  simp [execHeartbeat, receive_still]

@[simp] theorem execTimeMarkSend_still (s : State) : leavesStill s (execTimeMarkSend s) := by simp [execTimeMarkSend, guarded_still]
@[simp] theorem keepRtt_still (n : Nat) (s : State) : still (keepRtt n s) = still s := by simp [keepRtt]

@[simp] theorem markBack_still (n : Nat) (s : State) : still (markBack n s) = still s := by
  unfold markBack
  split <;> simp

@[simp] theorem execTimeMark_still (f : Frame) (measuredNs : Nat) (s : State) : leavesStill s (execTimeMark f measuredNs s) := by
  unfold execTimeMark
  refine receive_still (fun s => ?_) _ _ s
  (repeat' split) <;> simp

@[simp] theorem broadcastImages_still (s : State) : still (broadcastImages s) = still s := by
  unfold broadcastImages
  dsimp only
  (repeat' split) <;> simp

@[simp] theorem sendImages_still (n : Nat) (s : State) : still (sendImages n s) = still s := by simp [sendImages]

@[simp] theorem execRingFormed_still (live position : Nat) (rk : Bytes) (s : State) : leavesStill s (execRingFormed live position rk s) := by
  unfold execRingFormed
  split <;> simp [guarded_still]

@[simp] theorem leavePair_still (s : State) : still (leavePair s) = still s := by simp [leavePair]
@[simp] theorem keepPolicyOnly_still (rnd : Bytes) (s : State) : still (keepPolicyOnly rnd s) = still s := by simp [keepPolicyOnly, still_foldl]

@[simp] theorem unpair_still (rnd : Bytes) (s : State) : still (unpair rnd s) = still s := by
  unfold unpair
  dsimp only
  (repeat' split) <;> simp [still_foldl]

@[simp] theorem goSolo_still (s : State) : still (goSolo s) = still s := by simp [goSolo]

@[simp] theorem execLeave_still (f : Frame) (cause : Nat) (s : State) : leavesStill s (execLeave f cause s) := by
  unfold execLeave
  refine receive_still (fun s => ?_) _ _ s
  dsimp only
  (repeat' split) <;> simp

@[simp] theorem execPartnerLost_still (s : State) : leavesStill s (execPartnerLost s) := by
  unfold execPartnerLost
  refine guarded_still (fun s => ?_) s
  dsimp only
  (repeat' split) <;> simp

@[simp] theorem execForwardAck_still (f : Frame) (r : CmdRef) (s : State) : leavesStill s (execForwardAck f r s) := by
  simp [execForwardAck, receive_still]

@[simp] theorem boundary_still (s : State) : still (boundary s) = still s := by
  unfold boundary
  (repeat' split) <;> simp

@[simp] theorem applyChange_still (c : Change) (s : State) : still (applyChange c s) = still s := by
  unfold applyChange
  (repeat' split) <;> simp

@[simp] theorem withdrawChange_still (c : Cmd) (s : State) : still (withdrawChange c s) = still s := by
  unfold withdrawChange
  split <;> simp [still_foldl]

@[simp] theorem pairAbort_still (r : CmdRef) (k : Nat) (s : State) : still (pairAbort r k s) = still s := by
  unfold pairAbort
  (repeat' split) <;> simp

@[simp] theorem takeVerdict_still (ring seq v k : Nat) (s : State) : still (takeVerdict ring seq v k s) = still s := by
  unfold takeVerdict
  dsimp only
  (repeat' split) <;> simp

@[simp] theorem execEvent_still (f : Frame) (e : PairEvent) (s : State) : leavesStill s (execEvent f e s) := by
  unfold execEvent
  refine receive_still (fun s => ?_) _ _ s
  dsimp only
  (repeat' split) <;> simp

@[simp] theorem changeRingGen_still (g : Nat) (s : State) : still (changeRingGen g s) = still s := by
  unfold changeRingGen
  (repeat' split) <;> simp

@[simp] theorem changePartGen_still (p : Nat) (s : State) : still (changePartGen p s) = still s := by
  unfold changePartGen
  split <;> simp

@[simp] theorem changeGens_still (f : Nat) (s : State) : still (changeGens f s) = still s := by
  unfold changeGens
  dsimp only
  (repeat' split) <;> simp [still_foldl]

@[simp] theorem hostReset_still (f : Nat) (s : State) : still (hostReset f s) = still s := by simp [hostReset]
@[simp] theorem resetVfs_still (s : State) : still (resetVfs s) = still s := by simp [resetVfs, still_foldl]
@[simp] theorem diverge_still (s : State) : still (diverge s) = still s := by simp [diverge]

@[simp] theorem compareWith_still (x : Compare) (s : State) : still (compareWith x s) = still s := by
  unfold compareWith
  (repeat' split) <;> simp

@[simp] theorem execReplyCheck_still (f : Frame) (r : CmdRef) (status : BitVec 16) (replyLen : Nat) (digest : Bytes) (s : State) :
    leavesStill s (execReplyCheck f r status replyLen digest s) := by
  unfold execReplyCheck
  refine receive_still (fun s => ?_) _ _ s
  split <;> simp

@[simp] theorem syncOne_still (y : SyncImage) (s : State) : still (syncOne y s) = still s := (rfl)
@[simp] theorem syncTwo_still (y : SyncImage) (s : State) : still (syncTwo y s) = still s := (rfl)
@[simp] theorem syncThree_still (y : SyncImage) (s : State) : still (syncThree y s) = still s := by simp [syncThree]
@[simp] theorem setRole_still (role : Bool) (v : Bool) (s : State) : still (setRole role v s) = still s := by simp [setRole]
@[simp] theorem setLease_still (role : Bool) (r : LeaseRec) (s : State) : still (setLease role r s) = still s := by simp [setLease]

@[simp] theorem fetched_still (s : State) : still (fetched s) = still s := by
  unfold fetched
  (repeat' split) <;> simp

@[simp] theorem dropUnnamed_still (y : RingImage) (s : State) : still (dropUnnamed y s) = still s := by
  unfold dropUnnamed
  split <;> simp [still_foldl]

@[simp] theorem applyImage_still (y : RingImage) (s : State) : still (applyImage y s) = still s := by simp [applyImage, still_foldl]

@[simp] theorem ringSync_still (f : Frame) (phase : Nat) (state : Bytes) (s : State) : still (ringSync f phase state s) = still s := by
  unfold ringSync
  (repeat' split) <;> simp

@[simp] theorem execResync_still (f : Frame) (phase percent : Nat) (state : Bytes) (s : State) :
    leavesStill s (execResync f phase percent state s) := by
  unfold execResync
  refine receive_still (fun s => ?_) _ _ s
  (repeat' split) <;> simp

@[simp] theorem execResyncFinalPass_still (dirtyBytes : Nat) (s : State) : leavesStill s (execResyncFinalPass dirtyBytes s) := by
  simp [execResyncFinalPass, guarded_still]

@[simp] theorem ceaseRole_still (role : Bool) (s : State) : still (ceaseRole role s) = still s := by simp [ceaseRole]
@[simp] theorem sendLease_still (role : Bool) (s : State) : still (sendLease role s) = still s := by simp [sendLease]

@[simp] theorem voteLease_still (role : Bool) (term : BitVec 64) (holder lengthNs : Nat) (s : State) :
    still (voteLease role term holder lengthNs s).2 = still s := by
  unfold voteLease
  dsimp only
  (repeat' split) <;> simp

@[simp] theorem passLease_still (f : Frame) (role : Bool) (term : BitVec 64) (holder lengthNs : Nat) (votes : List (Nat × Bool × Nat))
    (ack : Bool) (s : State) :
    still (passLease f role term holder lengthNs votes ack s) = still s := by
  simp [passLease]

@[simp] theorem wayBack_still (role : Bool) (votes : List (Nat × Bool × Nat)) (s : State) : still (wayBack role votes s) = still s := by
  simp [wayBack]

@[simp] theorem fetchRole_still (role : Bool) (s : State) : still (fetchRole role s) = still s := by
  unfold fetchRole
  dsimp only
  (repeat' split) <;> simp

@[simp] theorem actRole_still (role : Bool) (was : List Nat) (s : State) : still (actRole role was s) = still s := by
  unfold actRole
  dsimp only
  (repeat' split) <;> simp [still_foldl]

@[simp] theorem leaseBack_still (role : Bool) (votes : List (Nat × Bool × Nat)) (s : State) : still (leaseBack role votes s) = still s := by
  unfold leaseBack
  dsimp only
  (repeat' split) <;> simp

@[simp] theorem execLease_still (f : Frame) (role : Bool) (term : BitVec 64) (holder lengthNs : Nat) (votes : List (Nat × Bool × Nat)) (s : State) :
    leavesStill s (execLease f role term holder lengthNs votes s) := by
  unfold execLease
  refine receive_still (fun s => ?_) _ _ s
  dsimp only
  (repeat' split) <;> simp

@[simp] theorem execLeaseRenewal_still (role : Bool) (s : State) : leavesStill s (execLeaseRenewal role s) := by
  simp [execLeaseRenewal, guarded_still]

@[simp] theorem execLeaseWindowEnd_still (role : Bool) (s : State) : leavesStill s (execLeaseWindowEnd role s) := by
  simp [execLeaseWindowEnd, guarded_still]

@[simp] theorem execLeaseRecordExpiry_still (role : Bool) (s : State) : leavesStill s (execLeaseRecordExpiry role s) := by
  simp [execLeaseRecordExpiry, guarded_still]

@[simp] theorem execLeaseTakeover_still (role : Bool) (s : State) : leavesStill s (execLeaseTakeover role s) := by
  simp [execLeaseTakeover, guarded_still]

@[simp] theorem execReplicate_still (f : Frame) (role : Bool) (seq : Nat) (change : Bytes) (s : State) :
    leavesStill s (execReplicate f role seq change s) := by
  unfold execReplicate
  refine receive_still (fun s => ?_) _ _ s
  (repeat' split) <;> simp

@[simp] theorem execReplicateAck_still (f : Frame) (r : CmdRef) (refusal : BitVec 16) (s : State) :
    leavesStill s (execReplicateAck f r refusal s) := by
  unfold execReplicateAck
  refine receive_still (fun s => ?_) _ _ s
  (repeat' split) <;> simp

@[simp] theorem runRingStatus_still (c : Cmd) (s : State) : still (runRingStatus c s).1 = still s := by simp [runRingStatus]

@[simp] theorem runRingConfig_still (sameP : Bool) (c : Cmd) (s : State) : still (runRingConfig sameP c s).1 = still s := by
  unfold runRingConfig
  split <;> simp

@[simp] theorem runMirrorPair_still (fits : Bool) (agreed : Option Bytes) (c : Cmd) (s : State) :
    still (runMirrorPair fits agreed c s).1 = still s := by
  unfold runMirrorPair
  dsimp only
  (repeat' split) <;> simp

@[simp] theorem runMirrorUnpair_still (c : Cmd) (s : State) : still (runMirrorUnpair c s).1 = still s := by simp [runMirrorUnpair]

@[simp] theorem runSwitchover_still (c : Cmd) (s : State) : still (runSwitchover c s).1 = still s := by
  unfold runSwitchover
  (repeat' split) <;> simp

@[simp] theorem runRingSpill_still (c : Cmd) (s : State) : still (runRingSpill c s).1 = still s := by simp [runRingSpill]
@[simp] theorem execRingStatus_still (r : CmdRef) (s : State) : leavesStill s (execRingStatus r s) := by simp [execRingStatus, runAccepted_still]

@[simp] theorem execRingConfig_still (r : CmdRef) (sameP : Bool) (s : State) : leavesStill s (execRingConfig r sameP s) := by
  simp [execRingConfig, runAccepted_still]

@[simp] theorem execMirrorPair_still (r : CmdRef) (fits : Bool) (agreed : Option Bytes) (s : State) :
    leavesStill s (execMirrorPair r fits agreed s) := by
  simp [execMirrorPair, runAccepted_still]

@[simp] theorem execMirrorUnpair_still (r : CmdRef) (s : State) : leavesStill s (execMirrorUnpair r s) := by
  simp [execMirrorUnpair, runAccepted_still]

@[simp] theorem execMirrorSwitchover_still (r : CmdRef) (s : State) : leavesStill s (execMirrorSwitchover r s) := by
  simp [execMirrorSwitchover, runAccepted_still]

@[simp] theorem execRingSpill_still (r : CmdRef) (s : State) : leavesStill s (execRingSpill r s) := by simp [execRingSpill, runAccepted_still]

end Sys2Proof.Proofs
end

section
/-! What the start, Horizon, the debug port, background work and the platform leave as it is: the queue and the OTP (R365). -/

namespace Sys2Proof.Proofs

open Sys2Proof Sys2Proof.Machine Sys2Proof.Safety Sys2Proof.Laws

/-! ## The start -/

@[simp] theorem horizonOff_still (s : State) : still (horizonOff s) = still s := by simp [horizonOff]

@[simp] theorem tamperRecord_still (cause channel : Nat) (battery : Bool) (sample : Nat) (s : State) :
    still (tamperRecord cause channel battery sample s) = still s := (rfl)

@[simp] theorem tamperBegin_still (cause channel : Nat) (battery : Bool) (sample : Nat) (s : State) :
    still (tamperBegin cause channel battery sample s) = still s := by
  simp [tamperBegin]

@[simp] theorem latchAtPowerUp_still (s : State) : still (latchAtPowerUp s) = still s := by
  unfold latchAtPowerUp
  (repeat' split) <;> simp

@[simp] theorem execPowerOn_still (feedA feedB : Nat) (s : State) : leavesStill s (execPowerOn feedA feedB s) := by simp [execPowerOn, guarded_still]
@[simp] theorem execFeedChange_still (feedA feedB : Nat) (s : State) : leavesStill s (execFeedChange feedA feedB s) := (rfl)

@[simp] theorem execPllLock_still (s : State) : leavesStill s (execPllLock s) := by
  unfold execPllLock
  refine guarded_still (fun s => ?_) s
  simp

@[simp] theorem execIslandClockSwitch_still (s : State) : leavesStill s (execIslandClockSwitch s) := by
  unfold execIslandClockSwitch
  refine guarded_still (fun s => ?_) s
  simp

@[simp] theorem destroyTenants_still (s : State) : still (destroyTenants s) = still s := by simp [destroyTenants]
@[simp] theorem trySlot_still (b readable : Bool) (s : State) : still (trySlot b readable s).2 = still s := by simp [trySlot]
@[simp] theorem startRot_still (b fallback : Bool) (s : State) : still (startRot b fallback s) = still s := (rfl)

@[simp] theorem bootRot_still (readA readB : Bool) (s : State) : still (bootRot readA readB s) = still s := by
  unfold bootRot
  dsimp only
  (repeat' split) <;> simp

@[simp] theorem execRomBoot_still (readableA readableB : Bool) (s : State) : leavesStill s (execRomBoot readableA readableB s) := by
  simp [execRomBoot, guarded_still]

@[simp] theorem modLife_still {g : LifeDebug → LifeDebug} (h : ∀ l, (g l).otp = l.otp) (s : State) : still (modLife g s) = still s := by
  unfold still modLife
  rw [h]

@[simp] theorem writeCheckpoint_still (s : State) : still (writeCheckpoint s) = still s := (rfl)

@[simp] theorem restoreHorizon_still (s : State) : still (restoreHorizon s) = still s := by
  unfold restoreHorizon
  split <;> simp

@[simp] theorem settleSlots_still (s : State) : still (settleSlots s) = still s := by
  unfold settleSlots
  dsimp only
  split
  · exact (setSlot_still ..).trans (clearFlag_still ..)
  · exact setSlot_still ..

@[simp] theorem deriveAliases_still (s : State) : still (deriveAliases s) = still s := by
  unfold deriveAliases
  split <;> simp

@[simp] theorem finaliseJournals_still (s : State) : still (finaliseJournals s) = still s := by simp [finaliseJournals]
@[simp] theorem loadMapping_still (s : State) : still (loadMapping s) = still s := by simp [loadMapping, still_foldl]

@[simp] theorem drawStartKeys_still (s : State) : still (drawStartKeys s) = still s := by
  unfold drawStartKeys
  dsimp only
  (repeat' split) <;> simp

@[simp] theorem domainsAtStart_still (s : State) : still (domainsAtStart s) = still s := by simp [domainsAtStart, still_foldl]

@[simp] theorem mirrorAtStart_still (s : State) : still (mirrorAtStart s) = still s := by
  unfold mirrorAtStart
  split <;> simp

@[simp] theorem platformAtStart_still (s : State) : still (platformAtStart s) = still s := by
  unfold platformAtStart
  dsimp only
  (repeat' split) <;> simp

@[simp] theorem reportLoss_still (s : State) : still (reportLoss s) = still s := by
  unfold reportLoss
  split <;> simp

theorem logEvents_otp (l : List DebugEvent) (x : LifeDebug) : (l.foldl (fun x e => logEvent e x) x).otp = x.otp := by
  induction l generalizing x with
  | nil => rfl
  | cons e r ih => rw [List.foldl_cons, ih]; rfl

@[simp] theorem flushDebugLog_still (s : State) : still (flushDebugLog s) = still s :=
  modLife_still (fun l => logEvents_otp l.logDue l) s

@[simp] theorem enterPhase_still (p : Phase) (s : State) : still (enterPhase p s) = still s := by simp [enterPhase]

@[simp] theorem execRankTrained_still (ok : Bool) (s : State) : leavesStill s (execRankTrained ok s) := by
  unfold execRankTrained
  refine guarded_still (fun s => ?_) s
  split <;> simp

@[simp] theorem execRetainedAppRecheck_still (s : State) : leavesStill s (execRetainedAppRecheck s) := by
  unfold execRetainedAppRecheck
  refine guarded_still (fun s => ?_) s
  dsimp only
  (repeat' split) <;> simp

@[simp] theorem endRetained_still (pass : Bool) (s : State) : still (endRetained pass s) = still s := by
  unfold endRetained
  split <;> simp

@[simp] theorem execDomainKatDone_still (d : Fin 32) (failed : List Nat) (s : State) : leavesStill s (execDomainKatDone d failed s) := by
  unfold execDomainKatDone
  refine guarded_still (fun s => ?_) s
  (repeat' split) <;> simp

@[simp] theorem startTests_still (s : State) : still (startTests s) = still s := by simp [startTests, still_foldl]
@[simp] theorem loadCalibration_still (s : State) : still (loadCalibration s) = still s := (rfl)
@[simp] theorem execAppStartReport_still (s : State) : leavesStill s (execAppStartReport s) := by simp [execAppStartReport, guarded_still]

@[simp] theorem execMemoryPortsTrained_still (s : State) : leavesStill s (execMemoryPortsTrained s) := by
  unfold execMemoryPortsTrained
  refine guarded_still (fun s => ?_) s
  simp

@[simp] theorem execEnterClear_still (s : State) : leavesStill s (execEnterClear s) := by simp [execEnterClear, guarded_still]
@[simp] theorem execClearTimeout_still (s : State) : leavesStill s (execClearTimeout s) := by simp [execClearTimeout]
@[simp] theorem execPerstNAssert_still (s : State) : leavesStill s (execPerstNAssert s) := by simp [execPerstNAssert, guarded_still]

@[simp] theorem execPerstNDeassert_still (s : State) : leavesStill s (execPerstNDeassert s) := by
  unfold execPerstNDeassert
  refine guarded_still (fun s => ?_) s
  simp

@[simp] theorem execFunctionLevelReset_still (f : Fin 256) (s : State) : leavesStill s (execFunctionLevelReset f s) := by
  simp [execFunctionLevelReset, guarded_still]

@[simp] theorem execVfEnableClear_still (s : State) : leavesStill s (execVfEnableClear s) := by simp [execVfEnableClear, guarded_still]

/-! ## Tamper and Horizon -/

@[simp] theorem leaveFailed_still (cause : Byte) (s : State) : still (leaveFailed cause s) = still s := by
  unfold leaveFailed
  (repeat' split) <;> simp

@[simp] theorem responseStart_still (s : State) : still (responseStart s) = still s := by simp [responseStart]

@[simp] theorem fireTamper_still (cause channel sample : Nat) (s : State) : still (fireTamper cause channel sample s) = still s := by
  unfold fireTamper
  dsimp only
  (repeat' split) <;> simp

@[simp] theorem noteCondition_still (cause loop : Nat) (s : State) : still (noteCondition cause loop s) = still s := by
  unfold noteCondition
  (repeat' split) <;> simp

@[simp] theorem comparator_still (cause loop : Nat) (s : State) : still (comparator cause loop s) = still s := by
  unfold comparator
  split <;> simp

@[simp] theorem execTamperCauseFire_still (cause : Fin 9) (loop : Fin 4) (s : State) : leavesStill s (execTamperCauseFire cause loop s) := by
  simp [execTamperCauseFire, guarded_still]

@[simp] theorem execTamperCauseClear_still (cause : Fin 9) (s : State) : leavesStill s (execTamperCauseClear cause s) := (rfl)

@[simp] theorem execMeshSample_still (loop : Fin 4) (ohms : Nat) (crossed : Bool) (s : State) :
    leavesStill s (execMeshSample loop ohms crossed s) := by
  unfold execMeshSample
  refine guarded_still (fun s => ?_) s
  (repeat' split) <;> simp

@[simp] theorem markService_still (s : State) : still (markService s) = still s := by simp [markService]

@[simp] theorem noteBattery_still (ch v : Nat) (s : State) : still (noteBattery ch v s) = still s := by
  unfold noteBattery
  split <;> simp

@[simp] theorem channelWarn_still (ch : Nat) (s : State) : still (channelWarn ch s) = still s := by
  unfold channelWarn
  split <;> simp

@[simp] theorem execChannelSample_still (ch : Fin 16) (value : BitVec 12) (s : State) : leavesStill s (execChannelSample ch value s) := by
  unfold execChannelSample
  refine guarded_still (fun s => ?_) s
  dsimp only
  (repeat' split) <;> simp

@[simp] theorem execEnvelopeRecompute_still (loads : List (Nat × Nat)) (s : State) : leavesStill s (execEnvelopeRecompute loads s) := by
  unfold execEnvelopeRecompute
  refine guarded_still (fun s => ?_) s
  simp

@[simp] theorem execCalibrationDone_still (point : CalPoint) (meanTemp : Int) (s : State) : leavesStill s (execCalibrationDone point meanTemp s) := by
  unfold execCalibrationDone
  dsimp only
  split
  · rfl
  · refine guarded_still (fun s => ?_) s
    split <;> simp

@[simp] theorem execHorizonCheckpoint_still (s : State) : leavesStill s (execHorizonCheckpoint s) := by simp [execHorizonCheckpoint, guarded_still]

@[simp] theorem execCrystalCheck_still (deviationPpm : Nat) (stopped : Bool) (s : State) :
    leavesStill s (execCrystalCheck deviationPpm stopped s) := by
  unfold execCrystalCheck
  refine guarded_still (fun s => ?_) s
  (repeat' split) <;> simp

@[simp] theorem applyTamperArm_still (c : Cmd) (s : State) : still (applyTamperArm c s) = still s := by simp [applyTamperArm]

@[simp] theorem execDeviceTamperArm_still (r : CmdRef) (s : State) : leavesStill s (execDeviceTamperArm r s) := by
  simp [execDeviceTamperArm, adminRun_still, runAccepted_still]

/-! ## The debug port -/

@[simp] theorem debugLog_still (kind ir addr : Nat) (s : State) : still (debugLog kind ir addr s) = still s :=
  modLife_still (fun l => by split <;> rfl) s

@[simp] theorem setIr_still (ir : Nat) (s : State) : still (setIr ir s) = still s := by simp [setIr]

theorem tapSelect_still {act : State → State} (h : ∀ s, still (act s) = still s) (ir : Nat) (s : State) :
    leavesStill s (tapSelect ir act s) :=
  guarded_still (fun s => by split <;> simp [h]) s

@[simp] theorem tapOut_still (n v : Nat) (s : State) : still (tapOut n v s) = still s := by simp [tapOut]
@[simp] theorem tapFree_still (s : State) : still (tapFree s) = still s := by simp [tapFree]
@[simp] theorem execTapReset_still (s : State) : leavesStill s (execTapReset s) := by simp [execTapReset, guarded_still]
@[simp] theorem execIdcode_still (s : State) : leavesStill s (execIdcode s) := by simp [execIdcode, tapSelect_still]
@[simp] theorem execBypass_still (s : State) : leavesStill s (execBypass s) := by simp [execBypass, tapSelect_still]

@[simp] theorem execSamplePreload_still (contacts : Bytes) (s : State) : leavesStill s (execSamplePreload contacts s) := by
  simp [execSamplePreload, tapSelect_still]

@[simp] theorem execExtest_still (scan : Bytes) (s : State) : leavesStill s (execExtest scan s) := by simp [execExtest, tapSelect_still]
@[simp] theorem execClamp_still (s : State) : leavesStill s (execClamp s) := by simp [execClamp, tapSelect_still]
@[simp] theorem execHighz_still (s : State) : leavesStill s (execHighz s) := by simp [execHighz, tapSelect_still]
@[simp] theorem execDbgStatus_still (s : State) : leavesStill s (execDbgStatus s) := by simp [execDbgStatus, tapSelect_still]
@[simp] theorem execDbgChallenge_still (s : State) : leavesStill s (execDbgChallenge s) := by simp [execDbgChallenge, tapSelect_still]

@[simp] theorem execDebugChallengeExpiry_still (s : State) : leavesStill s (execDebugChallengeExpiry s) := by
  simp [execDebugChallengeExpiry, guarded_still]

@[simp] theorem tapError_still (s : State) : still (tapError s) = still s := by simp [tapError]

@[simp] theorem execDapAccess_still (write : Bool) (region : DapRegion) (addr : BitVec 40) (_data : BitVec 64) (s : State) :
    leavesStill s (execDapAccess write region addr _data s) := by
  unfold execDapAccess
  split <;> simp [tapSelect_still]

@[simp] theorem execCoreDebug_still (core : Fin 8) (op : BitVec 8) (_data : BitVec 64) (s : State) :
    leavesStill s (execCoreDebug core op _data s) := by
  unfold execCoreDebug
  (repeat' split) <;> simp [tapSelect_still]

@[simp] theorem execIslandDebug_still (_op : BitVec 8) (_data : BitVec 64) (s : State) : leavesStill s (execIslandDebug _op _data s) := by
  simp [execIslandDebug, tapSelect_still]

@[simp] theorem execMemTest_still (_op : BitVec 8) (_data : BitVec 64) (s : State) : leavesStill s (execMemTest _op _data s) := by
  simp [execMemTest, tapSelect_still]

/-! ## Background work -/

@[simp] theorem modFlt_still (g : Faults → Faults) (s : State) : still (modFlt g s) = still s := (rfl)
@[simp] theorem modKs_still (g : KeyStore → KeyStore) (s : State) : still (modKs g s) = still s := (rfl)
@[simp] theorem execCoalTimer_still (ring : Fin 1024) (s : State) : leavesStill s (execCoalTimer ring s) := by simp [execCoalTimer, guarded_still]
@[simp] theorem execTraceTimeMark_still (s : State) : leavesStill s (execTraceTimeMark s) := by simp [execTraceTimeMark, guarded_still]

@[simp] theorem execSlotScrub_still (failed : List Nat) (s : State) : leavesStill s (execSlotScrub failed s) := by
  unfold execSlotScrub
  refine guarded_still (fun s => ?_) s
  refine (still_foldl (fun s k => ?_) _ _).trans (modKs_still ..)
  dsimp only
  split <;> simp

@[simp] theorem execMwkRewrapEnd_still (s : State) : leavesStill s (execMwkRewrapEnd s) := by simp [execMwkRewrapEnd, guarded_still]

@[simp] theorem regionPoison_still (r : MemRegion) (s : State) : still (regionPoison r s) = still s := by
  unfold regionPoison
  split <;> simp

/-- `correctedBurst` over a window of any length: a literal of 10^9 would be counted down one by one where the comparison is unfolded. -/
def burstWithin (window rank : Nat) (s : State) : State :=
  let (n, t) := s.flt.bursts.at rank (0, s.clk.ns)
  let (n, t) := if s.clk.ns < t + window then (n + 1, t) else (1, s.clk.ns)
  let s := modFlt (fun f => { f with corrected := satAdd 32 f.corrected 1, bursts := f.bursts.put rank (n, t) }) s
  if n = 1001 then transient { kind := 6, index := rank } s else s

theorem correctedBurst_eq : correctedBurst = burstWithin 1000000000 := rfl

theorem burstWithin_still (window rank : Nat) (s : State) : still (burstWithin window rank s) = still s := by
  unfold burstWithin
  dsimp only
  rw [apply_ite still]
  simp

@[simp] theorem correctedBurst_still (rank : Nat) (s : State) : still (correctedBurst rank s) = still s := by
  rw [correctedBurst_eq]
  exact burstWithin_still ..

@[simp] theorem patrolLine_still (s : State) (l : LineRead) : still (patrolLine s l) = still s := by
  unfold patrolLine
  (repeat' split) <;> simp

@[simp] theorem execPatrolScrub_still (lines : List LineRead) (s : State) : leavesStill s (execPatrolScrub lines s) := by
  simp [execPatrolScrub, still_foldl, guarded_still]

@[simp] theorem execRankRetrain_still (rank : Fin 16) (ok : Bool) (s : State) : leavesStill s (execRankRetrain rank ok s) := by
  simp [execRankRetrain, guarded_still]

@[simp] theorem nextRank_still (s : State) : still (nextRank s) = still s := by
  unfold nextRank
  split <;> simp

@[simp] theorem execVaultRebuildEnd_still (unreadable : List (Nat × Bytes)) (s : State) : leavesStill s (execVaultRebuildEnd unreadable s) := by
  unfold execVaultRebuildEnd
  dsimp only
  (repeat' split) <;> simp [still_foldl]

@[simp] theorem execRankEvacuationEnd_still (unreadable : List MemRegion) (s : State) : leavesStill s (execRankEvacuationEnd unreadable s) := by
  unfold execRankEvacuationEnd
  refine guarded_still (fun s => ?_) s
  dsimp only
  (repeat' split) <;> simp [still_foldl]

@[simp] theorem execCeremonyExpiry_still (part : Fin 256) (s : State) : leavesStill s (execCeremonyExpiry part s) := by
  simp [execCeremonyExpiry, guarded_still]

@[simp] theorem execOfferExpiry_still (part : Fin 256) (restore : Bool) (s : State) : leavesStill s (execOfferExpiry part restore s) := by
  unfold execOfferExpiry
  split <;> simp [guarded_still]

@[simp] theorem execTr34NonceExpiry_still (part : Fin 256) (nonceId : BitVec 32) (s : State) :
    leavesStill s (execTr34NonceExpiry part nonceId s) := by
  simp [execTr34NonceExpiry, guarded_still]

@[simp] theorem execBackupSnapshotExpiry_still (part : Fin 256) (s : State) : leavesStill s (execBackupSnapshotExpiry part s) := by
  simp [execBackupSnapshotExpiry, guarded_still]

@[simp] theorem execImportIdleTimeout_still (part : Fin 256) (s : State) : leavesStill s (execImportIdleTimeout part s) := by
  simp [execImportIdleTimeout, guarded_still]

/-! ## The platform -/

@[simp] theorem modPlat_still (g : Platform → Platform) (s : State) : still (modPlat g s) = still s := (rfl)
@[simp] theorem setBank_still (b : Bool) (x : Bank) (s : State) : still (setBank b x s) = still s := by simp [setBank]
@[simp] theorem excludeRegions_still (s : State) : still (excludeRegions s) = still s := by simp [excludeRegions]

@[simp] theorem activateBoot_still (s : State) : still (activateBoot s) = still s := by
  unfold activateBoot
  split <;> simp

@[simp] theorem setHost_still (st : PlatState) (outcome : BitVec 8) (s : State) : still (setHost st outcome s) = still s := by simp [setHost]
@[simp] theorem setBmc_still (st : PlatState) (outcome : BitVec 8) (s : State) : still (setBmc st outcome s) = still s := by simp [setBmc]
@[simp] theorem holdHost_still (outcome : BitVec 8) (s : State) : still (holdHost outcome s) = still s := by simp [holdHost]
@[simp] theorem holdBmc_still (outcome : BitVec 8) (s : State) : still (holdBmc outcome s) = still s := by simp [holdBmc]

@[simp] theorem seqFail_still (s : State) : still (seqFail s) = still s := by
  unfold seqFail
  dsimp only
  (repeat' split) <;> simp

@[simp] theorem doStep_still (b : Bytes) (s : State) : still (doStep b s).1 = still s := by
  unfold doStep
  dsimp only
  (repeat' split) <;> simp

@[simp] theorem runSeq_still (n : Nat) (s : State) : still (runSeq n s) = still s := by
  induction n generalizing s with
  | zero => rfl
  | succ n ih =>
    unfold runSeq
    dsimp only
    (repeat' split) <;> simp [ih]

@[simp] theorem undoStep_still (b : Bytes) (s : State) : still (undoStep b s) = still s := by
  unfold undoStep
  split <;> simp

@[simp] theorem downSeq_still (l : List Bytes) (s : State) : still (downSeq l s) = still s := by
  induction l generalizing s with
  | nil => rfl
  | cons b r ih =>
    unfold downSeq
    split <;> simp [ih]

@[simp] theorem powerDown_still (s : State) : still (powerDown s) = still s := by simp [powerDown]

@[simp] theorem tryBmc_still (s : State) : still (tryBmc s) = still s := by
  unfold tryBmc
  dsimp only
  (repeat' split) <;> simp

@[simp] theorem tryHost_still (s : State) : still (tryHost s) = still s := by
  unfold tryHost
  split <;> simp

@[simp] theorem advance_still (s : State) : still (advance s) = still s := by simp [advance]
@[simp] theorem resume_still (s : State) : still (resume s) = still s := by simp [resume]
@[simp] theorem emptyBanks_still (s : State) : still (emptyBanks s) = still s := by simp [emptyBanks]

@[simp] theorem unmanaged_still (s : State) : still (unmanaged s) = still s := by
  unfold unmanaged
  dsimp only
  (repeat' split) <;> simp

@[simp] theorem execPlatformBoot_still (s : State) : leavesStill s (execPlatformBoot s) := by
  unfold execPlatformBoot
  refine guarded_still (fun s => ?_) s
  dsimp only
  (repeat' split) <;> simp

@[simp] theorem execPgInRise_still (n : Fin 8) (s : State) : leavesStill s (execPgInRise n s) := by
  unfold execPgInRise
  dsimp only
  (repeat' split) <;> simp

@[simp] theorem execPgWaitTimeout_still (s : State) : leavesStill s (execPgWaitTimeout s) := by
  unfold execPgWaitTimeout
  split <;> simp [guarded_still]

@[simp] theorem execSeqDelayEnd_still (s : State) : leavesStill s (execSeqDelayEnd s) := by
  unfold execSeqDelayEnd
  split <;> simp [guarded_still]

@[simp] theorem execPmbusWriteDone_still (ok : Bool) (s : State) : leavesStill s (execPmbusWriteDone ok s) := by
  unfold execPmbusWriteDone
  (repeat' split) <;> simp

@[simp] theorem isleEnd_still (k : Nat) (s : State) : still (isleEnd k s) = still s := by
  unfold isleEnd
  (repeat' split) <;> simp

@[simp] theorem isleStart_still (k : Nat) (s : State) : still (isleStart k s) = still s := by
  unfold isleStart
  dsimp only
  (repeat' split) <;> simp

@[simp] theorem islePass_still (s : State) : still (islePass s) = still s := by
  unfold islePass
  split <;> simp [still_foldl]

@[simp] theorem acceptManifest_still (m : Bytes) (s : State) : still (acceptManifest m s) = still s := by simp [acceptManifest]

@[simp] theorem manifestFail_still (s : State) : still (manifestFail s) = still s := by
  unfold manifestFail
  dsimp only
  (repeat' split) <;> simp

@[simp] theorem execManifestReadDone_still (alternate : Bool) (bytes : Bytes) (s : State) :
    leavesStill s (execManifestReadDone alternate bytes s) := by
  unfold execManifestReadDone
  refine guarded_still (fun s => ?_) s
  dsimp only
  (repeat' split) <;> simp

@[simp] theorem beginRecovery_still (bmc : Bool) (s : State) : still (beginRecovery bmc s) = still s := by simp [beginRecovery]

@[simp] theorem judgeRegions_still (bmc : Bool) (digests sources rereads : List (Nat × Bytes)) (s : State) :
    still (judgeRegions bmc digests sources rereads s) = still s := by
  unfold judgeRegions
  dsimp only
  (repeat' split) <;> simp

@[simp] theorem execRegionHashDone_still (bmc : Bool) (digests sources rereads : List (Nat × Bytes)) (s : State) :
    leavesStill s (execRegionHashDone bmc digests sources rereads s) := by
  unfold execRegionHashDone
  refine guarded_still (fun s => ?_) s
  split <;> simp

@[simp] theorem execHostRelease_still (s : State) : leavesStill s (execHostRelease s) := by simp [execHostRelease, guarded_still]
@[simp] theorem resetMasters_still (t : BitVec 2) (full : Bool) (s : State) : still (resetMasters t full s) = still s := by simp [resetMasters]

@[simp] theorem execPlatformResetAssert_still (s : State) : leavesStill s (execPlatformResetAssert s) := by
  unfold execPlatformResetAssert
  (repeat' split) <;> simp [guarded_still]

@[simp] theorem writeRecord_still (kind event : Nat) (s : State) : still (writeRecord kind event s) = still s := by simp [writeRecord]

@[simp] theorem execBootRecordDurable_still (s : State) : leavesStill s (execBootRecordDurable s) := by
  unfold execBootRecordDurable
  split <;> simp [guarded_still]

@[simp] theorem mismatch_still (i : Nat) (r : Region) (d : Bytes) (s : State) : still (mismatch i r d s) = still s := by
  unfold mismatch
  dsimp only
  (repeat' split) <;> simp

@[simp] theorem execRemeasureRegionDone_still (region : Fin 64) (digest : Bytes) (s : State) :
    leavesStill s (execRemeasureRegionDone region digest s) := by
  unfold execRemeasureRegionDone
  split
  · rfl
  · refine guarded_still (fun s => ?_) s
    dsimp only
    (repeat' split) <;> simp

@[simp] theorem execFlashStatusPollTimeout_still (port : Fin 4) (s : State) : leavesStill s (execFlashStatusPollTimeout port s) := by
  simp [execFlashStatusPollTimeout, guarded_still]

@[simp] theorem lensLog_still (kind filled : Nat) (t : LensTxn) (cls : Nat) (s : State) : still (lensLog kind filled t cls s) = still s := by
  simp [lensLog]

@[simp] theorem flashOut_still (t : LensTxn) (forwarded : Bool) (filled cls : Nat) (s : State) :
    still (flashOut t forwarded filled cls s) = still s := by
  simp [flashOut]

@[simp] theorem judgeTxn_still (t : LensTxn) (s : State) : still (judgeTxn t s) = still s := by
  unfold judgeTxn
  dsimp only
  (repeat' split) <;> simp

@[simp] theorem execLensTransaction_still (t : LensTxn) (s : State) : leavesStill s (execLensTransaction t s) := by
  simp [execLensTransaction, guarded_still]

@[simp] theorem execLensTransactionEnd_still (master : Bool) (port : Fin 4) (s : State) : leavesStill s (execLensTransactionEnd master port s) := by
  unfold execLensTransactionEnd
  dsimp only
  (repeat' split) <;> simp

@[simp] theorem applyLock_still (c : Cmd) (s : State) : still (applyLock c s) = still s := by
  unfold applyLock
  dsimp only
  (repeat' split) <;> simp

@[simp] theorem applyStage_still (c : Cmd) (s : State) : still (applyStage c s) = still s := by
  unfold applyStage
  split <;> simp

@[simp] theorem swapRules_still (f : SwapFault) (s : State) : still (swapRules f s).2 = still s := by
  unfold swapRules
  split <;> simp

@[simp] theorem swapBanks_still (s : State) : still (swapBanks s) = still s := by simp [swapBanks]

@[simp] theorem runSwap_still (c : Cmd) (s : State) : still (runSwap c s).1 = still s := by
  unfold runSwap
  dsimp only
  (repeat' split) <;> simp

@[simp] theorem failSwap_still (c : Cmd) (st : Status) (s : State) : still (failSwap c st s).1 = still s := (rfl)
@[simp] theorem runPlatformStatus_still (c : Cmd) (s : State) : still (runPlatformStatus c s).1 = still s := by simp [runPlatformStatus]
@[simp] theorem applyConfigSet_still (c : Cmd) (s : State) : still (applyConfigSet c s) = still s := by simp [applyConfigSet]
@[simp] theorem runConfigGet_still (c : Cmd) (s : State) : still (runConfigGet c s).1 = still s := by simp [runConfigGet]
@[simp] theorem scheduleReboot_still (c : Cmd) (s : State) : still (scheduleReboot c s) = still s := by simp [scheduleReboot]
@[simp] theorem runLensRead_still (c : Cmd) (s : State) : still (runLensRead c s).1 = still s := by simp [runLensRead]

@[simp] theorem runRecordRead_still (c : Cmd) (s : State) : still (runRecordRead c s).1 = still s := by
  unfold runRecordRead
  split <;> simp

@[simp] theorem applyAck_still (c : Cmd) (s : State) : still (applyAck c s) = still s := by
  unfold applyAck
  dsimp only
  (repeat' split) <;> simp

@[simp] theorem execPlatformStatus_still (r : CmdRef) (s : State) : leavesStill s (execPlatformStatus r s) := by
  simp [execPlatformStatus, runAccepted_still]

@[simp] theorem execPlatformConfigSet_still (r : CmdRef) (s : State) : leavesStill s (execPlatformConfigSet r s) := by
  simp [execPlatformConfigSet, adminRun_still, runAccepted_still]

@[simp] theorem execPlatformConfigGet_still (r : CmdRef) (s : State) : leavesStill s (execPlatformConfigGet r s) := by
  simp [execPlatformConfigGet, runAccepted_still]

@[simp] theorem execPlatformReboot_still (r : CmdRef) (s : State) : leavesStill s (execPlatformReboot r s) := by
  simp [execPlatformReboot, adminRun_still, runAccepted_still]

@[simp] theorem execLensLock_still (r : CmdRef) (s : State) : leavesStill s (execLensLock r s) := by
  simp [execLensLock, adminRun_still, runAccepted_still]

@[simp] theorem execLensStage_still (r : CmdRef) (s : State) : leavesStill s (execLensStage r s) := by
  simp [execLensStage, adminRun_still, runAccepted_still]

@[simp] theorem execLensSwap_still (r : CmdRef) (s : State) : leavesStill s (execLensSwap r s) := by simp [execLensSwap, runAccepted_still]
@[simp] theorem execLensRead_still (r : CmdRef) (s : State) : leavesStill s (execLensRead r s) := by simp [execLensRead, runAccepted_still]

@[simp] theorem execBootRecordRead_still (r : CmdRef) (s : State) : leavesStill s (execBootRecordRead r s) := by
  simp [execBootRecordRead, runAccepted_still]

@[simp] theorem execBootRecordAck_still (r : CmdRef) (s : State) : leavesStill s (execBootRecordAck r s) := by
  simp [execBootRecordAck, adminRun_still, runAccepted_still]

/-! ## The recovery loader -/

@[simp] theorem loaderSend_still (typ : Nat) (payload : Bytes) (s : State) : still (loaderSend typ payload s) = still s := by simp [loaderSend]
@[simp] theorem loaderAck_still (result : Nat) (s : State) : still (loaderAck result s) = still s := by simp [loaderAck]
@[simp] theorem loaderNak_still (code : Nat) (s : State) : still (loaderNak code s) = still s := by simp [loaderNak]
@[simp] theorem loaderHeard_still (s : State) : still (loaderHeard s) = still s := (rfl)
@[simp] theorem loaderWait_still (s : State) : still (loaderWait s) = still s := (rfl)
@[simp] theorem execLoaderHelloTimer_still (s : State) : leavesStill s (execLoaderHelloTimer s) := by simp [execLoaderHelloTimer, guarded_still]

@[simp] theorem execLoaderBegin_still (length : BitVec 32) (crcOk : Bool) (s : State) : leavesStill s (execLoaderBegin length crcOk s) := by
  unfold execLoaderBegin
  (repeat' split) <;> simp [guarded_still]

@[simp] theorem execLoaderData_still (offset : BitVec 32) (data : Bytes) (crcOk : Bool) (s : State) :
    leavesStill s (execLoaderData offset data crcOk s) := by
  unfold execLoaderData
  refine guarded_still (fun s => ?_) s
  dsimp only
  (repeat' split) <;> simp

@[simp] theorem loaderStore_still (i : Bytes) (s : State) : still (loaderStore i s) = still s := by simp [loaderStore]

@[simp] theorem execLoaderEnd_still (crcOk : Bool) (s : State) : leavesStill s (execLoaderEnd crcOk s) := by
  unfold execLoaderEnd
  refine guarded_still (fun s => ?_) s
  dsimp only
  (repeat' split) <;> simp

@[simp] theorem execLoaderFrameTimeout_still (s : State) : leavesStill s (execLoaderFrameTimeout s) := by simp [execLoaderFrameTimeout, guarded_still]

end Sys2Proof.Proofs
end

section
/-! What fetching, acceptance, completion, the registers and the management bus leave as it is: the queue and the OTP (R365). -/

namespace Sys2Proof.Proofs

open Sys2Proof Sys2Proof.Machine Sys2Proof.Safety Sys2Proof.Laws

/-! ## Acceptance -/

@[simp] theorem debit_still (x : Req) (s : State) : still (debit x s) = still s := by simp [debit]
@[simp] theorem writeEntry_still (p i : Nat) (e : JEntry) (s : State) : still (writeEntry p i e s) = still s := by simp [writeEntry]

@[simp] theorem takeTarget_still (c : Cmd) (s : State) : still (takeTarget c s) = still s := by
  unfold takeTarget
  (repeat' split) <;> simp

@[simp] theorem takeTransient_still (o : OpSpec) (x : Req) (r : CmdRef) (s : State) : still (takeTransient o x r s) = still s := by
  unfold takeTransient
  (repeat' split) <;> simp

@[simp] theorem takeSeq_still (x : Req) (s : State) : still (takeSeq x s) = still s := by
  unfold takeSeq
  split <;> simp

@[simp] theorem consumeLock_still (o : OpSpec) (x : Req) (s : State) : still (consumeLock o x s) = still s := by
  unfold consumeLock
  split <;> simp

@[simp] theorem forwardOut_still (r : CmdRef) (x : Req) (s : State) : still (forwardOut r x s) = still s := by
  unfold forwardOut
  dsimp only
  (repeat' split) <;> simp

@[simp] theorem spillOut_still (r : CmdRef) (s : State) : still (spillOut r s) = still s := by
  unfold spillOut
  (repeat' split) <;> simp

@[simp] theorem execDrawSeedGenerate_still (p : Fin 256) (s : State) : leavesStill s (execDrawSeedGenerate p s) := by
  unfold execDrawSeedGenerate
  split <;> simp

/-- What is specified of an opcode keeps the queue and the OTP at the acceptance itself. -/
def acceptsStill (o : Option OpSpec) : Prop := ∀ x, o = some x → ∀ c s, still (x.accept c s) = still s

theorem acceptsStill_some {o : OpSpec} (f : Cmd → State → State) (h : o.accept = f) (hf : ∀ c s, still (f c s) = still s) :
    acceptsStill (some o) := by
  rintro _ ⟨⟩
  rw [h]
  exact hf

theorem acceptsStill_plain {o : OpSpec} (h : o.accept = fun _ s => s) : acceptsStill (some o) := acceptsStill_some _ h fun _ _ => rfl

/-- The session that a command names closes (R88). -/
def sessionClosing (c : Cmd) (s : State) : State := modSess (handleIndex c.handle) (fun x => { x with closing := true }) s

/-- One test of the table's opcodes. -/
theorem acceptsStill_dite {p : Prop} [Decidable p] {a : p → Option OpSpec} {b : ¬ p → Option OpSpec} (ha : ∀ h, acceptsStill (a h))
    (hb : ∀ h, acceptsStill (b h)) : acceptsStill (dite p a b) := by
  split
  · exact ha _
  · exact hb _

set_option linter.auxLemma false in
/-- The table is a chain of tests of the opcode: an acceptance changes nothing, but for the destruction of a key, a backup and the end of a
session (R88, R142, R280). -/
theorem opSpec_acceptsStill (n : Nat) : acceptsStill (opSpec n) := by
  delta opSpec opSpec.match_1
  repeat' refine acceptsStill_dite (fun e => ?_) fun _ => ?_
  case refine_2 => exact nofun
  all_goals cases ‹n = _›
  any_goals exact acceptsStill_plain rfl
  · exact acceptsStill_some sessionClosing rfl fun _ _ => modSess_still ..
  · exact acceptsStill_some destroyAccept rfl (by simp)
  · exact acceptsStill_some backupAccept rfl (by simp)

theorem opSpec_accept_still {n : Nat} {o : OpSpec} (h : opSpec n = some o) : ∀ c s, still (o.accept c s) = still s :=
  opSpec_acceptsStill n o h

theorem acceptAt_still {o : OpSpec} (h : ∀ c s, still (o.accept c s) = still s) (x : Req) (i : Nat) (mirror : Bool) (s : State) :
    still (acceptAt o x i mirror s) = still s := by
  unfold acceptAt
  dsimp only
  (repeat' split) <;> simp [still_foldl, h]

theorem accept_still {n : Nat} {o : OpSpec} (h : opSpec n = some o) (x : Req) (s : State) : still (accept o x s) = still s := by
  simp [accept, acceptAt_still (opSpec_accept_still h)]

/-! ## Key loads -/

@[simp] theorem deliverLoad_still (r : CmdRef) (i k : Nat) (key : BitVec 32) (src : KeySource) (v : KeyVal) (s : State) :
    still (deliverLoad r i k key src v s) = still s := by
  simp [deliverLoad]

@[simp] theorem serveLoad_still (r : CmdRef) (i k : Nat) (c : Cmd) (l : KeyLoad) (src : KeySource) (s : State) :
    still (serveLoad r i k c l src s) = still s := by
  unfold serveLoad
  (repeat' split) <;> simp

@[simp] theorem loadFails_still (r : CmdRef) (i : Nat) (l : KeyLoad) (s : State) : still (loadFails r i l s) = still s := by
  unfold loadFails
  (repeat' split) <;> simp

@[simp] theorem claimHot_still (s : State) (c : Cmd) : still (claimHot s c) = still s := by
  unfold claimHot
  split <;> simp [still_foldl]

@[simp] theorem execKeyLoadDone_still (r : CmdRef) (i k : Nat) (codeOk : Bool) (s : State) : leavesStill s (execKeyLoadDone r i k codeOk s) := by
  unfold execKeyLoadDone
  split
  · rfl
  · refine guarded_still (fun s => ?_) s
    (repeat' split) <;> simp

@[simp] theorem execKeyUnwrapDone_still (r : CmdRef) (i k : Nat) (tagOk : Bool) (s : State) : leavesStill s (execKeyUnwrapDone r i k tagOk s) := by
  unfold execKeyUnwrapDone
  split
  · rfl
  · refine guarded_still (fun s => ?_) s
    dsimp only
    (repeat' split) <;> simp

/-! ## From the fetch to the completion -/

@[simp] theorem spoofReport_still (fn cause partField ringField local_ : Nat) (s : State) :
    still (spoofReport fn cause partField ringField local_ s) = still s := by
  simp [spoofReport]

@[simp] theorem countRefusal_still (x : Req) (st : Status) (s : State) : still (countRefusal x st s) = still s := by
  unfold countRefusal
  (repeat' split) <;> simp

@[simp] theorem postRefusal_still (x : Req) (st : Status) (s : State) : still (postRefusal x st s) = still s := by simp [postRefusal]
@[simp] theorem refuse_still (x : Req) (st : Status) (s : State) : still (refuse x st s) = still s := by simp [refuse]

@[simp] theorem notFresh_still (x : Req) (s : State) : still (notFresh x s) = still s := by
  unfold notFresh
  (repeat' split) <;> simp

theorem admitEntry_still {n : Nat} {o : OpSpec} (h : opSpec n = some o) (x : Req) (s : State) : still (admitEntry o x s) = still s := by
  unfold admitEntry
  (repeat' split) <;> simp [accept_still h]

@[simp] theorem checksFromForm_still (x : Req) (descs : List Desc) (s : State) : still (checksFromForm x descs s) = still s := by
  unfold checksFromForm
  split
  · simp
  · next h => (repeat' split) <;> simp [admitEntry_still h]

@[simp] theorem checks_still (local_ : Nat) (x : Req) (descs : List Desc) (s : State) : still (checks local_ x descs s) = still s := by
  unfold checks
  (repeat' split) <;> simp

@[simp] theorem takeEntry_still (g : Nat) (s : State) : still (takeEntry g s) = still s := by simp [takeEntry]

@[simp] theorem execFetchEntry_still (fn : Fin 256) (ring : Fin 64) (sub : Submission) (s : State) :
    leavesStill s (execFetchEntry fn ring sub s) := by
  simp [execFetchEntry, guarded_still]

@[simp] theorem execBackingDurable_still (r : CmdRef) (s : State) : leavesStill s (execBackingDurable r s) := by
  unfold execBackingDurable
  split <;> simp [still_foldl, guarded_still]

@[simp] theorem finalUpdate_still (c : Cmd) (st : Status) (reply : Bytes) (s : State) : still (finalUpdate c st reply s) = still s := by
  unfold finalUpdate
  dsimp only
  (repeat' split) <;> simp

@[simp] theorem pendingSignal_still (n : Nat) (s : State) : still (pendingSignal n s) = still s := by
  unfold pendingSignal
  split <;> simp

@[simp] theorem busSend_still (n : Nat) (o : Out) (s : State) : still (busSend n o s) = still s := by simp [busSend]

@[simp] theorem sendSession_still (x : SpdmSession) (completion reply : Bytes) (s : State) : still (sendSession x completion reply s) = still s := by
  unfold sendSession
  split <;> simp

@[simp] theorem deliver_still (c : Cmd) (st : Status) (reply : Bytes) (s : State) : still (deliver c st reply s) = still s := by
  unfold deliver
  (repeat' split) <;> simp

@[simp] theorem lockstep_still (c : Cmd) (st : Status) (reply : Bytes) (s : State) : still (lockstep c st reply s) = still s := by
  unfold lockstep
  (repeat' split) <;> simp

@[simp] theorem dropSessions_still (gone : List SpdmSession) (s : State) : still (dropSessions gone s) = still s := by
  unfold dropSessions
  dsimp only
  (repeat' split) <;> simp

@[simp] theorem takeMbusConfig_still (b : Bytes) (s : State) : still (takeMbusConfig b s) = still s := by simp [takeMbusConfig]
@[simp] theorem endAfterResponse_still (s : State) : still (endAfterResponse s) = still s := by simp [endAfterResponse]

@[simp] theorem afterOk_still (c : Cmd) (s : State) : still (afterOk c s) = still s := by
  unfold afterOk
  split <;> simp

@[simp] theorem complete_still (c : Cmd) (v : Result) (s : State) : still (complete c v s) = still s := by
  unfold complete
  (repeat' split) <;> simp

@[simp] theorem execCompletionDue_still (r : CmdRef) (s : State) : leavesStill s (execCompletionDue r s) := by
  unfold execCompletionDue
  (repeat' split) <;> simp [guarded_still]

/-! ## Forwarded and spilled commands -/

@[simp] theorem mirrorReseed_still (p : Nat) (material : Bytes) (s : State) : still (mirrorReseed p material s) = still s := by
  unfold mirrorReseed
  split <;> simp

@[simp] theorem drawDiffers_still (s : State) : still (drawDiffers s) = still s := by simp [drawDiffers]

@[simp] theorem mirrorDraw_still (r : CmdRef) (verdict : Nat) (material check : Bytes) (s : State) :
    still (mirrorDraw r verdict material check s) = still s := by
  unfold mirrorDraw
  dsimp only
  (repeat' split) <;> simp

@[simp] theorem takeForward_still (header payload : Bytes) (idx verdict : Nat) (material check : Bytes) (s : State) :
    still (takeForward header payload idx verdict material check s) = still s := by
  unfold takeForward
  dsimp only
  split
  · rfl
  · next h => (repeat' split) <;> simp [acceptAt_still (opSpec_accept_still h)]

@[simp] theorem execForward_still (f : Frame) (header payload : Bytes) (idx : Nat) (draw : BitVec 2) (reseed check : Bytes) (s : State) :
    leavesStill s (execForward f header payload idx draw reseed check s) := by
  unfold execForward
  refine receive_still (fun s => ?_) _ _ s
  (repeat' split) <;> simp

@[simp] theorem spillAnswer_still (n : Nat) (payload : Bytes) (s : State) : still (spillAnswer n payload s) = still s := by simp [spillAnswer]

@[simp] theorem execSpill_still (f : Frame) (header payload : Bytes) (versions : List (Nat × Nat)) (seed : Bytes) (s : State) :
    leavesStill s (execSpill f header payload versions seed s) := by
  unfold execSpill
  refine receive_still (fun s => ?_) _ _ s
  dsimp only
  (repeat' split) <;> simp [still_foldl]

@[simp] theorem execSpillReply_still (f : Frame) (r : CmdRef) (executed : Bool) (status : BitVec 16) (reply : Bytes) (s : State) :
    leavesStill s (execSpillReply f r executed status reply s) := by
  unfold execSpillReply
  refine receive_still (fun s => ?_) _ _ s
  (repeat' split) <;> simp

@[simp] theorem execSpillTimeout_still (r : CmdRef) (s : State) : leavesStill s (execSpillTimeout r s) := by
  unfold execSpillTimeout
  split <;> simp [guarded_still]

/-! ## Registers and doorbells -/

@[simp] theorem execHalfReadLatch_still (f : Fin 256) (w : BarRead) (s : State) : leavesStill s (execHalfReadLatch f w s) := by
  unfold execHalfReadLatch
  (repeat' split) <;> simp

@[simp] theorem writeIrqMask_still (f v : Nat) (s : State) : still (writeIrqMask f v s) = still s := by
  unfold writeIrqMask
  dsimp only
  (repeat' split) <;> simp

@[simp] theorem writeFltMask_still (v : Nat) (s : State) : still (writeFltMask v s) = still s := by
  unfold writeFltMask
  dsimp only
  (repeat' split) <;> simp

@[simp] theorem writeJnlIndex_still (f v : Nat) (s : State) : still (writeJnlIndex f v s) = still s := by simp [writeJnlIndex]
@[simp] theorem startRing_still (g : Nat) (s : State) : still (startRing g s) = still s := by simp [startRing]

@[simp] theorem tryEnable_still (f n : Nat) (s : State) : still (tryEnable f n s) = still s := by
  unfold tryEnable
  dsimp only
  (repeat' split) <;> simp

@[simp] theorem writeRingCtrl_still (f n v : Nat) (s : State) : still (writeRingCtrl f n v s) = still s := by
  unfold writeRingCtrl
  dsimp only
  (repeat' split) <;> simp

@[simp] theorem writeRingWord_still (f n o v : Nat) (s : State) : still (writeRingWord f n o v s) = still s := by
  unfold writeRingWord
  dsimp only
  (repeat' split) <;> simp

@[simp] theorem writeTraceCtrl_still (v : Nat) (s : State) : still (writeTraceCtrl v s) = still s := by simp [writeTraceCtrl]
@[simp] theorem writeTraceRead_still (v : Nat) (s : State) : still (writeTraceRead v s) = still s := (rfl)

@[simp] theorem writeWindow_still (limit high : Bool) (v : Nat) (s : State) : still (writeWindow limit high v s) = still s := by
  unfold writeWindow
  dsimp only
  (repeat' split) <;> simp

@[simp] theorem writeRngFault_still (v : Nat) (s : State) : still (writeRngFault v s) = still s := (rfl)

@[simp] theorem writePfWord_still (o v : Nat) (s : State) : still (writePfWord o v s) = still s := by
  unfold writePfWord
  (repeat' split) <;> simp

@[simp] theorem writeWord_still (f o v : Nat) (s : State) : still (writeWord f o v s) = still s := by
  unfold writeWord
  (repeat' split) <;> simp

@[simp] theorem writeBar0_still (f o size v : Nat) (s : State) : still (writeBar0 f o size v s) = still s := by
  unfold writeBar0
  (repeat' split) <;> simp

@[simp] theorem badDoorbell_still (f g : Nat) (s : State) : still (badDoorbell f g s) = still s := by simp [badDoorbell]

@[simp] theorem sqTail_still (f g t : Nat) (s : State) : still (sqTail f g t s) = still s := by
  unfold sqTail
  dsimp only
  (repeat' split) <;> simp

@[simp] theorem cqHead_still (f g h : Nat) (s : State) : still (cqHead f g h s) = still s := by
  unfold cqHead
  dsimp only
  (repeat' split) <;> simp

@[simp] theorem doorbell_still (head : Bool) (f n size v : Nat) (s : State) : still (doorbell head f n size v s) = still s := by
  unfold doorbell
  dsimp only
  (repeat' split) <;> simp

@[simp] theorem writeBar2_still (f o size v : Nat) (s : State) : still (writeBar2 f o size v s) = still s := by
  unfold writeBar2
  dsimp only
  (repeat' split) <;> simp

@[simp] theorem writeMsixWord_still (f o v : Nat) (s : State) : still (writeMsixWord f o v s) = still s := by
  unfold writeMsixWord
  dsimp only
  (repeat' split) <;> simp

@[simp] theorem writeBar4_still (f o size v : Nat) (s : State) : still (writeBar4 f o size v s) = still s := by
  unfold writeBar4
  (repeat' split) <;> simp

theorem hostWrite_still {act : State → State} (h : ∀ s, still (act s) = still s) (bar off : Nat) (s : State) :
    leavesStill s (hostWrite bar off act s) := by
  unfold hostWrite
  (repeat' split) <;> simp [h]

@[simp] theorem execRegisterWrite_still (f : Fin 256) (bar off size : Nat) (v : BitVec 64) (s : State) :
    leavesStill s (execRegisterWrite f bar off size v s) := by
  unfold execRegisterWrite
  split <;> simp [hostWrite_still]

@[simp] theorem execFnIrqMaskWrite_still (f : Fin 256) (v : BitVec 32) (s : State) : leavesStill s (execFnIrqMaskWrite f v s) := by
  simp [execFnIrqMaskWrite, guarded_still]

@[simp] theorem execFltMaskWrite_still (v : BitVec 32) (s : State) : leavesStill s (execFltMaskWrite v s) := by simp [execFltMaskWrite, guarded_still]

@[simp] theorem execSqTailWrite_still (f : Fin 256) (n : Fin 64) (size : Nat) (v : BitVec 32) (s : State) :
    leavesStill s (execSqTailWrite f n size v s) := by
  simp [execSqTailWrite, guarded_still]

@[simp] theorem execCqHeadWrite_still (f : Fin 256) (n : Fin 64) (size : Nat) (v : BitVec 32) (s : State) :
    leavesStill s (execCqHeadWrite f n size v s) := by
  simp [execCqHeadWrite, guarded_still]

@[simp] theorem execRingEnable_still (f : Fin 256) (n : Fin 64) (v : BitVec 32) (s : State) : leavesStill s (execRingEnable f n v s) := by
  simp [execRingEnable, guarded_still]

@[simp] theorem execRingDisable_still (f : Fin 256) (n : Fin 64) (v : BitVec 32) (s : State) : leavesStill s (execRingDisable f n v s) := by
  simp [execRingDisable, guarded_still]

@[simp] theorem execJnlIndexWrite_still (f : Fin 256) (v : BitVec 32) (s : State) : leavesStill s (execJnlIndexWrite f v s) := by
  simp [execJnlIndexWrite, guarded_still]

@[simp] theorem execTrcEnableWrite_still (v : BitVec 32) (s : State) : leavesStill s (execTrcEnableWrite v s) := by
  simp [execTrcEnableWrite, guarded_still]

@[simp] theorem execTrcReadWrite_still (v : BitVec 32) (s : State) : leavesStill s (execTrcReadWrite v s) := by simp [execTrcReadWrite, guarded_still]

@[simp] theorem execPmWinWrite_still (limit : Bool) (off size : Nat) (v : BitVec 64) (s : State) :
    leavesStill s (execPmWinWrite limit off size v s) := by
  simp [execPmWinWrite, guarded_still]

@[simp] theorem execMsixTableWrite_still (f : Fin 256) (off size : Nat) (v : BitVec 64) (s : State) :
    leavesStill s (execMsixTableWrite f off size v s) := by
  simp [execMsixTableWrite, hostWrite_still]

/-! ## The management bus -/

@[simp] theorem modMbus_still (g : Mbus → Mbus) (s : State) : still (modMbus g s) = still s := (rfl)
@[simp] theorem modBus_still (n : Nat) (g : BusPort → BusPort) (s : State) : still (modBus n g s) = still s := by simp [modBus]
@[simp] theorem busFault_still (n : Nat) (s : State) : still (busFault n s) = still s := by simp [busFault]
@[simp] theorem countArb_still (n : Nat) (s : State) : still (countArb n s) = still s := by simp [countArb]
@[simp] theorem countPec_still (n : Nat) (s : State) : still (countPec n s) = still s := by simp [countPec]
@[simp] theorem countStuck_still (n : Nat) (s : State) : still (countStuck n s) = still s := by simp [countStuck]

@[simp] theorem control_still (port cmd : Nat) (body : Bytes) (s : State) : still (Machine.control port cmd body s) = still s := by
  simp [Machine.control]

@[simp] theorem setEid_still (port : Nat) (eid : BitVec 8) (s : State) : still (setEid port eid s) = still s := by
  unfold setEid
  split <;> simp

@[simp] theorem getEid_still (port : Nat) (s : State) : still (getEid port s) = still s := by simp [getEid]
@[simp] theorem getUuid_still (port : Nat) (s : State) : still (getUuid port s) = still s := by simp [getUuid]
@[simp] theorem getMctpVersions_still (port : Nat) (s : State) : still (getMctpVersions port s) = still s := by simp [getMctpVersions]
@[simp] theorem getTypes_still (port : Nat) (s : State) : still (getTypes port s) = still s := by simp [getTypes]
@[simp] theorem setDialog_still (d : Dialog) (s : State) : still (setDialog d s) = still s := by simp [setDialog]

@[simp] theorem answer_still (src : SpdmSource) (req : Bytes) (code : Nat) (payload : Bytes) (s : State) :
    still (answer src req code payload s) = still s := by
  simp [answer]

@[simp] theorem spdmError_still (src : SpdmSource) (code : Byte) (s : State) : still (spdmError src code s) = still s := by simp [spdmError]
@[simp] theorem track_still (x : Stranger) (s : State) : still (track x s) = still s := by simp [track]

@[simp] theorem meter_still (src : SpdmSource) (s : State) : still (meter src s).2 = still s := by
  unfold meter
  dsimp only
  (repeat' split) <;> simp

@[simp] theorem modSpdm_still (id : BitVec 32) (g : SpdmSession → SpdmSession) (s : State) : still (modSpdm id g s) = still s := by simp [modSpdm]
@[simp] theorem strayMessage_still (s : State) : still (strayMessage s) = still s := by simp [strayMessage]

theorem serve_still {act : State → State} (h : ∀ s, still (act s) = still s) (src : SpdmSource) (a : Audience) (s : State) :
    still (serve src a act s) = still s := by
  unfold serve
  dsimp only
  (repeat' split) <;> simp_all

@[simp] theorem doGetVersion_still (src : SpdmSource) (s : State) : still (doGetVersion src s) = still s := by simp [doGetVersion]

@[simp] theorem doCapabilities_still (src : SpdmSource) (flags : BitVec 32) (s : State) : still (doCapabilities src flags s) = still s := by
  unfold doCapabilities
  split <;> simp

@[simp] theorem doNegotiate_still (src : SpdmSource) (o : AlgOffer) (s : State) : still (doNegotiate src o s) = still s := by
  unfold doNegotiate
  (repeat' split) <;> simp

theorem whenAgreed_still {act : State → State} (h : ∀ s, still (act s) = still s) (src : SpdmSource) (s : State) :
    still (whenAgreed src act s) = still s := by
  unfold whenAgreed
  split <;> simp [h]

@[simp] theorem doDigests_still (src : SpdmSource) (s : State) : still (doDigests src s) = still s := by simp [doDigests, whenAgreed_still]

@[simp] theorem doCertificate_still (src : SpdmSource) (slot offset length : Nat) (s : State) :
    still (doCertificate src slot offset length s) = still s := by
  unfold doCertificate
  refine whenAgreed_still (fun s => ?_) _ s
  split <;> simp

@[simp] theorem signed_still (src : SpdmSource) (req body : Bytes) (s : State) : still (signed src req body s).2 = still s := by simp [signed]

@[simp] theorem doChallenge_still (src : SpdmSource) (slot : Nat) (nonce : Bytes) (s : State) : still (doChallenge src slot nonce s) = still s := by
  unfold doChallenge
  split <;> simp [whenAgreed_still]

@[simp] theorem answerLarge_still (src : SpdmSource) (req : Bytes) (code : Nat) (payload : Bytes) (s : State) :
    still (answerLarge src req code payload s) = still s := by
  unfold answerLarge
  split <;> simp

@[simp] theorem doMeasurements_still (src : SpdmSource) (index : BitVec 8) (nonce : Bytes) (s : State) :
    still (doMeasurements src index nonce s) = still s := by
  unfold doMeasurements
  refine whenAgreed_still (fun s => ?_) _ s
  dsimp only
  (repeat' split) <;> simp

@[simp] theorem doKeyExchange_still (src : SpdmSource) (reqSession : BitVec 16) (exchange : Bytes) (s : State) :
    still (doKeyExchange src reqSession exchange s) = still s := by
  unfold doKeyExchange
  refine whenAgreed_still (fun s => ?_) _ s
  split <;> simp

@[simp] theorem doFinish_still (src : SpdmSource) (chain signature verify : Bytes) (s : State) :
    still (doFinish src chain signature verify s) = still s := by
  unfold doFinish
  dsimp only
  (repeat' split) <;> simp

@[simp] theorem doHeartbeat_still (src : SpdmSource) (s : State) : still (doHeartbeat src s) = still s := by simp [doHeartbeat]

@[simp] theorem doKeyUpdate_still (src : SpdmSource) (op tag : BitVec 8) (s : State) : still (doKeyUpdate src op tag s) = still s := by
  unfold doKeyUpdate
  (repeat' split) <;> simp

@[simp] theorem doEndSession_still (src : SpdmSource) (s : State) : still (doEndSession src s) = still s := by
  unfold doEndSession
  split <;> simp

@[simp] theorem busRefuse_still (x : SpdmSession) (r : Req) (st : Status) (s : State) : still (busRefuse x r st s) = still s := by
  unfold busRefuse
  split <;> simp

@[simp] theorem doVendor_still (src : SpdmSource) (standard vendor : BitVec 16) (header payload : Bytes) (s : State) :
    still (doVendor src standard vendor header payload s) = still s := by
  unfold doVendor
  dsimp only
  split
  · rfl
  · split
    · simp
    · split
      · rfl
      · split
        · simp
        · split
          · rfl
          · next h => simp [accept_still h]

@[simp] theorem doChunkGet_still (src : SpdmSource) (handle : BitVec 8) (seqNo : BitVec 16) (s : State) :
    still (doChunkGet src handle seqNo s) = still s := by
  unfold doChunkGet
  (repeat' split) <;> simp

@[simp] theorem serveMessage_still (src : SpdmSource) (m : Bytes) (s : State) : still (serveMessage src m s) = still s := by
  unfold serveMessage
  split <;> simp [serve_still]

@[simp] theorem doChunkSend_still (src : SpdmSource) (handle : BitVec 8) (seqNo : BitVec 16) (last : Bool) (size : Nat) (data : Bytes) (s : State) :
    still (doChunkSend src handle seqNo last size data s) = still s := by
  unfold doChunkSend
  dsimp only
  (repeat' split) <;> simp

@[simp] theorem mctpMessage_still (port : Fin 3) (src : BitVec 8) (m : Bytes) (s : State) : still (mctpMessage port src m s) = still s := by
  unfold mctpMessage
  dsimp only
  (repeat' split) <;> simp [serve_still]

@[simp] theorem dropBuffer_still (k : Nat) (s : State) : still (dropBuffer k s) = still s := by simp [dropBuffer]

@[simp] theorem takePacket_still (port : Fin 3) (k : Nat) (b : Reasm) (eom : Bool) (s : State) : still (takePacket port k b eom s) = still s := by
  unfold takePacket
  (repeat' split) <;> simp

@[simp] theorem startMessage_still (port : Fin 3) (src : BitVec 8) (tag : BitVec 4) (seq : BitVec 2) (eom : Bool) (body : Bytes) (s : State) :
    still (startMessage port src tag seq eom body s) = still s := by
  unfold startMessage
  dsimp only
  (repeat' split) <;> simp

@[simp] theorem nextPacket_still (port : Fin 3) (src : BitVec 8) (tag : BitVec 4) (seq : BitVec 2) (eom : Bool) (body : Bytes) (s : State) :
    still (nextPacket port src tag seq eom body s) = still s := by
  unfold nextPacket
  (repeat' split) <;> simp

@[simp] theorem execMctpPacket_still (port : Fin 3) (src dst : BitVec 8) (som eom : Bool) (seq : BitVec 2) (tag : BitVec 4) (body : Bytes) (s : State) :
    leavesStill s (execMctpPacket port src dst som eom seq tag body s) := by
  unfold execMctpPacket
  split <;> simp [guarded_still]

@[simp] theorem execMctpReassemblyTimeout_still (k : Fin 8) (s : State) : leavesStill s (execMctpReassemblyTimeout k s) := by
  unfold execMctpReassemblyTimeout
  split <;> simp [guarded_still]

@[simp] theorem execSetEndpointId_still (port : Fin 3) (eid : BitVec 8) (s : State) : leavesStill s (execSetEndpointId port eid s) := by
  simp [execSetEndpointId, guarded_still]

@[simp] theorem execGetEndpointId_still (port : Fin 3) (s : State) : leavesStill s (execGetEndpointId port s) := by
  simp [execGetEndpointId, guarded_still]

@[simp] theorem execGetEndpointUuid_still (port : Fin 3) (s : State) : leavesStill s (execGetEndpointUuid port s) := by
  simp [execGetEndpointUuid, guarded_still]

@[simp] theorem execGetMctpVersionSupport_still (port : Fin 3) (s : State) : leavesStill s (execGetMctpVersionSupport port s) := by
  simp [execGetMctpVersionSupport, guarded_still]

@[simp] theorem execGetMessageTypeSupport_still (port : Fin 3) (s : State) : leavesStill s (execGetMessageTypeSupport port s) := by
  simp [execGetMessageTypeSupport, guarded_still]

@[simp] theorem execGetVersion_still (src : SpdmSource) (s : State) : leavesStill s (execGetVersion src s) := by simp [execGetVersion, serve_still]

@[simp] theorem execGetCapabilities_still (src : SpdmSource) (flags : BitVec 32) (s : State) : leavesStill s (execGetCapabilities src flags s) := by
  simp [execGetCapabilities, serve_still]

@[simp] theorem execNegotiateAlgorithms_still (src : SpdmSource) (baseAsym baseHash measHash dhe aead reqAsym keySched : BitVec 32) (s : State) :
    leavesStill s (execNegotiateAlgorithms src baseAsym baseHash measHash dhe aead reqAsym keySched s) := by
  simp [execNegotiateAlgorithms, serve_still]

@[simp] theorem execGetDigests_still (src : SpdmSource) (s : State) : leavesStill s (execGetDigests src s) := by simp [execGetDigests, serve_still]

@[simp] theorem execGetCertificate_still (src : SpdmSource) (slot offset length : Nat) (s : State) :
    leavesStill s (execGetCertificate src slot offset length s) := by
  simp [execGetCertificate, serve_still]

@[simp] theorem execChallenge_still (src : SpdmSource) (slot : Nat) (nonce : Bytes) (s : State) : leavesStill s (execChallenge src slot nonce s) := by
  simp [execChallenge, serve_still]

@[simp] theorem execGetMeasurements_still (src : SpdmSource) (index : BitVec 8) (nonce : Bytes) (s : State) :
    leavesStill s (execGetMeasurements src index nonce s) := by
  simp [execGetMeasurements, serve_still]

@[simp] theorem execKeyExchange_still (src : SpdmSource) (reqSession : BitVec 16) (exchange : Bytes) (s : State) :
    leavesStill s (execKeyExchange src reqSession exchange s) := by
  simp [execKeyExchange, serve_still]

@[simp] theorem execFinish_still (src : SpdmSource) (chain signature verify : Bytes) (s : State) :
    leavesStill s (execFinish src chain signature verify s) := by
  simp [execFinish, serve_still]

@[simp] theorem execSpdmHeartbeat_still (src : SpdmSource) (s : State) : leavesStill s (execSpdmHeartbeat src s) := by
  simp [execSpdmHeartbeat, serve_still]

@[simp] theorem execKeyUpdate_still (src : SpdmSource) (op tag : BitVec 8) (s : State) : leavesStill s (execKeyUpdate src op tag s) := by
  simp [execKeyUpdate, serve_still]

@[simp] theorem execEndSession_still (src : SpdmSource) (s : State) : leavesStill s (execEndSession src s) := by simp [execEndSession, serve_still]

@[simp] theorem execVendorDefinedRequest_still (src : SpdmSource) (standard vendor : BitVec 16) (header payload : Bytes) (s : State) :
    leavesStill s (execVendorDefinedRequest src standard vendor header payload s) := by
  simp [execVendorDefinedRequest, serve_still]

@[simp] theorem execChunkSend_still (src : SpdmSource) (handle : BitVec 8) (seqNo : BitVec 16) (last : Bool) (size : Nat) (data : Bytes) (s : State) :
    leavesStill s (execChunkSend src handle seqNo last size data s) := by
  simp [execChunkSend, serve_still]

@[simp] theorem execChunkGet_still (src : SpdmSource) (handle : BitVec 8) (seqNo : BitVec 16) (s : State) :
    leavesStill s (execChunkGet src handle seqNo s) := by
  simp [execChunkGet, serve_still]

@[simp] theorem execSpdmHeartbeatTimeout_still (id : BitVec 32) (s : State) : leavesStill s (execSpdmHeartbeatTimeout id s) := by
  unfold execSpdmHeartbeatTimeout
  split <;> simp [guarded_still]

@[simp] theorem arbLost_still (n used : Nat) (s : State) : still (arbLost n used s) = still s := by
  unfold arbLost
  dsimp only
  (repeat' split) <;> simp

@[simp] theorem execBusArbLost_still (port : Fin 3) (used : Nat) (s : State) : leavesStill s (execBusArbLost port used s) := by
  simp [execBusArbLost, guarded_still]

@[simp] theorem execBusBackoffEnd_still (port : Fin 3) (s : State) : leavesStill s (execBusBackoffEnd port s) := by
  unfold execBusBackoffEnd
  split <;> simp [guarded_still]

@[simp] theorem execBusPecError_still (port : Fin 3) (s : State) : leavesStill s (execBusPecError port s) := by simp [execBusPecError, guarded_still]

@[simp] theorem resend_still (n : Nat) (s : State) : still (resend n s) = still s := by
  unfold resend
  split <;> simp

@[simp] theorem execBusNoAck_still (port : Fin 3) (s : State) : leavesStill s (execBusNoAck port s) := by simp [execBusNoAck, guarded_still]
@[simp] theorem execBusSclStuck_still (port : Fin 3) (s : State) : leavesStill s (execBusSclStuck port s) := by simp [execBusSclStuck, guarded_still]

@[simp] theorem execBusSdaStuck_still (port : Fin 3) (freed : Bool) (s : State) : leavesStill s (execBusSdaStuck port freed s) := by
  unfold execBusSdaStuck
  split <;> simp [guarded_still]

@[simp] theorem execI3cSdaStuck_still (port : Fin 3) (s : State) : leavesStill s (execI3cSdaStuck port s) := by simp [execI3cSdaStuck, guarded_still]
@[simp] theorem resetPortLogic_still (n : Nat) (s : State) : still (resetPortLogic n s) = still s := by simp [resetPortLogic]

@[simp] theorem execI3cTargetReset_still (port : Fin 3) (s : State) : leavesStill s (execI3cTargetReset port s) := by
  simp [execI3cTargetReset, guarded_still]

@[simp] theorem execEntdaa_still (port : Fin 3) (addr : BitVec 7) (s : State) : leavesStill s (execEntdaa port addr s) := by
  simp [execEntdaa, guarded_still]

@[simp] theorem execMbusConfigSet_still (r : CmdRef) (s : State) : leavesStill s (execMbusConfigSet r s) := by
  simp [execMbusConfigSet, adminRun_still, runAccepted_still]

@[simp] theorem runMbusGet_still (c : Cmd) (s : State) : still (runMbusGet c s).1 = still s := by simp [runMbusGet]

@[simp] theorem execMbusConfigGet_still (r : CmdRef) (s : State) : leavesStill s (execMbusConfigGet r s) := by
  simp [execMbusConfigGet, runAccepted_still]

/-! ## The passing of time -/

@[simp] theorem loadPass_still (s : State) : still (loadPass s) = still s := (rfl)
@[simp] theorem passTime_still (s : State) : still (passTime s) = still s := by simp [passTime]

end Sys2Proof.Proofs
end

section
/-! What programs the OTP, and what every row keeps: the queue, and the OTP in its form with every bit that was programmed (R362, R365). -/

namespace Sys2Proof.Proofs

open Sys2Proof Sys2Proof.Machine Sys2Proof.Safety Sys2Proof.Laws

/-! ## What programs the OTP (R362, R365) -/

/-- What every operation keeps: the queue as it stands, and the OTP in its canonical form with every bit that was programmed. -/
structure Keeps (s t : State) : Prop where
  queue : t.pending = s.pending
  form : otpSound s → otpSound t
  grows : otpGrows s t

theorem Keeps.of_still {s t : State} (h : still t = still s) : Keeps s t := by
  obtain ⟨hq, ho⟩ := Prod.mk.inj h
  refine ⟨hq, fun hs => ?_, fun a => ?_⟩
  · unfold otpSound; rw [ho]; exact hs
  · rw [ho]; exact BitVec.and_self

theorem Keeps.refl (s : State) : Keeps s s := .of_still rfl

theorem Keeps.trans {s t u : State} (h : Keeps s t) (k : Keeps t u) : Keeps s u := by
  refine ⟨k.queue.trans h.queue, fun hs => k.form (h.form hs), fun a => ?_⟩
  calc otpRead s.life.otp a &&& otpRead u.life.otp a
      = otpRead s.life.otp a &&& otpRead t.life.otp a &&& otpRead u.life.otp a := by rw [h.grows a]
    _ = otpRead s.life.otp a &&& (otpRead t.life.otp a &&& otpRead u.life.otp a) := BitVec.and_assoc ..
    _ = otpRead s.life.otp a := by rw [k.grows a, h.grows a]

/-- After an operation that keeps, one that leaves the queue and the OTP as they are keeps too. -/
theorem Keeps.still {s t u : State} (h : Keeps s t) (e : still u = still t) : Keeps s u := h.trans (.of_still e)

theorem Keeps.foldl {α : Type} {f : State → α → State} (h : ∀ s x, Keeps s (f s x)) (l : List α) (s : State) : Keeps s (l.foldl f s) :=
  foldl_rel Keeps Keeps.refl (fun _ _ _ => Keeps.trans) f h l s

theorem programOtp_keeps (a : Nat) (b : Bytes) (s : State) : Keeps s (programOtp a b s) :=
  ⟨rfl, otpProgramBytes_wf b s.life.otp a, otpProgramBytes_grows b s.life.otp a⟩

theorem ite_keeps {c : Prop} [Decidable c] {s t u : State} (h : Keeps s t) (k : Keeps s u) : Keeps s (if c then t else u) := by
  split
  · exact h
  · exact k

theorem Keeps.fenced {s t : State} (h : Keeps s t) : Keeps s { t with life := { t.life with fenced := true } } := h.still (t := t) rfl

theorem programIntent_keeps (l : LifeCycle) (s : State) : Keeps s (programIntent l s) :=
  Keeps.fenced ((programOtp_keeps ..).trans (programOtp_keeps ..))

theorem cutIntent_keeps (s : State) : Keeps s (cutIntent s) := by
  have free (n : Nat) : Keeps s (takeFree n s).2 := .of_still rfl
  unfold cutIntent
  split
  · exact .refl s
  · split
    · exact .refl s
    · split
      · dsimp only
        split
        · exact (free 5).trans (programOtp_keeps ..)
        · exact ((free 5).trans (programOtp_keeps ..)).trans (programOtp_keeps ..)
        · exact (free 5).trans (programIntent_keeps ..)
      · exact .refl s

theorem cutWrites_keeps (s : State) : Keeps s (cutWrites s) :=
  (cutIntent_keeps s).still ((cutBackings_still _).trans (cutCommit_still _))

/-- A warm reset keeps the queue, and programs the OTP only where it cuts an intent off (R293, R362). -/
theorem warmReset_keeps (s : State) : Keeps s (warmReset s) := by
  have queue : (warmReset s).pending = (cutIntent s).pending := by
    obtain ⟨a, l, n, i, j, o, e, f, h⟩ := warmReset_frame s
    rw [(cutIntent_keeps s).queue, h]
  refine (cutIntent_keeps s).still ?_
  unfold still
  rw [queue, warmReset_otp]

theorem feedsLost_keeps (s : State) : Keeps s (feedsLost s) := by
  obtain ⟨_, _, _, _, otp, _⟩ := feedsLost_dark s
  have queue : (feedsLost s).pending = (cutIntent s).pending := by
    show (cutWrites s).pending = _
    rw [(cutIntent_keeps s).queue, (cutWrites_keeps s).queue]
  refine (cutIntent_keeps s).still ?_
  unfold still
  rw [queue, otp]

theorem clockFault_keeps (s : State) : Keeps s (clockFault s) := (warmReset_keeps s).still (by simp [clockFault])

theorem voidSeeds_keeps (l : List Nat) (s : State) : Keeps s (l.foldl (fun s i => voidSeed i s) s) :=
  Keeps.foldl (fun s _ => programOtp_keeps _ _ s) l s

theorem newSeed_keeps (s : State) : Keeps s (newSeed s) := by
  unfold newSeed
  dsimp only
  split
  · exact voidSeeds_keeps ..
  · exact ((voidSeeds_keeps ..).still (islandDraw_still ..)).trans (programOtp_keeps ..)

theorem eraseIdentity_keeps (s : State) : Keeps s (eraseIdentity s) := (voidSeeds_keeps ..).still rfl

theorem finishTransition_keeps (i : Nat) (t : LifeCycle) (s : State) : Keeps s (finishTransition i t s) := by
  have start : Keeps s { s with fw := { s.fw with stage := [], stageLen := 0 } } := .of_still rfl
  have done (u : State) (h : Keeps s u) : Keeps s (programOtp (0x400 + 16 * i + 12) (toLe 4 recDoneWord)
      (programOtp (0x400 + 16 * i + 8) (toLe 4 (lcWord t)) u)) := (h.trans (programOtp_keeps ..)).trans (programOtp_keeps ..)
  unfold finishTransition
  dsimp only
  refine (done _ ?_).still (still_mk ..)
  split
  · exact start.trans (newSeed_keeps _)
  · exact start.trans (eraseIdentity_keeps _)
  · exact start.trans (eraseIdentity_keeps _)
  · exact start

theorem raiseFloor_keeps (floor n : Nat) (s : State) : Keeps s (raiseFloor floor n s) := by
  induction n generalizing s with
  | zero => exact .refl s
  | succ n ih =>
    unfold raiseFloor
    split
    · exact (programOtp_keeps ..).trans (ih _)
    · exact .refl s

theorem applyFloor_keeps (s : State) : Keeps s (applyFloor s) := (raiseFloor_keeps ..).trans (programOtp_keeps ..)

theorem enterInspection_keeps (h : Bytes) (s : State) : Keeps s (enterInspection h s) := by
  have counted : Keeps s (programNextBit 0x120 (reopens s) s) := programOtp_keeps ..
  unfold enterInspection
  dsimp only
  split
  · exact (counted.trans (programOtp_keeps 0xF0 [1#8 <<< (5 - respKey h)] _)).still (by simp)
  · exact counted.still (by simp)

/-! ## The rows that program the OTP -/

/-- A row keeps the queue and the OTP's form and bits, where it answers a next state. -/
def rowKeeps (s : State) (r : Res) : Prop := ∀ t, r = .next t → Keeps s t

theorem rowKeeps_of_still {s : State} {r : Res} (h : leavesStill s r) : rowKeeps s r := by
  rintro t rfl
  exact .of_still h

theorem guarded_keeps {g : Bool} {f : State → State} (h : ∀ s, Keeps s (f s)) (s : State) : rowKeeps s (guarded g f s) := by
  rintro t ⟨⟩
  exact ite_keeps (h s) (.refl s)

theorem tapSelect_keeps {act : State → State} (h : ∀ s, Keeps s (act s)) (ir : Nat) (s : State) : rowKeeps s (tapSelect ir act s) := by
  exact guarded_keeps (fun s => ite_keeps ((Keeps.of_still (setIr_still ..)).trans (h _)) (.of_still (by simp))) s

theorem execPowerFail_keeps (s : State) : rowKeeps s (execPowerFail s) := by
  refine guarded_keeps (fun s => ?_) s
  dsimp only
  split
  · exact feedsLost_keeps s
  · exact (feedsLost_keeps s).still (horizonOff_still _)

theorem execLcRollForward_keeps (s : State) : rowKeeps s (execLcRollForward s) := by
  unfold execLcRollForward
  split
  · exact rowKeeps_of_still rfl
  · refine guarded_keeps (fun s => ?_) s
    split
    · exact (programOtp_keeps ..).still rfl
    · exact (Keeps.of_still (destroyTenants_still s)).trans (finishTransition_keeps ..)

theorem execTamperCompletion_keeps (s : State) : rowKeeps s (execTamperCompletion s) := by
  refine guarded_keeps (fun s => ?_) s
  dsimp only
  split
  · exact .of_still (by simp)
  · exact (Keeps.of_still (by simp)).trans (finishTransition_keeps ..)

theorem execDawnEntry_keeps (bad : BadRecords) (s : State) : rowKeeps s (execDawnEntry bad s) :=
  guarded_keeps (fun s => (applyFloor_keeps s).still (by simp)) s

theorem execAppStartTimeout_keeps (s : State) : rowKeeps s (execAppStartTimeout s) :=
  guarded_keeps (fun _ => (Keeps.of_still (still_mk ..)).trans (warmReset_keeps _)) s

theorem execTamperResponseEnd_keeps (s : State) : rowKeeps s (execTamperResponseEnd s) :=
  guarded_keeps (fun s => (Keeps.of_still ((still_mk ..).trans (destroyTenants_still s))).trans (warmReset_keeps _)) s

theorem execDbgResponse_keeps (header keyBlock signature : Bytes) (s : State) : rowKeeps s (execDbgResponse header keyBlock signature s) := by
  refine tapSelect_keeps (fun s => ?_) _ s
  dsimp only
  split
  · exact (Keeps.of_still (by simp)).trans (enterInspection_keeps ..)
  · exact .of_still (by simp)

theorem execOtpProg_keeps (addr : Nat) (b : Byte) (s : State) : rowKeeps s (execOtpProg addr b s) := by
  refine tapSelect_keeps (fun s => ?_) _ s
  exact ite_keeps (programOtp_keeps ..) (.refl s)

theorem runLcRequest_keeps (c : Cmd) (s : State) : Keeps s (runLcRequest c s).1 := by
  unfold runLcRequest
  dsimp only
  split
  · exact .refl s
  · split
    · exact .refl s
    · split
      · exact .refl s
      · exact programIntent_keeps ..

theorem runCmd_keeps {eff : Effect} (he : ∀ c s, Keeps s (eff c s).1) (c : Cmd) (s : State) : Keeps s (runCmd eff noReply c s) := by
  unfold runCmd
  split
  · exact .of_still (by simp)
  · have h := (Keeps.of_still (noteUndo_still c s)).trans (he c (noteUndo c s))
    split
    · next e => rw [e] at h; exact h.still (by simp)
    · next e => rw [e] at h; exact h.still (by simp)

theorem execLcRequest_keeps (r : CmdRef) (s : State) : rowKeeps s (execLcRequest r s) := by
  unfold execLcRequest runAccepted
  split
  · exact rowKeeps_of_still rfl
  · rintro t ⟨⟩
    split
    · exact runCmd_keeps runLcRequest_keeps ..
    · exact .refl s

/-! ## Every row -/

theorem exec_keeps (i : Instr) (s : State) : rowKeeps s (exec i s) := by
  cases i with
  | powerFail => exact execPowerFail_keeps s
  | pllLockTimeout => exact guarded_keeps clockFault_keeps s
  | clockCheck n l => exact guarded_keeps clockFault_keeps s
  | lcRollForward => exact execLcRollForward_keeps s
  | tamperCompletion => exact execTamperCompletion_keeps s
  | dawnEntry bad => exact execDawnEntry_keeps bad s
  | appStartTimeout => exact execAppStartTimeout_keeps s
  | warmReset cause => exact guarded_keeps warmReset_keeps s
  | tamperResponseEnd => exact execTamperResponseEnd_keeps s
  | dbgResponse b k g => exact execDbgResponse_keeps b k g s
  | otpProg a b => exact execOtpProg_keeps a b s
  | lcRequest r => exact execLcRequest_keeps r s
  | _ => exact rowKeeps_of_still (by delta exec; simp)

/-- Settles O55: no row touches the queue. -/
theorem commandsLeaveTheQueue : Obligations.CommandsLeaveTheQueue := fun i s t h => (exec_keeps i s t h).queue

/-- Settles O53: a step is a row on the queue's rest, or one microsecond of time, which programs nothing. -/
theorem otpKeepsItsFormAndItsBits : Obligations.OtpKeepsItsFormAndItsBits := by
  intro s t hs h
  unfold step at h
  split at h
  · cases h
    have k := Keeps.of_still (passTime_still s)
    exact ⟨k.form hs, k.grows⟩
  · have k := exec_keeps _ _ t h
    exact ⟨k.form hs, k.grows⟩

end Sys2Proof.Proofs
end

section
/-! The recovery loader: the frames it answers, the reception it keeps, and the image it stores (R302, R305, R306). -/

namespace Sys2Proof.Proofs

open Sys2Proof Sys2Proof.Machine Sys2Proof.Laws Sys2Proof.Safety

theorem exec_loaderFrameTimeout (s : State) : exec .loaderFrameTimeout s =
    guarded (s.svc.recovery && s.fw.loaderLen.isSome && decide (s.fw.loaderNs + 2000000000 < s.clk.ns)) (fun s => loaderHeard (loaderWait s)) s := rfl

/-! ## What each frame does in recovery (R305, R306) -/

section

variable {s : State} (h : s.svc.recovery = true)
include h

theorem exec_loaderBegin (n : BitVec 32) (ok : Bool) : exec (.loaderBegin n ok) s = .next
    (if !ok then loaderNak 0x80 (loaderHeard s)
      else if loaderMax < n.toNat then loaderNak 0x82 (loaderWait (loaderHeard s))
      else loaderAck 0 { s with fw := { s.fw with loaderNs := s.clk.ns, loaderLen := some n.toNat, loaderBuf := [] } }) := by
  show execLoaderBegin n ok s = _
  exact guarded_true h

theorem exec_loaderData_closed (hl : s.fw.loaderLen = none) (o : BitVec 32) (d : Bytes) (ok : Bool) :
    exec (.loaderData o d ok) s = .next (loaderNak 0x80 (loaderHeard s)) := by
  have heard : (loaderHeard s).fw.loaderLen = none := hl
  show execLoaderData o d ok s = _
  refine (guarded_true h).trans ?_
  dsimp only
  rw [heard]

/-- While a reception is open, DATA is judged by its form, then its offset, then the room left. -/
theorem exec_loaderData_open {n : Nat} (hl : s.fw.loaderLen = some n) (o : BitVec 32) (d : Bytes) (ok : Bool) :
    exec (.loaderData o d ok) s = .next
      (if !ok || d.isEmpty || decide (4096 < d.length) then loaderNak 0x80 (loaderHeard s)
        else if o.toNat != s.fw.loaderBuf.length then loaderNak 0x81 (loaderHeard s)
        else if n < s.fw.loaderBuf.length + d.length then loaderNak 0x80 (loaderHeard s)
        else loaderAck 0 { s with fw := { s.fw with loaderNs := s.clk.ns, loaderBuf := s.fw.loaderBuf ++ d } }) := by
  have heard : (loaderHeard s).fw.loaderLen = some n := hl
  show execLoaderData o d ok s = _
  refine (guarded_true h).trans ?_
  dsimp only
  split
  case h_1 none => exact absurd (heard.symm.trans none) nofun
  case h_2 m hm =>
    obtain rfl := Option.some.inj (hm.symm.trans heard)
    rfl

theorem exec_loaderEnd (ok : Bool) : exec (.loaderEnd ok) s = .next
    (if !ok || s.fw.loaderLen.isNone then loaderNak 0x80 (loaderHeard s)
      else if imageCheck (loaderHeard s) s.fw.loaderBuf 1 0 true = 1 then
        (let v := loaderAck 1 (loaderStore s.fw.loaderBuf (loaderHeard s));
          { v with svc := { v.svc with warmAtNs := some (v.clk.ns + 10000000) } })
      else loaderWait (loaderNak (imageCheck (loaderHeard s) s.fw.loaderBuf 1 0 true) (loaderHeard s))) := by
  show execLoaderEnd ok s = _
  exact guarded_true h

end

/-- DATA of the right form: not empty, and at most 4,096 bytes. -/
theorem data_wellFormed {d : Bytes} (hd : d ≠ []) (hl : d.length ≤ 4096) : (!true || d.isEmpty || decide (4096 < d.length)) = false := by
  simp [hd, hl]

/-- The image stored is that of both slots (R302). -/
theorem loaderStore_images (i : Bytes) (s : State) :
    (loaderStore i s).fw.slotA.image = i ∧ (loaderStore i s).fw.slotB.image = i := ⟨rfl, rfl⟩

/-- Settles O21: each frame is answered as its equation above says, and each timer is guarded by its time. -/
theorem recoveryLoaderFollowsItsFrames : Obligations.RecoveryLoaderFollowsItsFrames := by
  unfold Obligations.RecoveryLoaderFollowsItsFrames
  refine ⟨fun typ p s => rfl, fun s h hl ht => ?hello, fun s n h hn => ?begins, fun s n h hn => ?tooLong, fun s n h => exec_loaderBegin h n false,
    fun s o d n h hl hd hd' ho hn => ?kept, fun s o d n h hl hd hd' ho => ?elsewhere, fun s o d ok h hbad => ?bad, fun s h hl => ?ends,
    fun s ok h hbad => ?noEnd, fun s h hl ht => ?timeout, fun s hg => by show execLoaderHelloTimer s = _; exact guarded_false hg,
    fun n ok s hg => by show execLoaderBegin n ok s = _; exact guarded_false hg,
    fun o d ok s hg => by show execLoaderData o d ok s = _; exact guarded_false hg,
    fun ok s hg => by show execLoaderEnd ok s = _; exact guarded_false hg, fun s hg => (exec_loaderFrameTimeout s).trans (guarded_false hg)⟩
  case hello =>
    show execLoaderHelloTimer s = _
    exact guarded_true (by simp [h, hl, ht])
  case begins => rw [exec_loaderBegin h, if_neg (by simp), if_neg (by simpa [loaderMax] using hn)]; rfl
  case tooLong => rw [exec_loaderBegin h, if_neg (by simp), if_pos (by simpa [loaderMax] using hn)]; rfl
  case kept =>
    rw [exec_loaderData_open h hl, data_wellFormed hd hd', if_neg (by simp), if_neg (by simp [ho]), if_neg (Nat.not_lt.mpr hn)]
    rfl
  case elsewhere =>
    rw [exec_loaderData_open h hl, data_wellFormed hd hd', if_neg (by simp), if_pos (by simp [ho])]
    rfl
  case bad =>
    cases hl : s.fw.loaderLen with
    | none => exact exec_loaderData_closed h hl o d ok
    | some n =>
      rw [exec_loaderData_open h hl]
      rcases hbad with none | rfl | rfl | long | ⟨ho, m, hm, room⟩
      · exact absurd (hl.symm.trans none) nofun
      · rfl
      · rw [if_pos (by simp)]; rfl
      · rw [if_pos (by simp [long])]; rfl
      · obtain rfl := Option.some.inj (hl.symm.trans hm)
        rw [if_neg (c := (o.toNat != _) = true) (by simp [ho]), if_pos room]
        exact congrArg _ (ite_self _)
  case ends =>
    have reception : ¬ (!true || s.fw.loaderLen.isNone) = true := by simp [Option.isSome_iff_ne_none.mp hl]
    rw [exec_loaderEnd h, if_neg reception]
    refine ⟨_, rfl, fun valid => ?_, fun invalid => ?_⟩
    · rw [if_pos (c := imageCheck (loaderHeard s) _ _ _ _ = 1) valid]
      exact ⟨rfl, loaderStore_images ..⟩
    · rw [if_neg (c := imageCheck (loaderHeard s) _ _ _ _ = 1) invalid]
      rfl
  case noEnd =>
    rw [exec_loaderEnd h, if_pos (by rcases hbad with rfl | hl <;> simp [*])]
    rfl
  case timeout => exact (exec_loaderFrameTimeout s).trans (guarded_true (by simp [h, hl, ht]))

end Sys2Proof.Proofs
end

section
/-! The firmware commands: what each stages, what a check keeps or discards, what a release records, and which slot a commit writes
(R297, R302, R307 to R312, R366). -/

namespace Sys2Proof.Proofs

open Sys2Proof Sys2Proof.Machine Sys2Proof.Laws Sys2Proof.Safety

/-! ## Commands that apply one change under one condition -/

section

variable {own : State → Req → Option Status} {apply : Cmd → State → State} {reply : Cmd → State → Bytes} {c : Cmd}

theorem adminRun_applies {s : State} (h : own s (reqOf c) = none) :
    adminRun own apply reply c s = (apply c s, some (stOk, reply c (apply c s))) := by
  unfold adminRun
  rw [h]
  rfl

theorem adminRun_refuses {s : State} {st : Status} (h : own s (reqOf c) = some st) : adminRun own apply reply c s = (s, some (st, [])) := by
  unfold adminRun
  rw [h]
  rfl

variable {op : Nat} {s : State} {r : CmdRef} {fail : OnFail}

/-- A command at work whose condition holds ends OK, after its change. -/
theorem adminRun_endsOk {b : Bytes} (h : AtWork op s r c) (ho : ∀ l, own (setCmds s l) (reqOf c) = none)
    (hb : ∀ l, reply c (apply c (setCmds s l)) = b) (hc : ∀ l, (apply c (setCmds s l)).prism.cmds = l) :
    ∃ t l, runAccepted op (adminRun own apply reply) fail r s = .next t ∧ endedWith t r stOk b ∧ EndsFrom (apply c (setCmds s l)) t :=
  runAccepted_endsFrom h (fun l => (adminRun_applies (ho l)).trans (by rw [hb])) fun l => sameResults_of_cmds (hc l) r

/-- A command at work whose condition no longer holds ends with its refusal. -/
theorem adminRun_endsRefused {st : Status} (h : AtWork op s r c) (ho : ∀ l, own (setCmds s l) (reqOf c) = some st) :
    ∃ t, runAccepted op (adminRun own apply reply) fail r s = .next t ∧ endedWith t r st [] :=
  runAccepted_replies h fun l => adminRun_refuses (ho l)

end

/-! ## FW_APP_VERIFY and FW_APP_RELEASE (R308, R309, R366) -/

section

variable {c : Cmd} {s : State}

theorem runAppVerify_refuses {st : Status} (h : ownAppVerify s (reqOf c) = some st) : runAppVerify c s = (s, some (st, [])) := by
  unfold runAppVerify
  rw [h]
  rfl

/-- The state in which the staged image is VERIFIED. -/
def appVerified (s : State) : State := { s with fw := { s.fw with load := 2, lastResult := 1 } }

theorem runAppVerify_passes (h : ownAppVerify s (reqOf c) = none) (hp : stageCheck s = 1) :
    runAppVerify c s = (appVerified s, some (stOk, verifyReply s.fw.stage)) := by
  unfold runAppVerify
  rw [h]
  exact if_pos hp

theorem runAppVerify_fails (h : ownAppVerify s (reqOf c) = none) (hf : stageCheck s ≠ 1) :
    runAppVerify c s = (failImage (stageCheck s) s, some (stVerifyFailed, [])) := by
  unfold runAppVerify
  rw [h]
  exact if_neg hf

theorem runAppRelease_refuses {k : Bool} {st : Status} (h : ownAppRelease s (reqOf c) = some st) :
    runAppRelease k c s = (s, some (st, [])) := by
  unfold runAppRelease
  rw [h]
  rfl

theorem runAppRelease_runs (k : Bool) (h : ownAppRelease s (reqOf c) = none) :
    runAppRelease k c s = if k then (releaseApp false s, some (stOk, zeros 4)) else (s, some (stFault, [])) := by
  unfold runAppRelease
  rw [h]
  rfl

end

theorem releaseApp_fw (k : Bool) (s : State) : (releaseApp k s).fw =
    { s.fw with load := 3, retained := k, appSvn := BitVec.ofNat 8 (imgSvn s.fw.stage), appMeas := sha3_512 s.fw.stage } := by
  unfold releaseApp
  dsimp only
  split <;> rfl

/-- The composite identity that the measured application is given (R366). -/
def appIdentity (s : State) : Bytes :=
  hmac 0x13 s.life.cdi1 (ascii "ULGUS-CDI2" ++ sha3_512 s.fw.stage ++ [BitVec.ofNat 8 (imgSvn s.fw.stage)])

theorem releaseApp_life (k : Bool) (s : State) : (releaseApp k s).life =
    { s.life with cdi2 := appIdentity s, appKey := layerKey (appIdentity s) (ascii "ULGUS-APP"), cdi1 := [] } := by
  unfold releaseApp
  dsimp only
  split <;> rfl

theorem releaseApp_cmds (k : Bool) (s : State) : (releaseApp k s).prism.cmds = s.prism.cmds := by
  unfold releaseApp
  dsimp only
  split <;> rfl

/-! ## FW_ROT_COMMIT (R302, R312) -/

section

variable {c : Cmd} {s : State}

theorem runRotCommit_refuses {k : Bool} {st : Status} (h : ownRotCommit s (reqOf c) = some st) :
    runRotCommit k c s = (s, some (st, [])) := by
  unfold runRotCommit
  rw [h]
  rfl

theorem runRotCommit_fails (k : Bool) (h : ownRotCommit s (reqOf c) = none) (hf : imageCheck s s.fw.rotStage 1 0 true ≠ 1) :
    runRotCommit k c s = (s, some (stVerifyFailed, [])) := by
  unfold runRotCommit
  rw [h]
  exact if_neg hf

/-- The slot that does not run holds the image, and its flag record is erased. -/
def rotWritten (s : State) : State := writeSlot (otherSlot s) s.fw.rotStage s

/-- The written slot is active, and the other is no longer. -/
def rotCommitted (s : State) : State := clearFlag (!otherSlot s) (raiseFlag (otherSlot s) (nextFlagSeq s) (rotWritten s))

/-- The slot written, the image's SVN and the FLAG_SEQ of its record. -/
def commitReply (s : State) : Bytes := toLe 1 (b2n (otherSlot s)) ++ toLe 1 (imgSvn s.fw.rotStage) ++ zeros 2 ++ toLe 4 (nextFlagSeq s)

theorem runRotCommit_writes (k : Bool) (h : ownRotCommit s (reqOf c) = none) (hp : imageCheck s s.fw.rotStage 1 0 true = 1) :
    runRotCommit k c s = if k then (rotCommitted s, some (stOk, commitReply s)) else (rotWritten s, some (stFault, [])) := by
  unfold runRotCommit
  rw [h]
  exact if_pos hp

end

theorem setSlot_cmds (b : Bool) (x : Slot) (s : State) : (setSlot b x s).prism.cmds = s.prism.cmds := by cases b <;> rfl

theorem rotWritten_cmds (s : State) : (rotWritten s).prism.cmds = s.prism.cmds := setSlot_cmds ..

theorem rotCommitted_cmds (s : State) : (rotCommitted s).prism.cmds = s.prism.cmds :=
  (setSlot_cmds ..).trans ((setSlot_cmds ..).trans (rotWritten_cmds s))

theorem slotOf_eq {s t : State} (h : t.fw = s.fw) (b : Bool) : slotOf t b = slotOf s b := by unfold slotOf; rw [h]

/-- A slot whose flag record is erased is not active (R302). -/
theorem slotActive_erased (x : Slot) : slotActive { x with flag := flagErased } = false := by
  have inactive : (bsub flagErased 5 1 == [0xA5]) = false := by decide
  unfold slotActive
  rw [inactive, Bool.and_false, Bool.false_and]

theorem slotOf_rotWritten_running (s : State) : slotOf (rotWritten s) s.fw.running = slotOf s s.fw.running := slotOf_setSlot_not ..

theorem slotActive_rotWritten (s : State) : slotActive (slotOf (rotWritten s) (!s.fw.running)) = false := by
  unfold rotWritten writeSlot otherSlot
  rw [slotOf_setSlot]
  exact slotActive_erased { slotOf s _ with image := s.fw.rotStage }

theorem slotOf_rotCommitted_running (s : State) : slotOf (rotCommitted s) s.fw.running =
    { slotOf s s.fw.running with flag := flagCleared (slotOf s s.fw.running).flag } := by
  unfold rotCommitted clearFlag raiseFlag rotWritten writeSlot otherSlot
  simp

theorem slotOf_rotCommitted_other (s : State) : slotOf (rotCommitted s) (!s.fw.running) =
    { slotOf s (!s.fw.running) with
      image := s.fw.rotStage, flag := flagRecord (!s.fw.running) (nextFlagSeq s) (sha3_256 (imgHeader s.fw.rotStage)) } := by
  unfold rotCommitted clearFlag raiseFlag rotWritten writeSlot otherSlot
  simp

/-! ## The commands -/

/-- Settles O46: each command ends with what its effect gives, and the end leaves the images and the slots as the effect made them. -/
theorem firmwareCommandsStageCheckAndRelease : Obligations.FirmwareCommandsStageCheckAndRelease := by
  unfold Obligations.FirmwareCommandsStageCheckAndRelease
  refine ⟨fun s r c h ho => ?begins, fun s r c h ho => adminRun_endsRefused h fun l => ho, fun s r c h ho => ?chunk,
    fun s r c h ho => adminRun_endsRefused h fun l => ho, fun s r c h ho => ?verify,
    fun s r c h ho => runAccepted_replies h fun l => runAppVerify_refuses (s := setCmds s l) ho, fun s r c h ho => ?release,
    fun s r c h ho => ?releaseFault, fun s r c h ho => runAccepted_replies h fun l => runAppRelease_refuses (s := setCmds s l) ho,
    fun s r c h ho => ?rotBegins, fun s r c h ho => adminRun_endsRefused h fun l => ho, fun s r c h ho => ?rotChunk,
    fun s r c h ho => adminRun_endsRefused h fun l => ho, fun s r c ok h ho => ?commit,
    fun s r c h ho => runAccepted_replies h fun l => runRotCommit_refuses (s := setCmds s l) ho, fun s r c h ho => ?warm,
    fun s r c h ho => adminRun_endsRefused h fun l => ho⟩
  case begins =>
    obtain ⟨t, l, run, ended, left⟩ := adminRun_endsOk (own := ownAppBegin) (apply := applyAppBegin) (reply := zeroReply) (fail := noReply) h
      (fun _ => ho) (fun _ => rfl) (fun _ => rfl)
    exact ⟨t, run, ended, by rw [left.fw]; exact ⟨rfl, rfl, rfl, rfl⟩⟩
  case chunk =>
    obtain ⟨t, l, run, ended, left⟩ := adminRun_endsOk (own := ownAppChunk) (apply := applyAppChunk)
      (reply := fun _ s => toLe 4 s.fw.stage.length) (b := toLe 4 (s.fw.stage ++ c.payload.drop 8).length) (fail := noReply) h
      (fun _ => ho) (fun _ => rfl) (fun _ => rfl)
    exact ⟨t, run, ended, by rw [left.fw]; rfl⟩
  case verify =>
    by_cases hp : stageCheck s = 1
    · obtain ⟨t, l, run, ended, left⟩ := runAccepted_endsFrom (b := verifyReply s.fw.stage) (eff := runAppVerify) (fail := noReply) h
        (fun l => runAppVerify_passes (s := setCmds s l) ho hp) fun l => sameResults_of_cmds rfl r
      exact ⟨t, run, fun _ => ⟨ended, by rw [left.fw]; exact ⟨rfl, rfl, rfl⟩⟩, absurd hp⟩
    · obtain ⟨t, l, run, ended, left⟩ := runAccepted_endsFrom (eff := runAppVerify) (fail := noReply) h
        (fun l => runAppVerify_fails (s := setCmds s l) ho hp) fun l => sameResults_of_cmds rfl r
      exact ⟨t, run, fun k => absurd k hp, fun _ => ⟨ended, by rw [left.fw]; exact ⟨rfl, rfl, rfl⟩⟩⟩
  case release =>
    obtain ⟨t, l, run, ended, left⟩ := runAccepted_endsFrom (fail := noReply) h
      (fun l => runAppRelease_runs (s := setCmds s l) true ho) fun l => sameResults_of_cmds (releaseApp_cmds ..) r
    refine ⟨t, run, ended, ?_⟩
    rw [left.fw, left.life, releaseApp_fw, releaseApp_life]
    exact ⟨rfl, rfl, rfl, rfl, rfl, rfl, rfl⟩
  case releaseFault =>
    obtain ⟨t, l, run, ended, left⟩ := runAccepted_endsFrom (fail := noReply) h
      (fun l => runAppRelease_runs (s := setCmds s l) false ho) fun l => sameResults_refl _ r
    exact ⟨t, run, ended, by rw [left.fw]; rfl, by rw [left.life]; rfl⟩
  case rotBegins =>
    obtain ⟨t, l, run, ended, left⟩ := adminRun_endsOk (own := ownRotBegin) (apply := applyRotBegin) (reply := zeroReply) (fail := noReply) h
      (fun _ => ho) (fun _ => rfl) (fun _ => rfl)
    exact ⟨t, run, ended, by rw [left.fw]; exact ⟨rfl, rfl⟩⟩
  case rotChunk =>
    obtain ⟨t, l, run, ended, left⟩ := adminRun_endsOk (own := ownRotChunk) (apply := applyRotChunk)
      (reply := fun _ s => toLe 4 s.fw.rotStage.length) (b := toLe 4 (s.fw.rotStage ++ c.payload.drop 8).length) (fail := noReply) h
      (fun _ => ho) (fun _ => rfl) (fun _ => rfl)
    exact ⟨t, run, ended, by rw [left.fw]; rfl⟩
  case commit =>
    by_cases hp : imageCheck s s.fw.rotStage 1 0 true = 1
    · cases ok with
      | true =>
        obtain ⟨t, l, run, ended, left⟩ := runAccepted_endsFrom (b := commitReply s) (eff := runRotCommit true) (fail := noReply) h
          (fun l => runRotCommit_writes (s := setCmds s l) true ho hp) fun l => sameResults_of_cmds (rotCommitted_cmds _) r
        have other := (slotOf_eq left.fw (!s.fw.running)).trans (slotOf_rotCommitted_other (setCmds s l))
        have running := (slotOf_eq left.fw s.fw.running).trans (slotOf_rotCommitted_running (setCmds s l))
        refine ⟨t, run, absurd hp, fun _ _ => ⟨ended, ?_⟩, fun _ => nofun⟩
        rw [other, running]
        exact ⟨rfl, rfl, rfl, rfl⟩
      | false =>
        obtain ⟨t, l, run, ended, left⟩ := runAccepted_endsFrom (eff := runRotCommit false) (fail := noReply) h
          (fun l => runRotCommit_writes (s := setCmds s l) false ho hp) fun l => sameResults_of_cmds (rotWritten_cmds _) r
        refine ⟨t, run, absurd hp, fun _ => nofun, fun _ _ => ⟨ended, ?_, ?_⟩⟩
        · rw [slotOf_eq left.fw]
          exact slotActive_rotWritten (setCmds s l)
        · exact (slotOf_eq left.fw _).trans (slotOf_rotWritten_running (setCmds s l))
    · obtain ⟨t, l, run, ended, left⟩ := runAccepted_endsFrom (fail := noReply) h
        (fun l => runRotCommit_fails (s := setCmds s l) ok ho hp) fun l => sameResults_refl _ r
      exact ⟨t, run, fun _ => ⟨ended, by rw [left.fw]; rfl, by rw [left.fw]; rfl⟩, fun k => absurd k hp, fun k => absurd k hp⟩
  case warm =>
    obtain ⟨t, l, run, ended, left⟩ := adminRun_endsOk (own := ownWarm) (apply := applyWarm) (reply := zeroReply) (fail := noReply) h
      (fun _ => ho) (fun _ => rfl) (fun _ => rfl)
    exact ⟨t, run, ended, by rw [left.svc]; rfl⟩

end Sys2Proof.Proofs
end

section
/-! The platform and Lens commands: what each shows, the lock and the banks they set, and a swap that takes effect or is refused
(R319, R331 to R334, R337 to R342, R354). -/

namespace Sys2Proof.Proofs

open Sys2Proof Sys2Proof.Machine Sys2Proof.Laws Sys2Proof.Safety

/-! ## The two banks -/

@[simp] theorem bankOf_setBank (b : Bool) (x : Bank) (s : State) : bankOf (setBank b x s) b = x := by cases b <;> rfl

@[simp] theorem bankOf_setBank_not (b : Bool) (x : Bank) (s : State) : bankOf (setBank (!b) x s) b = bankOf s b := by cases b <;> rfl

@[simp] theorem bankOf_setBank_other (b : Bool) (x : Bank) (s : State) : bankOf (setBank b x s) (!b) = bankOf s (!b) := by cases b <;> rfl

theorem bankOf_eq {s t : State} (h : t.plat = s.plat) (b : Bool) : bankOf t b = bankOf s b := by
  unfold bankOf
  rw [h]

theorem activeIdx_eq {s t : State} (h : t.plat = s.plat) : activeIdx t = activeIdx s := by
  unfold activeIdx
  rw [h]

theorem unacked_eq {s t : State} (h : t.plat = s.plat) : unacked t = unacked s := by
  unfold unacked
  rw [h]

/-! ## LENS_SWAP (R331, R332) -/

/-- The active bank drains while an access under it is in flight, and the other is active. -/
def banksSwapped (s : State) : State :=
  let t := setBank (activeIdx s)
    { bankOf s (activeIdx s) with state := if s.plat.inflight.any (fun i => i.bank == activeIdx s) then .draining else .inactive } s
  setBank (!activeIdx s) { bankOf t (!activeIdx s) with state := .active } t

theorem bankOf_banksSwapped_active (s : State) : bankOf (banksSwapped s) (activeIdx s) =
    { bankOf s (activeIdx s) with state := if s.plat.inflight.any (fun i => i.bank == activeIdx s) then .draining else .inactive } := by
  unfold banksSwapped
  dsimp only
  rw [bankOf_setBank_not, bankOf_setBank]

theorem bankOf_banksSwapped_other (s : State) :
    bankOf (banksSwapped s) (!activeIdx s) = { bankOf s (!activeIdx s) with state := .active } := by
  unfold banksSwapped
  dsimp only
  rw [bankOf_setBank, bankOf_setBank_other]

/-- Bank 1 tells which bank is active: it is the one made active, or the one that drains or is inactive. -/
theorem activeIdx_banksSwapped (s : State) : activeIdx (banksSwapped s) = !activeIdx s := by
  show ((bankOf (banksSwapped s) true).state == .active) = _
  cases h : activeIdx s with
  | true =>
    have drained := bankOf_banksSwapped_active s
    rw [h] at drained
    rw [drained]
    dsimp only
    split <;> rfl
  | false =>
    have active := bankOf_banksSwapped_other s
    rw [h] at active
    exact congrArg (·.state == .active) active

theorem swapBanks_eq (s : State) :
    swapBanks s = dueRecord 4 2 (excludeRegions (modPlat (fun p => { p with refusedSwap := false }) (banksSwapped s))) := rfl

theorem bankOf_dueRecord (k e : Nat) (b : Bool) (s : State) : bankOf (dueRecord k e s) b = bankOf s b := by cases b <;> rfl

theorem bankOf_excludeRegions (b : Bool) (s : State) : bankOf (excludeRegions s) b = bankOf s b := by cases b <;> rfl

theorem bankOf_swapBanks (s : State) (b : Bool) : bankOf (swapBanks s) b = bankOf (banksSwapped s) b := by
  rw [swapBanks_eq, bankOf_dueRecord, bankOf_excludeRegions]
  cases b <;> rfl

theorem activeIdx_swapBanks (s : State) : activeIdx (swapBanks s) = !activeIdx s :=
  (congrArg (fun b => b.state == .active) (bankOf_swapBanks s true)).trans (activeIdx_banksSwapped s)

theorem refusedSwap_dueRecord (k e : Nat) (s : State) : (dueRecord k e s).plat.refusedSwap = s.plat.refusedSwap := rfl

theorem swapBanks_refusedSwap (s : State) : (swapBanks s).plat.refusedSwap = false := by
  rw [swapBanks_eq, refusedSwap_dueRecord]
  rfl

theorem modPlat_cmds (g : Platform → Platform) (s : State) : (modPlat g s).prism.cmds = s.prism.cmds := rfl

theorem dueRecord_cmds (k e : Nat) (s : State) : (dueRecord k e s).prism.cmds = s.prism.cmds := rfl

theorem swapBanks_cmds (s : State) : (swapBanks s).prism.cmds = s.prism.cmds := by
  rw [swapBanks_eq, dueRecord_cmds]
  exact (modPlat_cmds ..).trans ((modPlat_cmds ..).trans ((modPlat_cmds ..).trans (modPlat_cmds ..)))

/-- The refused swap shows on the platform, and nothing else of it changes. -/
def swapRefused (s : State) : State := modPlat (fun p => { p with refusedSwap := true }) s

theorem swapRules_frame (f : SwapFault) (s : State) : ∃ n, (swapRules f s).2 = { s with free := n } := by
  cases f with
  | pair i j => exact ⟨s.free, rfl⟩
  | port i => exact ⟨s.free + 1, rfl⟩
  | empty => exact ⟨s.free + 1 + 1, rfl⟩

theorem swapRules_setCmds (f : SwapFault) (l : List Cmd) (s : State) :
    swapRules f (setCmds s l) = ((swapRules f s).1, setCmds (swapRules f s).2 l) := by cases f <;> rfl

/-- What the reply of a refused swap shows. -/
def faultReply (f : SwapFault) (s : State) : Bytes := swapReply s true (swapRules f (swapRefused s)).1.1 (swapRules f (swapRefused s)).1.2

theorem swapReply_eq {s t : State} (h : activeIdx t = activeIdx s) (k : Bool) (a b : Bytes) : swapReply t k a b = swapReply s k a b := by
  unfold swapReply
  rw [h]

section

variable {c : Cmd} {s : State}

theorem runSwap_refuses {e : Status} (h : ownSwap s (reqOf c) = some e) :
    runSwap c s = (s, some (e, swapReply s false (zeros 2) (zeros 2))) := by
  unfold runSwap
  rw [h]
  rfl

theorem runSwap_swaps (h : ownSwap s (reqOf c) = none) (hf : swapFault (bankOf s (!activeIdx s)) = none) :
    runSwap c s = (swapBanks s, some (stOk, swapReply (swapBanks s) false (zeros 2) (zeros 2))) := by
  unfold runSwap
  rw [h]
  dsimp only
  rw [hf]
  rfl

theorem runSwap_faults {f : SwapFault} (h : ownSwap s (reqOf c) = none) (hf : swapFault (bankOf s (!activeIdx s)) = some f) :
    runSwap c s = ((swapRules f (swapRefused s)).2, some (stVerifyFailed, faultReply f s)) := by
  have same : activeIdx (swapRules f (swapRefused s)).2 = activeIdx s := by
    obtain ⟨n, e⟩ := swapRules_frame f (swapRefused s)
    rw [e]
    rfl
  unfold runSwap faultReply
  rw [h]
  dsimp only
  rw [hf, ← swapReply_eq same]
  rfl

theorem runRecordRead_some {b : Bytes} (h : recordAt s ((reqOf c).pay 0 8) = some b) : runRecordRead c s = (s, some (stOk, b)) := by
  unfold runRecordRead
  rw [h]
  rfl

theorem runRecordRead_none (h : recordAt s ((reqOf c).pay 0 8) = none) : runRecordRead c s = (s, some (stPolicyDenied, [])) := by
  unfold runRecordRead
  rw [h]
  rfl

/-- An acknowledgement raises ACK_SEQ (R340). -/
def ackRaised (n : Nat) (s : State) : State := modPlat (fun p => { p with ackSeq := max p.ackSeq n }) s

/-- A host held for records goes on once the store has room (R339). -/
theorem applyAck_eq (c : Cmd) (s : State) : applyAck c s =
    if (ackRaised ((reqOf c).pay 0 8) s).plat.hold && decide (unacked (ackRaised ((reqOf c).pay 0 8) s) < 8192)
    then modPlat (fun p => { p with hold := false, host := .verifying }) (ackRaised ((reqOf c).pay 0 8) s)
    else ackRaised ((reqOf c).pay 0 8) s := rfl

theorem applyAck_unacked (c : Cmd) (s : State) : unacked (applyAck c s) = unacked (ackRaised ((reqOf c).pay 0 8) s) := by
  rw [applyAck_eq]
  split <;> rfl

theorem applyAck_ackSeq (c : Cmd) (s : State) : (applyAck c s).plat.ackSeq = max s.plat.ackSeq ((reqOf c).pay 0 8) := by
  rw [applyAck_eq]
  split <;> rfl

theorem applyAck_frees (hold : s.plat.hold = true) (room : unacked (applyAck c s) < 8192) :
    (applyAck c s).plat.hold = false ∧ (applyAck c s).plat.host = .verifying := by
  rw [applyAck_unacked] at room
  have free : ((ackRaised ((reqOf c).pay 0 8) s).plat.hold && decide (unacked (ackRaised ((reqOf c).pay 0 8) s) < 8192)) = true :=
    Bool.and_eq_true_iff.mpr ⟨hold, decide_eq_true room⟩
  rw [applyAck_eq, if_pos free]
  exact ⟨rfl, rfl⟩

theorem applyAck_cmds (c : Cmd) (s : State) : (applyAck c s).prism.cmds = s.prism.cmds := by
  rw [applyAck_eq]
  split <;> rfl

theorem applyStage_some {m : Bytes} (h : s.plat.manifest = some m) : applyStage c s = setBank (!activeIdx s)
    (bankAt m (((setOffsets m (mfSets m) (32 + 80 * mfRegions m)).1).getD ((reqOf c).pay 0 1) 0) ((reqOf c).pay 0 1) .inactive) s := by
  unfold applyStage
  rw [h]

theorem applyLock_takes (h : (reqOf c).pay 0 1 = 1) :
    applyLock c s = modPlat (fun p => { p with lock := 1, lockOwner := callerOf s (reqOf c) }) s := if_pos h

theorem applyLock_releases (h : (reqOf c).pay 0 1 ≠ 1) : applyLock c s = modPlat (fun p => { p with lock := 0 }) s := if_neg h

end

/-- A swap whose rules collide ends VERIFY_FAILED with its reply, and leaves the banks (R332). -/
theorem lensSwap_refused {s : State} {r : CmdRef} {c : Cmd} {f : SwapFault} (h : AtWork 0x1007 s r c) (ho : ownSwap s (reqOf c) = none)
    (hf : swapFault (bankOf s (!activeIdx s)) = some f) : ∃ t, exec (.lensSwap r) s = .next t ∧ endedWith t r stVerifyFailed (faultReply f s) ∧
      t.plat.refusedSwap = true ∧ t.plat.bank0 = s.plat.bank0 ∧ t.plat.bank1 = s.plat.bank1 := by
  have run (l : List Cmd) : runSwap c (setCmds s l) =
      (setCmds (swapRules f (swapRefused s)).2 l, some (stVerifyFailed, faultReply f s)) := by
    have rules : swapRules f (swapRefused (setCmds s l)) = _ := swapRules_setCmds f l (swapRefused s)
    rw [runSwap_faults (s := setCmds s l) ho hf, faultReply, rules]
    rfl
  obtain ⟨t, l, ran, ended, left⟩ := runAccepted_endsFrom (fail := failSwap) h run fun l => sameResults_of_cmds rfl r
  obtain ⟨n, e⟩ := swapRules_frame f (swapRefused s)
  refine ⟨t, ran, ended, ?_⟩
  rw [left.plat, e]
  exact ⟨rfl, rfl, rfl⟩

/-! ## The commands -/

/-- Settles O49: each command ends with what its effect gives, and the end leaves the platform as the effect made it. -/
theorem platformAndLensCommandsEndAsSpecified : Obligations.PlatformAndLensCommandsEndAsSpecified := by
  unfold Obligations.PlatformAndLensCommandsEndAsSpecified
  refine ⟨fun s r c h => runAccepted_replies h fun _ => rfl, fun s r c h ho => ?configSet, fun s r c h ho => adminRun_endsRefused h fun l => ho,
    fun s r c h => runAccepted_replies h fun _ => rfl, fun s r c h ho => ?reboot, fun s r c h ho => adminRun_endsRefused h fun l => ho,
    fun s r c h ho hp => ?locks, fun s r c h ho hp => ?unlocks, fun s r c e h ho => ?lockRefused, fun s r c m h ho hm => ?stages,
    fun s r c h ho => adminRun_endsRefused h fun l => ho, fun s r c h ho hf => ?swaps, fun s r c i j h ho hf => ?pair,
    fun s r c f h ho hf => ?fault, fun s r c e h ho => runAccepted_replies h fun l => runSwap_refuses (s := setCmds s l) ho,
    fun s r c h => runAccepted_replies h fun _ => rfl,
    fun s r c b h hb => runAccepted_replies h fun l => runRecordRead_some (s := setCmds s l) hb,
    fun s r c h hb => runAccepted_replies h fun l => runRecordRead_none (s := setCmds s l) hb, fun s r c h ho => ?acks,
    fun s r c h ho => adminRun_endsRefused h fun l => ho, fun s r c h ho => ?busSet, fun s r c h ho => adminRun_endsRefused h fun l => ho,
    fun s r c h => runAccepted_replies h fun _ => rfl⟩
  case configSet =>
    obtain ⟨t, l, run, ended, left⟩ := adminRun_endsOk (own := ownConfigSet) (apply := applyConfigSet) (reply := zeroReply) (fail := noReply) h
      (fun _ => ho) (fun _ => rfl) (fun _ => rfl)
    exact ⟨t, run, ended, by rw [left.plat]; rfl⟩
  case reboot =>
    obtain ⟨t, l, run, ended, -⟩ := adminRun_endsOk (own := ownReboot) (apply := fun _ s => s) (reply := zeroReply) (fail := noReply) h
      (fun _ => ho) (fun _ => rfl) (fun _ => rfl)
    exact ⟨t, run, ended⟩
  case busSet =>
    obtain ⟨t, l, run, ended, -⟩ := adminRun_endsOk (own := ownMbusSet) (apply := fun _ s => s) (reply := zeroReply) (fail := noReply) h
      (fun _ => ho) (fun _ => rfl) (fun _ => rfl)
    exact ⟨t, run, ended⟩
  case locks =>
    obtain ⟨t, l, run, ended, left⟩ := adminRun_endsOk (own := ownLock) (apply := applyLock) (reply := zeroReply) (fail := noReply) h
      (fun _ => ho) (fun _ => rfl) (fun _ => by rw [applyLock_takes hp]; rfl)
    exact ⟨t, run, ended, by rw [left.plat, applyLock_takes hp]; exact ⟨rfl, rfl⟩⟩
  case unlocks =>
    obtain ⟨t, l, run, ended, left⟩ := adminRun_endsOk (own := ownLock) (apply := applyLock) (reply := zeroReply) (fail := noReply) h
      (fun _ => ho) (fun _ => rfl) (fun _ => by rw [applyLock_releases hp]; rfl)
    exact ⟨t, run, ended, by rw [left.plat, applyLock_releases hp]; rfl⟩
  case lockRefused =>
    obtain ⟨t, l, run, ended, left⟩ := runAccepted_endsFrom (eff := adminRun ownLock applyLock zeroReply) (fail := noReply) h
      (fun l => adminRun_refuses (s := setCmds s l) ho) fun l => sameResults_refl _ r
    exact ⟨t, run, ended, by rw [left.plat]; rfl⟩
  case stages =>
    have staged (l : List Cmd) := applyStage_some (c := c) (s := setCmds s l) hm
    obtain ⟨t, l, run, ended, left⟩ := adminRun_endsOk (own := ownStage) (apply := applyStage) (reply := zeroReply) (fail := noReply) h
      (fun _ => ho) (fun _ => rfl) (fun l => by rw [staged]; rfl)
    have plat := left.plat
    rw [staged] at plat
    exact ⟨t, run, ended, (bankOf_eq plat _).trans (bankOf_setBank ..), (bankOf_eq plat _).trans (bankOf_setBank_not ..)⟩
  case swaps =>
    obtain ⟨t, l, run, ended, left⟩ := runAccepted_endsFrom (b := swapReply (swapBanks s) false (zeros 2) (zeros 2)) (fail := failSwap) h
      (fun l => runSwap_swaps (s := setCmds s l) ho hf) fun l => sameResults_of_cmds (swapBanks_cmds _) r
    have active : activeIdx t = !activeIdx s := (activeIdx_eq left.plat).trans (activeIdx_swapBanks (setCmds s l))
    have other : bankOf t (!activeIdx s) = { bankOf s (!activeIdx s) with state := .active } :=
      (bankOf_eq left.plat _).trans ((bankOf_swapBanks ..).trans (bankOf_banksSwapped_other (setCmds s l)))
    have drained := (bankOf_eq left.plat _).trans ((bankOf_swapBanks ..).trans (bankOf_banksSwapped_active (setCmds s l)))
    rw [← swapReply_eq (active.trans (activeIdx_swapBanks s).symm)] at ended
    exact ⟨t, run, ended, active, congrArg Bank.state other, by rw [other], congrArg Bank.state drained,
      by rw [left.plat]; exact swapBanks_refusedSwap _⟩
  case pair => exact lensSwap_refused h ho hf
  case fault =>
    obtain ⟨t, run, ended, kept⟩ := lensSwap_refused h ho hf
    exact ⟨t, run, endedStatus_of_endedWith ended, kept⟩
  case acks =>
    obtain ⟨t, l, run, ended, left⟩ := adminRun_endsOk (own := ownRecordAck) (apply := applyAck) (reply := fun _ s => toLe 4 (unacked s))
      (b := toLe 4 (unacked (ackRaised ((reqOf c).pay 0 8) s))) (fail := noReply) h
      (fun _ => ho) (fun _ => by rw [applyAck_unacked]; rfl) (fun _ => applyAck_cmds ..)
    have count := unacked_eq left.plat
    refine ⟨t, run, ?_, by rw [left.plat]; exact applyAck_ackSeq .., fun hold room => ?_⟩
    · rwa [count, applyAck_unacked]
    · rw [left.plat]
      exact applyAck_frees (s := setCmds s l) hold (count ▸ room)

end Sys2Proof.Proofs
end

section
/-! The Lens: the judgement of a transaction under the active bank, and the end of the last one under a draining bank (R327 to R332). -/

namespace Sys2Proof.Proofs

open Sys2Proof Sys2Proof.Machine Sys2Proof.Laws Sys2Proof.Safety

/-! ## The judgement of a transaction (R329, R330) -/

/-- The opcodes that the active bank allows the transaction's master. -/
abbrev allowOf (s : State) (x : LensTxn) : Bytes := if x.master then (activeBank s).allowBmc else (activeBank s).allowHost

/-- The active bank allows the transaction's opcode to its master. -/
abbrev allowed (s : State) (x : LensTxn) : Bool := bit ((allowOf s x).getD (x.opcode.toNat / 8) 0).toNat (x.opcode.toNat % 8)

section

variable {s : State} {x : LensTxn}

/-- The port of the transaction is its master's, and is free of the other master's accesses. -/
abbrev portOpen (s : State) (x : LensTxn) : Prop := portMaster (activeBank s) x.port.val = masterNum x.master ∧ portBusy s x = false

theorem judgeTxn_closed (h : portMaster (activeBank s) x.port.val ≠ masterNum x.master ∨ portBusy s x = true) :
    judgeTxn x s = flashOut x false 0 (txnClass s x) (lensLog 5 0 x (txnClass s x) s) := by
  have closed : (portMaster (activeBank s) x.port.val != masterNum x.master || portBusy s x) = true := by simpa using h
  unfold judgeTxn
  dsimp only
  rw [if_pos closed]

/-- On an open port the opcode's class and the bank's permission decide. -/
theorem judgeTxn_open (h : portOpen s x) : judgeTxn x s =
    (if txnClass s x = 0 || !allowed s x then flashOut x false 0 (txnClass s x) (lensLog 4 0 x (txnClass s x) s)
    else if 4 ≤ txnClass s x then flashOut x true 0 (txnClass s x) s
    else
      let (n, ok) := touched s (activeBank s) x (txnClass s x)
      if n ≤ ok then flashOut x true 0 (txnClass s x) s
      else if txnClass s x = 1 then flashOut x true (n - ok) (txnClass s x) (lensLog 1 (n - ok) x (txnClass s x) s)
      else
        let u := flashOut x false 0 (txnClass s x) (lensLog (if txnClass s x = 2 then 2 else 3) 0 x (txnClass s x) s)
        emit (.flash x.port.val (BitVec.ofNat 8 (pc u (portAt x.port.val + 5) 1)) 0 true 0 0 0) u) := by
  have isOpen : ¬ (portMaster (activeBank s) x.port.val != masterNum x.master || portBusy s x) = true := by simp [h.1, h.2]
  unfold judgeTxn
  dsimp only
  rw [if_neg isOpen]

theorem judgeTxn_denied (h : portOpen s x) (hd : txnClass s x = 0 ∨ allowed s x = false) :
    judgeTxn x s = flashOut x false 0 (txnClass s x) (lensLog 4 0 x (txnClass s x) s) := by
  have denied : (txnClass s x = 0 || !allowed s x) = true := by simpa using hd
  rw [judgeTxn_open h, if_pos denied]

theorem judgeTxn_unaddressed (h : portOpen s x) (ha : allowed s x = true) (hc : 4 ≤ txnClass s x) :
    judgeTxn x s = flashOut x true 0 (txnClass s x) s := by
  have admitted : ¬ (txnClass s x = 0 || !allowed s x) = true := by simp [ha]; omega
  rw [judgeTxn_open h, if_neg admitted, if_pos hc]

/-- An addressed access is judged by the bytes it touches and those that are permitted. -/
theorem judgeTxn_addressed (h : portOpen s x) (ha : allowed s x = true) (h0 : 0 < txnClass s x) (h4 : txnClass s x < 4) {n ok : Nat}
    (ht : touched s (activeBank s) x (txnClass s x) = (n, ok)) : judgeTxn x s =
    if n ≤ ok then flashOut x true 0 (txnClass s x) s
    else if txnClass s x = 1 then flashOut x true (n - ok) (txnClass s x) (lensLog 1 (n - ok) x (txnClass s x) s)
    else
      let u := flashOut x false 0 (txnClass s x) (lensLog (if txnClass s x = 2 then 2 else 3) 0 x (txnClass s x) s)
      emit (.flash x.port.val (BitVec.ofNat 8 (pc u (portAt x.port.val + 5) 1)) 0 true 0 0 0) u := by
  have admitted : ¬ (txnClass s x = 0 || !allowed s x) = true := by simp [ha]; omega
  rw [judgeTxn_open h, if_neg admitted, if_neg (by omega), ht]

end

/-! ## The end of a transaction (R331) -/

/-- The transaction is no longer in flight. -/
def flightEnded (i : InFlight) (s : State) : State := { s with plat := { s.plat with inflight := s.plat.inflight.erase i } }

/-- The bank that is not active drains, and nothing is in flight under it any more. -/
abbrev drained (s : State) : Bool := (bankOf s (!activeIdx s)).state == .draining && !s.plat.inflight.any (fun j => j.bank == !activeIdx s)

section

variable {s : State} {m : Bool} {k : Fin 4}

theorem exec_lensTransactionEnd_none (h : s.plat.inflight.find? (fun i => i.master == m && i.port == k.val) = none) :
    exec (.lensTransactionEnd m k) s = .next s := by
  show execLensTransactionEnd m k s = _
  unfold execLensTransactionEnd
  rw [h]

theorem exec_lensTransactionEnd_some {i : InFlight} (h : s.plat.inflight.find? (fun i => i.master == m && i.port == k.val) = some i) :
    exec (.lensTransactionEnd m k) s = .next (if drained (flightEnded i s) then
      setBank (!activeIdx s) { bankOf (flightEnded i s) (!activeIdx s) with state := .inactive } (flightEnded i s) else flightEnded i s) := by
  show execLensTransactionEnd m k s = _
  unfold execLensTransactionEnd
  rw [h]
  rfl

end

theorem drained_iff (s : State) :
    drained s = true ↔ (bankOf s (!activeIdx s)).state = .draining ∧ ∀ j ∈ s.plat.inflight, j.bank ≠ !activeIdx s := by
  simp [drained]

theorem setBank_inflight (b : Bool) (x : Bank) (s : State) : (setBank b x s).plat.inflight = s.plat.inflight := by cases b <;> rfl

/-- Settles O20: the judgement's cases are those of the rules, and a draining bank ends with its last transaction. -/
theorem lensTransactionsAreJudged : Obligations.LensTransactionsAreJudged := by
  unfold Obligations.LensTransactionsAreJudged
  refine ⟨fun s x hp => ?judges, fun s x h => judgeTxn_closed h, fun s x hm hb hd => judgeTxn_denied ⟨hm, hb⟩ hd,
    fun s x hm hb ha hc => judgeTxn_unaddressed ⟨hm, hb⟩ ha hc, fun s x n ok hm hb ha h0 h4 ht => ?addressed, fun s m k i h => ?ends,
    fun s m k h => exec_lensTransactionEnd_none h, fun x s hp => ?unpowered⟩
  case judges =>
    show execLensTransaction x s = _
    exact guarded_true hp
  case unpowered =>
    show execLensTransaction x s = _
    exact guarded_false hp
  case addressed =>
    rw [judgeTxn_addressed ⟨hm, hb⟩ ha h0 h4 ht]
    refine ⟨fun all => if_pos all, fun some read => ?_, fun some write => ?_⟩
    · rw [if_neg (by omega), if_pos read, read]
    · rw [if_neg (by omega), if_neg write]
  case ends =>
    refine ⟨_, exec_lensTransactionEnd_some h, ?_, fun draining last => ?_, fun more => ?_⟩
    · split
      · exact setBank_inflight ..
      · rfl
    · rw [if_pos ((drained_iff (flightEnded i s)).mpr ⟨draining, last⟩)]
      rfl
    · have not : ¬ drained (flightEnded i s) = true := by
        rw [drained_iff]
        rintro ⟨draining, none⟩
        rcases more with idle | ⟨j, hj, same⟩
        · exact idle draining
        · exact none j hj same
      rw [if_neg not]
      rfl

end Sys2Proof.Proofs
end

section
/-! The platform boot: the manifest copies, the region hashes, the boot records and the regions read again (R324 to R326, R335 to R339,
R424, R434). -/

namespace Sys2Proof.Proofs

open Sys2Proof Sys2Proof.Machine Sys2Proof.Laws Sys2Proof.Safety

/-! ## The region hashes (R325, R326) -/

/-- The regions with those of one master judged. -/
def judgedRegions (bmc : Bool) (d src rr : List (Nat × Bytes)) (s : State) : List Region :=
  s.plat.regions.zipIdx.map (fun e => if e.1.bmc == bmc then judge s d src rr e.2 e.1 else e.1)

/-- The outcome of a master's regions once they are judged. -/
def judgedOutcome (bmc : Bool) (d src rr : List (Nat × Bytes)) (s : State) : BitVec 8 :=
  regionOutcome ((judgedRegions bmc d src rr s).filter (fun r => r.bmc == bmc))

/-- The platform holds the judged regions, and those of the master are to be read anew. -/
def regionsJudged (bmc : Bool) (d src rr : List (Nat × Bytes)) (s : State) : State :=
  { s with plat := { s.plat with
      regions := judgedRegions bmc d src rr s, failedRegs := ((judgedRegions bmc d src rr s).filter (fun r => r.result == 3)).length,
      readDone := s.plat.readDone.filter (fun i => !(ownedIdx s bmc).contains i) } }

def bmcHashed (ok : Bool) (s : State) : State := { s with plat := { s.plat with bmcHashed := some ok } }

def hostHashed (ok : Bool) (s : State) : State := { s with plat := { s.plat with hostHashed := some ok } }

section

variable (d src rr : List (Nat × Bytes)) (s : State)

theorem judgeRegions_bmc : judgeRegions true d src rr s =
    if judgedOutcome true d src rr s = 2 then holdBmc 2 (bmcHashed (judgedOutcome true d src rr s != 2) (regionsJudged true d src rr s))
    else advance (setBmc .verifying (judgedOutcome true d src rr s)
      (bmcHashed (judgedOutcome true d src rr s != 2) (regionsJudged true d src rr s))) := rfl

theorem judgeRegions_host : judgeRegions false d src rr s =
    if judgedOutcome false d src rr s = 2 then holdHost 2 (hostHashed (judgedOutcome false d src rr s != 2) (regionsJudged false d src rr s))
    else advance (setHost .verifying (judgedOutcome false d src rr s)
      (hostHashed (judgedOutcome false d src rr s != 2) (regionsJudged false d src rr s))) := rfl

theorem judgeRegions_bmc_cases : judgeRegions true d src rr s =
    if judgedOutcome true d src rr s = 2 then holdBmc 2 (bmcHashed false (regionsJudged true d src rr s))
    else advance (setBmc .verifying (judgedOutcome true d src rr s) (bmcHashed true (regionsJudged true d src rr s))) := by
  rw [judgeRegions_bmc]
  split
  · next failed => rw [failed]; rfl
  · next passed => rw [bne_iff_ne.mpr passed]

theorem judgeRegions_host_cases : judgeRegions false d src rr s =
    if judgedOutcome false d src rr s = 2 then holdHost 2 (hostHashed false (regionsJudged false d src rr s))
    else advance (setHost .verifying (judgedOutcome false d src rr s) (hostHashed true (regionsJudged false d src rr s))) := by
  rw [judgeRegions_host]
  split
  · next failed => rw [failed]; rfl
  · next passed => rw [bne_iff_ne.mpr passed]

end

section

variable {s : State} {bmc : Bool} {d src rr : List (Nat × Bytes)}

/-- The turn of a master's regions: the BMC's come first. -/
abbrev hashTurn (bmc : Bool) (s : State) : Bool :=
  if bmc then s.plat.bmcHashed.isNone else s.plat.hostHashed.isNone && (s.plat.bmcHashed.isSome || !wantsBmc s)

theorem hashTurn_bmc (h : s.plat.bmcHashed = none) : hashTurn true s = true := by simp [h]

theorem hashTurn_host (h : s.plat.hostHashed = none) (hb : s.plat.bmcHashed ≠ none ∨ wantsBmc s = false) : hashTurn false s = true := by
  rcases hb with hb | hb
  · simp [h, Option.isSome_iff_ne_none.mpr hb]
  · simp [h, hb]

theorem exec_regionHashDone (hb : bit s.plat.booting.toNat (b2n bmc) = true) (hm : s.plat.manifestOk = true) (ht : hashTurn bmc s = true)
    (hr : ownerRead s bmc = true) (hf : toRecover s bmc d = true ∨ recoveryFree s bmc d = true) : exec (.regionHashDone bmc d src rr) s =
      .next (if toRecover s bmc d then beginRecovery bmc s else judgeRegions bmc d src rr s) := by
  show execRegionHashDone bmc d src rr s = _
  have due : (bit s.plat.booting.toNat (b2n bmc) && s.plat.manifestOk && hashTurn bmc s && ownerRead s bmc &&
      (toRecover s bmc d || recoveryFree s bmc d)) = true := by
    rw [hb, hm, ht, hr]
    simpa using hf
  exact guarded_true due

end

/-! ## The boot records (R336, R337, R339) -/

theorem writeRecord_seq (kind event : Nat) (s : State) : (writeRecord kind event s).plat.brecSeq = s.plat.brecSeq + 1 := by
  obtain ⟨r, f, e⟩ := islandDraw_frame 64 s
  unfold writeRecord
  dsimp only [modPlat]
  rw [e]

theorem exec_bootRecordDurable_some {s : State} {b : Bytes} (h : nextDue s = some b) : exec .bootRecordDurable s = guarded s.svc.dawnDone
    (fun s => writeRecord (fld b 0 1) (fld b 1 4) { s with plat := { s.plat with recordDue := s.plat.recordDue.erase b } }) s := by
  show execBootRecordDurable s = _
  unfold execBootRecordDurable
  rw [h]
  rfl

theorem exec_bootRecordDurable_none {s : State} (h : nextDue s = none ∨ s.svc.dawnDone = false) : exec .bootRecordDurable s = .next s := by
  cases hd : nextDue s with
  | none =>
    show execBootRecordDurable s = _
    unfold execBootRecordDurable
    rw [hd]
  | some b =>
    rw [exec_bootRecordDurable_some hd]
    exact guarded_false (h.resolve_left (by simp [hd]))

/-! ## The regions read again (R335, R434) -/

/-- The regions of the pass that have been read, with the region `i` among them. -/
def passWith (i : Nat) (s : State) : List Nat := if s.plat.passDone.contains i then s.plat.passDone else s.plat.passDone ++ [i]

/-- The region `i` has been read in this pass. -/
def regionRead (i : Nat) (s : State) : State :=
  { s with plat := { s.plat with readDone := s.plat.readDone.filter (· != i), passDone := passWith i s } }

/-- The pass goes on, or is complete and counted when `i` was the last of its regions. -/
def passGoesOn (i : Nat) (s : State) : State :=
  if (measuredIdx (regionRead i s)).all (fun j => (passWith i s).contains j)
  then { regionRead i s with plat := { (regionRead i s).plat with passes := satAdd 16 s.plat.passes 1, passDone := [] } } else regionRead i s

theorem passGoesOn_regions (i : Nat) (s : State) : (passGoesOn i s).plat.regions = s.plat.regions := by
  unfold passGoesOn
  split <;> rfl

theorem passGoesOn_flt (i : Nat) (s : State) : (passGoesOn i s).flt = s.flt := by
  unfold passGoesOn
  split <;> rfl

section

variable {s : State} {i : Fin 64} {d : Bytes}

theorem exec_remeasureRegionDone_some {r : Region} (h : s.plat.regions[i.val]? = some r) : exec (.remeasureRegionDone i d) s =
    guarded ((measuredIdx s).contains i.val && s.svc.dawnDone && s.plat.readDone.contains i.val)
      (fun s => if d = r.digest then passGoesOn i.val s else mismatch i.val r d (passGoesOn i.val s)) s := by
  show execRemeasureRegionDone i d s = _
  unfold execRemeasureRegionDone
  rw [h]
  rfl

theorem exec_remeasureRegionDone_read {r : Region} (h : s.plat.regions[i.val]? = some r) (hm : i.val ∈ measuredIdx s)
    (hd : s.svc.dawnDone = true) (hr : i.val ∈ s.plat.readDone) : exec (.remeasureRegionDone i d) s =
      .next (if d = r.digest then passGoesOn i.val s else mismatch i.val r d (passGoesOn i.val s)) :=
  (exec_remeasureRegionDone_some h).trans (guarded_true (by simp [hm, hd, hr]))

theorem exec_remeasureRegionDone_unread
    (h : s.plat.regions[i.val]? = none ∨ i.val ∉ measuredIdx s ∨ s.svc.dawnDone = false ∨ i.val ∉ s.plat.readDone) :
    exec (.remeasureRegionDone i d) s = .next s := by
  cases hr : s.plat.regions[i.val]? with
  | none =>
    show execRemeasureRegionDone i d s = _
    unfold execRemeasureRegionDone
    rw [hr]
  | some r =>
    refine (exec_remeasureRegionDone_some hr).trans (guarded_false ?_)
    rcases h with none | unmeasured | early | unread
    · exact absurd (hr.symm.trans none) nofun
    · simp [unmeasured]
    · simp [early]
    · simp [unread]

end

theorem dueRecord_kept (k e : Nat) (s : State) : (dueRecord k e s).plat.mismatch = s.plat.mismatch ∧ (dueRecord k e s).flt = s.flt ∧
    (dueRecord k e s).plat.regions = s.plat.regions := ⟨rfl, rfl, rfl⟩

theorem resetMasters_kept (t : BitVec 2) (full : Bool) (s : State) : (resetMasters t full s).plat.mismatch = s.plat.mismatch ∧
    (resetMasters t full s).flt = s.flt ∧ (resetMasters t full s).plat.regions = s.plat.regions := ⟨rfl, rfl, rfl⟩

/-- The mismatch of the region `i` before its report: its result and what was measured. -/
def regionDiffers (i : Nat) (r : Region) (d : Bytes) (s : State) : State :=
  { s with plat := { s.plat with mismatch := true, regions := s.plat.regions.set i { r with result := 4, measured := d } } }

/-- The mismatch is reported in FLT_CAUSE, and a record of it is due (R335, R434). -/
def mismatchReported (i : Nat) (r : Region) (d : Bytes) (s : State) : State :=
  dueRecord 4 (1 + 256 * i) (setFltCause 0x20 (regionDiffers i r d s))

theorem mismatch_eq (i : Nat) (r : Region) (d : Bytes) (s : State) : mismatch i r d s =
    if bit (pc (mismatchReported i r d s) 0x3C 1) 2 then resetMasters (if r.bmc then 2 else 1) false (mismatchReported i r d s)
    else mismatchReported i r d s := rfl

theorem mismatchReported_kept (i : Nat) (r : Region) (d : Bytes) (s : State) : (mismatchReported i r d s).plat.mismatch = true ∧
    (mismatchReported i r d s).flt.cause = s.flt.cause ||| 0x20 ∧
    (mismatchReported i r d s).plat.regions = s.plat.regions.set i { r with result := 4, measured := d } := by
  obtain ⟨a, b, e⟩ := setFltCause_frame 0x20 (regionDiffers i r d s)
  obtain ⟨hm, hf, hr⟩ := dueRecord_kept 4 (1 + 256 * i) (setFltCause 0x20 (regionDiffers i r d s))
  unfold mismatchReported
  rw [hm, hf, hr, e]
  exact ⟨rfl, rfl, rfl⟩

theorem mismatch_kept (i : Nat) (r : Region) (d : Bytes) (s : State) : (mismatch i r d s).plat.mismatch = true ∧
    (mismatch i r d s).flt.cause = s.flt.cause ||| 0x20 ∧
    (mismatch i r d s).plat.regions = s.plat.regions.set i { r with result := 4, measured := d } := by
  rw [mismatch_eq]
  split
  · obtain ⟨hm, hf, hr⟩ := resetMasters_kept (if r.bmc then 2 else 1) false (mismatchReported i r d s)
    rw [hm, hf, hr]
    exact mismatchReported_kept ..
  · exact mismatchReported_kept ..

/-! ## The manifest copies (R324, R326) -/

theorem exec_manifestReadDone {s : State} {alt : Bool} {b : Bytes} (hb : s.plat.booting ≠ 0) (hs : 1 ≤ s.plat.stage)
    (hd : s.plat.manifestDone = false) (ha : s.plat.manFailed = alt) (hr : manifestRead s alt b.length = true) :
    exec (.manifestReadDone alt b) s = .next
      (if manifestOk s b && (swapFault (bankAt b (32 + 80 * mfRegions b) 0 .inactive)).isNone then acceptManifest b s
      else if !alt && pc s 0x31 1 != 0xFF then { s with plat := { s.plat with manFailed := true } } else manifestFail s) := by
  show execManifestReadDone alt b s = _
  have due : (s.plat.booting != 0 && decide (1 ≤ s.plat.stage) && !s.plat.manifestDone && alt == s.plat.manFailed &&
      manifestRead s alt b.length) = true := by
    rw [hr, hd, ha]
    simpa [hs] using hb
  exact guarded_true due

/-! ## The events -/

/-- Settles O19: each event is guarded by its turn, and does then what its equation says. -/
theorem manifestAndRecordsAreKept : Obligations.ManifestAndRecordsAreKept := by
  unfold Obligations.ManifestAndRecordsAreKept
  refine ⟨fun s alt b hb hs hd ha hr => ?manifest, fun s d src rr hb hm hr hn hf hh => ?bmc, fun s d src rr hb hm hr hn hf hh ht => ?host,
    fun s d src rr hb hm hr hn hh => ?bmcRecovers, fun s d src rr hb hm hr hn hh ht => ?hostRecovers, fun s b hb hd => ?record,
    fun s h => exec_bootRecordDurable_none h, fun s i r hr hm hd hi => ?agrees, fun s i r d hr hm hd hi differs => ?differs,
    fun s i d h => exec_remeasureRegionDone_unread h, fun s k hd => ?poll, fun alt b s hg => ?notRead, fun k s hg => ?notPolled⟩
  case manifest =>
    refine ⟨_, exec_manifestReadDone hb hs hd ha hr, fun ok => if_pos ok, fun bad first other => ?_, fun bad last => ?_⟩
    · rw [if_neg (ne_true_of_eq_false bad), if_pos (by simpa [first] using other)]
    · rw [if_neg (ne_true_of_eq_false bad), if_neg (by rcases last with h | h <;> simp [h])]
  case bmc =>
    rw [exec_regionHashDone hb hm (hashTurn_bmc hh) hr (.inr hf), if_neg (ne_true_of_eq_false hn), judgeRegions_bmc_cases]
    rfl
  case host =>
    rw [exec_regionHashDone hb hm (hashTurn_host hh ht) hr (.inr hf), if_neg (ne_true_of_eq_false hn), judgeRegions_host_cases]
    rfl
  case bmcRecovers =>
    rw [exec_regionHashDone hb hm (hashTurn_bmc hh) hr (.inl hn), if_pos hn]
    rfl
  case hostRecovers =>
    rw [exec_regionHashDone hb hm (hashTurn_host hh ht) hr (.inl hn), if_pos hn]
    rfl
  case record => exact ⟨_, (exec_bootRecordDurable_some hb).trans (guarded_true hd), rfl, writeRecord_seq ..⟩
  case agrees =>
    rw [exec_remeasureRegionDone_read hr hm hd hi, if_pos rfl]
    rfl
  case differs =>
    obtain ⟨noted, cause, regions⟩ := mismatch_kept i.val r d (passGoesOn i.val s)
    refine ⟨mismatch i.val r d (passGoesOn i.val s), (exec_remeasureRegionDone_read hr hm hd hi).trans (by rw [if_neg differs]), rfl, noted,
      ?_, ?_⟩
    · rw [cause, passGoesOn_flt]
    · obtain ⟨inside, -⟩ := List.getElem?_eq_some_iff.mp hr
      rw [regions, passGoesOn_regions, List.getElem?_set_self inside]
      rfl
  case poll =>
    show execFlashStatusPollTimeout k s = _
    exact guarded_true hd
  case notRead =>
    show execManifestReadDone alt b s = _
    exact guarded_false hg
  case notPolled =>
    show execFlashStatusPollTimeout k s = _
    exact guarded_false hg

end Sys2Proof.Proofs
end

section
/-! MCTP: the control messages, and the messages that packets make up (R344, R345). -/

namespace Sys2Proof.Proofs

open Sys2Proof Sys2Proof.Machine Sys2Proof.Laws Sys2Proof.Safety

/-! ## Sending on a port (R346) -/

@[simp] theorem pendingSignal_modMbus_out (n : Nat) (g : Mbus → Mbus) (s : State) :
    (pendingSignal n (modMbus g s)).out = (pendingSignal n s).out := by
  unfold pendingSignal
  split <;> rfl

@[simp] theorem busSend_out (n : Nat) (o : Out) (s : State) : (busSend n o s).out = (pendingSignal n s).out ++ [o] := by
  obtain ⟨l, e⟩ := busSend_frame n o s
  rw [e]

/-- Sending leaves the bus's identity, its sessions and its messages under way. -/
theorem busSend_kept (n : Nat) (o : Out) (s : State) : ∃ l, (busSend n o s).mbus = { s.mbus with ports := l } := by
  obtain ⟨l, e⟩ := busSend_frame n o s
  exact ⟨l, by rw [e]⟩

/-- A control response is one message, and leaves the endpoint's EID and the sessions. -/
theorem control_answers (port cmd : Nat) (body : Bytes) (s : State) :
    (Machine.control port cmd body s).mbus.eid = s.mbus.eid ∧
      (Machine.control port cmd body s).out = (pendingSignal port s).out ++ [.mctp port 0 (toLe 1 cmd ++ body)] ∧
      (Machine.control port cmd body s).mbus.sessions = s.mbus.sessions ∧ (Machine.control port cmd body s).life = s.life := by
  obtain ⟨l, e⟩ := busSend_frame port (.mctp port 0 (toLe 1 cmd ++ body)) s
  unfold Machine.control
  rw [e]
  exact ⟨rfl, rfl, rfl, rfl⟩

theorem setEid_null {eid : BitVec 8} (h : eid = 0 ∨ eid = 0xFF) (port : Nat) (s : State) : setEid port eid s = Machine.control port 1 [2] s := by
  unfold setEid
  rw [if_pos (by simpa using h)]

theorem setEid_given {eid : BitVec 8} (h : eid ≠ 0) (k : eid ≠ 0xFF) (port : Nat) (s : State) :
    setEid port eid s = Machine.control port 1 [0, 0, eid, 0] (modMbus (fun m => { m with eid := eid }) s) := by
  unfold setEid
  rw [if_neg (by simpa using ⟨h, k⟩)]

/-! ## Packets (R345) -/

section

variable {s : State} {port : Fin 3} {src dst : BitVec 8} {seq : BitVec 2} {tag : BitVec 4} {eom : Bool} {body : Bytes}

/-- A packet that a serving port takes: of at most 64 bytes, and for this endpoint, the null EID or the broadcast EID. -/
abbrev packetTaken (port : Fin 3) (dst : BitVec 8) (body : Bytes) (s : State) : Prop :=
  portServes s port.val = true ∧ body.length ≤ 64 ∧ (dst = s.mbus.eid ∨ dst = 0 ∨ dst = 0xFF)

theorem exec_mctpPacket {som : Bool} (h : packetTaken port dst body s) : exec (.mctpPacket port src dst som eom seq tag body) s =
    .next (if som then startMessage port src tag seq eom body s else nextPacket port src tag seq eom body s) := by
  obtain ⟨hs, hl, hd⟩ := h
  have taken : (portServes s port.val && decide (body.length ≤ 64) && (dst == s.mbus.eid || dst == 0 || dst == 0xFF)) = true := by
    rw [hs, decide_eq_true hl]
    simpa [or_assoc] using hd
  show execMctpPacket port src dst som eom seq tag body s = _
  exact guarded_true taken

/-- The state without the message under way that a first packet discards. -/
def messageDiscarded (port : Fin 3) (src : BitVec 8) (tag : BitVec 4) (s : State) : State :=
  match bufferOf s port.val src tag with | none => s | some k => dropBuffer k s

theorem messageDiscarded_none (h : bufferOf s port.val src tag = none) : messageDiscarded port src tag s = s := by
  unfold messageDiscarded
  rw [h]

/-- The buffer that a first packet occupies. -/
def firstPart (port : Fin 3) (src : BitVec 8) (tag : BitVec 4) (seq : BitVec 2) (body : Bytes) (s : State) : Reasm :=
  { port := port.val, src := src, tag := tag, next := seq + 1, data := body, lastNs := s.clk.ns }

theorem startMessage_eq : startMessage port src tag seq eom body s =
    if !typeKnown body then busFault port.val (countPec port.val (messageDiscarded port src tag s))
    else match freeBuffer (messageDiscarded port src tag s) with
      | none => countArb port.val (messageDiscarded port src tag s)
      | some k => takePacket port k (firstPart port src tag seq body (messageDiscarded port src tag s)) eom (messageDiscarded port src tag s) := rfl

theorem startMessage_unknown (h : typeKnown body = false) :
    startMessage port src tag seq eom body s = busFault port.val (countPec port.val (messageDiscarded port src tag s)) := by
  rw [startMessage_eq, h]
  rfl

theorem startMessage_full (h : typeKnown body = true) (hf : freeBuffer (messageDiscarded port src tag s) = none) :
    startMessage port src tag seq eom body s = countArb port.val (messageDiscarded port src tag s) := by
  rw [startMessage_eq, h, hf]
  rfl

theorem startMessage_takes {k : Nat} (h : typeKnown body = true) (hf : freeBuffer (messageDiscarded port src tag s) = some k) :
    startMessage port src tag seq eom body s =
      takePacket port k (firstPart port src tag seq body (messageDiscarded port src tag s)) eom (messageDiscarded port src tag s) := by
  rw [startMessage_eq, h, hf]
  rfl

/-- A message of at most 4,096 bytes is served when it is whole, and else kept. -/
theorem takePacket_fits {k : Nat} {b : Reasm} (h : b.data.length ≤ 4096) : takePacket port k b eom s =
    if eom then mctpMessage port b.src b.data (dropBuffer k s) else { s with mbus := { s.mbus with buffers := s.mbus.buffers.put k b } } := by
  unfold takePacket
  rw [if_neg (by omega)]
  rfl

theorem takePacket_exceeds {k : Nat} {b : Reasm} (h : 4096 < b.data.length) : takePacket port k b eom s = dropBuffer k s := by
  unfold takePacket
  rw [if_pos h]

theorem nextPacket_none (h : bufferOf s port.val src tag = none) : nextPacket port src tag seq eom body s = s := by
  unfold nextPacket
  rw [h]

/-- The buffer of a message that a later packet continues. -/
def nextPart (b : Reasm) (seq : BitVec 2) (body : Bytes) (s : State) : Reasm :=
  { b with next := seq + 1, data := b.data ++ body, lastNs := s.clk.ns }

theorem nextPacket_some {k : Nat} {b : Reasm} (h : bufferOf s port.val src tag = some k) (hb : s.mbus.buffers.look k = some b) :
    nextPacket port src tag seq eom body s =
      if b.next != seq || decide (b.lastNs + 100000000 < s.clk.ns) then dropBuffer k s
      else takePacket port k (nextPart b seq body s) eom s := by
  unfold nextPacket
  rw [h]
  dsimp only
  rw [hb]
  rfl

theorem nextPacket_discards {k : Nat} {b : Reasm} (h : bufferOf s port.val src tag = some k) (hb : s.mbus.buffers.look k = some b)
    (bad : b.next ≠ seq ∨ b.lastNs + 100000000 < s.clk.ns ∨ 4096 < b.data.length + body.length) :
    nextPacket port src tag seq eom body s = dropBuffer k s := by
  rw [nextPacket_some h hb]
  split
  · rfl
  · next inTurn =>
    refine takePacket_exceeds ?_
    have exceeds : 4096 < b.data.length + body.length := by
      rcases bad with turn | late | long
      · simp [turn] at inTurn
      · simp [late] at inTurn
      · exact long
    simpa [nextPart] using exceeds

theorem nextPacket_continues {k : Nat} {b : Reasm} (h : bufferOf s port.val src tag = some k) (hb : s.mbus.buffers.look k = some b)
    (hn : b.next = seq) (ht : s.clk.ns ≤ b.lastNs + 100000000) (hl : b.data.length + body.length ≤ 4096) :
    nextPacket port src tag seq eom body s = if eom then mctpMessage port b.src (b.data ++ body) (dropBuffer k s)
      else { s with mbus := { s.mbus with buffers := s.mbus.buffers.put k (nextPart b seq body s) } } := by
  have inTurn : ¬ (b.next != seq || decide (b.lastNs + 100000000 < s.clk.ns)) = true := by simp [hn, ht]
  rw [nextPacket_some h hb, if_neg inTurn]
  exact takePacket_fits (by simpa [nextPart] using hl)

end

theorem exec_mctpReassemblyTimeout {s : State} {k : Fin 8} {b : Reasm} (h : s.mbus.buffers.look k.val = some b) :
    exec (.mctpReassemblyTimeout k) s = guarded (decide (b.lastNs + 100000000 < s.clk.ns)) (dropBuffer k.val) s := by
  show execMctpReassemblyTimeout k s = _
  unfold execMctpReassemblyTimeout
  rw [h]
  rfl

theorem exec_setEndpointId (port : Fin 3) (eid : BitVec 8) (s : State) :
    exec (.setEndpointId port eid) s = guarded (portServes s port.val) (setEid port.val eid) s := rfl

theorem exec_getEndpointId (port : Fin 3) (s : State) :
    exec (.getEndpointId port) s = guarded (portServes s port.val) (getEid port.val) s := rfl

theorem exec_getEndpointUuid (port : Fin 3) (s : State) :
    exec (.getEndpointUuid port) s = guarded (portServes s port.val) (getUuid port.val) s := rfl

theorem exec_getMctpVersionSupport (port : Fin 3) (s : State) :
    exec (.getMctpVersionSupport port) s = guarded (portServes s port.val) (getMctpVersions port.val) s := rfl

theorem exec_getMessageTypeSupport (port : Fin 3) (s : State) :
    exec (.getMessageTypeSupport port) s = guarded (portServes s port.val) (getTypes port.val) s := rfl

/-! ## The packets and the control messages -/

/-- Settles O22: a packet starts a message or continues one, and each control request is one response. -/
theorem mctpControlIsServed : Obligations.MctpControlIsServed := by
  unfold Obligations.MctpControlIsServed
  refine ⟨fun s p src seq tag body k hs hl ht hb hf => ?begins, fun s p src seq tag eom body hs hl ht hb => ?unknown,
    fun s p src seq tag eom body hs hl ht hb hf => ?full, fun s k b hb ht => (exec_mctpReassemblyTimeout hb).trans (guarded_true (decide_eq_true ht)),
    fun s p src dst eom seq tag body hs hl hd => ?first, fun s p src dst eom seq tag body hs hl hd => ?later, fun s k hw => ?inTime,
    fun n s => ?signal, fun s p eid hs he => ?null, fun s p eid hs h0 h1 => ?given, fun s p hs => ?eid, fun s p hs => ?uuid,
    fun s p hs => ?versions, fun s p hs => ?types, fun p src dst som eom seq tag body s hg => ?notTaken,
    fun p eid s hg => (exec_setEndpointId p eid s).trans (guarded_false hg), fun p s hg => (exec_getEndpointId p s).trans (guarded_false hg),
    fun p s hg => (exec_getEndpointUuid p s).trans (guarded_false hg), fun p s hg => (exec_getMctpVersionSupport p s).trans (guarded_false hg),
    fun p s hg => (exec_getMessageTypeSupport p s).trans (guarded_false hg)⟩
  case begins =>
    have discarded := messageDiscarded_none hb
    rw [exec_mctpPacket ⟨hs, hl, .inl rfl⟩, if_pos rfl, startMessage_takes ht (discarded.symm ▸ hf), discarded,
      takePacket_fits (hl.trans (by decide)), if_neg nofun]
    rfl
  case unknown => rw [exec_mctpPacket ⟨hs, hl, .inl rfl⟩, if_pos rfl, startMessage_unknown ht, messageDiscarded_none hb]
  case full =>
    have discarded := messageDiscarded_none hb
    rw [exec_mctpPacket ⟨hs, hl, .inl rfl⟩, if_pos rfl, startMessage_full ht (discarded.symm ▸ hf), discarded]
  case first =>
    refine ⟨fun ht => ?_, fun ht hf => ?_, fun k ht hf => ?_⟩
    · rw [exec_mctpPacket ⟨hs, hl, hd⟩, if_pos rfl, startMessage_unknown ht]
      rfl
    · rw [exec_mctpPacket ⟨hs, hl, hd⟩, if_pos rfl, startMessage_full ht hf]
      rfl
    · rw [exec_mctpPacket ⟨hs, hl, hd⟩, if_pos rfl, startMessage_takes ht hf, takePacket_fits (hl.trans (by decide))]
      rfl
  case later =>
    refine ⟨fun hn => ?_, fun k b hb hk bad => ?_, fun k b hb hk hn ht hf => ?_⟩
    · rw [exec_mctpPacket ⟨hs, hl, hd⟩, if_neg nofun, nextPacket_none hn]
    · rw [exec_mctpPacket ⟨hs, hl, hd⟩, if_neg nofun, nextPacket_discards hb hk bad]
    · rw [exec_mctpPacket ⟨hs, hl, hd⟩, if_neg nofun, nextPacket_continues hb hk hn ht hf]
      rfl
  case inTime =>
    cases hb : s.mbus.buffers.look k.val with
    | none =>
      show execMctpReassemblyTimeout k s = _
      unfold execMctpReassemblyTimeout
      rw [hb]
    | some b => exact (exec_mctpReassemblyTimeout hb).trans (guarded_false (decide_eq_false (Nat.not_lt.mpr (hw b hb))))
  case signal =>
    unfold pendingSignal
    split
    · rfl
    · exact (List.append_nil _).symm
  case null =>
    obtain ⟨id, out, sessions, -⟩ := control_answers p.val 1 [2] s
    refine ⟨_, (exec_setEndpointId p eid s).trans (guarded_true hs), ?_⟩
    rw [setEid_null he]
    exact ⟨id, out, sessions⟩
  case given =>
    obtain ⟨id, out, sessions, life⟩ := control_answers p.val 1 [0, 0, eid, 0] (modMbus (fun m => { m with eid := eid }) s)
    refine ⟨_, (exec_setEndpointId p eid s).trans (guarded_true hs), ?_⟩
    rw [setEid_given h0 h1]
    exact ⟨id, out.trans (by rw [pendingSignal_modMbus_out]; rfl), sessions, life⟩
  case eid =>
    obtain ⟨id, out, sessions, -⟩ := control_answers p.val 2 [0, s.mbus.eid, 0, 0] s
    exact ⟨_, (exec_getEndpointId p s).trans (guarded_true hs), out, id, sessions⟩
  case uuid =>
    obtain ⟨id, out, sessions, -⟩ := control_answers p.val 3 ([0] ++ padTo 16 Config.endpointUuid) s
    exact ⟨_, (exec_getEndpointUuid p s).trans (guarded_true hs), out, id, sessions⟩
  case versions =>
    obtain ⟨id, out, sessions, -⟩ := control_answers p.val 4 ([0] ++ Config.mctpVersions) s
    exact ⟨_, (exec_getMctpVersionSupport p s).trans (guarded_true hs), out, id, sessions⟩
  case types =>
    obtain ⟨id, out, sessions, -⟩ := control_answers p.val 5 [0, 2, 5, 6] s
    exact ⟨_, (exec_getMessageTypeSupport p s).trans (guarded_true hs), out, id, sessions⟩
  case notTaken =>
    show execMctpPacket p src dst som eom seq tag body s = _
    exact guarded_false hg

end Sys2Proof.Proofs
end

section
/-! SPDM before a session: who is answered, the dialog with an endpoint, the certificates, and the exchange that opens a session
(R348 to R350). -/

namespace Sys2Proof.Proofs

open Sys2Proof Sys2Proof.Machine Sys2Proof.Laws Sys2Proof.Safety

/-! ## Who is served (R348) -/

section

variable {src : SpdmSource} {a : Audience} {act : State → State} {s : State}

theorem serve_closed (h : portServes s src.port.val = false) : serve src a act s = s := by
  unfold serve
  rw [h]
  rfl

theorem serve_stray (h : portServes s src.port.val = true) (hs : src.session.isSome = true) (hx : sourceSession s src = none) :
    serve src a act s = strayMessage s := by
  unfold serve
  rw [h, hs, hx]
  rfl

/-- The state in which a sender's request is judged: a known one's is not metered. -/
def admitted (known : Bool) (src : SpdmSource) (s : State) : Bool × State := if known then (true, s) else meter src s

theorem serve_unnamed (h : portServes s src.port.val = true) (hs : src.session = none) : serve src a act s =
    if !(admitted (knownEid s src.eid) src s).1 then (admitted (knownEid s src.eid) src s).2
    else if serves a (knownEid s src.eid) none then act (admitted (knownEid s src.eid) src s).2
    else spdmError src errUnexpected (admitted (knownEid s src.eid) src s).2 := by
  have hx : sourceSession s src = none := by
    unfold sourceSession
    rw [hs]
  have carried : ¬ (src.session.isSome && (sourceSession s src).isNone) = true := by simp [hs]
  unfold serve
  rw [if_neg (by simp [h]), if_neg carried, hx]
  simp only [Option.any_none, Bool.not_false, Bool.and_true]
  rfl

/-- The session's sender is known once its handshake is over. -/
abbrev knownIn (x : SpdmSession) : Bool := x.known && !x.handshake

theorem serve_named {x : SpdmSession} (h : portServes s src.port.val = true) (hx : sourceSession s src = some x) : serve src a act s =
    if !(admitted (knownIn x) src (heardIn src x s)).1 then (admitted (knownIn x) src (heardIn src x s)).2
    else if serves a (knownIn x) (some x) && !x.ended then act (admitted (knownIn x) src (heardIn src x s)).2
    else spdmError src errUnexpected (admitted (knownIn x) src (heardIn src x s)).2 := by
  have held : ¬ (src.session.isSome && (sourceSession s src).isNone) = true := by simp [hx]
  unfold serve
  rw [if_neg (by simp [h]), if_neg held, hx]
  rfl

theorem admitted_state (known : Bool) (src : SpdmSource) (s : State) :
    (admitted known src s).2 = if known then s else (meter src s).2 := by cases known <;> rfl

theorem admitted_served {known : Bool} (h : known = true ∨ (meter src s).1 = true) : (admitted known src s).1 = true := by
  cases known with
  | true => rfl
  | false => exact h.resolve_left nofun

theorem admitted_turnedAway {known : Bool} (h : known = false) (hm : (meter src s).1 = false) : (admitted known src s).1 = false := by
  rw [h]
  exact hm

end

/-! ## The metering of strangers (R348) -/

section

variable {src : SpdmSource} {s : State}

/-- What a stranger's bucket holds now. -/
def bucketNow (src : SpdmSource) (s : State) : Nat :=
  min (4 * oneRequest) ((strangerOf s src.eid).bucket + (s.clk.ns - (strangerOf s src.eid).heard) * unknownRate s)

/-- A stranger is told BUSY at most once a second. -/
def busyDue (src : SpdmSource) (s : State) : Bool :=
  match (strangerOf s src.eid).busyNs with | none => true | some t => decide (t + 1000000000 ≤ s.clk.ns)

theorem meter_eq (src : SpdmSource) (s : State) : meter src s =
    if oneRequest ≤ bucketNow src s then
      (true, track { strangerOf s src.eid with bucket := bucketNow src s - oneRequest, heard := s.clk.ns } s)
    else if busyDue src s then (false, spdmError src errBusy
      (track { strangerOf s src.eid with bucket := bucketNow src s, heard := s.clk.ns, busyNs := some s.clk.ns } s))
    else (false, modMbus (fun m => { m with dropped := satAdd 32 m.dropped 1 })
      (track { strangerOf s src.eid with bucket := bucketNow src s, heard := s.clk.ns } s)) := rfl

theorem meter_serves (h : oneRequest ≤ bucketNow src s) : meter src s =
    (true, track { strangerOf s src.eid with bucket := bucketNow src s - oneRequest, heard := s.clk.ns } s) := by
  rw [meter_eq, if_pos h]

theorem meter_busy (h : bucketNow src s < oneRequest)
    (hb : (strangerOf s src.eid).busyNs = none ∨ ∃ n, (strangerOf s src.eid).busyNs = some n ∧ n + 1000000000 ≤ s.clk.ns) : meter src s =
      (false, spdmError src errBusy
        (track { strangerOf s src.eid with bucket := bucketNow src s, heard := s.clk.ns, busyNs := some s.clk.ns } s)) := by
  have due : busyDue src s = true := by
    unfold busyDue
    rcases hb with hb | ⟨n, hb, ht⟩
    · rw [hb]
    · rw [hb]
      exact decide_eq_true ht
  rw [meter_eq, if_neg (Nat.not_le.mpr h), if_pos due]

theorem meter_drops (h : bucketNow src s < oneRequest) {n : Nat} (hb : (strangerOf s src.eid).busyNs = some n)
    (ht : s.clk.ns < n + 1000000000) : meter src s = (false, modMbus (fun m => { m with dropped := satAdd 32 m.dropped 1 })
      (track { strangerOf s src.eid with bucket := bucketNow src s, heard := s.clk.ns } s)) := by
  have told : ¬ busyDue src s = true := by
    unfold busyDue
    rw [hb]
    simpa using ht
  rw [meter_eq, if_neg (Nat.not_le.mpr h), if_neg told]

end

/-! ## Answers -/

theorem pendingSignal_out_eq {s t : State} (h : t.out = s.out) (n : Nat) : (pendingSignal n t).out = (pendingSignal n s).out := by
  unfold pendingSignal
  split
  · exact congrArg (· ++ _) h
  · exact h

theorem spdmError_out (src : SpdmSource) (code : Byte) {s t : State} (h : t.out = s.out) :
    (spdmError src code t).out = (pendingSignal src.port.val s).out ++ [.spdm src.port.val src.eid 0x7F [code, 0]] :=
  (busSend_out ..).trans (congrArg (· ++ _) (pendingSignal_out_eq h _))

theorem spdmError_mbus (src : SpdmSource) (code : Byte) (s : State) : ∃ l, (spdmError src code s).mbus = { s.mbus with ports := l } :=
  busSend_kept ..

theorem answer_out (src : SpdmSource) (req : Bytes) (code : Nat) (payload : Bytes) {s t : State} (h : t.out = s.out) :
    (answer src req code payload t).out = (pendingSignal src.port.val s).out ++ [.spdm src.port.val src.eid code payload] := by
  obtain ⟨d, l, e⟩ := answer_frame src req code payload t
  rw [e]
  exact congrArg (· ++ _) (pendingSignal_out_eq h _)

theorem answer_mbus (src : SpdmSource) (req : Bytes) (code : Nat) (payload : Bytes) (s : State) :
    ∃ d l, (answer src req code payload s).mbus = { s.mbus with dialogs := d, ports := l } := by
  obtain ⟨d, l, e⟩ := answer_frame src req code payload s
  exact ⟨d, l, by rw [e]⟩

/-! ## The dialog with an endpoint (R349) -/

theorem dialogOf_setDialog (d : Dialog) (s : State) : dialogOf (setDialog d s) d.eid = some d := by
  show (s.mbus.dialogs.filter (fun e => !(e.eid == d.eid)) ++ [d]).find? (fun e => e.eid == d.eid) = some d
  have others : (s.mbus.dialogs.filter (fun e => !(e.eid == d.eid))).find? (fun e => e.eid == d.eid) = none := by
    simp [List.find?_eq_none]
  rw [List.find?_append, others]
  simp

/-- An answer enters the endpoint's dialog. -/
theorem answer_dialogs (src : SpdmSource) (req : Bytes) (code : Nat) (payload : Bytes) (s : State) :
    (answer src req code payload s).mbus.dialogs =
      s.mbus.dialogs.map (fun d => if d.eid == src.eid then { d with log := d.log ++ req ++ payload } else d) := by
  obtain ⟨l, e⟩ := busSend_kept src.port.val (.spdm src.port.val src.eid code payload)
    (modMbus (fun m => { m with dialogs := m.dialogs.map (fun d => if d.eid == src.eid then { d with log := d.log ++ req ++ payload } else d) }) s)
  exact congrArg Mbus.dialogs e

theorem dialogOf_answer (src : SpdmSource) (req : Bytes) (code : Nat) (payload : Bytes) (s : State) (eid : BitVec 8) :
    dialogOf (answer src req code payload s) eid =
      (dialogOf s eid).map (fun d => if d.eid == src.eid then { d with log := d.log ++ req ++ payload } else d) := by
  unfold dialogOf
  rw [answer_dialogs, List.find?_map]
  congr 2
  funext d
  simp only [Function.comp]
  split <;> rfl

theorem agreed_answer (src : SpdmSource) (req : Bytes) (code : Nat) (payload : Bytes) (s : State) (eid : BitVec 8) :
    agreed (answer src req code payload s) eid = agreed s eid := by
  unfold agreed
  rw [dialogOf_answer]
  cases dialogOf s eid with
  | none => rfl
  | some d =>
    dsimp only [Option.map_some]
    split <;> rfl

theorem agreed_setDialog (d : Dialog) (s : State) : agreed (setDialog d s) d.eid = d.agreed := by
  unfold agreed
  rw [dialogOf_setDialog]

theorem dialogOf_eid {s : State} {eid : BitVec 8} {d : Dialog} (h : dialogOf s eid = some d) : d.eid = eid := by
  simpa using List.find?_some h

/-! ## The requests of an endpoint that is heard -/

/-- The state with another list of strangers. -/
def strangersSet (l : List Stranger) (s : State) : State := { s with mbus := { s.mbus with strangers := l } }

/-- What holds after the request's own effect, whatever strangers are tracked, holds after a request that is heard. -/
theorem heard_runs {src : SpdmSource} {s : State} {act : State → State} {P : State → Prop} {i : Instr} (h : heard src s)
    (hi : exec i s = .next (serve src .anyone act s)) (hp : ∀ l, P (act (strangersSet l s))) : ∃ t, exec i s = .next t ∧ P t := by
  obtain ⟨l, e⟩ := serve_heard h act
  exact ⟨_, hi, e ▸ hp l⟩

section

variable {src : SpdmSource} {s : State}

theorem doCapabilities_begun {flags : BitVec 32} (h : (dialogOf s src.eid).isSome = true) :
    doCapabilities src flags s = answer src ([0xE1] ++ toLe 4 flags.toNat) 0x61 capsReply s := if_pos h

theorem doCapabilities_none {flags : BitVec 32} (h : dialogOf s src.eid = none) :
    doCapabilities src flags s = spdmError src errUnexpected s := if_neg (by simp [h])

theorem doNegotiate_fits {o : AlgOffer} {d : Dialog} (h : dialogOf s src.eid = some d) (ho : offerFits o = true) : doNegotiate src o s =
    answer src ([0xE3] ++ offerBytes o) 0x63 (algorithmsReply ownAlgs) (setDialog { d with agreed := true } s) := by
  unfold doNegotiate
  rw [h]
  exact if_pos ho

theorem doNegotiate_unfit {o : AlgOffer} {d : Dialog} (h : dialogOf s src.eid = some d) (ho : offerFits o = false) :
    doNegotiate src o s = spdmError src errUnsupported s := by
  unfold doNegotiate
  rw [h]
  exact if_neg (ne_true_of_eq_false ho)

theorem doNegotiate_none {o : AlgOffer} (h : dialogOf s src.eid = none) : doNegotiate src o s = spdmError src errUnexpected s := by
  unfold doNegotiate
  rw [h]

theorem doDigests_agreed (h : agreed s src.eid = true) : doDigests src s = answer src [0x81] 0x01 ([0, 1] ++ sha384 (busChain s)) s :=
  if_pos (by simp [h])

theorem whenAgreed_agreed (h : agreed s src.eid = true) (act : State → State) : whenAgreed src act s = act s := if_pos (by simp [h])

theorem whenAgreed_session (h : src.session.isSome = true) (act : State → State) : whenAgreed src act s = act s := if_pos (by simp [h])

theorem whenAgreed_not (h : agreed s src.eid = false) (hs : src.session = none) (act : State → State) :
    whenAgreed src act s = spdmError src errUnexpected s := if_neg (by simp [h, hs])

theorem doCertificate_portion {offset length : Nat} (ha : agreed s src.eid = true) (h : offset < (busChain s).length) :
    doCertificate src 0 offset length s = answer src ([0x82] ++ toLe 1 0 ++ toLe 2 offset ++ toLe 2 length) 0x02
      ([0, 0] ++ toLe 2 (certPortion s offset length).length ++ toLe 2 ((busChain s).length - offset - (certPortion s offset length).length) ++
        certPortion s offset length) s := (whenAgreed_agreed ha _).trans (if_pos (by simp [h]))

theorem doCertificate_none {slot offset length : Nat} (ha : agreed s src.eid = true) (h : slot ≠ 0 ∨ (busChain s).length ≤ offset) :
    doCertificate src slot offset length s = spdmError src errInvalid s :=
  (whenAgreed_agreed ha _).trans (if_neg (by rcases h with h | h <;> simp [h]))

theorem doKeyExchange_full (ha : agreed s src.eid = true) (h : 4 ≤ s.mbus.sessions.length) (q : BitVec 16) (x : Bytes) :
    doKeyExchange src q x s = spdmError src errSessions s := (whenAgreed_agreed ha _).trans (if_pos h)

/-- The session that a key exchange opens in its handshake. -/
def sessionBegun (src : SpdmSource) (q : BitVec 16) (s : State) : SpdmSession :=
  { id := s.mbus.nextSession ++ q, eid := src.eid, port := src.port.val, handshake := true, known := false, chain := [], reqKey := 0,
    rspKey := 0, lastNs := s.clk.ns, lastSeq := 0, ended := false }

theorem islandDraw_mbus (n : Nat) (s : State) : (islandDraw n s).2.mbus = s.mbus := by
  obtain ⟨r, f, e⟩ := islandDraw_frame n s
  rw [e]

theorem islandDraw_clk (n : Nat) (s : State) : (islandDraw n s).2.clk = s.clk := by
  obtain ⟨r, f, e⟩ := islandDraw_frame n s
  rw [e]

theorem signed_mbus (src : SpdmSource) (req body : Bytes) (s : State) : (signed src req body s).2.mbus = s.mbus := islandDraw_mbus ..

theorem signed_clk (src : SpdmSource) (req body : Bytes) (s : State) : (signed src req body s).2.clk = s.clk := islandDraw_clk ..

theorem answer_sessions (src : SpdmSource) (req : Bytes) (code : Nat) (payload : Bytes) (s : State) :
    (answer src req code payload s).mbus.sessions = s.mbus.sessions ∧ (answer src req code payload s).mbus.nextSession = s.mbus.nextSession := by
  obtain ⟨d, l, e⟩ := answer_mbus src req code payload s
  rw [e]
  exact ⟨rfl, rfl⟩

/-- The state in which a new session is in its handshake. -/
def sessionAdded (x : SpdmSession) (s : State) : State :=
  modMbus (fun m => { m with sessions := m.sessions ++ [x], nextSession := m.nextSession + 1 }) s

/-- A key exchange draws its secret and its random part, signs, opens a session, and answers. -/
theorem doKeyExchange_opens (ha : agreed s src.eid = true) (h : s.mbus.sessions.length < 4) (q : BitVec 16) (x : Bytes) :
    ∃ req payload t, doKeyExchange src q x s = answer src req 0x64 payload t ∧ t.mbus = (sessionAdded (sessionBegun src q s) s).mbus := by
  unfold doKeyExchange
  rw [whenAgreed_agreed ha, if_neg (Nat.not_le.mpr h)]
  dsimp only
  refine ⟨_, _, _, rfl, ?_⟩
  simp only [modMbus, signed_mbus, islandDraw_mbus, signed_clk, islandDraw_clk, sessionAdded, sessionBegun]

end

/-! ## FINISH (R348) -/

section

variable {src : SpdmSource} {s : State} {x : SpdmSession}

theorem sourceSession_id (h : sourceSession s src = some x) : src.session = some x.id := by
  unfold sourceSession at h
  cases hs : src.session with
  | none =>
    rw [hs] at h
    cases h
  | some id =>
    rw [hs] at h
    have same : x.id = id := by simpa using List.find?_some h
    rw [same]

/-- A session whose fields other than its ID have changed is found under the same ID. -/
theorem sourceSession_modSpdm {g : SpdmSession → SpdmSession} (h : sourceSession s src = some x) (hg : ∀ y, (g y).id = y.id) :
    sourceSession (modSpdm x.id g s) src = some (g x) := by
  have named := sourceSession_id h
  unfold sourceSession at h ⊢
  rw [named] at h ⊢
  have kept : (fun y : SpdmSession => y.id == x.id) ∘ (fun y => if y.id == x.id then g y else y) = fun y => y.id == x.id := by
    funext y
    simp only [Function.comp]
    split <;> simp [hg]
  show (s.mbus.sessions.map (fun y => if y.id == x.id then g y else y)).find? (fun y => y.id == x.id) = some (g x)
  rw [List.find?_map, kept]
  have found : s.mbus.sessions.find? (fun y => y.id == x.id) = some x := h
  rw [found]
  simp

/-- A session of the changed ID is one that the change made. -/
theorem modSpdm_mem {id : BitVec 32} {g : SpdmSession → SpdmSession} {s : State} {y : SpdmSession} (h : y ∈ (modSpdm id g s).mbus.sessions)
    (hy : y.id = id) : ∃ z, y = g z := by
  obtain ⟨z, -, rfl⟩ := List.mem_map.mp h
  split at hy
  · next same => exact ⟨z, by rw [if_pos same]⟩
  · next other => exact absurd hy (by simpa using other)

/-- The sender's session after it was heard. -/
def sessionHeard (src : SpdmSource) (x : SpdmSession) (s : State) : SpdmSession := { x with lastNs := s.clk.ns, port := src.port.val }

theorem sourceSession_heardIn (h : sourceSession s src = some x) : sourceSession (heardIn src x s) src = some (sessionHeard src x s) :=
  sourceSession_modSpdm h fun _ => rfl

/-- The session is established, its partner known when an anchor stands. -/
def established (x : SpdmSession) (chain : Bytes) (s : State) : State :=
  modSpdm x.id (fun y => { y with handshake := false, known := mbusAnchorSet s, chain := if mbusAnchorSet s then chain else [] }) s

/-- A known partner is no stranger. -/
def noStranger (eid : BitVec 8) (s : State) : State :=
  modMbus (fun m => { m with strangers := m.strangers.filter (fun y => !(y.eid == eid)) }) s

theorem doFinish_ok {chain signature verify : Bytes} (h : sourceSession s src = some x) (ok : finishOk s x.eid chain signature verify = true) :
    doFinish src chain signature verify s = answer src ([0xE5] ++ chain ++ signature ++ verify) 0x65 (zeros 2)
      (if mbusAnchorSet s then noStranger x.eid (established x chain s) else established x chain s) := by
  unfold doFinish
  rw [h]
  exact if_pos ok

theorem doFinish_fails {chain signature verify : Bytes} (h : sourceSession s src = some x)
    (bad : finishOk s x.eid chain signature verify = false) : doFinish src chain signature verify s =
      spdmError src errDecrypt (strayMessage (dropSessions [x] s)) := by
  unfold doFinish
  rw [h]
  exact if_neg (ne_true_of_eq_false bad)

theorem dropSessions_mbus (l : List SpdmSession) (s : State) :
    (dropSessions l s).mbus = { s.mbus with sessions := s.mbus.sessions.filter (fun x => !l.any (fun g => g.id == x.id)) } := by
  unfold dropSessions
  dsimp only
  split <;> rfl

theorem dropSessions_life (l : List SpdmSession) (s : State) : (dropSessions l s).life = s.life := by
  unfold dropSessions
  dsimp only
  split <;> rfl

theorem dropSessions_out (l : List SpdmSession) (s : State) : (dropSessions l s).out = s.out := by
  unfold dropSessions
  dsimp only
  split <;> rfl

theorem dropSessions_gone (x : SpdmSession) (s : State) : ∀ y ∈ (dropSessions [x] s).mbus.sessions, y.id ≠ x.id := by
  intro y hy
  rw [dropSessions_mbus] at hy
  obtain ⟨-, other⟩ := List.mem_filter.mp hy
  intro same
  simp [same] at other

end

/-! ## The requests -/

/-- Settles O23: the metering decides who is served, and each request is answered as its dialog stands. -/
theorem spdmNegotiationIsServedToAnyone : Obligations.SpdmNegotiationIsServedToAnyone := by
  unfold Obligations.SpdmNegotiationIsServedToAnyone
  refine ⟨fun s src a b c d e f g slot offset length q x y z => ⟨rfl, rfl, rfl, rfl, rfl, rfl, rfl⟩, fun s src a act h => serve_closed h,
    fun s src a act h hs hx => serve_stray h hs hx, fun s src a act h hs => ?unnamed, fun s src a act x h hx => ?named,
    fun s src => ?meters, fun s src h => ?version, fun s src flags h hd => ?capabilities, fun s src a b c d e f g h hd ho => ?algorithms,
    fun s src a b c d e f g h hd ho => ?unfit, fun s src h ha => ?digests, fun s src offset length h ha => ?certificate,
    fun s src slot offset length h ha hs => ?otherSlot, fun s src q x h ha hl => ?exchange, fun s src q x h ha hl => ?noRoom,
    fun s src f a b c d e g k h hd => ?noDialog, fun s src slot offset length q x h ha => ?notAgreed,
    fun s src x chain signature verify h hx hh he hm => ?finish⟩
  case unnamed =>
    rw [serve_unnamed h hs, admitted_state]
    refine ⟨fun hk hm => ?_, fun hk => ?_⟩
    · rw [admitted_turnedAway hk hm]
      rfl
    · rw [admitted_served hk]
      rfl
  case named =>
    rw [serve_named h hx, admitted_state]
    refine ⟨fun hk hm => ?_, fun hk => ?_⟩
    · rw [admitted_turnedAway hk hm]
      rfl
    · rw [admitted_served hk]
      rfl
  case meters =>
    refine ⟨meter_serves, meter_busy, fun empty told => ?_⟩
    obtain ⟨n, hb, ht⟩ := told
    rw [meter_drops empty hb ht]
    exact ⟨rfl, rfl, rfl⟩
  case version =>
    refine heard_runs (act := doGetVersion src) h rfl fun l => ⟨answer_out _ _ _ _ rfl, ?_, ?_, (answer_sessions ..).1⟩
    · rw [doGetVersion, dialogOf_answer, Option.isSome_map]
      exact congrArg Option.isSome (dialogOf_setDialog { eid := src.eid, log := [], agreed := false } _)
    · rw [doGetVersion, agreed_answer]
      exact agreed_setDialog { eid := src.eid, log := [], agreed := false } _
  case capabilities =>
    refine heard_runs (act := doCapabilities src flags) h rfl fun l => ?_
    rw [doCapabilities_begun (s := strangersSet l s) hd]
    exact ⟨answer_out _ _ _ _ rfl, (answer_sessions ..).1⟩
  case algorithms =>
    obtain ⟨x, hx⟩ := Option.isSome_iff_exists.mp hd
    refine heard_runs (act := doNegotiate src _) h rfl fun l => ?_
    rw [doNegotiate_fits (s := strangersSet l s) hx ho]
    refine ⟨answer_out _ _ _ _ rfl, ?_⟩
    rw [agreed_answer, ← dialogOf_eid hx]
    exact agreed_setDialog { x with agreed := true } _
  case unfit =>
    obtain ⟨x, hx⟩ := Option.isSome_iff_exists.mp hd
    refine heard_runs (act := doNegotiate src _) h rfl fun l => ?_
    rw [doNegotiate_unfit (s := strangersSet l s) hx ho]
    obtain ⟨p, e⟩ := spdmError_mbus src errUnsupported (strangersSet l s)
    exact ⟨spdmError_out _ _ rfl, by rw [e]; rfl⟩
  case digests =>
    refine heard_runs (act := doDigests src) h rfl fun l => ?_
    rw [doDigests_agreed (s := strangersSet l s) ha]
    exact answer_out _ _ _ _ rfl
  case certificate =>
    refine heard_runs (act := doCertificate src 0 offset length) h rfl fun l => ⟨fun inside => ?_, fun beyond => ?_⟩
    · rw [doCertificate_portion (s := strangersSet l s) ha inside]
      exact answer_out _ _ _ _ rfl
    · rw [doCertificate_none (s := strangersSet l s) ha (.inr beyond)]
      exact spdmError_out _ _ rfl
  case otherSlot =>
    refine heard_runs (act := doCertificate src slot offset length) h rfl fun l => ?_
    rw [doCertificate_none (s := strangersSet l s) ha (.inl hs)]
    exact spdmError_out _ _ rfl
  case exchange =>
    refine heard_runs (act := doKeyExchange src q x) h rfl fun l => ?_
    obtain ⟨req, payload, t, e, added⟩ := doKeyExchange_opens (s := strangersSet l s) ha hl q x
    obtain ⟨sessions, next⟩ := answer_sessions src req 0x64 payload t
    rw [e, sessions, next, added]
    exact ⟨rfl, rfl⟩
  case noRoom =>
    refine heard_runs (act := doKeyExchange src q x) h rfl fun l => ?_
    rw [doKeyExchange_full (s := strangersSet l s) ha hl]
    obtain ⟨p, e⟩ := spdmError_mbus src errSessions (strangersSet l s)
    exact ⟨spdmError_out _ _ rfl, by rw [e]; rfl⟩
  case noDialog =>
    refine ⟨heard_runs (act := doCapabilities src f) h rfl fun l => ?_, heard_runs (act := doNegotiate src _) h rfl fun l => ?_⟩
    · rw [doCapabilities_none (s := strangersSet l s) hd]
      exact spdmError_out _ _ rfl
    · rw [doNegotiate_none (s := strangersSet l s) hd]
      exact spdmError_out _ _ rfl
  case notAgreed =>
    obtain ⟨-, unnamed, -⟩ := id h
    refine ⟨heard_runs (act := doDigests src) h rfl fun l => ?_, heard_runs (act := doCertificate src slot offset length) h rfl fun l => ?_,
      heard_runs (act := doKeyExchange src q x) h rfl fun l => ?_⟩
    · rw [doDigests, whenAgreed_not (s := strangersSet l s) ha unnamed]
      exact spdmError_out _ _ rfl
    · rw [doCertificate, whenAgreed_not (s := strangersSet l s) ha unnamed]
      exact spdmError_out _ _ rfl
    · rw [doKeyExchange, whenAgreed_not (s := strangersSet l s) ha unnamed]
      exact spdmError_out _ _ rfl
  case finish =>
    obtain ⟨l, e⟩ := meter_frame hm
    have runs : serve src .handshake (doFinish src chain signature verify) s =
        doFinish src chain signature verify (strangersSet l (heardIn src x s)) := by
      have unknown : knownIn x = false := by simp [hh]
      have serving : serves .handshake (knownIn x) (some x) && !x.ended := by simp [serves, hh, he]
      rw [serve_named h hx, if_pos serving, unknown]
      simp only [admitted, e]
      rfl
    have found : sourceSession (strangersSet l (heardIn src x s)) src = some (sessionHeard src x s) := sourceSession_heardIn hx
    refine ⟨_, congrArg Host.Outcome.next runs, fun ok => ?_, fun bad => ?_⟩
    · rw [doFinish_ok found ok, (answer_sessions ..).1]
      refine ⟨answer_out _ _ _ _ (by split <;> rfl), fun y hy same => ?_⟩
      have changed : y ∈ (established (sessionHeard src x s) chain (strangersSet l (heardIn src x s))).mbus.sessions := by
        split at hy <;> exact hy
      obtain ⟨z, rfl⟩ := modSpdm_mem changed same
      exact ⟨rfl, rfl⟩
    · obtain ⟨p, e⟩ := spdmError_mbus src errDecrypt (strayMessage (dropSessions [sessionHeard src x s] (strangersSet l (heardIn src x s))))
      rw [doFinish_fails found bad, e]
      refine ⟨?_, dropSessions_gone (sessionHeard src x s) _⟩
      show satAdd 32 (dropSessions [sessionHeard src x s] _).mbus.authFail 1 = _
      rw [dropSessions_mbus]
      rfl

end Sys2Proof.Proofs
end

section
/-! SPDM in an established session: measurements, the session's own requests, chunks, and the commands it carries (R348 to R353). -/

namespace Sys2Proof.Proofs

open Sys2Proof Sys2Proof.Machine Sys2Proof.Laws Sys2Proof.Safety

/-! ## The sender's session -/

section

variable {src : SpdmSource} {x : SpdmSession} {s : State}

theorem inSession_named (h : inSession src x s) : src.session.isSome = true := by
  obtain ⟨-, hx, -⟩ := h
  rw [sourceSession_id hx]
  rfl

theorem inSession_found (h : inSession src x s) : sourceSession (heardIn src x s) src = some (sessionHeard src x s) := by
  obtain ⟨-, hx, -⟩ := h
  exact sourceSession_heardIn hx

/-- What holds after the request's own effect on the state in which its session was heard holds after the request. -/
theorem session_runs {act : State → State} {P : State → Prop} {i : Instr} {a : Audience} (h : inSession src x s) (ha : a ≠ .handshake)
    (hi : exec i s = .next (serve src a act s)) (hp : P (act (heardIn src x s))) : ∃ t, exec i s = .next t ∧ P t :=
  ⟨_, hi, serve_session h a ha act ▸ hp⟩

theorem chunkAudience_ne (src : SpdmSource) : chunkAudience src ≠ .handshake := by
  unfold chunkAudience
  split <;> nofun

end

/-! ## What hearing a session and drawing leave as it is -/

theorem islandDraw_busChain (n : Nat) (s : State) : busChain (islandDraw n s).2 = busChain s := by
  obtain ⟨r, f, e⟩ := islandDraw_frame n s
  rw [e]
  rfl

theorem islandDraw_length (n : Nat) (s : State) : (islandDraw n s).1.length = n := by
  unfold islandDraw
  split <;> exact length_padTo ..

theorem islandDraw_out (n : Nat) (s : State) : (islandDraw n s).2.out = s.out := by
  obtain ⟨r, f, e⟩ := islandDraw_frame n s
  rw [e]

theorem islandDraw_life (n : Nat) (s : State) : (islandDraw n s).2.life = s.life := by
  obtain ⟨r, f, e⟩ := islandDraw_frame n s
  rw [e]

theorem islandDraw_prism (n : Nat) (s : State) : (islandDraw n s).2.prism = s.prism := by
  obtain ⟨r, f, e⟩ := islandDraw_frame n s
  rw [e]

/-- Two states that agree in everything an answer shows and keeps: the messages, the life cycle, the commands and the bus. -/
structure SameForBus (s t : State) : Prop where
  out : t.out = s.out
  life : t.life = s.life
  prism : t.prism = s.prism
  mbus : t.mbus = s.mbus

theorem SameForBus.trans {s t u : State} (h : SameForBus s t) (k : SameForBus t u) : SameForBus s u :=
  ⟨k.out.trans h.out, k.life.trans h.life, k.prism.trans h.prism, k.mbus.trans h.mbus⟩

theorem islandDraw_sameForBus (n : Nat) (s : State) : SameForBus s (islandDraw n s).2 :=
  ⟨islandDraw_out n s, islandDraw_life n s, islandDraw_prism n s, islandDraw_mbus n s⟩

theorem busSend_life (n : Nat) (o : Out) (s : State) : (busSend n o s).life = s.life := by
  obtain ⟨l, e⟩ := busSend_frame n o s
  rw [e]

theorem busSend_prism (n : Nat) (o : Out) (s : State) : (busSend n o s).prism = s.prism := by
  obtain ⟨l, e⟩ := busSend_frame n o s
  rw [e]

theorem answer_life (src : SpdmSource) (req : Bytes) (code : Nat) (payload : Bytes) (s : State) :
    (answer src req code payload s).life = s.life := by
  obtain ⟨d, l, e⟩ := answer_frame src req code payload s
  rw [e]

theorem answer_prism (src : SpdmSource) (req : Bytes) (code : Nat) (payload : Bytes) (s : State) :
    (answer src req code payload s).prism = s.prism := by
  obtain ⟨d, l, e⟩ := answer_frame src req code payload s
  rw [e]

theorem busSend_out_of {s t : State} (h : t.out = s.out) (n : Nat) (o : Out) : (busSend n o t).out = (pendingSignal n s).out ++ [o] :=
  (busSend_out ..).trans (congrArg (· ++ _) (pendingSignal_out_eq h n))

theorem busSend_modMbus_out {s t : State} (h : t.out = s.out) (n : Nat) (o : Out) (g : Mbus → Mbus) :
    (busSend n o (modMbus g t)).out = (pendingSignal n s).out ++ [o] := busSend_out_of (t := modMbus g t) h n o

theorem busSend_chunksOut (n : Nat) (o : Out) (s : State) : (busSend n o s).mbus.chunksOut = s.mbus.chunksOut := by
  obtain ⟨l, e⟩ := busSend_kept n o s
  rw [e]

theorem heardIn_out (src : SpdmSource) (x : SpdmSession) (s : State) : (heardIn src x s).out = s.out := rfl

/-! ## CHALLENGE and GET_MEASUREMENTS (R350, R351) -/

section

variable {src : SpdmSource} {s : State}

theorem doChallenge_refused {slot : Nat} (hn : src.session.isSome = true) (h : slot ≠ 0) (nonce : Bytes) :
    doChallenge src slot nonce s = spdmError src errInvalid s := (whenAgreed_session hn _).trans (if_neg h)

/-- A challenge of slot 0 draws, signs, and answers with the digest of the chain first. -/
theorem doChallenge_answers (hn : src.session.isSome = true) (nonce : Bytes) : ∃ req body t,
    doChallenge src 0 nonce s = answer src req 0x03 ([0, 1] ++ sha384 (busChain s) ++ body) t ∧ SameForBus s t := by
  unfold doChallenge
  rw [whenAgreed_session hn, if_pos rfl]
  dsimp only
  rw [islandDraw_busChain]
  simp only [List.append_assoc]
  exact ⟨_, _, _, rfl, (islandDraw_sameForBus ..).trans (islandDraw_sameForBus ..)⟩

/-- The measurement blocks that an index asks for: none, every one, or those of that index. -/
def blocksAsked (i : BitVec 8) (s : State) : List (Nat × Nat × Bytes) :=
  if i = 0 then [] else if i = 0xFF then measurementBlocks s else (measurementBlocks s).filter (fun b => b.1 == i.toNat)

/-- The start of MEASUREMENTS: the count where it was asked for, and the records. -/
def measurementsHead (i : BitVec 8) (s : State) : Bytes :=
  [BitVec.ofNat 8 (if i = 0 then (measurementBlocks s).length else 0), 0] ++ toLe 1 (blocksAsked i s).length ++
    toLe 3 ((blocksAsked i s).map blockBytes).flatten.length ++ ((blocksAsked i s).map blockBytes).flatten

theorem blocksAsked_of_ne {i : BitVec 8} (h : i ≠ 0) (s : State) : blocksAsked i s =
    if i = 0xFF then measurementBlocks s else (measurementBlocks s).filter (fun b => b.1 == i.toNat) := if_neg h

theorem blocksAsked_nonempty {i : BitVec 8} {s : State} (h0 : i ≠ 0) (h : i = 0xFF ∨ ∃ b ∈ measurementBlocks s, b.1 = i.toNat) :
    blocksAsked i s ≠ [] := by
  rw [blocksAsked_of_ne h0]
  split
  · simp [measurementBlocks]
  · next one =>
    obtain ⟨b, hb, hi⟩ := h.resolve_left one
    exact List.ne_nil_of_mem (List.mem_filter.mpr ⟨hb, by simpa using hi⟩)

theorem blocksAsked_empty {i : BitVec 8} {s : State} (h0 : i ≠ 0) (h1 : i ≠ 0xFF) (h : ∀ b ∈ measurementBlocks s, b.1 ≠ i.toNat) :
    blocksAsked i s = [] := by
  rw [blocksAsked_of_ne h0, if_neg h1, List.filter_eq_nil_iff]
  simpa using h

theorem measurementsHead_of_ne {i : BitVec 8} (h : i ≠ 0) (s : State) : measurementsHead i s = [0, 0] ++ toLe 1 (blocksAsked i s).length ++
    toLe 3 ((blocksAsked i s).map blockBytes).flatten.length ++ ((blocksAsked i s).map blockBytes).flatten := by
  unfold measurementsHead
  rw [if_neg h]
  rfl

theorem measurementsHead_length (i : BitVec 8) (s : State) :
    (measurementsHead i s).length = ((blocksAsked i s).map blockBytes).flatten.length + 6 := by
  unfold measurementsHead
  simp only [List.length_append, length_toLe, List.length_cons, List.length_nil]
  omega

theorem measurementsHead_count (s : State) : measurementsHead 0 s = [BitVec.ofNat 8 (measurementBlocks s).length, 0, 0, 0, 0, 0] := by
  have none : toLe 1 0 ++ toLe 3 0 = ([0, 0, 0, 0] : List (BitVec 8)) := by decide
  simpa [measurementsHead, blocksAsked] using none

theorem doMeasurements_refused {i : BitVec 8} (hn : src.session.isSome = true) (h0 : i ≠ 0) (h : blocksAsked i s = []) (nonce : Bytes) :
    doMeasurements src i nonce s = spdmError src errInvalid s := by
  have empty : (i != 0 && (blocksAsked i s).isEmpty) = true := by simpa [h] using h0
  exact (whenAgreed_session hn _).trans (if_pos empty)

/-- Measurements that are asked for are drawn on, signed and answered. -/
theorem doMeasurements_answers {i : BitVec 8} (hn : src.session.isSome = true) (h : i = 0 ∨ blocksAsked i s ≠ []) (nonce : Bytes) :
    ∃ req rest t, doMeasurements src i nonce s = answerLarge src req 0x60 (measurementsHead i s ++ rest) t ∧ rest.length = 130 ∧
      SameForBus s t := by
  have some : ¬ (i != 0 && (blocksAsked i s).isEmpty) = true := by rcases h with h | h <;> simp [h]
  refine ⟨[0xE0, i] ++ padTo 32 nonce, (islandDraw 32 s).1 ++ (zeros 2 ++ padTo 96 (signed src ([0xE0, i] ++ padTo 32 nonce)
    (measurementsHead i s ++ (islandDraw 32 s).1 ++ zeros 2) (islandDraw 32 s).2).1), (signed src ([0xE0, i] ++ padTo 32 nonce)
    (measurementsHead i s ++ (islandDraw 32 s).1 ++ zeros 2) (islandDraw 32 s).2).2, ?_, ?_,
    (islandDraw_sameForBus ..).trans (islandDraw_sameForBus ..)⟩
  · unfold doMeasurements
    rw [whenAgreed_session hn, ← List.append_assoc, ← List.append_assoc]
    exact if_neg some
  · simp [islandDraw_length, zeros]

theorem answerLarge_small {req payload : Bytes} {code : Nat} (h : payload.length + 2 ≤ 4096) :
    answerLarge src req code payload s = answer src req code payload s := if_pos h

/-- The large response that waits for CHUNK_GET. -/
def chunksWaiting (src : SpdmSource) (code : Nat) (payload : Bytes) (s : State) : Chunking :=
  { eid := src.eid, handle := s.mbus.nextChunk, data := toLe 1 code ++ payload, next := 0, size := payload.length + 1 }

theorem answerLarge_large {req payload : Bytes} {code : Nat} {t : State} (hs : t.out = s.out) (h : 4096 < payload.length + 2) :
    (answerLarge src req code payload t).out = (pendingSignal src.port.val s).out ++
      [.spdm src.port.val src.eid 0x7F [0x0F, 0, t.mbus.nextChunk]] ∧
        chunksWaiting src code payload t ∈ (answerLarge src req code payload t).mbus.chunksOut := by
  unfold answerLarge
  rw [if_neg (Nat.not_le.mpr h)]
  dsimp only
  refine ⟨busSend_modMbus_out hs .., ?_⟩
  rw [busSend_chunksOut]
  exact List.mem_append_right _ (List.mem_singleton_self _)

theorem answerLarge_life (req payload : Bytes) (code : Nat) : (answerLarge src req code payload s).life = s.life := by
  unfold answerLarge
  split
  · exact answer_life ..
  · exact busSend_life ..

end

/-! ## The session's own requests (R349, R353) -/

section

variable {src : SpdmSource} {x : SpdmSession} {s : State}

theorem doKeyUpdate_refused {op : BitVec 8} (h : op = 0 ∨ 3 < op.toNat) (tag : BitVec 8) :
    doKeyUpdate src op tag s = spdmError src errInvalid s := if_pos (by simpa using h)

/-- The keys that an operation of KEY_UPDATE raises. -/
def keysRaised (op : BitVec 8) (x : SpdmSession) : SpdmSession :=
  { x with reqKey := x.reqKey + (if op = 3 then 0 else 1), rspKey := x.rspKey + (if op = 2 then 1 else 0) }

theorem doKeyUpdate_raises {op : BitVec 8} {id : BitVec 32} (h : op = 1 ∨ op = 2 ∨ op = 3) (hs : src.session = some id) (tag : BitVec 8) :
    doKeyUpdate src op tag s =
      busSend src.port.val (.spdm src.port.val src.eid 0x69 [op, tag]) (modSpdm id (keysRaised op) s) := by
  have named : ¬ (op = 0 || decide (3 < op.toNat)) = true := by rcases h with rfl | rfl | rfl <;> decide
  unfold doKeyUpdate
  rw [if_neg named, hs]
  rfl

/-- A session of the changed ID becomes what the change makes of it. -/
theorem modSpdm_has {id : BitVec 32} {g : SpdmSession → SpdmSession} {y : SpdmSession} (h : y ∈ s.mbus.sessions) (hy : y.id = id) :
    g y ∈ (modSpdm id g s).mbus.sessions :=
  List.mem_map.mpr ⟨y, h, if_pos (by simpa using hy)⟩

theorem heardIn_has {y : SpdmSession} (h : y ∈ s.mbus.sessions) (hy : y.id = x.id) :
    sessionHeard src y s ∈ (heardIn src x s).mbus.sessions := modSpdm_has h hy

theorem doEndSession_ends (h : sourceSession s src = some x) : doEndSession src s =
    dropSessions [x] (busSend src.port.val (.spdm src.port.val src.eid 0x6C (zeros 2)) s) := by
  unfold doEndSession
  rw [h]

theorem busSend_sessions (n : Nat) (o : Out) (s : State) : (busSend n o s).mbus.sessions = s.mbus.sessions := by
  obtain ⟨l, e⟩ := busSend_kept n o s
  rw [e]

end

/-! ## Chunks (R349) -/

section

variable (src : SpdmSource) (h : BitVec 8) (n : BitVec 16) (size : Nat) (s : State)

/-- The request that a chunk continues, or begins with sequence number 0. -/
def chunkUnder : Chunking :=
  if n = 0 then { eid := src.eid, handle := h, data := [], next := 0, size := size }
  else (s.mbus.chunksIn.find? (fun c => c.eid == src.eid && c.handle == h)).getD { eid := src.eid, handle := h, data := [], next := 0, size := 0 }

/-- The request is no longer kept. -/
def chunkTaken : State :=
  modMbus (fun m => { m with chunksIn := m.chunksIn.filter (fun y => !(y.eid == src.eid && y.handle == h)) }) s

/-- The acknowledgement of a chunk. -/
def chunkAcked : State := busSend src.port.val (.spdm src.port.val src.eid 0x05 ([0, h] ++ toLe 2 n.toNat)) (chunkTaken src h s)

/-- A chunk is out of order, too long, or does not fit the size of its request. -/
def chunkBad (last : Bool) (data : Bytes) : Bool :=
  n.toNat != (chunkUnder src h n size s).next || decide (4096 < data.length + 12) || decide (65536 < (chunkUnder src h n size s).size) ||
    decide ((chunkUnder src h n size s).size < ((chunkUnder src h n size s).data ++ data).length) ||
    (last && ((chunkUnder src h n size s).data ++ data).length != (chunkUnder src h n size s).size)

theorem doChunkSend_eq (last : Bool) (data : Bytes) : doChunkSend src h n last size data s =
    if chunkBad src h n size s last data then spdmError src errInvalid (chunkTaken src h s)
    else if last then serveMessage src ((chunkUnder src h n size s).data ++ data) (chunkAcked src h n s)
    else modMbus (fun m => { m with chunksIn := m.chunksIn ++ [{ chunkUnder src h n size s with
      data := (chunkUnder src h n size s).data ++ data, next := (chunkUnder src h n size s).next + 1 }] }) (chunkAcked src h n s) := rfl

end

theorem chunkBad_iff {src : SpdmSource} {h : BitVec 8} {n : BitVec 16} {size : Nat} {s : State} {last : Bool} {data : Bytes} :
    chunkBad src h n size s last data = true ↔ n.toNat ≠ (chunkUnder src h n size s).next ∨ 4084 < data.length ∨
      65536 < (chunkUnder src h n size s).size ∨
      (chunkUnder src h n size s).size < (chunkUnder src h n size s).data.length + data.length ∨
      (last = true ∧ (chunkUnder src h n size s).data.length + data.length ≠ (chunkUnder src h n size s).size) := by
  have room : 4096 < data.length + 12 ↔ 4084 < data.length := by omega
  simp [chunkBad, or_assoc, room]

theorem chunkTaken_gone (src : SpdmSource) (h : BitVec 8) (s : State) :
    ∀ d ∈ (chunkTaken src h s).mbus.chunksIn, ¬ (d.eid = src.eid ∧ d.handle = h) := by
  intro d hd
  obtain ⟨-, other⟩ := List.mem_filter.mp hd
  rintro ⟨he, hh⟩
  simp [he, hh] at other

theorem spdmError_life (src : SpdmSource) (code : Byte) (s : State) : (spdmError src code s).life = s.life := busSend_life ..

/-! ## CHUNK_GET (R349) -/

section

variable {src : SpdmSource} {h : BitVec 8} {n : BitVec 16} {s : State}

theorem doChunkGet_refused (hw : ∀ c, s.mbus.chunksOut.find? (fun d => d.eid == src.eid && d.handle == h) = some c → n.toNat ≠ c.next) :
    doChunkGet src h n s = spdmError src errInvalid s := by
  unfold doChunkGet
  split
  · rfl
  · next c hc => exact if_pos (by simpa using hw c hc)

/-- The bytes of a response that one part carries. -/
def partSize (c : Chunking) : Nat := if c.next = 0 then 4080 else 4084

/-- A part of a large response (R349). -/
def partBody (h : BitVec 8) (c : Chunking) : Bytes :=
  toLe 1 (b2n (c.data.drop (partSize c)).isEmpty) ++ [h] ++ toLe 2 c.next ++ zeros 2 ++ toLe 4 (c.data.take (partSize c)).length ++
    (if c.next = 0 then toLe 4 c.size else []) ++ c.data.take (partSize c)

/-- A response of one part. -/
theorem partBody_whole {c : Chunking} (h0 : c.next = 0) (hl : c.data.length ≤ 4080) :
    partBody h c = [1, h, 0, 0, 0, 0] ++ toLe 4 c.data.length ++ toLe 4 c.size ++ c.data := by
  have size : partSize c = 4080 := if_pos h0
  unfold partBody
  rw [size, List.take_of_length_le hl, List.drop_of_length_le hl, if_pos h0, h0]
  rfl

/-- The responses that wait once the part has been sent. -/
def partsLeft (src : SpdmSource) (h : BitVec 8) (c : Chunking) (s : State) : List Chunking :=
  s.mbus.chunksOut.filter (fun y => !(y.eid == src.eid && y.handle == h)) ++
    (if (c.data.drop (partSize c)).isEmpty then [] else [{ c with data := c.data.drop (partSize c), next := c.next + 1 }])

theorem partsLeft_whole {c : Chunking} (h0 : c.next = 0) (hl : c.data.length ≤ 4080) :
    partsLeft src h c s = s.mbus.chunksOut.filter (fun y => !(y.eid == src.eid && y.handle == h)) := by
  have size : partSize c = 4080 := if_pos h0
  unfold partsLeft
  rw [size, List.drop_of_length_le hl]
  exact List.append_nil _

theorem doChunkGet_sends {c : Chunking} (hc : s.mbus.chunksOut.find? (fun d => d.eid == src.eid && d.handle == h) = some c)
    (hn : n.toNat = c.next) : doChunkGet src h n s =
      busSend src.port.val (.spdm src.port.val src.eid 0x06 (partBody h c)) (modMbus (fun m => { m with chunksOut := partsLeft src h c s }) s) := by
  unfold doChunkGet
  rw [hc]
  exact if_neg (by simp [hn])

theorem doChunkGet_part {c : Chunking} {u : State} (hu : u.out = s.out)
    (hc : u.mbus.chunksOut.find? (fun d => d.eid == src.eid && d.handle == h) = some c) (hn : n.toNat = c.next) :
    (doChunkGet src h n u).out = (pendingSignal src.port.val s).out ++ [.spdm src.port.val src.eid 0x06 (partBody h c)] ∧
      (doChunkGet src h n u).mbus.chunksOut = partsLeft src h c u := by
  rw [doChunkGet_sends hc hn]
  exact ⟨busSend_modMbus_out hu .., busSend_chunksOut ..⟩

end

/-! ## Commands over a session (R352, R360) -/

section

variable {src : SpdmSource} {x : SpdmSession} {s : State} {std ven : BitVec 16} {header payload : Bytes}

theorem doVendor_refused (hx : sourceSession s src = some x) (h : std ≠ 3 ∨ ven ≠ 0x1FA7 ∨ header.length ≠ 64) :
    doVendor src std ven header payload s = spdmError src errInvalid s := by
  unfold doVendor
  rw [hx]
  exact if_pos (by simpa [pciSig, ownVendor, or_assoc] using h)

theorem doVendor_heard (hx : sourceSession s src = some x) (h : header.length = 64) : doVendor src 3 0x1FA7 header payload s =
    if s.life.fenced then s
    else match busCheck x (busReq x header payload) s with
      | some st => busRefuse x (busReq x header payload) st s
      | none => match opSpec (busReq x header payload).opcode with
        | none => s
        | some o => accept o (busReq x header payload) (modSpdm x.id (fun y => { y with lastSeq := (busReq x header payload).seq }) s) := by
  unfold doVendor
  rw [hx]
  exact if_neg (by simp [pciSig, ownVendor, h])

theorem doVendor_fenced (hx : sourceSession s src = some x) (h : header.length = 64) (hf : s.life.fenced = true) :
    doVendor src 3 0x1FA7 header payload s = s := by
  rw [doVendor_heard hx h, if_pos hf]

theorem doVendor_checks {st : Status} (hx : sourceSession s src = some x) (h : header.length = 64) (hf : s.life.fenced = false)
    (hc : busCheck x (busReq x header payload) s = some st) :
    doVendor src 3 0x1FA7 header payload s = busRefuse x (busReq x header payload) st s := by
  rw [doVendor_heard hx h, if_neg (by simp [hf]), hc]

theorem doVendor_accepts {o : OpSpec} (hx : sourceSession s src = some x) (h : header.length = 64) (hf : s.life.fenced = false)
    (hc : busCheck x (busReq x header payload) s = none) (ho : opSpec (busReq x header payload).opcode = some o) :
    doVendor src 3 0x1FA7 header payload s =
      accept o (busReq x header payload) (modSpdm x.id (fun y => { y with lastSeq := (busReq x header payload).seq }) s) := by
  rw [doVendor_heard hx h, if_neg (by simp [hf]), hc, ho]

end

/-! ## The timer of a session (R349) -/

theorem exec_spdmHeartbeatTimeout_some {s : State} {i : BitVec 32} {x : SpdmSession}
    (h : s.mbus.sessions.find? (fun y => y.id == i) = some x) : exec (.spdmHeartbeatTimeout i) s =
      guarded (decide (x.lastNs + 60000000000 ≤ s.clk.ns)) (dropSessions [x]) s := by
  show execSpdmHeartbeatTimeout i s = _
  unfold execSpdmHeartbeatTimeout
  rw [h]

theorem exec_spdmHeartbeatTimeout_waits {s : State} {i : BitVec 32}
    (h : ∀ x, s.mbus.sessions.find? (fun y => y.id == i) = some x → s.clk.ns < x.lastNs + 60000000000) :
    exec (.spdmHeartbeatTimeout i) s = .next s := by
  cases hx : s.mbus.sessions.find? (fun y => y.id == i) with
  | none =>
    show execSpdmHeartbeatTimeout i s = _
    unfold execSpdmHeartbeatTimeout
    rw [hx]
  | some x => exact (exec_spdmHeartbeatTimeout_some hx).trans (guarded_false (decide_eq_false (Nat.not_le.mpr (h x hx))))

/-! ## The requests -/

/-- Settles O24: a request is its own effect on the state in which its session was heard. -/
theorem securedRequestsAreServed : Obligations.SecuredRequestsAreServed := by
  unfold Obligations.SecuredRequestsAreServed
  refine ⟨fun s src slot nonce data op tag std ven seqNo last => ⟨rfl, rfl, rfl, rfl, rfl, rfl, rfl, rfl⟩, fun s src x nonce h => ?challenge,
    fun s src x slot nonce h hs => ?otherSlot, fun s src x i nonce h h0 hi => ?measurements, fun s src x i nonce h h0 h1 hi => ?noContent,
    fun s src x nonce h => ?count, fun s src x h => ?heartbeat, fun s src x op tag h ho => ?keys, fun s src x op tag h ho => ?noKeys,
    fun s src x h => ?ends, fun s src x c size data h hl hs hm => ?begins, fun s src x c n last size data h hb => ?badChunk,
    fun s src x c n last size data h hg => ?chunk, fun s src x c n h hw => ?noPart, fun s src x c n h hc hn => ?part,
    fun s src x c h hc h0 hl => ?whole, fun s src x header payload h hl hf => ?vendor,
    fun s src x std ven header payload h hv => ?otherVendor, fun s src x header payload h hl hf => ?fenced,
    fun s i h => exec_spdmHeartbeatTimeout_waits h, fun s x hx ht => ?timeout⟩
  case challenge =>
    obtain ⟨req, body, t, e, same⟩ := doChallenge_answers (s := heardIn src x s) (inSession_named h) nonce
    refine session_runs (act := doChallenge src 0 nonce) (a := .known) h nofun rfl ?_
    rw [e, answer_life, answer_prism, same.life, same.prism]
    exact ⟨⟨body, answer_out _ _ _ _ same.out⟩, rfl, rfl⟩
  case otherSlot =>
    refine session_runs (act := doChallenge src slot nonce) (a := .known) h nofun rfl ?_
    rw [doChallenge_refused (inSession_named h) hs]
    exact ⟨spdmError_out _ _ rfl, spdmError_life ..⟩
  case measurements =>
    obtain ⟨req, rest, t, e, length, same⟩ :=
      doMeasurements_answers (s := heardIn src x s) (inSession_named h) (.inr (blocksAsked_nonempty h0 hi)) nonce
    have whole : (measurementsHead i (heardIn src x s) ++ rest).length = ((blocksAsked i s).map blockBytes).flatten.length + 136 := by
      rw [List.length_append, measurementsHead_length, length]
      rfl
    rw [← blocksAsked_of_ne h0]
    refine session_runs (act := doMeasurements src i nonce) (a := .known) h nofun rfl ?_
    rw [e, answerLarge_life, same.life]
    refine ⟨rfl, fun small => ⟨rest, ?_⟩, fun large => ?_⟩
    · rw [answerLarge_small (by omega), measurementsHead_of_ne h0]
      exact answer_out _ _ _ _ same.out
    · obtain ⟨out, waiting⟩ := answerLarge_large (src := src) (req := req) (code := 0x60) (s := s) same.out
        (by omega : 4096 < (measurementsHead i (heardIn src x s) ++ rest).length + 2)
      have handle : t.mbus.nextChunk = s.mbus.nextChunk := (congrArg Mbus.nextChunk same.mbus).trans rfl
      exact ⟨handle ▸ out, _, waiting, rfl, handle, rfl⟩
  case noContent =>
    refine session_runs (act := doMeasurements src i nonce) (a := .known) h nofun rfl ?_
    rw [doMeasurements_refused (s := heardIn src x s) (inSession_named h) h0 (blocksAsked_empty h0 h1 hi)]
    exact ⟨spdmError_out _ _ rfl, spdmError_life ..⟩
  case count =>
    obtain ⟨req, rest, t, e, length, same⟩ := doMeasurements_answers (s := heardIn src x s) (i := 0) (inSession_named h) (.inl rfl) nonce
    refine session_runs (act := doMeasurements src 0 nonce) (a := .known) h nofun rfl ?_
    rw [e, answerLarge_life, same.life, answerLarge_small ?small, measurementsHead_count]
    case small => rw [List.length_append, measurementsHead_count, length]; exact (by decide : 6 + 130 + 2 ≤ 4096)
    exact ⟨⟨rest, answer_out _ _ _ _ same.out⟩, rfl⟩
  case heartbeat =>
    refine session_runs (act := doHeartbeat src) (a := .session) h nofun rfl ⟨?_, busSend_life ..⟩
    exact busSend_out_of (heardIn_out ..) ..
  case keys =>
    obtain ⟨-, hx, -⟩ := id h
    refine session_runs (act := doKeyUpdate src op tag) (a := .session) h nofun rfl ?_
    rw [doKeyUpdate_raises ho (sourceSession_id hx), busSend_sessions]
    refine ⟨busSend_out_of (s := s) (t := modSpdm x.id (keysRaised op) (heardIn src x s)) rfl .., fun y hy same => ?_⟩
    exact ⟨keysRaised op (sessionHeard src y s), modSpdm_has (heardIn_has hy same) same, rfl, rfl, rfl⟩
  case noKeys =>
    refine session_runs (act := doKeyUpdate src op tag) (a := .session) h nofun rfl ?_
    rw [doKeyUpdate_refused ho]
    exact ⟨spdmError_out _ _ rfl, busSend_sessions ..⟩
  case ends =>
    refine session_runs (act := doEndSession src) (a := .session) h nofun rfl ?_
    rw [doEndSession_ends (inSession_found h), dropSessions_out, dropSessions_life, busSend_out_of (heardIn_out ..), busSend_life]
    exact ⟨rfl, dropSessions_gone (sessionHeard src x s) _, rfl⟩
  case begins =>
    have good : ¬ chunkBad src c 0 size (heardIn src x s) false data = true := by
      simp [chunkBad, chunkUnder]
      omega
    refine session_runs (act := doChunkSend src c 0 false size data) h (chunkAudience_ne src) rfl ?_
    rw [doChunkSend_eq, if_neg good, if_neg nofun]
    have acked : (chunkAcked src c 0 (heardIn src x s)).out = _ := busSend_out_of (s := s) (t := chunkTaken src c (heardIn src x s)) rfl ..
    refine ⟨acked, ?_⟩
    exact List.mem_append_right _ (List.mem_singleton_self _)
  case badChunk =>
    have bad : chunkBad src c n size (heardIn src x s) last data = true := chunkBad_iff.mpr hb
    refine session_runs (act := doChunkSend src c n last size data) h (chunkAudience_ne src) rfl ?_
    rw [doChunkSend_eq, if_pos bad]
    obtain ⟨l, k⟩ := spdmError_mbus src errInvalid (chunkTaken src c (heardIn src x s))
    exact ⟨spdmError_out _ _ rfl, by rw [k]; exact chunkTaken_gone src c _⟩
  case chunk =>
    have good : ¬ chunkBad src c n size (heardIn src x s) last data = true := by
      obtain ⟨turn, short, fits, room, whole⟩ := hg
      rw [chunkBad_iff]
      rintro (out | long | big | full | ⟨end_, part⟩)
      · exact out turn
      · exact absurd short (Nat.not_le.mpr long)
      · exact absurd fits (Nat.not_le.mpr big)
      · exact absurd room (Nat.not_le.mpr full)
      · exact part (whole end_)
    refine congrArg Host.Outcome.next ((serve_session h (chunkAudience src) (chunkAudience_ne src) _).trans ?_)
    rw [doChunkSend_eq, if_neg good]
    rfl
  case noPart =>
    refine session_runs (act := doChunkGet src c n) h (chunkAudience_ne src) rfl ?_
    rw [doChunkGet_refused (s := heardIn src x s) hw]
    exact ⟨spdmError_out _ _ rfl, busSend_chunksOut ..⟩
  case part =>
    refine session_runs (act := doChunkGet src c.handle n) h (chunkAudience_ne src) rfl ?_
    exact doChunkGet_part (heardIn_out ..) hc hn.symm
  case whole =>
    refine session_runs (act := doChunkGet src c.handle 0) h (chunkAudience_ne src) rfl ?_
    obtain ⟨out, left⟩ := doChunkGet_part (n := 0) (heardIn_out src x s) hc h0.symm
    rw [out, left, partBody_whole h0 hl, partsLeft_whole h0 hl]
    refine ⟨rfl, fun d hd he hh => ?_⟩
    obtain ⟨-, other⟩ := List.mem_filter.mp hd
    simp [he, hh] at other
  case vendor =>
    refine session_runs (act := doVendor src 3 0x1FA7 header payload) (a := .session) h nofun rfl ⟨fun st hc => ?_, fun o hc ho => ?_⟩
    · exact doVendor_checks (x := sessionHeard src x s) (inSession_found h) hl hf hc
    · exact doVendor_accepts (x := sessionHeard src x s) (inSession_found h) hl hf hc ho
  case otherVendor =>
    refine session_runs (act := doVendor src std ven header payload) (a := .session) h nofun rfl ?_
    rw [doVendor_refused (inSession_found h) hv]
    exact ⟨spdmError_out _ _ rfl, busSend_prism .., spdmError_life ..⟩
  case fenced =>
    refine congrArg Host.Outcome.next ((serve_session h .session nofun _).trans ?_)
    exact doVendor_fenced (inSession_found h) hl hf
  case timeout =>
    refine ⟨_, (exec_spdmHeartbeatTimeout_some hx).trans (guarded_true (decide_eq_true ht)), dropSessions_gone x s, ?_, ?_⟩
    · exact dropSessions_life ..
    · exact dropSessions_out ..

end Sys2Proof.Proofs
end

section
/-! The bus events: what is counted, the backoff of a lost arbitration, and the logic of one port alone (R343, R346). -/

namespace Sys2Proof.Proofs

open Sys2Proof Sys2Proof.Machine Sys2Proof.Laws Sys2Proof.Safety

/-! ## One port of the three -/

theorem busPort_modBus_self {s : State} {n : Nat} (h : n < s.mbus.ports.length) (g : BusPort → BusPort) :
    busPort (modBus n g s) n = g (busPort s n) := by
  show (s.mbus.ports.modify n g).getD n State.resetPort = g (s.mbus.ports.getD n State.resetPort)
  rw [List.getD_eq_getElem _ _ (by simpa using h), List.getD_eq_getElem _ _ h, List.getElem_modify_eq]

theorem busPort_modBus_ne {m n : Nat} (h : m ≠ n) (g : BusPort → BusPort) (s : State) : busPort (modBus n g s) m = busPort s m := by
  show (s.mbus.ports.modify n g).getD m State.resetPort = s.mbus.ports.getD m State.resetPort
  simp only [List.getD_eq_getElem?_getD, List.getElem?_modify_ne _ _ h.symm]

theorem modBus_ports_length (n : Nat) (g : BusPort → BusPort) (s : State) : (modBus n g s).mbus.ports.length = s.mbus.ports.length :=
  List.length_modify ..

section

variable {s : State} {port : Fin 3} (h : s.mbus.ports.length = 3)
include h

theorem port_exists : port.val < s.mbus.ports.length := lt_of_lt_of_eq port.isLt h.symm

theorem busPort_countArb : busPort (countArb port.val s) port.val =
    { busPort s port.val with arbLost := satAdd 8 (busPort s port.val).arbLost 1 } := busPort_modBus_self (port_exists h) _

end

/-- A count of stuck lines leaves the retries of the port as they are, whether the port exists or not. -/
theorem countStuck_retries (n : Nat) (s : State) : (busPort (countStuck n s) n).retries = (busPort s n).retries := by
  by_cases h : n < s.mbus.ports.length
  · rw [countStuck, busPort_modBus_self h]
  · show ((s.mbus.ports.modify n _).getD n State.resetPort).retries = (s.mbus.ports.getD n State.resetPort).retries
    rw [List.getD_eq_default _ _ (by simpa using h), List.getD_eq_default _ _ (by simpa using h)]

/-! ## Losses of arbitration -/

/-- The drawn number that picks the delay after the island's masks have taken `used` bytes. -/
def backoffPick (used : Nat) (s : State) : Nat := leNat (islandMask 8 (islandMask used s).2).1

/-- The mask stream after the draw that picks the delay. -/
def backoffDrawn (used : Nat) (s : State) : State := (islandMask 8 (islandMask used s).2).2

theorem arbLost_eq (n used : Nat) (s : State) : arbLost n used s =
    if 8 ≤ (busPort (countArb n s) n).losses + 1 then busFault n (modBus n (fun p => { p with losses := 0, backoff := none }) (countArb n s))
    else modBus n (fun p => { p with
        losses := (busPort (countArb n s) n).losses + 1
        backoff := some (s.clk.ns + backoffPick used s % (2 ^ ((busPort (countArb n s) n).losses + 1) * 64000 + 1)) })
      (backoffDrawn used (countArb n s)) := rfl

theorem busPort_backoffDrawn (used : Nat) (s : State) (n : Nat) : busPort (backoffDrawn used s) n = busPort s n := rfl

/-! ## The events -/

/-- The target reset of a port (R343). -/
def portReset (p : BusPort) : BusPort := { p with losses := 0, backoff := none, retries := 0, dynAddr := none }

/-- The port's dynamic address. -/
def addressGiven (a : BitVec 7) (p : BusPort) : BusPort := { p with dynAddr := some a }

theorem exec_i3cTargetReset (s : State) (p : Fin 3) :
    exec (.i3cTargetReset p) s = guarded (portServes s p.val && decide (p.val < 2)) (resetPortLogic p.val) s := rfl

theorem exec_entdaa (s : State) (p : Fin 3) (a : BitVec 7) :
    exec (.entdaa p a) s = guarded (portServes s p.val && decide (p.val < 2)) (modBus p.val (addressGiven a)) s := rfl

theorem exec_busNoAck {s : State} (h : portServes s 2 = true) : exec (.busNoAck 2) s = .next (busFault 2 (resend 2 (countStuck 2 s))) := by
  show execBusNoAck 2 s = _
  exact guarded_true (Bool.and_eq_true_iff.mpr ⟨h, rfl⟩)

/-- Settles O25: each event is guarded by its port, counts in that port, and acts on it alone. -/
theorem busEventsAreCountedAndRetried : Obligations.BusEventsAreCountedAndRetried := by
  unfold Obligations.BusEventsAreCountedAndRetried
  refine ⟨fun s p used hs hl h3 => ?lost, fun s p used hs hl h3 => ?eighth, fun s p hw => ?waits, fun s p n hb hn h3 => ?retries,
    fun s p hs => ?pec, fun s hs hr => ?resends, fun s hs hr => ?givesUp, fun s hs => ?scl, fun s hs => ?freed,
    fun s hs => ?held, fun s p hs hp => ?i3c, fun s p hs hp h3 => ?reset, fun s p a hs hp h3 => ?address,
    fun p used s hg => ?lostNot, fun p s hg => ?pecNot, fun p s hg => ?ackNot, fun p s hg => ?sclNot, fun p f s hg => ?sdaNot,
    fun p s hg => ?i3cNot, fun p s hg => ?resetNot, fun p a s hg => ?addressNot⟩
  case lost =>
    have below : ¬ 8 ≤ (busPort (countArb p.val s) p.val).losses + 1 := by rw [busPort_countArb h3]; dsimp only; omega
    refine ⟨arbLost p.val used s, guarded_true hs, ?_⟩
    rw [arbLost_eq, if_neg below, busPort_modBus_self (port_exists (s := backoffDrawn used (countArb p.val s)) ?three), busPort_backoffDrawn,
      busPort_countArb h3]
    case three => exact (modBus_ports_length ..).trans h3
    exact ⟨rfl, rfl, rfl, Nat.lt_succ_iff.mp (Nat.mod_lt _ (Nat.succ_pos _)), rfl, rfl⟩
  case eighth =>
    have eighth : 8 ≤ (busPort (countArb p.val s) p.val).losses + 1 := by rw [busPort_countArb h3]; dsimp only; omega
    refine (guarded_true hs).trans ?_
    rw [arbLost_eq, if_pos eighth]
  case waits =>
    show execBusBackoffEnd p s = _
    unfold execBusBackoffEnd
    split
    · rfl
    · next n hb => exact guarded_false (decide_eq_false (Nat.not_le.mpr (hw n hb)))
  case retries =>
    refine ⟨emit (.bus p.val "retry") (modBus p.val (fun p => { p with backoff := none }) s), ?_, ?_, rfl⟩
    · show execBusBackoffEnd p s = _
      unfold execBusBackoffEnd
      rw [hb]
      exact guarded_true (decide_eq_true hn)
    · exact congrArg BusPort.backoff (busPort_modBus_self (port_exists h3) _)
  case pec =>
    show execBusPecError p s = _
    exact guarded_true hs
  case resends =>
    refine (exec_busNoAck hs).trans ?_
    rw [resend, if_pos (by rwa [countStuck_retries])]
  case givesUp =>
    refine (exec_busNoAck hs).trans ?_
    rw [resend, if_neg (by rw [countStuck_retries]; omega)]
  case scl =>
    show execBusSclStuck 2 s = _
    exact guarded_true (Bool.and_eq_true_iff.mpr ⟨hs, rfl⟩)
  case freed =>
    show execBusSdaStuck 2 true s = _
    exact guarded_true (Bool.and_eq_true_iff.mpr ⟨hs, rfl⟩)
  case held =>
    show execBusSdaStuck 2 false s = _
    exact guarded_true (Bool.and_eq_true_iff.mpr ⟨hs, rfl⟩)
  case i3c =>
    show execI3cSdaStuck p s = _
    exact guarded_true (by simp [hs, hp])
  case reset =>
    refine ⟨resetPortLogic p.val s, (exec_i3cTargetReset s p).trans (guarded_true (by simp [hs, hp])), ?_, ?_, fun n other => ?_, rfl, rfl⟩
    · exact congrArg BusPort.dynAddr (busPort_modBus_self (port_exists h3) portReset)
    · exact congrArg BusPort.backoff (busPort_modBus_self (port_exists h3) portReset)
    · exact busPort_modBus_ne other portReset s
  case address =>
    refine ⟨modBus p.val (addressGiven a) s, (exec_entdaa s p a).trans (guarded_true (by simp [hs, hp])), ?_, fun n other => ?_, rfl⟩
    · exact congrArg BusPort.dynAddr (busPort_modBus_self (port_exists h3) (addressGiven a))
    · exact busPort_modBus_ne other (addressGiven a) s
  case lostNot =>
    show execBusArbLost p used s = _
    exact guarded_false hg
  case pecNot =>
    show execBusPecError p s = _
    exact guarded_false hg
  case ackNot =>
    show execBusNoAck p s = _
    exact guarded_false hg
  case sclNot =>
    show execBusSclStuck p s = _
    exact guarded_false hg
  case sdaNot =>
    show execBusSdaStuck p f s = _
    exact guarded_false hg
  case i3cNot =>
    show execI3cSdaStuck p s = _
    exact guarded_false hg
  case resetNot => exact (exec_i3cTargetReset s p).trans (guarded_false hg)
  case addressNot => exact (exec_entdaa s p a).trans (guarded_false hg)

end Sys2Proof.Proofs
end

section
/-! The ports of the Iluon link, and what a frame that is heard leaves as it is (R399 to R403, R415). -/

namespace Sys2Proof.Proofs

open Sys2Proof Sys2Proof.Machine Sys2Proof.Laws Sys2Proof.Safety

theorem next_congr {s t : State} (h : s = t) : (.next s : Res) = .next t := congrArg _ h

/-! ## Ports -/

theorem iluPort_modPort_self (port : Bool) (g : IluonPort → IluonPort) (s : State) : iluPort (modPort port g s) port = g (iluPort s port) := by
  cases port <;> rfl

/-! ## A frame taken off its port -/

theorem iluPort_frameTaken (f : Frame) (s : State) :
    iluPort (frameTaken f s) f.port = { iluPort s f.port with recvSeq := (iluPort s f.port).recvSeq + 1 } := by
  unfold frameTaken
  cases f.port <;> rfl

/-- Taking a frame changes its port and the messages alone. -/
theorem frameTaken_kept (f : Frame) (s : State) :
    ∃ w e o, frameTaken f s = { s with ilu := { s.ilu with west := w, east := e }, out := o } := by
  unfold frameTaken
  cases f.port <;> exact ⟨_, _, _, rfl⟩

/-- A claim that is not above the module's own is noted at most. -/
theorem hearClaim_low {c : BitVec 64} {s : State} (h : ¬ s.ilu.claim.toNat < c.toNat) :
    ∃ top, hearClaim c s = { s with ilu := { s.ilu with topClaim := top } } := by
  unfold hearClaim
  simp only [if_neg h]
  split
  · exact ⟨c, rfl⟩
  · exact ⟨s.ilu.topClaim, rfl⟩

theorem portSent_of_sent {s t : State} (h : linkSent s t) (port : Bool) : portSent (iluPort s port) (iluPort t port) := by
  obtain ⟨_, _, ⟨_, _, _, _, hw, he, rfl⟩, rfl⟩ := h
  cases port
  · exact hw
  · exact he

/-- Hearing the partner moves nothing of a port but what it sends. -/
theorem hearPartner_port (s : State) (port : Bool) : portSent (iluPort s port) (iluPort (hearPartner s) port) := by
  unfold hearPartner
  dsimp only [modIlu]
  split
  · exact portSent_of_sent (s := toMirror .active _) (resendForwards_sent _) port
  · exact portSent_of_sent (enterSource_sent _) port
  · exact portSent_refl _
  · exact portSent_refl _

/-- A frame whose claim is not above the module's own, and the partner, move nothing of a port but what it sends. -/
theorem heardFrom_port {f : Frame} {s : State} (h : ¬ s.ilu.claim.toNat < f.claim.toNat) (typ : Nat) (port : Bool) :
    portSent (iluPort s port) (iluPort (heardFrom f typ s) port) := by
  obtain ⟨u, hu, e⟩ : ∃ u, iluPort u port = iluPort s port ∧ heardFrom f typ s = if fromPartner u f then hearPartner u else u := by
    obtain ⟨top, low⟩ := hearClaim_low h
    refine ⟨if carriesTerm s typ then s else hearClaim f.claim s, ?_, rfl⟩
    split
    · rfl
    · rw [low]; rfl
  rw [e, ← hu]
  split
  · exact hearPartner_port u port
  · exact portSent_refl _

/-- A delivered frame whose claim is not above the module's own moves its port on by one frame, and ends the message of its TYPE. -/
theorem arrived_port {f : Frame} {s : State} (h : ¬ s.ilu.claim.toNat < f.claim.toNat) (typ : Nat) :
    (iluPort (arrived f typ s) f.port).recvSeq = (iluPort s f.port).recvSeq + 1 ∧
      (iluPort (arrived f typ s) f.port).train = (iluPort s f.port).train.filter (fun t => t.1 != typ) := by
  have low : ¬ (frameTaken f s).ilu.claim.toNat < f.claim.toNat := by
    obtain ⟨_, _, _, e⟩ := frameTaken_kept f s
    rw [e]
    exact h
  obtain ⟨_, _, _, e⟩ := heardFrom_port low typ f.port
  rw [arrived, trainOver, iluPort_modPort_self, e, iluPort_frameTaken]
  exact ⟨rfl, rfl⟩

/-! ## A frame that goes on -/

theorem onwards_sent (f : Frame) (typ : Nat) (b : Bytes) (n : Nat) (s : State) : linkSent s (onwards f typ b n s) := by
  unfold onwards reframe
  split
  · exact putFrame_sent ..
  · split
    · exact putFrame_sent ..
    · exact linkSent_refl s

/-- A frame that goes on shows at most whether the ring is a line, and is sent. -/
theorem goOn_sent (f : Frame) (typ : Nat) (s : State) : ∃ l, linkSent (modIlu (fun i => { i with line := l }) s) (goOn f typ s) := by
  unfold goOn passOn
  split
  · split
    · exact ⟨true, putFrame_sent ..⟩
    · split
      · exact ⟨_, linkSent_refl _⟩
      · exact ⟨s.ilu.line, onwards_sent ..⟩
  · exact ⟨s.ilu.line, linkSent_refl _⟩

/-- A frame that goes on leaves the frame its port waits for. -/
theorem goOn_recvSeq (f : Frame) (typ : Nat) (s : State) (port : Bool) : (iluPort (goOn f typ s) port).recvSeq = (iluPort s port).recvSeq := by
  obtain ⟨l, sent⟩ := goOn_sent f typ s
  obtain ⟨_, _, _, e⟩ := portSent_of_sent sent port
  rw [e]
  cases port <;> rfl

end Sys2Proof.Proofs
end

section
/-! The Iluon link: training, acknowledgement, replay, discarding and cutting through (R398 to R403). -/

namespace Sys2Proof.Proofs

open Sys2Proof Sys2Proof.Machine Sys2Proof.Laws Sys2Proof.Safety

/-! ## The replay buffer (R401) -/

theorem heldFrom_eq_nil {p : IluonPort} {q : BitVec 16} (h : ∀ e ∈ p.unacked, e.1 ≠ q) : heldFrom p q = [] :=
  List.dropWhile_eq_nil_iff.mpr fun e he => by simpa using h e he

theorem foldl_emit {α : Type} (f : α → Out) (l : List α) (s : State) :
    l.foldl (fun s e => emit (f e) s) s = { s with out := s.out ++ l.map f } := by
  induction l generalizing s with
  | nil => simp
  | cons e l ih => rw [List.foldl_cons, ih, List.map_cons, List.append_cons]; rfl

/-- Frames from the one named are replayed, each counted, which is a transient fault of the port. -/
def replayed (port : Bool) (q : BitVec 16) (n : Nat) (l : List (BitVec 16 × Bytes)) (s : State) : State :=
  portFault port (modPort port (fun p => { p with replays := satAdd 8 p.replays l.length, nakSeq := q, naks := n + 1 })
    (l.foldl (fun s e => emit (.iluon port e.2) s) s))

/-- The replays that the frame named has failed. -/
def failedReplays (p : IluonPort) (q : BitVec 16) : Nat := if p.nakSeq = q then p.naks else 0

theorem exec_linkNak (s : State) (port : Bool) (q : BitVec 16) :
    exec (.linkNak port q) s = guarded (!(heldFrom (iluPort s port) q).isEmpty) (fun s =>
      if 3 ≤ failedReplays (iluPort s port) q then dropLink port s
      else replayed port q (failedReplays (iluPort s port) q) (heldFrom (iluPort s port) q) s) s := rfl

theorem exec_linkAck (s : State) (port : Bool) (q : BitVec 16) :
    exec (.linkAck port q) s = guarded (!(heldFrom (iluPort s port) q).isEmpty)
      (modPort port (fun p => { p with unacked := (heldFrom p q).tail, naks := 0 })) s := rfl

theorem modPort_congr {port : Bool} {g g' : IluonPort → IluonPort} {s : State} (h : g (iluPort s port) = g' (iluPort s port)) :
    modPort port g s = modPort port g' s := by
  unfold modPort modIlu
  cases port
  · exact congrArg (fun p => { s with ilu := { s.ilu with west := p } }) h
  · exact congrArg (fun p => { s with ilu := { s.ilu with east := p } }) h

/-! ## Forwards sent again (R400) -/

theorem sendForward_idle {s : State} (h : s.ilu.mirror ≠ .active) (c : Cmd) : sendForward s c = s := by
  unfold sendForward
  split
  · rfl
  · simp [h]

theorem resendForwards_idle {s : State} (h : s.ilu.mirror ≠ .active) : resendForwards s = s := by
  unfold resendForwards
  induction s.prism.cmds with
  | nil => rfl
  | cons c l ih => rw [List.foldl_cons, sendForward_idle h, ih]

/-! ## Receiving (R399 to R403) -/

/-- A frame whose tag fails, or that is not to be acted on here, has no effect of its own. -/
theorem receive_unacted {f : Frame} {typ : Nat} {s : State} (hu : (iluPort s f.port).up = true) (hs : f.linkSeq = (iluPort s f.port).recvSeq)
    (h : f.tagOk = false ∨ acts s f typ = false) (act : State → State) : receive f typ act s = receive f typ id s := by
  cases ha : acts s f typ
  · rw [receive_through hu hs ha act, receive_through hu hs ha id]
  · have ht : f.tagOk = false := h.resolve_right (by simp [ha])
    rw [receive_badTag hu hs ht ha act, receive_badTag hu hs ht ha id]

/-- A frame taken in for cutting through passes on. -/
theorem exec_cutThroughFrame (s : State) (f : Frame) (typ : BitVec 8) :
    exec (.cutThroughFrame f typ) s =
      guarded ((iluPort s f.port).up && (f.dst != s.ilu.position || isBroadcast f) && !ownFrame s f) (fun s =>
        if f.linkSeq != (iluPort s f.port).recvSeq then sendHop f.port 0x61 (iluPort s f.port).recvSeq s
        else passOn f typ.toNat (if f.tagOk then heardFrom f typ.toNat (frameTaken f s) else frameTaken f s)) s := rfl

/-! ## Trains (R400) -/

/-- The payloads of a TYPE that the port has taken so far. -/
def trainHad (p : IluonPort) (typ : Nat) : Bytes := (p.train.find? (fun t => t.1 == typ)).elim [] (fun t => t.2)

/-- A payload is added to the message of its TYPE. -/
def trainAdded (f : Frame) (typ : Nat) (had : Bytes) (t : State) : State :=
  modPort f.port (fun p => { p with train := p.train ++ [(typ, had ++ f.payload)] }) t

theorem exec_trainFrameArrival (s : State) (f : Frame) (typ : BitVec 8) :
    exec (.trainFrameArrival f typ) s = guarded (bit f.flags.toNat 3 && f.payload.length == 4096) (fun s =>
      if f.tagOk && acts s f typ.toNat &&
        (iluPort (receive f typ.toNat (fun s => s) s) f.port).recvSeq != (iluPort s f.port).recvSeq then
        trainAdded f typ.toNat (trainHad (iluPort s f.port) typ.toNat) (receive f typ.toNat (fun s => s) s)
      else receive f typ.toNat (fun s => s) s) s := rfl

/-! ## What passes on (R399, R403) -/

theorem onwards_up {f : Frame} {s : State} (h : (iluPort s (!f.port)).up = true) (typ : Nat) (b : Bytes) (n : Nat) :
    onwards f typ b n s = putFrame (!f.port) typ f.flags.toNat f.src f.dst n f.claim b s := by
  unfold onwards reframe
  rw [if_pos h]

theorem onwards_end {f : Frame} {s : State} (h : (iluPort s (!f.port)).up = false) (hb : isBroadcast f = true) (hr : isReflected f = false)
    (typ : Nat) (b : Bytes) (n : Nat) :
    onwards f typ b n s = putFrame f.port typ (f.flags.toNat + 4) f.src f.dst n f.claim b s := by
  unfold onwards reframe
  simp [h, hb, hr]

theorem onwards_none {f : Frame} {s : State} (h : (iluPort s (!f.port)).up = false) (hb : isBroadcast f = false ∨ isReflected f = true)
    (typ : Nat) (b : Bytes) (n : Nat) : onwards f typ b n s = s := by
  unfold onwards
  rcases hb with hb | hb <;> simp [h, hb]

/-- A frame of another member is never the module's own come back. -/
theorem passOn_other {f : Frame} {s : State} (h : ownFrame s f = false) (typ : Nat) :
    passOn f typ s = onwards f typ f.body f.payload.length s := by
  unfold passOn uncovered
  simp [h]

/-- Settles O27: a frame is taken in by one rule, `receive`, whose cases are the link's; what it then does at each is said by the port. -/
theorem linkEventsTrainAcknowledgeAndReplay : Obligations.LinkEventsTrainAcknowledgeAndReplay := by
  unfold Obligations.LinkEventsTrainAcknowledgeAndReplay
  refine ⟨fun s port n hon hk hp hn hl => ?up, fun s port hu => ?down, fun s => rfl, fun s hm => resendForwards_idle hm,
    fun s c v m hm hc ha hv => ?again, fun s port q e l h => ?ack, fun s port q h => ?ackGone, fun s port q e l h => ?nak,
    fun s port q h => ?nakGone, fun s port q hu hq => ?crc, fun s port => ?crcNext, fun s port typ q => rfl,
    fun typ flags src dst len q claim body => rfl, fun s port lane hu => ?sync, fun s port lane a b hu hl ha hb => ?third,
    fun s f typ hu hd ho => ?cut, fun s f typ => ?pass, fun s f typ hm hl => ?train, fun s f typ hd hm hl ht hc hh hs hb => ?first,
    fun s f roles load n m b1 b2 b3 b4 d r e st role term votes vs hu => ?dark,
    fun s f roles load n m b1 b2 b3 b4 d r e st role term votes vs hu hq => ?gap,
    fun s f typ act hu hs ht ha => receive_badTag hu hs ht ha act, fun s f typ act hu hs ha => receive_through hu hs ha act,
    fun s f roles load n m b1 b2 b3 b4 d r e st role term votes vs hu hs => ?unacted,
    fun port lanes s h => ?upNot, fun port s h => ?downNot, fun port q s h => ?ackNot, fun port q s h => ?nakNot, fun port lane s h => ?syncNot,
    fun f typ s h => ?cutNot, fun f typ s h => ?trainNot⟩
  case up =>
    show execIluonLinkUp port n s = _
    exact guarded_true (by simp [hon, hk, hp, hl]; omega)
  case down =>
    show execIluonLinkDown port s = _
    exact guarded_true hu
  case again =>
    rw [resendForwards, hc, List.foldl_cons, List.foldl_nil, sendForward, hv]
    exact if_pos (by rw [hm, ha]; rfl)
  case ack =>
    refine (exec_linkAck s port q).trans ((guarded_true ?_).trans (next_congr (modPort_congr ?_)))
    all_goals simp [heldFrom, h]
  case ackGone => exact (exec_linkAck s port q).trans (guarded_false (by simp [heldFrom_eq_nil h]))
  case nak =>
    have held : heldFrom (iluPort s port) q = e :: l := h
    have run := (exec_linkNak s port q).trans (guarded_true (by simp [held]))
    refine ⟨fun hn => run.trans (next_congr (if_pos hn)),
      fun hn => run.trans (next_congr ((if_neg (Nat.not_le.mpr hn)).trans ?_))⟩
    rw [held, replayed, foldl_emit]
    rfl
  case nakGone => exact (exec_linkNak s port q).trans (guarded_false (by simp [heldFrom_eq_nil h]))
  case crc =>
    show execIluonFrameCrcError port q s = _
    exact guarded_true (by simp [hu, hq])
  case crcNext =>
    show execIluonFrameCrcError port _ s = _
    exact guarded_false (by simp)
  case sync =>
    have run : execSyncHeaderError port lane s = _ := guarded_true hu
    exact ⟨fun h => run.trans (next_congr (if_pos h)), fun h => run.trans (next_congr (if_neg (Nat.not_le.mpr h)))⟩
  case third =>
    have run : execSyncHeaderError port lane s = _ := guarded_true hu
    exact run.trans (next_congr (if_pos (by simp [hl, ha, hb])))
  case cut =>
    have run := (exec_cutThroughFrame s f typ).trans (guarded_true (by simp [hu, ho, hd]))
    exact ⟨fun h => run.trans (next_congr (if_neg (by simp [h]))), fun h => run.trans (next_congr (if_pos (by simp [h])))⟩
  case pass =>
    refine ⟨fun h => ?_, fun h ho => ?_, fun ho hu => (passOn_other ho typ).trans (onwards_up hu ..),
      fun ho hu hb hr => (passOn_other ho typ).trans (onwards_end hu hb hr ..), fun ho hu hb => (passOn_other ho typ).trans (onwards_none hu hb ..)⟩
    · rw [passOn, if_pos h]
      rfl
    · rw [passOn, if_neg (by simp [h]), if_pos ho]
      rfl
  case train =>
    have run := (exec_trainFrameArrival s f typ).trans (guarded_true (by simp [hm, hl]))
    refine ⟨fun ht ha hq => run.trans (next_congr (if_pos (by simp [ht, ha, hq]))),
      fun h => run.trans (next_congr (if_neg ?_))⟩
    rcases h with h | h | h <;> simp [h]
  case first =>
    have taken : receive f typ.toNat (fun s => s) s = arrived f typ.toNat s := by
      rw [receive_delivered hd, settled, goOn, if_neg (by simp [hb])]
    obtain ⟨hq, htr⟩ := arrived_port hc typ.toNat
    rw [ht, List.filter_nil] at htr
    obtain ⟨-, -, htag, hact⟩ := hd
    refine ⟨trainAdded f typ.toNat (trainHad (iluPort s f.port) typ.toNat) (arrived f typ.toNat s), ?_, ?_, ?_⟩
    · refine (exec_trainFrameArrival s f typ).trans ((guarded_true (by simp [hm, hl])).trans (next_congr ?_))
      rw [taken, if_pos (by simp [htag, hact, hq])]
    · rw [trainAdded, iluPort_modPort_self, trainHad, ht]
      simp [htr]
    · rw [trainAdded, iluPort_modPort_self]
      exact hq
  case dark =>
    have out (typ : Nat) (act : State → State) : (.next (receive f typ act s) : Res) = .next s := next_congr (receive_down hu typ act)
    exact ⟨out 0x01 _, out 0x02 _, out 0x10 _, out 0x11 _, out 0x12 _, out 0x13 _, out 0x14 _, out 0x50 _, out 0x20 _, out 0x30 _, out 0x31 _,
      out 0x40 _, out 0x41 _⟩
  case gap =>
    have out (typ : Nat) (act : State → State) := next_congr (receive_gap hu hq typ act)
    exact ⟨out 0x01 _, out 0x02 _, out 0x10 _, out 0x11 _, out 0x12 _, out 0x13 _, out 0x14 _, out 0x50 _, out 0x20 _, out 0x30 _, out 0x31 _,
      out 0x40 _, out 0x41 _⟩
  case unacted =>
    have out (typ : Nat) (act : State → State) (h : f.tagOk = false ∨ acts s f typ = false) := next_congr (receive_unacted hu hs h act)
    exact ⟨out 0x01 _, out 0x02 _, out 0x10 _, out 0x11 _, out 0x12 _, out 0x13 _, out 0x14 _, out 0x50 _, out 0x20 _, out 0x30 _, out 0x31 _,
      out 0x40 _, out 0x41 _⟩
  case upNot =>
    show execIluonLinkUp port lanes s = _
    exact guarded_false h
  case downNot =>
    show execIluonLinkDown port s = _
    exact guarded_false h
  case ackNot => exact (exec_linkAck s port q).trans (guarded_false h)
  case nakNot => exact (exec_linkNak s port q).trans (guarded_false h)
  case syncNot =>
    show execSyncHeaderError port lane s = _
    exact guarded_false h
  case cutNot => exact (exec_cutThroughFrame s f typ).trans (guarded_false h)
  case trainNot => exact (exec_trainFrameArrival s f typ).trans (guarded_false h)

end Sys2Proof.Proofs
end

section
/-! Heartbeats, time marks, the formation of a ring, and the claims and partners that are heard (R399, R402 to R404, R408, R411, R413, R415,
R417). -/

namespace Sys2Proof.Proofs

open Sys2Proof Sys2Proof.Machine Sys2Proof.Laws Sys2Proof.Safety

/-! ## A message as frames (R399, R400) -/

/-- Any fuel that covers the bytes cuts them alike. -/
theorem chunksAux_fuel {k : Nat} (hk : 0 < k) (f : Nat) :
    ∀ (g : Nat) (b : Bytes), b.length ≤ f → b.length ≤ g → chunksAux k f b = chunksAux k g b := by
  induction f with
  | zero =>
    intro g b hf _
    obtain rfl := List.length_eq_zero_iff.mp (Nat.le_zero.mp hf)
    cases g <;> rfl
  | succ f ih =>
    intro g b hf hg
    cases b with
    | nil => cases g <;> rfl
    | cons x l =>
      cases g with
      | zero => simp at hg
      | succ g =>
        have hd : ((x :: l).drop k).length ≤ l.length := by simp; omega
        simp only [List.length_cons, Nat.add_le_add_iff_right] at hf hg
        exact congrArg (List.cons _) (ih g _ (hd.trans hf) (hd.trans hg))

/-- Bytes are cut into their first `k` and the pieces of the rest. -/
theorem chunks_cons {k : Nat} (hk : 0 < k) {b : Bytes} (h : b ≠ []) : chunks k b = b.take k :: chunks k (b.drop k) := by
  cases b with
  | nil => exact absurd rfl h
  | cons x l => exact congrArg (List.cons _) (chunksAux_fuel hk _ _ _ (by simp; omega) (Nat.le_refl _))

theorem framePieces_of_ne {b : Bytes} (h : b ≠ []) : framePieces b = chunks 4096 b := by
  unfold framePieces
  rw [if_neg (by simpa using h)]

theorem framePieces_short {b : Bytes} (h : b ≠ []) (hl : b.length ≤ 4096) : framePieces b = [b] := by
  rw [framePieces_of_ne h, chunks_cons (by decide) h, List.take_of_length_le hl, List.drop_of_length_le hl]
  rfl

theorem sendTrain_cons {l : List Bytes} (h : l ≠ []) (port : Bool) (typ dst : Nat) (claim : BitVec 64) (b : Bytes) (s : State) :
    sendTrain port typ dst claim (b :: l) s = sendTrain port typ dst claim l (sendPiece port typ dst claim true b s) := by
  cases l with
  | nil => exact absurd rfl h
  | cons c l => rfl

/-- A short message on a port that is up is one frame. -/
theorem sendFrame_short {port : Bool} {s : State} (hu : (iluPort s port).up = true) {b : Bytes} (h : b ≠ []) (hl : b.length ≤ 4096)
    (typ dst : Nat) (claim : BitVec 64) : sendFrame port typ dst claim b s = sendPiece port typ dst claim false b s := by
  unfold sendFrame
  rw [if_pos hu, framePieces_short h hl]
  rfl

theorem sendFrame_long {port : Bool} {s : State} (hu : (iluPort s port).up = true) {b : Bytes} (hl : 4096 < b.length)
    (typ dst : Nat) (claim : BitVec 64) :
    sendFrame port typ dst claim b s =
      sendTrain port typ dst claim (chunks 4096 (b.drop 4096)) (sendPiece port typ dst claim true (b.take 4096) s) := by
  have rest : b.drop 4096 ≠ [] := by simpa using hl
  have whole : b ≠ [] := by rintro rfl; simp at hl
  unfold sendFrame
  rw [if_pos hu, framePieces_of_ne whole, chunks_cons (by decide) whole, sendTrain_cons]
  rw [chunks_cons (by decide) rest]
  exact List.cons_ne_nil _ _

/-- A payload as it travels: sealed under the key and the nonce of its TYPE. -/
def sealedBody (typ flags dst : Nat) (claim : BitVec 64) (b : Bytes) (s : State) : Bytes :=
  let e := gcmSeal (frameKey s typ dst) (frameNonce s typ) (frameHead typ flags s.ilu.position dst b.length 0 claim) b
  e.1 ++ e.2

theorem sealPayload_of_ne {b : Bytes} (h : b ≠ []) (typ flags dst : Nat) (claim : BitVec 64) (s : State) :
    sealPayload typ flags s.ilu.position dst claim b s =
      (sealedBody typ flags dst claim b s, modIlu (fun i => { i with counter := i.counter + 1 }) s) := by
  unfold sealPayload
  rw [if_neg (by simpa using h)]
  rfl

theorem sendPiece_of_ne {b : Bytes} (h : b ≠ []) (port : Bool) (typ dst : Nat) (claim : BitVec 64) (more : Bool) (s : State) :
    sendPiece port typ dst claim more b s =
      putFrame port typ (frameFlags dst port more) s.ilu.position dst b.length claim (sealedBody typ (frameFlags dst port more) dst claim b s)
        (modIlu (fun i => { i with counter := i.counter + 1 }) s) := by
  unfold sendPiece
  dsimp only
  rw [sealPayload_of_ne h]
  rfl

/-! ## Broadcasts and images (R403, R420) -/

theorem broadcast_ring {s : State} (hw : s.ilu.west.up = true) (he : s.ilu.east.up = true) (hl : s.ilu.line = false) (typ : Nat)
    (claim : BitVec 64) (b : Bytes) : broadcast typ claim b s = sendFrame true typ 0xFF claim b s := by
  unfold broadcast
  simp [hw, he, hl]

theorem broadcast_line {s : State} (h : s.ilu.west.up = false ∨ s.ilu.east.up = false ∨ s.ilu.line = true) (typ : Nat)
    (claim : BitVec 64) (b : Bytes) : broadcast typ claim b s = sendFrame false typ 0xFF claim b (sendFrame true typ 0xFF claim b s) := by
  unfold broadcast
  rcases h with h | h | h <;> simp [h]

theorem broadcastImages_none {s : State} (hk : s.ilu.keyMaster = false) (hv : s.ilu.vaultOwner = false) : broadcastImages s = s := by
  unfold broadcastImages
  simp [hk, hv]

theorem exec_ringFormed (live pos : Nat) (rk : Bytes) (s : State) : exec (.ringFormed live pos rk) s = execRingFormed live pos rk s := rfl

/-! ## Claims and partners that are heard (R408, R413, R415) -/

/-- The highest claim heard is kept. -/
def topNoted (c : BitVec 64) (s : State) : State :=
  if s.ilu.topClaim.toNat < c.toNat then { s with ilu := { s.ilu with topClaim := c } } else s

theorem hearClaim_eq (c : BitVec 64) (s : State) : hearClaim c s =
    if s.ilu.claim.toNat < c.toNat then
      if activeSide s.ilu.mirror then demote c (topNoted c s)
      else if s.ilu.mirror == .standby || s.ilu.mirror == .syncTarget then modIlu (fun i => { i with claim := c }) (topNoted c s)
      else if s.ilu.mirror == .none && !s.ilu.leaseMode then modIlu (fun i => { i with keyMaster := false, vaultOwner := false }) (topNoted c s)
      else topNoted c s
    else topNoted c s := rfl

/-- What a heartbeat tells of its sender. -/
def peerHeard (f : Frame) (roles load : Nat) (i : Iluon) : Iluon :=
  { i with peerLoad := i.peerLoad.put (b2n f.port) load, peerRoles := i.peerRoles.put (b2n f.port) roles }

theorem exec_heartbeat {f : Frame} {s : State} (h : delivered f 0x01 s) (roles load : Nat) :
    exec (.heartbeat f roles load) s = .next (settled f 0x01 (modIlu (peerHeard f roles load) (arrived f 0x01 s))) :=
  next_congr (receive_delivered h _)

/-- A frame that goes on leaves what the module knows of its neighbours. -/
theorem goOn_peers (f : Frame) (typ : Nat) (s : State) :
    (goOn f typ s).ilu.peerLoad = s.ilu.peerLoad ∧ (goOn f typ s).ilu.peerRoles = s.ilu.peerRoles := by
  obtain ⟨_, _, _, ⟨_, _, _, _, _, _, ilu⟩, e⟩ := goOn_sent f typ s
  rw [e, ilu]
  exact ⟨rfl, rfl⟩

/-- A frame that goes on leaves the commands in flight. -/
theorem findCmd_goOn (f : Frame) (typ : Nat) (s : State) (r : CmdRef) : findCmd (goOn f typ s) r = findCmd s r := by
  obtain ⟨_, _, e⟩ := goOn_link f typ s
  rw [e]
  rfl

theorem exec_forwardAck {f : Frame} {s : State} (h : delivered f 0x11 s) (r : CmdRef) :
    exec (.forwardAck f r) s = .next (settled f 0x11 (modCmd r (fun c => { c with acked := true }) (arrived f 0x11 s))) :=
  next_congr (receive_delivered h _)

/-- Settles O28: heartbeats and marks are taken in like every frame, and what a claim or a partner moves follows the mirror state. -/
theorem heartbeatsMarksAndFormation : Obligations.HeartbeatsMarksAndFormation := by
  unfold Obligations.HeartbeatsMarksAndFormation
  refine ⟨fun s port hu hi => ?beat, fun s port typ dst claim b hu hb hl => ?short,
    fun s port typ dst claim b hu hl => sendFrame_long hu hl typ dst claim,
    fun s typ dst => ⟨?key, rfl⟩, fun s f roles load h => exec_heartbeat h roles load, fun s f roles load h hc hm => ?neighbour,
    fun s hf hl hd => ?mark, fun s typ claim b => ⟨fun hw he hl => broadcast_ring hw he hl typ claim b, fun h => broadcast_line h typ claim b⟩,
    fun s f m h ho => ?measured, fun s f m h ho => ?back, fun s pos rk hm hp => ?formed, fun s hk hv => broadcastImages_none hk hv,
    fun s f r h => exec_forwardAck h r, fun s f r h hr => ?acked, fun s c => ?claim, fun s => ?partner, fun port s h => ?beatNot,
    fun s h => ?markNot, fun live pos rk s h => ?formedNot⟩
  case beat =>
    show execHeartbeatSend port s = _
    exact guarded_true (by simp [hu, hi])
  case short =>
    intro flags e x t
    have sent : t = putFrame port typ flags s.ilu.position dst b.length claim (e.1 ++ e.2)
        (modIlu (fun i => { i with counter := i.counter + 1 }) s) :=
      (sendFrame_short hu hb hl typ dst claim).trans (sendPiece_of_ne hb ..)
    rw [sent]
    cases port <;> exact ⟨rfl, rfl, rfl, rfl⟩
  case key =>
    unfold frameKey pairFrame
    simp only [Bool.or_eq_true, Bool.and_eq_true, decide_eq_true_eq, beq_iff_eq, and_assoc]
  case neighbour =>
    obtain ⟨hl, hr⟩ := goOn_peers f 0x01 (modIlu (peerHeard f roles load) (arrived f 0x01 s))
    obtain ⟨gk, gp⟩ := goOn_kept f 0x01 (modIlu (peerHeard f roles load) (arrived f 0x01 s))
    obtain ⟨ks, parts⟩ := arrived_kept hc 0x01
    refine ⟨_, exec_heartbeat h roles load, ?_, ?_, ?_, gp.trans parts, gk.trans ks⟩
    · rw [hl]
      exact at_put ..
    · rw [hr]
      exact at_put ..
    · rw [goOn_recvSeq]
      refine Eq.trans ?_ (arrived_port hc 0x01).1
      cases f.port <;> rfl
  case mark =>
    show execTimeMarkSend s = _
    exact guarded_true (by simpa [hf, hd] using hl)
  case measured =>
    refine next_congr ((receive_delivered h _).trans (congrArg (settled f 0x02) ?_))
    rw [if_neg (by simp [ho])]
    rfl
  case back =>
    refine next_congr ((receive_delivered h _).trans (congrArg (settled f 0x02) ?_))
    rw [if_pos ho]
    rfl
  case formed =>
    intro top formed
    have guard : (s.ilu.members != 0 && s.ilu.members == s.ilu.members && decide (pos < s.ilu.members)) = true := by simp [hm, hp]
    refine ⟨fun h => ?_, fun h => ?_⟩
    · refine (exec_ringFormed ..).trans ((guarded_true guard).trans (next_congr ?_))
      dsimp only
      rw [if_neg h]
      rfl
    · refine (exec_ringFormed ..).trans ((guarded_true guard).trans (next_congr ?_))
      dsimp only
      rw [if_pos h]
      rfl
  case acked =>
    obtain ⟨c, hf⟩ := Option.isSome_iff_exists.mp hr
    refine ⟨_, exec_forwardAck h r, ?_⟩
    rw [findCmd_goOn, findCmd_modCmd r (fun c => { c with acked := true }) _ fun _ => rfl, hf]
    rfl
  case claim =>
    intro u
    refine ⟨fun h => ?low, fun h hm => ?active, fun h hm => ?standby, fun h hm hl => ?roles, fun h hm hl => ?lease, fun h hm => ?detached⟩
    case low => rw [hearClaim_eq, if_neg (Nat.not_lt.mpr h)]; rfl
    case active =>
      rw [hearClaim_eq, if_pos h, if_pos (by rcases hm with hm | hm | hm | hm <;> rw [hm] <;> rfl)]
      rfl
    case standby =>
      rw [hearClaim_eq, if_pos h]
      rcases hm with hm | hm <;> rw [hm] <;> rfl
    case roles =>
      rw [hearClaim_eq, if_pos h, hm, hl]
      rfl
    case lease =>
      rw [hearClaim_eq, if_pos h, hm, hl]
      rfl
    case detached =>
      rw [hearClaim_eq, if_pos h, hm]
      rfl
  case partner =>
    intro u moved
    refine ⟨fun h => ?_, fun h => ?_, fun h => ?_, fun hh hs hd => ?_⟩
    all_goals unfold hearPartner; dsimp only [modIlu]
    · rw [h]; rfl
    · rw [h]; rfl
    · rw [h]; rfl
    · split <;> first | rfl | contradiction
  case beatNot =>
    show execHeartbeatSend port s = _
    exact guarded_false h
  case markNot =>
    show execTimeMarkSend s = _
    exact guarded_false h
  case formedNot => exact (exec_ringFormed ..).trans (guarded_false h)

end Sys2Proof.Proofs
end

section
/-! Leases, replicated changes and spilled commands (R406, R418 to R421). -/

namespace Sys2Proof.Proofs

open Sys2Proof Sys2Proof.Machine Sys2Proof.Laws Sys2Proof.Safety

/-- A delivered frame whose own effect is known. -/
theorem exec_of_delivered {f : Frame} {typ : Nat} {s u : State} {act : State → State} {o : Res} (e : o = .next (receive f typ act s))
    (h : delivered f typ s) (effect : act (arrived f typ s) = u) : o = .next (settled f typ u) :=
  e.trans (next_congr ((receive_delivered h act).trans (congrArg (settled f typ) effect)))

/-! ## The records of the roles -/

theorem leaseOf_setLease (role : Bool) (r : LeaseRec) (s : State) : leaseOf (setLease role r s) role = r := by
  cases role <;> rfl

theorem leaseOf_setLease_other (role : Bool) (r : LeaseRec) (s : State) : leaseOf (setLease role r s) (!role) = leaseOf s (!role) := by
  cases role <;> rfl

theorem setLease_link (role : Bool) (r : LeaseRec) (s : State) : linkOnly s (setLease role r s) := modIlu_link _ s

/-- What sending leaves: everything but the ports, the frame counter, the count of changes and the messages. -/
theorem linkSent_shape {s t : State} (h : linkSent s t) :
    ∃ w e k a o, t = { s with ilu := { s.ilu with west := w, east := e, counter := k, applied := a }, out := o } := by
  obtain ⟨_, o, ⟨w, e, k, a, -, -, rfl⟩, rfl⟩ := h
  exact ⟨w, e, k, a, o, rfl⟩

theorem leaseOf_of_sent {s t : State} (h : linkSent s t) (role : Bool) : leaseOf t role = leaseOf s role := by
  obtain ⟨_, _, _, _, _, rfl⟩ := linkSent_shape h
  rfl

/-- A frame that goes on leaves the records of the roles. -/
theorem leaseOf_goOn (f : Frame) (typ : Nat) (s : State) (role : Bool) : leaseOf (goOn f typ s) role = leaseOf s role := by
  obtain ⟨_, sent⟩ := goOn_sent f typ s
  exact leaseOf_of_sent sent role

/-! ## Votes (R418, R419) -/

/-- A holder that hears a higher term ceases to hold. -/
def yielded (role : Bool) (s : State) : State := if (leaseOf s role).holder = s.ilu.position then ceaseRole role s else s

theorem yielded_clk (role : Bool) (s : State) : (yielded role s).clk = s.clk := by
  unfold yielded
  split <;> rfl

/-- A member notes the lease it has voted for. -/
def leaseNoted (role : Bool) (term : BitVec 64) (h n : Nat) (s : State) : State :=
  setLease role { leaseOf s role with term := term, holder := h, expiry := s.clk.ns + n, acts := false, votes := 0 } s

/-- What a higher term does to a holder before the vote. -/
def termHeard (role : Bool) (term : BitVec 64) (s : State) : State :=
  if decide ((leaseOf s role).term.toNat < term.toNat) && (leaseOf s role).holder == s.ilu.position then ceaseRole role s else s

/-- A member votes against a term that is lower, that another holds, or that is higher before its record has expired. -/
def votesAgainst (role : Bool) (term : BitVec 64) (h : Nat) (s : State) : Bool :=
  decide (term.toNat < (leaseOf s role).term.toNat) || (term == (leaseOf s role).term && h != (leaseOf s role).holder) ||
    (decide ((leaseOf s role).term.toNat < term.toNat) && decide (s.clk.ns < (leaseOf s role).expiry))

theorem voteLease_eq (role : Bool) (term : BitVec 64) (h n : Nat) (s : State) : voteLease role term h n s =
    (!votesAgainst role term h s,
      if votesAgainst role term h s then termHeard role term s else leaseNoted role term h n (termHeard role term s)) := rfl

section
variable {role : Bool} {term : BitVec 64} {h : Nat} {s : State}

theorem voteLease_against (against : votesAgainst role term h s = true) (n : Nat) :
    voteLease role term h n s = (false, termHeard role term s) := by
  rw [voteLease_eq, if_pos against, against, Bool.not_true]

theorem voteLease_for (agreed : votesAgainst role term h s = false) (n : Nat) :
    voteLease role term h n s = (true, leaseNoted role term h n (termHeard role term s)) := by
  rw [voteLease_eq, if_neg (by simp [agreed]), agreed, Bool.not_false]

theorem termHeard_notHigher (lt : ¬ (leaseOf s role).term.toNat < term.toNat) : termHeard role term s = s := by
  unfold termHeard
  simp [lt]

theorem termHeard_higher (lt : (leaseOf s role).term.toNat < term.toNat) : termHeard role term s = yielded role s := by
  unfold termHeard yielded
  simp [lt]

end

/-- A higher term is voted for once the record has expired. -/
theorem voteLease_higher {role : Bool} {term : BitVec 64} {s : State} (lt : (leaseOf s role).term.toNat < term.toNat)
    (due : (leaseOf s role).expiry ≤ s.clk.ns) (h n : Nat) :
    voteLease role term h n s = (true, leaseNoted role term h n (yielded role s)) := by
  have other : term ≠ (leaseOf s role).term := fun e => by rw [e] at lt; exact lt.false
  rw [voteLease_for (by simp [votesAgainst, other, due, lt.le]), termHeard_higher lt]

theorem passLease_sent (f : Frame) (role : Bool) (term : BitVec 64) (h n : Nat) (votes : List (Nat × Bool × Nat)) (ack : Bool) (s : State) :
    linkSent s (passLease f role term h n votes ack s) :=
  linkSent_trans _ _ _ (sealPayload_sent 0x20 f.flags.toNat f.src f.dst f.claim (leaseBytes role term h n (votes ++ [ownVote ack s])) s)
    (onwards_sent f 0x20 _ _ _)

/-- A lease that reaches a module outside any pair arrives without a claim or a partner being heard. -/
theorem arrived_lease {f : Frame} {s : State} (hp : s.ilu.paired = false) :
    ∃ w e o, arrived f 0x20 s = { s with ilu := { s.ilu with west := w, east := e }, out := o } := by
  obtain ⟨w, e, o, taken⟩ := frameTaken_kept f s
  have unheard : heardFrom f 0x20 (frameTaken f s) = frameTaken f s := by
    unfold heardFrom carriesTerm fromPartner
    simp [taken, hp]
  unfold arrived trainOver
  rw [unheard, taken]
  cases f.port <;> exact ⟨_, _, _, rfl⟩

/-! ## A holder's frame comes back (R418, R419) -/

/-- The members that voted for the holder are counted, and its window runs from the frame they answered. -/
def votedFor (role : Bool) (t : State) : State :=
  setLease role { leaseOf t role with votes := acksBack (leaseOf t role), sent := (leaseOf t role).asked } t

theorem leaseBack_eq (role : Bool) (votes : List (Nat × Bool × Nat)) (s : State) : leaseBack role votes s =
    if majority s ≤ acksBack (leaseOf (wayBack role votes s) role) then
      if !(leaseOf (wayBack role votes s) role).acts && decide (s.ilu.applied < topBack (leaseOf (wayBack role votes s) role)) then
        fetchRole role (votedFor role (wayBack role votes s))
      else actRole role s.ilu.live (votedFor role (wayBack role votes s))
    else if (leaseOf (wayBack role votes s) role).due = 0 then ceaseRole role (wayBack role votes s)
    else wayBack role votes s := rfl

/-- The record of a role once one way is back. -/
theorem leaseOf_wayBack (role : Bool) (votes : List (Nat × Bool × Nat)) (s : State) : leaseOf (wayBack role votes s) role =
    { leaseOf s role with back := (leaseOf s role).back ++ votes.filter (fun v => v.1 != s.ilu.position), due := (leaseOf s role).due - 1 } := by
  cases role <;> rfl

/-- The holder holds its role and acts. -/
def acting (role : Bool) (u : State) : State :=
  modIlu (fun i => { i with imageOwed := i.imageOwed && role }) (setRole role true (setLease role { leaseOf u role with acts := true } u))

theorem actRole_sent (role : Bool) (was : List Nat) (u : State) : linkSent (acting role u) (actRole role was u) := by
  unfold actRole
  dsimp only
  split
  · exact linkSent_foldl (fun s p => sendImages p s) (fun s p => linkSent_trans _ _ _ (sendTo_sent ..) (sendTo_sent ..)) _ (acting role u)
  · exact linkSent_refl _

theorem fetchRole_sent (role : Bool) (u : State) :
    linkSent (modIlu (fun i => { i with fetch := some (role, topBack (leaseOf u role)) }) u) (fetchRole role u) := by
  unfold fetchRole
  dsimp only
  split
  · exact linkSent_refl _
  · exact sendTo_sent ..

/-- A role as the module holds it: VAULT_OWNER or KEY_MASTER. -/
abbrev roleHeld (role : Bool) (s : State) : Bool := if role then s.ilu.vaultOwner else s.ilu.keyMaster

theorem roleHeld_of_sent {s t : State} (h : linkSent s t) (role : Bool) : roleHeld role t = roleHeld role s := by
  obtain ⟨_, _, _, _, _, rfl⟩ := linkSent_shape h
  rfl

theorem leaseOf_acting (role : Bool) (u : State) : leaseOf (acting role u) role = { leaseOf u role with acts := true } := by
  cases role <;> rfl

theorem roleHeld_acting (role : Bool) (u : State) : roleHeld role (acting role u) = true := by
  cases role <;> rfl

theorem actRole_kept (role : Bool) (was : List Nat) (u : State) : (actRole role was u).ks = u.ks ∧ (actRole role was u).parts = u.parts :=
  kept_of_link (linkOnly_trans _ _ _ (modIlu_link _ _) (linkOnly_trans _ _ _ (modIlu_link _ _)
    (linkOnly_trans _ _ _ (modIlu_link _ _) (linkOnly_of_sent (actRole_sent role was u)))))

theorem leaseOf_fetch (role : Bool) (x : Option (Bool × Nat)) (u : State) :
    leaseOf (modIlu (fun i => { i with fetch := x }) u) role = leaseOf u role := rfl

theorem fetch_of_sent {s t : State} (h : linkSent s t) : t.ilu.fetch = s.ilu.fetch := by
  obtain ⟨_, _, _, _, _, rfl⟩ := linkSent_shape h
  rfl

theorem leaseOf_votedFor (role : Bool) (t : State) : leaseOf (votedFor role t) role =
    { leaseOf t role with votes := acksBack (leaseOf t role), sent := (leaseOf t role).asked } := leaseOf_setLease ..

theorem roleHeld_setLease (role : Bool) (r : LeaseRec) (s : State) : roleHeld role (setLease role r s) = roleHeld role s := by
  cases role <;> rfl

/-- Counting a way back leaves the roles that are held, the keys and the partitions. -/
theorem roleHeld_counted (role : Bool) (votes : List (Nat × Bool × Nat)) (s : State) :
    roleHeld role (votedFor role (wayBack role votes s)) = roleHeld role s :=
  (roleHeld_setLease ..).trans (roleHeld_setLease ..)

theorem counted_kept (role : Bool) (votes : List (Nat × Bool × Nat)) (s : State) :
    (votedFor role (wayBack role votes s)).ks = s.ks ∧ (votedFor role (wayBack role votes s)).parts = s.parts :=
  kept_of_link (linkOnly_trans _ _ _ (modIlu_link _ s) (linkOnly_trans _ _ _ (setLease_link role _ _) (setLease_link role _ _)))

/-- The holder's own record of the frame it sends now. -/
def leaseAsked (role : Bool) (s : State) : State :=
  setLease role { leaseOf s role with asked := s.clk.ns, expiry := s.clk.ns + leaseLen s, due := ways s, back := [] } s

theorem sendLease_sent (role : Bool) (s : State) : linkSent (leaseAsked role s) (sendLease role s) := broadcast_sent ..

/-! ## Renewal, windows and takeovers (R418) -/

theorem exec_leaseRenewal (role : Bool) (s : State) : exec (.leaseRenewal role) s =
    guarded (s.ilu.leaseMode && s.ilu.formed && (leaseOf s role).acts && (leaseOf s role).holder == s.ilu.position &&
      decide ((leaseOf s role).sent + leaseLen s / 2 ≤ s.clk.ns) && decide ((leaseOf s role).asked ≤ (leaseOf s role).sent) &&
      mayAct s role) (sendLease role) s := rfl

/-- The record of a member that takes a role over under the next term. -/
def takenOver (role : Bool) (s : State) : State :=
  setLease role { leaseOf s role with term := (leaseOf s role).term + 1, holder := s.ilu.position, votes := 0, acts := false } s

theorem exec_leaseTakeover (role : Bool) (s : State) : exec (.leaseTakeover role) s =
    guarded (s.ilu.leaseMode && s.ilu.formed && !(leaseOf s role).acts &&
      decide ((leaseOf s role).expiry + rttMax s + 1000 + 4 * rttMax s * takeoverTurn s (leaseOf s role).holder ≤ s.clk.ns))
      (fun s => sendLease role (takenOver role s)) s := rfl

theorem exec_leaseWindowEnd (role : Bool) (s : State) : exec (.leaseWindowEnd role) s =
    guarded (s.ilu.leaseMode && (leaseOf s role).acts && !mayAct s role) (ceaseRole role) s := rfl

theorem exec_leaseRecordExpiry (role : Bool) (s : State) : exec (.leaseRecordExpiry role) s =
    guarded (s.ilu.leaseMode && decide ((leaseOf s role).expiry ≤ s.clk.ns) && (leaseOf s role).votes != 0)
      (fun s => setLease role { leaseOf s role with votes := 0 } s) s := rfl

section
variable {s : State} {role : Bool} (hm : s.ilu.leaseMode = true)
include hm

theorem exec_leaseRenewal_due (hf : s.ilu.formed = true) (ha : (leaseOf s role).acts = true) (hh : (leaseOf s role).holder = s.ilu.position)
    (hd : (leaseOf s role).sent + leaseLen s / 2 ≤ s.clk.ns) (hk : (leaseOf s role).asked ≤ (leaseOf s role).sent)
    (hw : mayAct s role = true) : exec (.leaseRenewal role) s = .next (sendLease role s) :=
  (exec_leaseRenewal role s).trans (guarded_true (by simp [hm, hf, ha, hh, hd, hk, hw]))

theorem exec_leaseTakeover_due (hf : s.ilu.formed = true) (ha : (leaseOf s role).acts = false)
    (hd : (leaseOf s role).expiry + rttMax s + 1000 + 4 * rttMax s * takeoverTurn s (leaseOf s role).holder ≤ s.clk.ns) :
    exec (.leaseTakeover role) s = .next (sendLease role (takenOver role s)) :=
  (exec_leaseTakeover role s).trans (guarded_true (by simp [hm, hf, ha, hd]))

end

/-! ## Replicated changes (R406, R419, R420) -/

theorem need_not (b : Bool) (st : Status) : need (!b) st = if b then some st else none := by
  cases b <;> rfl

theorem replicateRefusal_lease {s : State} (hm : s.ilu.leaseMode = true) (f : Frame) (role : Bool) : replicateRefusal f role s =
    if f.claim.toNat < (leaseOf s role).term.toNat ∨ f.src ≠ (leaseOf s role).holder ∨ (leaseOf s role).expiry ≤ s.clk.ns then
      some stLeaseExpired
    else none := by
  unfold replicateRefusal
  rw [if_pos hm]
  refine (need_not ..).trans (if_congr ?_ rfl rfl)
  simp [or_assoc]

theorem replicateRefusal_claim {s : State} (hm : s.ilu.leaseMode = false) (f : Frame) (role : Bool) :
    replicateRefusal f role s = if f.claim.toNat < s.ilu.topClaim.toNat then some stClaimSuperseded else none := by
  have superseded : decide (s.ilu.topClaim.toNat ≤ f.claim.toNat) = !decide (f.claim.toNat < s.ilu.topClaim.toNat) := by
    rw [← decide_not, decide_eq_decide, Nat.not_lt]
  unfold replicateRefusal
  rw [if_neg (by simp [hm]), superseded, need_not]
  exact if_congr (by simp) rfl rfl

theorem ackChange_ref (src : Nat) (c : Cmd) : (ackChange src c).ref = c.ref := by
  unfold ackChange
  dsimp only
  split <;> rfl

theorem exec_replicateAck_applied {s : State} {f : Frame} {r : CmdRef} {c : Cmd} (h : delivered f 0x31 s)
    (hf : findCmd (arrived f 0x31 s) r = some c) :
    exec (.replicateAck f r 0) s = .next (settled f 0x31 (modCmd r (ackChange f.src) (arrived f 0x31 s))) := by
  refine exec_of_delivered rfl h ?_
  dsimp only
  rw [hf]
  rfl

/-! ## Spilled commands (R421) -/

/-- Whether a spilled command runs here. -/
def spillRuns (s : State) (x : Req) (c : Cmd) : Prop :=
  paymentGroup x.opcode = true ∧ (getPart s x.part).state = .active ∧ c.keys.all (fun k => (versionVal s x.part k.1 k.2).isSome) = true

/-- A spilled command holds its keys and is in flight. -/
def spillTaken (x : Req) (c : Cmd) (s : State) : State :=
  let u := c.keys.foldl (fun s k => takeRef x.part k.1 k.2 s) s
  stampReady c.ref { u with prism := { u.prism with cmds := u.prism.cmds ++ [c], order := u.prism.order + 1 } }

theorem exec_spill_runs {s : State} {f : Frame} {header payload seed : Bytes} {v : List (Nat × Nat)} {o : OpSpec} (h : delivered f 0x40 s)
    (ho : opSpec (forwardReq (arrived f 0x40 s) header payload).opcode = some o)
    (hr : spillRuns (arrived f 0x40 s) (forwardReq (arrived f 0x40 s) header payload)
      (spillCmd (arrived f 0x40 s) o (forwardReq (arrived f 0x40 s) header payload) f.src v seed)) :
    exec (.spill f header payload v seed) s = .next (settled f 0x40 (spillTaken (forwardReq (arrived f 0x40 s) header payload)
      (spillCmd (arrived f 0x40 s) o (forwardReq (arrived f 0x40 s) header payload) f.src v seed) (arrived f 0x40 s))) := by
  obtain ⟨group, active, keys⟩ := hr
  refine exec_of_delivered rfl h ?_
  dsimp only
  rw [ho]
  exact if_pos (by simp [group, active, keys])

theorem exec_spill_returned {s : State} {f : Frame} {header payload seed : Bytes} {v : List (Nat × Nat)} {o : OpSpec} (h : delivered f 0x40 s)
    (ho : opSpec (forwardReq (arrived f 0x40 s) header payload).opcode = some o)
    (hr : ¬ spillRuns (arrived f 0x40 s) (forwardReq (arrived f 0x40 s) header payload)
      (spillCmd (arrived f 0x40 s) o (forwardReq (arrived f 0x40 s) header payload) f.src v seed)) :
    exec (.spill f header payload v seed) s = .next (settled f 0x40 (spillAnswer f.src [] (arrived f 0x40 s))) := by
  refine exec_of_delivered rfl h ?_
  dsimp only
  rw [ho]
  exact if_neg fun c => hr (by simpa only [spillRuns, Bool.and_eq_true, beq_iff_eq, and_assoc] using c)

/-- Counting the time from which items are ready leaves where a command was spilled from. -/
theorem stampReady_spillFrom {s : State} {c : Cmd} (h : c ∈ s.prism.cmds) (r : CmdRef) :
    ∃ d ∈ (stampReady r s).prism.cmds, d.spillFrom = c.spillFrom := by
  unfold stampReady
  split
  · exact ⟨c, h, rfl⟩
  · split
    · refine ⟨_, List.mem_map_of_mem h, ?_⟩
      split <;> rfl
    · refine ⟨_, List.mem_map_of_mem h, ?_⟩
      split <;> rfl

theorem spillTaken_spillFrom (x : Req) (c : Cmd) (s : State) : ∃ d ∈ (spillTaken x c s).prism.cmds, d.spillFrom = c.spillFrom := by
  unfold spillTaken
  exact stampReady_spillFrom (List.mem_append_right _ (List.mem_singleton_self c)) _

theorem goOn_prism (f : Frame) (typ : Nat) (s : State) : (goOn f typ s).prism = s.prism := by
  obtain ⟨_, _, e⟩ := goOn_link f typ s
  rw [e]

theorem exec_spillReply_awaited {s : State} {f : Frame} {r : CmdRef} {c : Cmd} (h : delivered f 0x41 s)
    (hf : findCmd (arrived f 0x41 s) r = some c) (hs : c.spilled.isSome = true) (hr : c.result = none) (x : Bool) (st : BitVec 16) (b : Bytes) :
    exec (.spillReply f r x st b) s = .next (settled f 0x41
      (if x = true then endCmd r st b (modCmd r (fun c => { c with spilled := none }) (arrived f 0x41 s))
       else modCmd r (fun c => { c with spilled := none }) (arrived f 0x41 s))) := by
  refine exec_of_delivered rfl h ?_
  rw [hf]
  exact if_pos (by simp [hs, hr])

theorem exec_spillTimeout_eq (s : State) (r : CmdRef) : exec (.spillTimeout r) s = execSpillTimeout r s := rfl

theorem exec_spillTimeout_spilled {s : State} {r : CmdRef} {c : Cmd} {n : Nat} (hf : findCmd s r = some c) (hs : c.spilled = some n) :
    exec (.spillTimeout r) s = guarded (decide (n + 200000 ≤ s.clk.ns)) (modCmd r (fun c => { c with spilled := none })) s := by
  rw [exec_spillTimeout_eq, execSpillTimeout, hf]
  dsimp only
  rw [hs]

theorem exec_spillTimeout_own {s : State} {r : CmdRef} {c : Cmd} (hf : findCmd s r = some c) (hs : c.spilled = none) :
    exec (.spillTimeout r) s = .next s := by
  rw [exec_spillTimeout_eq, execSpillTimeout, hf]
  dsimp only
  rw [hs]
  exact guarded_false rfl

theorem exec_spillTimeout_gone {s : State} {r : CmdRef} (hf : findCmd s r = none) : exec (.spillTimeout r) s = .next s := by
  rw [exec_spillTimeout_eq, execSpillTimeout, hf]

/-- Settles O30: what a lease, a change or a spilled command does is said of the record it touches, and sending leaves those records. -/
theorem leasesReplicationAndSpill : Obligations.LeasesReplicationAndSpill := by
  unfold Obligations.LeasesReplicationAndSpill
  refine ⟨fun s f role term h n votes hd hm => ?claimMode, fun s f role term h n votes hd hm ho => ?own,
    fun s f role term h n votes hd hm ho => ?vote, fun s role term h n => ?votes, fun s f role term h n votes ack => rfl,
    fun s role votes => ?wayBack, fun s role votes hv => ?short, fun s role => ?ceased, fun s role votes hv ha => ?acts,
    fun s role votes hv ha hb => ?fetches, fun s f role term h n hd hm hi hp ho ht he => ?noted,
    fun s role hm hf ha hh hs hk hw => exec_leaseRenewal_due hm hf ha hh hs hk hw, fun s role hm hf ha hh hs hk hw => ?renewed,
    fun s role hm ha hw => ?window, fun s role hm he hv => ?expired, fun s role hm hf ha ht => exec_leaseTakeover_due hm hf ha ht,
    fun s role hm hf ha ht => ?taken, fun s role => ⟨rfl, rfl, ?mayAct⟩, fun s f role seq ch st hd hr => ?refused,
    fun s f role seq ch hd hr hs => ?ahead, fun s f role seq ch hd hr hs => ?again, fun s f role seq ch hd hr hs => ?applied,
    fun s f role => ⟨fun hm => replicateRefusal_lease hm f role, fun hm => replicateRefusal_claim hm f role⟩, fun s f r st hd hf => ?ackNone,
    fun s f r c hd hf => exec_replicateAck_applied hd hf, fun s f r c st hd hf h0 => ?withdrawn, fun src c => ?acks,
    fun s f r c hd hf hk => ?acked, fun s f header payload seed v hd ho => ?spillUnknown, fun s f header payload seed v o hd ho => ?spill,
    fun s f header payload seed v o hd ho hg hp hk => ?spillRuns, fun s f r c x st b hd hf hs hr => exec_spillReply_awaited hd hf hs hr x st b,
    fun s f r c st b hd hf hs hr => ?spillEnds, fun s f r x st b hd hf => ?spillLate, fun s r c n hf hs hn => ?timeout,
    fun s r hn => ?timeoutNot, fun role s h => (exec_leaseRenewal role s).trans (guarded_false h),
    fun role s h => (exec_leaseWindowEnd role s).trans (guarded_false h), fun role s h => (exec_leaseRecordExpiry role s).trans (guarded_false h),
    fun role s h => (exec_leaseTakeover role s).trans (guarded_false h)⟩
  case claimMode =>
    refine exec_of_delivered rfl hd ?_
    rw [if_pos (by simp [hm])]
  case own =>
    refine exec_of_delivered rfl hd ?_
    rw [if_neg (by simp [hm]), if_pos ho]
    exact if_congr (by simp only [Bool.and_eq_true, beq_iff_eq, decide_eq_true_eq, and_assoc]) rfl rfl
  case vote =>
    refine exec_of_delivered rfl hd ?_
    rw [if_neg (by simp [hm]), if_neg (by simp [ho])]
  case votes =>
    intro r u noted
    refine ⟨fun (ht : term.toNat < (leaseOf s role).term.toNat) => ?low,
      fun (ht : term = (leaseOf s role).term) (hh : h ≠ (leaseOf s role).holder) => ?other,
      fun (ht : (leaseOf s role).term.toNat < term.toNat) (he : s.clk.ns < (leaseOf s role).expiry) => ?early,
      fun ht he => voteLease_higher ht he h n,
      fun (ht : term = (leaseOf s role).term) (hh : h = (leaseOf s role).holder) => ?same⟩
    case low => rw [voteLease_against (by simp [votesAgainst, ht]), termHeard_notHigher (Nat.not_lt.mpr ht.le)]
    case other => rw [voteLease_against (by simp [votesAgainst, ht, hh]), termHeard_notHigher (by simp [ht])]
    case early => exact (voteLease_against (by simp [votesAgainst, ht, he]) n).trans (congrArg _ (termHeard_higher ht))
    case same => rw [voteLease_for (by simp [votesAgainst, ht, hh]), termHeard_notHigher (by simp [ht])]; rfl
  case wayBack => cases role <;> exact ⟨rfl, rfl, rfl, rfl⟩
  case short =>
    have due : (leaseOf (wayBack role votes s) role).due = (leaseOf s role).due - 1 := by rw [leaseOf_wayBack]
    rw [leaseBack_eq, if_neg (Nat.not_le.mpr hv), due]
    exact ⟨fun h => if_pos (by omega), fun h => if_neg (by omega)⟩
  case ceased => cases role <;> exact ⟨rfl, rfl, rfl, rfl⟩
  case acts =>
    have back : leaseBack role votes s = actRole role s.ilu.live (votedFor role (wayBack role votes s)) := by
      rw [leaseBack_eq, if_pos hv, if_neg]
      rw [show (leaseOf (wayBack role votes s) role).acts = (leaseOf s role).acts by rw [leaseOf_wayBack]]
      rcases ha with ha | ha <;> simp [ha]
    have sent := actRole_sent role s.ilu.live (votedFor role (wayBack role votes s))
    have lease := (leaseOf_of_sent sent role).trans (leaseOf_acting ..)
    have held := (roleHeld_of_sent sent role).trans (roleHeld_acting ..)
    obtain ⟨ks, parts⟩ := actRole_kept role s.ilu.live (votedFor role (wayBack role votes s))
    obtain ⟨countedKs, countedParts⟩ := counted_kept role votes s
    rw [leaseOf_votedFor] at lease
    dsimp only
    rw [back, lease]
    refine ⟨rfl, rfl, ?_, ?_, held, ks.trans countedKs, parts.trans countedParts⟩
    · rw [leaseOf_wayBack]
    · rw [leaseOf_wayBack]
  case fetches =>
    have back : leaseBack role votes s = fetchRole role (votedFor role (wayBack role votes s)) := by
      rw [leaseBack_eq, if_pos hv, if_pos]
      rw [show (leaseOf (wayBack role votes s) role).acts = (leaseOf s role).acts by rw [leaseOf_wayBack]]
      simp [ha, hb]
    have sent := fetchRole_sent role (votedFor role (wayBack role votes s))
    have fetch := fetch_of_sent sent
    have held := roleHeld_of_sent sent role
    have lease := leaseOf_of_sent sent role
    have kept : leaseOf (modIlu (fun i => { i with fetch := some (role, topBack (leaseOf (votedFor role (wayBack role votes s)) role)) })
      (votedFor role (wayBack role votes s))) role = leaseOf (votedFor role (wayBack role votes s)) role := leaseOf_fetch ..
    rw [kept, leaseOf_votedFor, leaseOf_wayBack] at lease
    rw [leaseOf_votedFor] at fetch
    dsimp only
    rw [back, lease, fetch]
    exact ⟨ha, rfl, held.trans (roleHeld_counted role votes s)⟩
  case noted =>
    obtain ⟨_, _, _, arrives⟩ := arrived_lease (f := f) hp
    have lease : leaseOf (arrived f 0x20 s) role = leaseOf s role := by rw [arrives]; rfl
    have clk : (arrived f 0x20 s).clk = s.clk := by rw [arrives]
    have other : ownFrame (arrived f 0x20 s) f = false := by rw [arrives]; exact ho
    have voted := voteLease_higher (role := role) (term := term) (s := arrived f 0x20 s) (by rwa [lease]) (by rwa [lease, clk]) h n
    refine ⟨settled f 0x20 (passLease f role term h n [] true (leaseNoted role term h n (yielded role (arrived f 0x20 s)))), ?_, ?_⟩
    · refine exec_of_delivered rfl hd ?_
      rw [if_neg (by rw [arrives]; simp [hm]), if_neg (by simp [other]), voted]
    · rw [leaseOf_goOn, leaseOf_of_sent (passLease_sent ..), leaseNoted, leaseOf_setLease, yielded_clk, clk]
      exact ⟨rfl, rfl, rfl⟩
  case renewed =>
    refine ⟨_, exec_leaseRenewal_due hm hf ha hh hs hk hw, ?_, ?_⟩
    · rw [leaseOf_of_sent (sendLease_sent role s), leaseAsked, leaseOf_setLease]
    · rw [leaseOf_of_sent (sendLease_sent role s), leaseAsked, leaseOf_setLease_other]
  case window =>
    refine ⟨ceaseRole role s, (exec_leaseWindowEnd role s).trans (guarded_true (by simp [hm, ha, hw])), ?_⟩
    cases role <;> exact ⟨rfl, rfl, rfl, rfl⟩
  case expired =>
    exact ⟨setLease role { leaseOf s role with votes := 0 } s, (exec_leaseRecordExpiry role s).trans (guarded_true (by simp [hm, he, hv])),
      leaseOf_setLease .., leaseOf_setLease_other ..⟩
  case taken =>
    refine ⟨_, exec_leaseTakeover_due hm hf ha ht, ?_⟩
    rw [leaseOf_of_sent (sendLease_sent role (takenOver role s)), leaseAsked, leaseOf_setLease, takenOver, leaseOf_setLease]
    exact ⟨rfl, rfl, rfl, rfl⟩
  case mayAct =>
    unfold mayAct majority leaseWindow
    simp only [Bool.and_eq_true, beq_iff_eq, decide_eq_true_eq, and_assoc]
  case refused =>
    refine exec_of_delivered rfl hd ?_
    dsimp only
    rw [hr]
  case ahead =>
    refine exec_of_delivered rfl hd ?_
    dsimp only
    rw [hr]
    exact if_pos hs
  case again =>
    refine exec_of_delivered rfl hd ?_
    dsimp only
    rw [hr]
    dsimp only
    rw [if_neg (by omega), if_pos hs]
  case applied =>
    refine exec_of_delivered rfl hd ?_
    dsimp only
    rw [hr]
    dsimp only
    rw [if_neg (by omega), if_neg (by omega)]
    cases decodeChange ch <;> rfl
  case ackNone =>
    refine exec_of_delivered rfl hd ?_
    dsimp only
    rw [hf]
  case withdrawn =>
    refine exec_of_delivered rfl hd ?_
    dsimp only
    rw [hf]
    exact if_neg h0
  case acks =>
    intro n
    refine ⟨fun h => if_pos h, fun h => ?_, fun h => ?_⟩
    · exact (if_neg (by omega)).trans (by rw [if_neg (by omega)])
    · exact (if_neg (by omega)).trans (by rw [if_pos h])
  case acked =>
    refine ⟨_, exec_replicateAck_applied hd hf, ?_, ?_⟩
    · rw [findCmd_goOn, findCmd_modCmd r _ _ (ackChange_ref f.src), hf]
      rfl
    · exact (goOn_kept ..).1.trans hk
  case spillUnknown =>
    refine exec_of_delivered rfl hd ?_
    dsimp only
    rw [ho]
  case spill =>
    by_cases hr : spillRuns (arrived f 0x40 s) (forwardReq (arrived f 0x40 s) header payload)
      (spillCmd (arrived f 0x40 s) o (forwardReq (arrived f 0x40 s) header payload) f.src v seed)
    · exact (exec_spill_runs hd ho hr).trans (next_congr (congrArg (settled f 0x40) (if_pos hr).symm))
    · exact (exec_spill_returned hd ho hr).trans (next_congr (congrArg (settled f 0x40) (if_neg hr).symm))
  case spillRuns =>
    refine ⟨_, exec_spill_runs hd ho ⟨hg, hp, hk⟩, ?_⟩
    rw [goOn_prism]
    exact spillTaken_spillFrom ..
  case spillEnds =>
    refine ⟨_, (exec_spillReply_awaited hd hf hs hr true st b).trans (next_congr (congrArg (settled f 0x41) (if_pos rfl))), ?_⟩
    refine endedWith_of_results (sameResults_of_link (goOn_link ..)) (endCmd_result (c := { c with spilled := none }) ?_ hr st b)
    rw [findCmd_modCmd r (fun c => { c with spilled := none }) _ fun _ => rfl, hf]
    rfl
  case spillLate =>
    refine exec_of_delivered rfl hd ?_
    cases hc : findCmd (arrived f 0x41 s) r with
    | none => rfl
    | some c =>
      refine if_neg ?_
      rcases hf c hc with h | h <;> simp [h]
  case timeout => exact (exec_spillTimeout_spilled hf hs).trans (guarded_true (decide_eq_true hn))
  case timeoutNot =>
    cases hf : findCmd s r with
    | none => exact exec_spillTimeout_gone hf
    | some c =>
      cases hs : c.spilled with
      | none => exact exec_spillTimeout_own hf hs
      | some n => exact (exec_spillTimeout_spilled hf hs).trans (guarded_false (decide_eq_false (Nat.not_le.mpr (hn c n hf hs))))

end Sys2Proof.Proofs
end
